-- ==== Sys2Proof/Machine/Regs.lean ====
section
/-! DEFINITION. The registers of the FS-5168 by name: every register table of spec/00 to spec/23 as data.
One constructor of `Reg` per register (R11), one `Fld` per field that is not RSVD, with its place, access code (R12), reset
value and range (R8). A register that stands once per port, lane, channel, slot or partition is one name; the number is the
index beside it. The tables are read from the spec's own register tables, field by field. -/

namespace Sys2Proof

/-- The register names of the spec, BLOCK_REG (R11), without the index. -/
inductive Reg where
  | RING_CTRL | RING_STATUS | RING_MEMBER_A | RING_MEMBER_B | RING_FITTED | RING_TIMERS | RING_PORT | ML_CTRL | ML_STATUS 
  | ML_TIMERS | ML_LIMITS | ML_CREDIT_ADV_0 | ML_CREDIT_ADV_1 | ML_CREDIT_ADV_2 | ML_ERR_STATUS | PART_GLOBAL | PART_TIMERS 
  | PART_CTRL | PART_FN_A | PART_FN_B | WIN_PCTRL | WIN_VLOG_ADDR_LO | WIN_VLOG_ADDR_HI | WIN_VLOG_INFO | SC_CTRL | SC_ORDER 
  | SC_FABRIC | SC_TT_POOL | SC_POOL_STAT | SC_POOL_SIZE | SC_EGQ | SC_EGOCC | SC_PIN_P | SC_PIN_NP | SC_PIN_CPL | JNL_CTRL 
  | JNL_STATUS | JNL_TIMERS | JNL_TIMERS2 | JNL_PF | JNL_OCC | JNL_RESV | JNL_VMAX | JNL_VCOMMIT | JNL_EPOCH | JNL_DQ | JNL_DQOCC 
  | SPN_CTRL | SPN_STATUS | SPN_SYNC | SPN_HOLD | SPN_OFFSET | SPN_PPS | SPN_PORT | SPN_GRAIN | SPN_PIN | SCH_CTRL | SCH_STARVE 
  | SCH_STATUS | SCH_PORT | SCH_MTR_C | SCH_MTR_P | SCH_MTR_CTOK | SCH_MTR_PTOK | DM_CTRL | DM_STATUS | DM_RING | DM_CFG 
  | DM_TAIL | DM_HEAD | DM_DONE | DM_ERR_ADDR_LO | DM_ERR_ADDR_HI | DM_TAGS | DM_CNT_DESC | DM_GLOBAL | DM_GLOBAL_STAT 
  | DM_ASSIGN | DM_TAGQ | PX_DUAL | PX_BIF | PX_PMAP | PX_PORT_CFG | PX_PORT_STAT | PX_PWR | PX_SLOT | LB_CTRL | LB_STATUS 
  | LB_INT_STATUS | LB_INT_EN | LB_SEM | LB_SEM_CFG | LB_SEM_HOLD | LB_TIMING | LB_QUOTA | LB_CS | LB_PREG | LB_ELOG_ADDR 
  | LB_ELOG_INFO | LB_ELOG_REQ | LB_ELOG_TIME | LB_PLOG_ADDR | LB_PLOG_INFO | LN_SEL | LN_LANE_CTRL | LN_LANE_STAT | LN_LANE_EQ 
  | LN_FIT | LN_EQ | LN_PORT_STAT | SP_WARN | SP_CMD | SP_CFG | SP_STATUS | SP_MEAS | SP_TIMERS | SP_RETRY | SP_FEED | SP_FAST 
  | SP_CURVE | FC_STATUS_LO | FC_STATUS_HI | FC_MASK_LO | FC_MASK_HI | FC_FIRST | FC_STATE | FC_POLICY | FC_INJECT | FC_PORT 
  | MB_STATUS | MB_CTRL | MB_DOORBELL | MB_RSP_LEN | MB_BUSY | MB_SEQ | MB_EQ_HEAD | MB_EQ_TAIL | MB_EQ_STATUS | MB_EQ_LOST 
  | MB_EQ_BACKLOG | PMON_CTRL | PMON_STATUS | PMON_SHV | PMON_SHV_SEED | PMON_BW_CFG | PMON_BW_INFO | PMON_BW_DUR | PMON_BW_STAT 
  | FLT_BASE | FLT_LIM | FLT_MATCH | FLT_CTRL | PWR_CTRL | PWR_STATUS | PWR_DVFS | PWR_IDLE | PWR_SLEEP | PWR_WAKE_EN 
  | PWR_WAKE_STAT | PWR_PADHOLD | PWR_WAKE_TMR | PWR_SLOT_WAS_ON | CLK_CTRL | CLK_SR | CLK_STATUS | CLK_MEAS | CLK_AVS | PST_CTRL 
  | PST_STATUS | PST_BANK | PST_VLIM | PST_HUV_CFG | PST_HUV_MEAS | PST_FEED_CFG | PST_FEED_DIV | PST_FEED_MEAS | PST_TIMERS 
  | MB_STRAP | MB_RESET_CAUSE | MB_BOOT | PWR_THERM | RING_HOME | ML_CREDIT_STAT | ML_CNT_RS_CORR | ML_CNT_UNCORR | ML_CNT_CRC 
  | ML_CNT_DUP | ML_CNT_REPLAY | ML_CNT_STALE_ACK | ML_CNT_LEAK | ML_CNT_RETRAIN | ML_CNT_LINKDOWN | ML_CNT_TT_REPLAY 
  | ML_CNT_PROTOCOL | ML_CNT_ABORT | PART_CNT_STALE | PART_CNT_UNASSIGNED | PART_CNT_FROZEN | PART_CNT_SYNTH | PART_CNT_QUAR 
  | PART_CNT_TMO | PART_NPQ | WIN_CNT_MISS | WIN_CNT_VIOL | WIN_CNT_DENY | WIN_CNT_REDIRECT | WIN_GRANT_W | WIN_GRANT_R 
  | SC_CNT_CT | SC_CNT_SF | SC_CNT_REFUSED | SC_CNT_HOLD | SC_CNT_FALLBACK | SC_CNT_ECC_CORR | SC_CNT_ECC_UNCORR | JNL_CNT_RTX 
  | JNL_CNT_DUP | JNL_CNT_GAP | JNL_CNT_WINDOW | JNL_CNT_UNSYNC | JNL_CNT_UNDELIV | JNL_CNT_PURGE | JNL_CNT_ADM_WAIT 
  | SPN_CNT_DELAY_LOST | SPN_CNT_STEP | SPN_CNT_TURN | SPN_CNT_TURN_LATE | SPN_CNT_TURN_SKIP | SPN_CNT_TURN_DROP 
  | SPN_CNT_CAP_LOST | SPN_CNT_TT_UNBOUND | SPN_TT_PART | SCH_CNT_EXCESS | SCH_CNT_HELD | SCH_CNT_STARVE | SCH_CNT_BG 
  | SCH_CNT_TT_PRI | SCH_CNT_TT_DRR | DM_CNT_BYTES | DM_CNT_START_MISS | DM_CNT_STALE | DM_CNT_HALT | PX_CNT_MPS | PX_CNT_ECRC 
  | PX_CNT_IDE_BLOCK | PX_CNT_MALFORMED | PX_CNT_RXERR | PX_CNT_RECOV | LB_CNT_WR | LB_CNT_RD | LB_CNT_RETRY | LB_CNT_ERR 
  | LB_CNT_PREF_HIT | LB_CNT_PREF_DISC | LB_CNT_SEM_FORCED | LB_CNT_SEM_BAD | LN_LANE_CNT_CORR | LN_LANE_CNT_LOCK 
  | LN_LANE_CNT_TEST | SP_CNT_TRIP | SP_CNT_RETRY | FC_CNT_CLASS | FC_CNT_NODE_RESET | FC_CNT_CYCLE | MB_ACC_ERR 
  | PMON_CNT_SHV_LOST | PMON_CNT_SHV_SKIP | PMON_EVT | FLT_CNT | PMON_BW_END | PMON_BW_RX | PMON_BW_TX | PWR_CNT_PL 
  | PWR_CNT_SLEEP | PWR_CNT_DVFS_FAIL | CLK_CNT_REJECT | CLK_CNT_SWITCH | CLK_CNT_RETURN | CLK_CNT_AVS_ERR | PST_CNT_PFW 
  | PST_CNT_FEED_A | PST_CNT_FEED_B | PST_CNT_CH_ERR | SP_CNT_SWITCH | SP_CNT_CYCLE | SPN_TIME | FC_CAP | FC_GRAVE 
  deriving DecidableEq, Repr

/-- The access codes of Table 00.5 (R12); RSVD bits are no field: they read 0 and discard writes. -/
inductive Acc where
  /-- Read only. -/
  | ro
  /-- Read and write. -/
  | rw
  /-- A written 1 clears the bit. -/
  | rw1c
  /-- A written 1 sets the bit. -/
  | rw1s
  /-- Reads 0; acts on the written value. -/
  | wo
  /-- A read clears the field. -/
  | rc
  deriving DecidableEq, Repr

/-- The values a field takes under R8 and R16, in its raw encoding: below `lo` and above `hi` a written value is replaced by
that limit, the values of `named` are kept though they lie outside, and a value in an interval of `resv` is a reserved
encoding that leaves the field as it was. -/
structure Dom where
  lo : Nat
  hi : Nat
  named : List Nat
  resv : List (Nat × Nat)
  deriving DecidableEq, Repr

/-- A field of a register; `lsb` counts from bit 0 of the register's lowest dword. `own` says that a write of the field is a
command of its own in the opcode table. -/
structure Fld where
  reg : Reg
  lsb : Nat
  width : Nat
  acc : Acc
  dom : Dom
  own : Bool
  deriving DecidableEq, Repr

/-- No value of a `w`-bit field is replaced or reserved. -/
def Dom.any (w : Nat) : Dom := ⟨0, 2 ^ w - 1, [], []⟩

/-- A stated range (R8). -/
def Dom.range (lo hi : Nat) : Dom := ⟨lo, hi, [], []⟩

/-- Reserved encodings of a `w`-bit field (R16). -/
def Dom.reserving (w : Nat) (resv : List (Nat × Nat)) : Dom := ⟨0, 2 ^ w - 1, [], resv⟩

-- RING_CTRL: 01_ring_fabric.md, Table 01.8, R43
def RING_CTRL_RETURN_EN : Fld := ⟨.RING_CTRL, 5, 1, .rw, .any 1, false⟩
def RING_CTRL_LEAVE_B : Fld := ⟨.RING_CTRL, 4, 1, .wo, .any 1, true⟩
def RING_CTRL_LEAVE_A : Fld := ⟨.RING_CTRL, 3, 1, .wo, .any 1, true⟩
def RING_CTRL_JOIN : Fld := ⟨.RING_CTRL, 2, 1, .rw1s, .any 1, true⟩
def RING_CTRL_HOLD_B_EN : Fld := ⟨.RING_CTRL, 1, 1, .rw, .any 1, false⟩
def RING_CTRL_HOLD_A_EN : Fld := ⟨.RING_CTRL, 0, 1, .rw, .any 1, false⟩
-- RING_STATUS: 01_ring_fabric.md, Table 01.9, R43
def RING_STATUS_DISC_ERR : Fld := ⟨.RING_STATUS, 23, 1, .ro, .any 1, false⟩
def RING_STATUS_HOLD_B : Fld := ⟨.RING_STATUS, 22, 1, .ro, .any 1, false⟩
def RING_STATUS_HOLD_A : Fld := ⟨.RING_STATUS, 21, 1, .ro, .any 1, false⟩
def RING_STATUS_STATE_B : Fld := ⟨.RING_STATUS, 18, 3, .ro, .any 3, false⟩
def RING_STATUS_STATE_A : Fld := ⟨.RING_STATUS, 15, 3, .ro, .any 3, false⟩
def RING_STATUS_COUNT_B : Fld := ⟨.RING_STATUS, 10, 5, .ro, .any 5, false⟩
def RING_STATUS_COUNT_A : Fld := ⟨.RING_STATUS, 5, 5, .ro, .any 5, false⟩
def RING_STATUS_NODE_ID : Fld := ⟨.RING_STATUS, 0, 4, .ro, .any 4, false⟩
-- RING_MEMBER_A: 01_ring_fabric.md, Table 01.10, R43
def RING_MEMBER_A_SEG_UP : Fld := ⟨.RING_MEMBER_A, 16, 16, .ro, .any 16, false⟩
-- RING_MEMBER_B: 01_ring_fabric.md, Table 01.10, R43
def RING_MEMBER_B_SEG_UP : Fld := ⟨.RING_MEMBER_B, 16, 16, .ro, .any 16, false⟩
-- RING_MEMBER_A: 01_ring_fabric.md, Table 01.10, R43
def RING_MEMBER_A_MEMBERS : Fld := ⟨.RING_MEMBER_A, 0, 16, .ro, .any 16, false⟩
-- RING_MEMBER_B: 01_ring_fabric.md, Table 01.10, R43
def RING_MEMBER_B_MEMBERS : Fld := ⟨.RING_MEMBER_B, 0, 16, .ro, .any 16, false⟩
-- RING_FITTED: 01_ring_fabric.md, Table 01.11, R43
def RING_FITTED_FITTED : Fld := ⟨.RING_FITTED, 0, 16, .rw, .any 16, false⟩
-- RING_TIMERS: 01_ring_fabric.md, Table 01.12, R43
def RING_TIMERS_LEAVE_WAIT : Fld := ⟨.RING_TIMERS, 18, 8, .rw, .range 10 200, false⟩
def RING_TIMERS_DISC_TIMEOUT : Fld := ⟨.RING_TIMERS, 10, 8, .rw, .range 1 200, false⟩
def RING_TIMERS_RETURN_CLEAN : Fld := ⟨.RING_TIMERS, 0, 10, .rw, .range 10 1000, false⟩
-- RING_PORT: 01_ring_fabric.md, Table 01.13, R43
def RING_PORT_BYPASSED : Fld := ⟨.RING_PORT, 13, 1, .ro, .any 1, false⟩
def RING_PORT_PEER_VALID : Fld := ⟨.RING_PORT, 12, 1, .ro, .any 1, false⟩
def RING_PORT_PEER_ID : Fld := ⟨.RING_PORT, 8, 4, .ro, .any 4, false⟩
def RING_PORT_EXPECTED_ID : Fld := ⟨.RING_PORT, 4, 4, .ro, .any 4, false⟩
def RING_PORT_BYP_RATE_CAP : Fld := ⟨.RING_PORT, 2, 2, .rw, .reserving 2 [(2, 3)], false⟩
def RING_PORT_RATE_CAP : Fld := ⟨.RING_PORT, 0, 2, .rw, .reserving 2 [(3, 3)], false⟩
-- ML_CTRL: 02_maelryn_link.md, Table 02.16, R81
def ML_CTRL_WIDTH_REQ : Fld := ⟨.ML_CTRL, 10, 2, .rw, .reserving 2 [(3, 3)], true⟩
def ML_CTRL_RETRAIN : Fld := ⟨.ML_CTRL, 9, 1, .wo, .any 1, true⟩
def ML_CTRL_FORCE_DOWN : Fld := ⟨.ML_CTRL, 8, 1, .rw, .any 1, true⟩
def ML_CTRL_ENABLE : Fld := ⟨.ML_CTRL, 0, 1, .rw, .any 1, true⟩
-- ML_STATUS: 02_maelryn_link.md, Table 02.17, R81
def ML_STATUS_EQ_STORED : Fld := ⟨.ML_STATUS, 19, 1, .ro, .any 1, false⟩
def ML_STATUS_LEADER : Fld := ⟨.ML_STATUS, 18, 1, .ro, .any 1, false⟩
def ML_STATUS_RATE : Fld := ⟨.ML_STATUS, 16, 2, .ro, .any 2, false⟩
def ML_STATUS_LANES : Fld := ⟨.ML_STATUS, 8, 8, .ro, .any 8, false⟩
def ML_STATUS_WIDTH : Fld := ⟨.ML_STATUS, 6, 2, .ro, .any 2, false⟩
def ML_STATUS_STATE : Fld := ⟨.ML_STATUS, 0, 4, .ro, .any 4, false⟩
-- ML_TIMERS: 02_maelryn_link.md, Table 02.18, R81
def ML_TIMERS_RT_MOVE : Fld := ⟨.ML_TIMERS, 16, 8, .rw, .range 10 100, false⟩
def ML_TIMERS_LOCKLOSS : Fld := ⟨.ML_TIMERS, 8, 7, .rw, .range 1 64, false⟩
def ML_TIMERS_REPLAY_TMR : Fld := ⟨.ML_TIMERS, 0, 8, .rw, .range 5 160, false⟩
-- ML_LIMITS: 02_maelryn_link.md, Table 02.19, R81
def ML_LIMITS_RETRAIN_MAX : Fld := ⟨.ML_LIMITS, 16, 8, .rw, .range 1 255, false⟩
def ML_LIMITS_LEAK_LIMIT : Fld := ⟨.ML_LIMITS, 8, 8, .rw, .range 1 255, false⟩
def ML_LIMITS_REPLAY_LIMIT : Fld := ⟨.ML_LIMITS, 0, 4, .rw, .range 1 15, false⟩
-- ML_CREDIT_ADV_0: 02_maelryn_link.md, Table 02.20, R81
def ML_CREDIT_ADV_0_NP : Fld := ⟨.ML_CREDIT_ADV_0, 16, 16, .rw, .range 32 1024, false⟩
def ML_CREDIT_ADV_0_P : Fld := ⟨.ML_CREDIT_ADV_0, 0, 16, .rw, .range 64 2048, false⟩
-- ML_CREDIT_ADV_1: 02_maelryn_link.md, Table 02.20, R81
def ML_CREDIT_ADV_1_TT : Fld := ⟨.ML_CREDIT_ADV_1, 16, 16, .rw, .range 0 1024, false⟩
def ML_CREDIT_ADV_1_CPL : Fld := ⟨.ML_CREDIT_ADV_1, 0, 16, .rw, .range 64 2048, false⟩
-- ML_CREDIT_ADV_2: 02_maelryn_link.md, Table 02.20, R81
def ML_CREDIT_ADV_2_MG : Fld := ⟨.ML_CREDIT_ADV_2, 0, 16, .rw, .range 16 256, false⟩
-- ML_ERR_STATUS: 02_maelryn_link.md, Table 02.21, R81
def ML_ERR_STATUS_EQ_FALLBACK : Fld := ⟨.ML_ERR_STATUS, 8, 1, .rw1c, .any 1, false⟩
def ML_ERR_STATUS_FLAP_HOLD : Fld := ⟨.ML_ERR_STATUS, 7, 1, .rw1c, .any 1, true⟩
def ML_ERR_STATUS_ROLE_ERR : Fld := ⟨.ML_ERR_STATUS, 6, 1, .rw1c, .any 1, false⟩
def ML_ERR_STATUS_LINK_DOWN : Fld := ⟨.ML_ERR_STATUS, 5, 1, .rw1c, .any 1, false⟩
def ML_ERR_STATUS_PROTOCOL : Fld := ⟨.ML_ERR_STATUS, 4, 1, .rw1c, .any 1, false⟩
def ML_ERR_STATUS_LEAK_RETRAIN : Fld := ⟨.ML_ERR_STATUS, 3, 1, .rw1c, .any 1, false⟩
def ML_ERR_STATUS_CREDIT_OVERRUN : Fld := ⟨.ML_ERR_STATUS, 2, 1, .rw1c, .any 1, false⟩
def ML_ERR_STATUS_REPLAY_LIMIT : Fld := ⟨.ML_ERR_STATUS, 1, 1, .rw1c, .any 1, false⟩
def ML_ERR_STATUS_UNCORR : Fld := ⟨.ML_ERR_STATUS, 0, 1, .rw1c, .any 1, false⟩
-- PART_GLOBAL: 03_partitions_and_sharing.md, Table 03.10, R112
def PART_GLOBAL_STBY_VALID : Fld := ⟨.PART_GLOBAL, 14, 1, .ro, .any 1, false⟩
def PART_GLOBAL_STBY_PART : Fld := ⟨.PART_GLOBAL, 8, 6, .ro, .any 6, false⟩
def PART_GLOBAL_FM_VALID : Fld := ⟨.PART_GLOBAL, 7, 1, .ro, .any 1, false⟩
def PART_GLOBAL_FM_PART : Fld := ⟨.PART_GLOBAL, 0, 6, .ro, .any 6, false⟩
-- PART_TIMERS: 03_partitions_and_sharing.md, Table 03.11, R112
def PART_TIMERS_CPL_TMO : Fld := ⟨.PART_TIMERS, 22, 10, .rw, .range 1 1000, false⟩
def PART_TIMERS_TAG_QUAR : Fld := ⟨.PART_TIMERS, 12, 10, .rw, .range 1 1000, false⟩
def PART_TIMERS_FM_TAKEOVER : Fld := ⟨.PART_TIMERS, 2, 10, .rw, .range 10 1000, false⟩
-- PART_CTRL: 03_partitions_and_sharing.md, Table 03.12, R112
def PART_CTRL_VALID : Fld := ⟨.PART_CTRL, 31, 1, .rw, .any 1, false⟩
def PART_CTRL_FM : Fld := ⟨.PART_CTRL, 30, 1, .ro, .any 1, false⟩
def PART_CTRL_STANDBY : Fld := ⟨.PART_CTRL, 29, 1, .ro, .any 1, false⟩
def PART_CTRL_STATE : Fld := ⟨.PART_CTRL, 26, 3, .ro, .any 3, false⟩
def PART_CTRL_PART_ID : Fld := ⟨.PART_CTRL, 20, 6, .rw, .any 6, false⟩
def PART_CTRL_UP_PORT : Fld := ⟨.PART_CTRL, 14, 6, .rw, .any 6, false⟩
def PART_CTRL_SELF_THAW : Fld := ⟨.PART_CTRL, 13, 1, .rw, .any 1, false⟩
def PART_CTRL_HOST_FROZEN : Fld := ⟨.PART_CTRL, 12, 1, .rw, .any 1, false⟩
-- PART_FN_A: 03_partitions_and_sharing.md, Table 03.13, R112
def PART_FN_A_VALID : Fld := ⟨.PART_FN_A, 31, 1, .rw, .any 1, false⟩
def PART_FN_A_FROZEN : Fld := ⟨.PART_FN_A, 30, 1, .rw, .any 1, false⟩
def PART_FN_A_FREEZE_CPL : Fld := ⟨.PART_FN_A, 29, 1, .rw, .any 1, false⟩
def PART_FN_A_BIND : Fld := ⟨.PART_FN_A, 28, 1, .rw, .any 1, false⟩
def PART_FN_A_OWNER : Fld := ⟨.PART_FN_A, 22, 6, .rw, .any 6, false⟩
def PART_FN_A_PORT : Fld := ⟨.PART_FN_A, 16, 6, .rw, .any 6, false⟩
def PART_FN_A_PHYS_RID : Fld := ⟨.PART_FN_A, 0, 16, .rw, .any 16, false⟩
-- PART_FN_B: 03_partitions_and_sharing.md, Table 03.13, R112
def PART_FN_B_GEN : Fld := ⟨.PART_FN_B, 24, 8, .ro, .any 8, false⟩
def PART_FN_B_VIRT_BUS : Fld := ⟨.PART_FN_B, 16, 8, .ro, .any 8, false⟩
def PART_FN_B_FREEZE_CAUSE : Fld := ⟨.PART_FN_B, 12, 4, .ro, .any 4, false⟩
def PART_FN_B_VDSP : Fld := ⟨.PART_FN_B, 7, 5, .rw, .any 5, false⟩
def PART_FN_B_BUS_SPAN : Fld := ⟨.PART_FN_B, 1, 6, .rw, .range 1 63, false⟩
-- WIN_PCTRL: 04_windows_and_peer_paths.md, Table 04.7, R133
def WIN_PCTRL_HELD : Fld := ⟨.WIN_PCTRL, 31, 1, .ro, .any 1, false⟩
def WIN_PCTRL_STRICT_UP : Fld := ⟨.WIN_PCTRL, 30, 1, .ro, .any 1, false⟩
def WIN_PCTRL_ACT_BOUND : Fld := ⟨.WIN_PCTRL, 29, 1, .ro, .any 1, false⟩
def WIN_PCTRL_ACT_MANAGED : Fld := ⟨.WIN_PCTRL, 28, 1, .ro, .any 1, false⟩
def WIN_PCTRL_RELOAD_BUSY : Fld := ⟨.WIN_PCTRL, 27, 1, .ro, .any 1, false⟩
def WIN_PCTRL_COMMIT_BUSY : Fld := ⟨.WIN_PCTRL, 26, 1, .ro, .any 1, false⟩
def WIN_PCTRL_COMMIT_NO : Fld := ⟨.WIN_PCTRL, 0, 16, .ro, .any 16, false⟩
-- WIN_VLOG_ADDR_LO: 04_windows_and_peer_paths.md, Table 04.8, R133
def WIN_VLOG_ADDR_LO_ADDR : Fld := ⟨.WIN_VLOG_ADDR_LO, 0, 32, .ro, .any 32, false⟩
-- WIN_VLOG_ADDR_HI: 04_windows_and_peer_paths.md, Table 04.8, R133
def WIN_VLOG_ADDR_HI_ADDR : Fld := ⟨.WIN_VLOG_ADDR_HI, 0, 32, .ro, .any 32, false⟩
-- WIN_VLOG_INFO: 04_windows_and_peer_paths.md, Table 04.8, R133
def WIN_VLOG_INFO_VALID : Fld := ⟨.WIN_VLOG_INFO, 31, 1, .rw1c, .any 1, false⟩
def WIN_VLOG_INFO_CAUSE : Fld := ⟨.WIN_VLOG_INFO, 24, 4, .ro, .any 4, false⟩
def WIN_VLOG_INFO_PART : Fld := ⟨.WIN_VLOG_INFO, 18, 6, .ro, .any 6, false⟩
def WIN_VLOG_INFO_INST : Fld := ⟨.WIN_VLOG_INFO, 9, 9, .ro, .any 9, false⟩
def WIN_VLOG_INFO_ENTRY : Fld := ⟨.WIN_VLOG_INFO, 1, 8, .ro, .any 8, false⟩
def WIN_VLOG_INFO_WRITE : Fld := ⟨.WIN_VLOG_INFO, 0, 1, .ro, .any 1, false⟩
-- SC_CTRL: 05_switch_core_and_ordering.md, Table 05.7, R154
def SC_CTRL_ORDER_MODE : Fld := ⟨.SC_CTRL, 1, 2, .rw, .reserving 2 [(2, 3)], false⟩
def SC_CTRL_CUT_EN : Fld := ⟨.SC_CTRL, 0, 1, .rw, .any 1, false⟩
-- SC_ORDER: 05_switch_core_and_ordering.md, Table 05.8, R154
def SC_ORDER_STALL_THR : Fld := ⟨.SC_ORDER, 0, 14, .rw, .range 1 10000, false⟩
-- SC_FABRIC: 05_switch_core_and_ordering.md, Table 05.8, R154
def SC_FABRIC_REFUSE_WAIT : Fld := ⟨.SC_FABRIC, 0, 8, .rw, .range 0 200, false⟩
-- SC_TT_POOL: 05_switch_core_and_ordering.md, Table 05.9, R154
def SC_TT_POOL_TT_USED : Fld := ⟨.SC_TT_POOL, 16, 16, .ro, .any 16, false⟩
def SC_TT_POOL_TT_CELLS : Fld := ⟨.SC_TT_POOL, 0, 14, .rw, .range 0 8192, false⟩
-- SC_POOL_STAT: 05_switch_core_and_ordering.md, Table 05.9, R154
def SC_POOL_STAT_SHARED_FREE : Fld := ⟨.SC_POOL_STAT, 0, 19, .ro, .any 19, false⟩
-- SC_POOL_SIZE: 05_switch_core_and_ordering.md, Table 05.9, R154
def SC_POOL_SIZE_SHARED_SIZE : Fld := ⟨.SC_POOL_SIZE, 0, 19, .ro, .any 19, false⟩
-- SC_EGQ: 05_switch_core_and_ordering.md, Table 05.10, R154
def SC_EGQ_QUOTA : Fld := ⟨.SC_EGQ, 0, 17, .rw, .range 0 81920, false⟩
-- SC_EGOCC: 05_switch_core_and_ordering.md, Table 05.10, R154
def SC_EGOCC_OCC : Fld := ⟨.SC_EGOCC, 0, 19, .ro, .any 19, false⟩
-- SC_PIN_P: 05_switch_core_and_ordering.md, Table 05.11, R154
def SC_PIN_P_DATA : Fld := ⟨.SC_PIN_P, 16, 13, .rw, ⟨8, 8191, [0], []⟩, false⟩
-- SC_PIN_NP: 05_switch_core_and_ordering.md, Table 05.11, R154
def SC_PIN_NP_DATA : Fld := ⟨.SC_PIN_NP, 16, 13, .rw, ⟨8, 8191, [0], []⟩, false⟩
-- SC_PIN_CPL: 05_switch_core_and_ordering.md, Table 05.11, R154
def SC_PIN_CPL_DATA : Fld := ⟨.SC_PIN_CPL, 16, 13, .rw, ⟨8, 8191, [0], []⟩, false⟩
-- SC_PIN_P: 05_switch_core_and_ordering.md, Table 05.11, R154
def SC_PIN_P_HDR : Fld := ⟨.SC_PIN_P, 0, 10, .rw, ⟨8, 1023, [0], []⟩, false⟩
-- SC_PIN_NP: 05_switch_core_and_ordering.md, Table 05.11, R154
def SC_PIN_NP_HDR : Fld := ⟨.SC_PIN_NP, 0, 10, .rw, ⟨8, 1023, [0], []⟩, false⟩
-- SC_PIN_CPL: 05_switch_core_and_ordering.md, Table 05.11, R154
def SC_PIN_CPL_HDR : Fld := ⟨.SC_PIN_CPL, 0, 10, .rw, ⟨8, 1023, [0], []⟩, false⟩
-- JNL_CTRL: 06_delivery_journal.md, Table 06.12, R191
def JNL_CTRL_E_GATE : Fld := ⟨.JNL_CTRL, 1, 1, .rw, .any 1, false⟩
def JNL_CTRL_ADMIT_EN : Fld := ⟨.JNL_CTRL, 0, 1, .rw, .any 1, false⟩
-- JNL_STATUS: 06_delivery_journal.md, Table 06.12, R191
def JNL_STATUS_EPOCH_LO : Fld := ⟨.JNL_STATUS, 16, 16, .ro, .any 16, false⟩
def JNL_STATUS_PST_FITTED : Fld := ⟨.JNL_STATUS, 8, 2, .ro, .any 2, false⟩
def JNL_STATUS_SYNC_PENDING : Fld := ⟨.JNL_STATUS, 7, 1, .ro, .any 1, false⟩
def JNL_STATUS_UNPROTECTED : Fld := ⟨.JNL_STATUS, 6, 1, .ro, .any 1, false⟩
def JNL_STATUS_RESTORED : Fld := ⟨.JNL_STATUS, 5, 1, .ro, .any 1, false⟩
def JNL_STATUS_COLD : Fld := ⟨.JNL_STATUS, 4, 1, .ro, .any 1, false⟩
def JNL_STATUS_PF_PHASE : Fld := ⟨.JNL_STATUS, 0, 4, .ro, .any 4, false⟩
-- JNL_TIMERS: 06_delivery_journal.md, Table 06.13, R191
def JNL_TIMERS_RCPT_MAX : Fld := ⟨.JNL_TIMERS, 20, 6, .rw, .range 2 63, false⟩
def JNL_TIMERS_HELD_TMO : Fld := ⟨.JNL_TIMERS, 10, 10, .rw, .range 1 1000, false⟩
def JNL_TIMERS_RTX : Fld := ⟨.JNL_TIMERS, 0, 10, .rw, .range 5 1000, false⟩
-- JNL_TIMERS2: 06_delivery_journal.md, Table 06.13, R191
def JNL_TIMERS2_GAP_HOLD : Fld := ⟨.JNL_TIMERS2, 16, 8, .rw, .range 10 255, false⟩
def JNL_TIMERS2_UNREACH : Fld := ⟨.JNL_TIMERS2, 0, 16, .rw, .range 10 60000, false⟩
-- JNL_PF: 06_delivery_journal.md, Table 06.13, R191
def JNL_PF_E_DRAIN : Fld := ⟨.JNL_PF, 8, 10, .rw, .range 10 1000, false⟩
def JNL_PF_DRAIN_MAX : Fld := ⟨.JNL_PF, 0, 8, .rw, .range 0 200, false⟩
-- JNL_OCC: 06_delivery_journal.md, Table 06.14, R191
def JNL_OCC_USED : Fld := ⟨.JNL_OCC, 0, 17, .ro, .any 17, false⟩
-- JNL_RESV: 06_delivery_journal.md, Table 06.14, R191
def JNL_RESV_RESV : Fld := ⟨.JNL_RESV, 0, 17, .ro, .any 17, false⟩
-- JNL_VMAX: 06_delivery_journal.md, Table 06.14, R191
def JNL_VMAX_VMAX : Fld := ⟨.JNL_VMAX, 0, 27, .ro, .any 27, false⟩
-- JNL_VCOMMIT: 06_delivery_journal.md, Table 06.14, R191
def JNL_VCOMMIT_VCOMMIT : Fld := ⟨.JNL_VCOMMIT, 0, 27, .ro, .any 27, false⟩
-- JNL_EPOCH: 06_delivery_journal.md, Table 06.14, R191
def JNL_EPOCH_EPOCH : Fld := ⟨.JNL_EPOCH, 0, 32, .ro, .any 32, false⟩
-- JNL_DQ: 06_delivery_journal.md, Table 06.14, R191
def JNL_DQ_QUOTA : Fld := ⟨.JNL_DQ, 0, 17, .rw, .range 0 98304, false⟩
-- JNL_DQOCC: 06_delivery_journal.md, Table 06.14, R191
def JNL_DQOCC_USED : Fld := ⟨.JNL_DQOCC, 0, 17, .ro, .any 17, false⟩
-- SPN_CTRL: 07_spindle_time_and_turns.md, Table 07.12, R229
def SPN_CTRL_GM_PRIO : Fld := ⟨.SPN_CTRL, 24, 8, .rw, .any 8, false⟩
def SPN_CTRL_TT_TC : Fld := ⟨.SPN_CTRL, 21, 3, .rw, .any 3, false⟩
def SPN_CTRL_PTM_HOST_EN : Fld := ⟨.SPN_CTRL, 20, 1, .rw, .any 1, false⟩
def SPN_CTRL_HOST_PORT : Fld := ⟨.SPN_CTRL, 14, 6, .rw, .any 6, false⟩
def SPN_CTRL_PPS_OUT_EN : Fld := ⟨.SPN_CTRL, 13, 1, .rw, .any 1, false⟩
def SPN_CTRL_PPS_IN_EN : Fld := ⟨.SPN_CTRL, 12, 1, .rw, .any 1, false⟩
-- SPN_STATUS: 07_spindle_time_and_turns.md, Table 07.12, R229
def SPN_STATUS_GM_ID : Fld := ⟨.SPN_STATUS, 28, 4, .ro, .any 4, false⟩
def SPN_STATUS_GM_CLASS : Fld := ⟨.SPN_STATUS, 26, 2, .ro, .any 2, false⟩
def SPN_STATUS_TRACEABLE : Fld := ⟨.SPN_STATUS, 25, 1, .ro, .any 1, false⟩
def SPN_STATUS_STEP_PEND : Fld := ⟨.SPN_STATUS, 24, 1, .ro, .any 1, false⟩
def SPN_STATUS_HOPS : Fld := ⟨.SPN_STATUS, 20, 4, .ro, .any 4, false⟩
def SPN_STATUS_PARENT : Fld := ⟨.SPN_STATUS, 16, 3, .ro, .any 3, false⟩
def SPN_STATUS_STATE : Fld := ⟨.SPN_STATUS, 0, 3, .ro, .any 3, false⟩
-- SPN_SYNC: 07_spindle_time_and_turns.md, Table 07.13, R229
def SPN_SYNC_STEP_THR : Fld := ⟨.SPN_SYNC, 18, 14, .rw, .range 1 10000, false⟩
def SPN_SYNC_SYNC_INT : Fld := ⟨.SPN_SYNC, 0, 11, .rw, .range 16 2000, false⟩
-- SPN_HOLD: 07_spindle_time_and_turns.md, Table 07.13, R229
def SPN_HOLD_SLEW_MAX : Fld := ⟨.SPN_HOLD, 24, 8, .rw, .range 10 200, false⟩
def SPN_HOLD_HOLD_MAX : Fld := ⟨.SPN_HOLD, 0, 10, .rw, .range 1 1000, false⟩
-- SPN_OFFSET: 07_spindle_time_and_turns.md, Table 07.13, R229
def SPN_OFFSET_THETA : Fld := ⟨.SPN_OFFSET, 0, 32, .ro, .any 32, false⟩
-- SPN_PPS: 07_spindle_time_and_turns.md, Table 07.13, R229
def SPN_PPS_PPS_ERR : Fld := ⟨.SPN_PPS, 16, 16, .ro, .any 16, false⟩
def SPN_PPS_PPS_LOCK : Fld := ⟨.SPN_PPS, 15, 1, .ro, .any 1, false⟩
def SPN_PPS_PPS_WIDTH : Fld := ⟨.SPN_PPS, 0, 8, .rw, .range 1 250, false⟩
-- SPN_PORT: 07_spindle_time_and_turns.md, Table 07.14, R229
def SPN_PORT_DELAY : Fld := ⟨.SPN_PORT, 16, 16, .ro, .any 16, false⟩
def SPN_PORT_ASYM : Fld := ⟨.SPN_PORT, 8, 8, .rw, .any 8, false⟩
def SPN_PORT_K : Fld := ⟨.SPN_PORT, 5, 3, .ro, .any 3, false⟩
-- SPN_GRAIN: 07_spindle_time_and_turns.md, Table 07.14, R229
def SPN_GRAIN_USED : Fld := ⟨.SPN_GRAIN, 16, 11, .ro, .any 11, false⟩
def SPN_GRAIN_GRAIN_MAX : Fld := ⟨.SPN_GRAIN, 0, 11, .rw, .range 0 1024, false⟩
-- SPN_PIN: 07_spindle_time_and_turns.md, Table 07.15, R229
def SPN_PIN_OWN_VALID : Fld := ⟨.SPN_PIN, 31, 1, .rw, .any 1, false⟩
def SPN_PIN_OWNER : Fld := ⟨.SPN_PIN, 24, 6, .rw, .any 6, false⟩
def SPN_PIN_CAP_EDGE : Fld := ⟨.SPN_PIN, 4, 2, .rw, .reserving 2 [(3, 3)], false⟩
def SPN_PIN_CAP_MODE : Fld := ⟨.SPN_PIN, 2, 2, .rw, .reserving 2 [(3, 3)], false⟩
def SPN_PIN_GATE : Fld := ⟨.SPN_PIN, 1, 1, .ro, .any 1, false⟩
def SPN_PIN_OUT_LEVEL : Fld := ⟨.SPN_PIN, 0, 1, .ro, .any 1, false⟩
-- SCH_CTRL: 08_scheduling_and_shaping.md, Table 08.4, R249
def SCH_CTRL_METER_EN : Fld := ⟨.SCH_CTRL, 1, 1, .rw, .any 1, false⟩
def SCH_CTRL_STARVE_EN : Fld := ⟨.SCH_CTRL, 0, 1, .rw, .any 1, false⟩
-- SCH_STARVE: 08_scheduling_and_shaping.md, Table 08.4, R249
def SCH_STARVE_LIMIT : Fld := ⟨.SCH_STARVE, 0, 14, .rw, .range 1 16000, false⟩
-- SCH_STATUS: 08_scheduling_and_shaping.md, Table 08.4, R249
def SCH_STATUS_REFILL_NO : Fld := ⟨.SCH_STATUS, 16, 16, .ro, .any 16, false⟩
def SCH_STATUS_PEND : Fld := ⟨.SCH_STATUS, 0, 1, .ro, .any 1, false⟩
-- SCH_PORT: 08_scheduling_and_shaping.md, Table 08.5, R249
def SCH_PORT_TT_SHARE : Fld := ⟨.SCH_PORT, 8, 7, .rw, .range 0 64, false⟩
def SCH_PORT_OH : Fld := ⟨.SCH_PORT, 0, 6, .rw, .any 6, false⟩
-- SCH_MTR_C: 08_scheduling_and_shaping.md, Table 08.6, R249
def SCH_MTR_C_CBS : Fld := ⟨.SCH_MTR_C, 16, 12, .rw, .range 5 4095, false⟩
def SCH_MTR_C_CIR : Fld := ⟨.SCH_MTR_C, 0, 16, .rw, .any 16, false⟩
-- SCH_MTR_P: 08_scheduling_and_shaping.md, Table 08.6, R249
def SCH_MTR_P_PBS : Fld := ⟨.SCH_MTR_P, 16, 12, .rw, .range 5 4095, false⟩
def SCH_MTR_P_PIR : Fld := ⟨.SCH_MTR_P, 0, 16, .rw, .any 16, false⟩
-- SCH_MTR_CTOK: 08_scheduling_and_shaping.md, Table 08.6, R249
def SCH_MTR_CTOK_CTOK : Fld := ⟨.SCH_MTR_CTOK, 0, 21, .ro, .any 21, false⟩
-- SCH_MTR_PTOK: 08_scheduling_and_shaping.md, Table 08.6, R249
def SCH_MTR_PTOK_PTOK : Fld := ⟨.SCH_MTR_PTOK, 0, 32, .ro, .any 32, false⟩
-- DM_CTRL: 09_data_mover.md, Table 09.8, R272
def DM_CTRL_RESUME : Fld := ⟨.DM_CTRL, 4, 1, .wo, .any 1, true⟩
def DM_CTRL_START : Fld := ⟨.DM_CTRL, 3, 1, .wo, .any 1, true⟩
def DM_CTRL_RESET : Fld := ⟨.DM_CTRL, 2, 1, .wo, .any 1, true⟩
def DM_CTRL_PAUSE : Fld := ⟨.DM_CTRL, 1, 1, .rw, .any 1, true⟩
def DM_CTRL_ENABLE : Fld := ⟨.DM_CTRL, 0, 1, .rw, .any 1, true⟩
-- DM_STATUS: 09_data_mover.md, Table 09.8, R272
def DM_STATUS_ERR : Fld := ⟨.DM_STATUS, 24, 8, .ro, .any 8, false⟩
def DM_STATUS_CLASS : Fld := ⟨.DM_STATUS, 18, 2, .ro, .any 2, false⟩
def DM_STATUS_GEN : Fld := ⟨.DM_STATUS, 10, 8, .ro, .any 8, false⟩
def DM_STATUS_STATE : Fld := ⟨.DM_STATUS, 0, 3, .ro, .any 3, false⟩
-- DM_RING: 09_data_mover.md, Table 09.9, R272
def DM_RING_BASE : Fld := ⟨.DM_RING, 12, 52, .rw, .any 52, false⟩
-- DM_CFG: 09_data_mover.md, Table 09.9, R272
def DM_CFG_MAX_TAGS : Fld := ⟨.DM_CFG, 24, 8, .rw, .range 1 255, false⟩
def DM_CFG_WR_SIZE : Fld := ⟨.DM_CFG, 18, 2, .rw, .any 2, false⟩
def DM_CFG_RD_SIZE : Fld := ⟨.DM_CFG, 16, 2, .rw, .any 2, false⟩
def DM_CFG_RING_SIZE : Fld := ⟨.DM_CFG, 0, 5, .rw, .range 4 16, false⟩
-- DM_TAIL: 09_data_mover.md, Table 09.10, R272
def DM_TAIL_TAIL : Fld := ⟨.DM_TAIL, 0, 16, .rw, .any 16, true⟩
-- DM_HEAD: 09_data_mover.md, Table 09.10, R272
def DM_HEAD_HEAD : Fld := ⟨.DM_HEAD, 0, 16, .ro, .any 16, false⟩
-- DM_DONE: 09_data_mover.md, Table 09.10, R272
def DM_DONE_DONE : Fld := ⟨.DM_DONE, 0, 16, .ro, .any 16, false⟩
-- DM_ERR_ADDR_LO: 09_data_mover.md, Table 09.10, R272
def DM_ERR_ADDR_LO_ADDR : Fld := ⟨.DM_ERR_ADDR_LO, 0, 32, .ro, .any 32, false⟩
-- DM_ERR_ADDR_HI: 09_data_mover.md, Table 09.10, R272
def DM_ERR_ADDR_HI_ADDR : Fld := ⟨.DM_ERR_ADDR_HI, 0, 32, .ro, .any 32, false⟩
-- DM_TAGS: 09_data_mover.md, Table 09.10, R272
def DM_TAGS_IN_USE : Fld := ⟨.DM_TAGS, 0, 11, .ro, .any 11, false⟩
-- DM_CNT_DESC: 09_data_mover.md, Table 09.10, R272
def DM_CNT_DESC_COUNT : Fld := ⟨.DM_CNT_DESC, 0, 32, .ro, .any 32, false⟩
-- DM_GLOBAL: 09_data_mover.md, Table 09.12, R273
def DM_GLOBAL_BUF_MAX : Fld := ⟨.DM_GLOBAL, 0, 15, .rw, .range 0 16384, false⟩
-- DM_GLOBAL_STAT: 09_data_mover.md, Table 09.12, R273
def DM_GLOBAL_STAT_BUF_USED : Fld := ⟨.DM_GLOBAL_STAT, 0, 17, .ro, .any 17, false⟩
-- DM_ASSIGN: 09_data_mover.md, Table 09.12, R273
def DM_ASSIGN_VALID : Fld := ⟨.DM_ASSIGN, 31, 1, .ro, .any 1, false⟩
def DM_ASSIGN_OWNER : Fld := ⟨.DM_ASSIGN, 25, 6, .ro, .any 6, false⟩
def DM_ASSIGN_CLASS : Fld := ⟨.DM_ASSIGN, 23, 2, .ro, .any 2, false⟩
-- DM_TAGQ: 09_data_mover.md, Table 09.12, R273
def DM_TAGQ_IN_USE : Fld := ⟨.DM_TAGQ, 16, 11, .ro, .any 11, false⟩
def DM_TAGQ_QUOTA : Fld := ⟨.DM_TAGQ, 0, 11, .rw, .range 0 1984, false⟩
-- PX_DUAL: 10_pcie_ports.md, Table 10.14, R302
def PX_DUAL_FABRIC : Fld := ⟨.PX_DUAL, 0, 4, .rw, .any 4, true⟩
-- PX_BIF: 10_pcie_ports.md, Table 10.14, R302
def PX_BIF_ERR : Fld := ⟨.PX_BIF, 6, 1, .rw1c, .any 1, false⟩
def PX_BIF_H1 : Fld := ⟨.PX_BIF, 3, 3, .rw, .any 3, true⟩
def PX_BIF_H0 : Fld := ⟨.PX_BIF, 0, 3, .rw, .any 3, true⟩
-- PX_PMAP: 10_pcie_ports.md, Table 10.14, R302
def PX_PMAP_PORT_4 : Fld := ⟨.PX_PMAP, 24, 6, .rw, .reserving 6 [(40, 63)], true⟩
def PX_PMAP_PORT_3 : Fld := ⟨.PX_PMAP, 18, 6, .rw, .reserving 6 [(40, 63)], true⟩
def PX_PMAP_PORT_2 : Fld := ⟨.PX_PMAP, 12, 6, .rw, .reserving 6 [(40, 63)], true⟩
def PX_PMAP_PORT_1 : Fld := ⟨.PX_PMAP, 6, 6, .rw, .reserving 6 [(40, 63)], true⟩
def PX_PMAP_PORT_0 : Fld := ⟨.PX_PMAP, 0, 6, .rw, .reserving 6 [(40, 63)], true⟩
-- PX_PORT_CFG: 10_pcie_ports.md, Table 10.15, R302
def PX_PORT_CFG_ENABLE : Fld := ⟨.PX_PORT_CFG, 31, 1, .rw, .any 1, true⟩
def PX_PORT_CFG_ROLE : Fld := ⟨.PX_PORT_CFG, 29, 2, .rw, .any 2, false⟩
def PX_PORT_CFG_RATE_CAP : Fld := ⟨.PX_PORT_CFG, 26, 3, .rw, .reserving 3 [(6, 7)], false⟩
def PX_PORT_CFG_FLIT_EN : Fld := ⟨.PX_PORT_CFG, 25, 1, .rw, .any 1, false⟩
def PX_PORT_CFG_TAG_SIZE : Fld := ⟨.PX_PORT_CFG, 23, 2, .rw, .reserving 2 [(3, 3)], false⟩
def PX_PORT_CFG_MPS : Fld := ⟨.PX_PORT_CFG, 20, 3, .rw, .reserving 3 [(4, 7)], false⟩
def PX_PORT_CFG_IDE_PASS : Fld := ⟨.PX_PORT_CFG, 19, 1, .rw, .any 1, false⟩
-- PX_PORT_STAT: 10_pcie_ports.md, Table 10.15, R302
def PX_PORT_STAT_DL_ACTIVE : Fld := ⟨.PX_PORT_STAT, 15, 1, .ro, .any 1, false⟩
def PX_PORT_STAT_FLIT : Fld := ⟨.PX_PORT_STAT, 14, 1, .ro, .any 1, false⟩
def PX_PORT_STAT_RATE : Fld := ⟨.PX_PORT_STAT, 11, 3, .ro, .any 3, false⟩
def PX_PORT_STAT_WIDTH : Fld := ⟨.PX_PORT_STAT, 8, 3, .ro, .any 3, false⟩
def PX_PORT_STAT_DPC : Fld := ⟨.PX_PORT_STAT, 7, 1, .ro, .any 1, false⟩
def PX_PORT_STAT_L0P : Fld := ⟨.PX_PORT_STAT, 6, 1, .ro, .any 1, false⟩
def PX_PORT_STAT_PM : Fld := ⟨.PX_PORT_STAT, 4, 2, .ro, .any 2, false⟩
-- PX_PWR: 10_pcie_ports.md, Table 10.16, R302
def PX_PWR_NO_LP : Fld := ⟨.PX_PWR, 21, 1, .rw, .any 1, false⟩
def PX_PWR_L0P_AUTO : Fld := ⟨.PX_PWR, 20, 1, .rw, .any 1, false⟩
def PX_PWR_L0P_MIN : Fld := ⟨.PX_PWR, 18, 2, .rw, .reserving 2 [(3, 3)], false⟩
def PX_PWR_L0P_LOW : Fld := ⟨.PX_PWR, 10, 8, .rw, .range 1 50, false⟩
def PX_PWR_L1_IDLE : Fld := ⟨.PX_PWR, 0, 10, .rw, .range 8 1000, false⟩
-- PX_SLOT: 10_pcie_ports.md, Table 10.16, R302
def PX_SLOT_VALID : Fld := ⟨.PX_SLOT, 31, 1, .rw, .any 1, false⟩
def PX_SLOT_CHAN : Fld := ⟨.PX_SLOT, 0, 4, .rw, .reserving 4 [(12, 15)], false⟩
-- LB_CTRL: 11_local_bus_bridge.md, Table 11.8, R319
def LB_CTRL_CLK_DIV : Fld := ⟨.LB_CTRL, 5, 7, .rw, .range 4 64, false⟩
def LB_CTRL_ELOG_CLR : Fld := ⟨.LB_CTRL, 4, 1, .wo, .any 1, true⟩
def LB_CTRL_SEM_EN : Fld := ⟨.LB_CTRL, 3, 1, .rw, .any 1, false⟩
def LB_CTRL_PREF_EN : Fld := ⟨.LB_CTRL, 2, 1, .rw, .any 1, false⟩
def LB_CTRL_RESET : Fld := ⟨.LB_CTRL, 1, 1, .wo, .any 1, true⟩
def LB_CTRL_EN : Fld := ⟨.LB_CTRL, 0, 1, .rw, .any 1, true⟩
-- LB_STATUS: 11_local_bus_bridge.md, Table 11.8, R319
def LB_STATUS_PLOG_NEXT : Fld := ⟨.LB_STATUS, 8, 4, .ro, .any 4, false⟩
def LB_STATUS_ELOG_OVF : Fld := ⟨.LB_STATUS, 7, 1, .ro, .any 1, false⟩
def LB_STATUS_ELOG_COUNT : Fld := ⟨.LB_STATUS, 2, 5, .ro, .any 5, false⟩
def LB_STATUS_RESETTING : Fld := ⟨.LB_STATUS, 1, 1, .ro, .any 1, false⟩
def LB_STATUS_SEM_HELD : Fld := ⟨.LB_STATUS, 0, 1, .ro, .any 1, false⟩
-- LB_INT_STATUS: 11_local_bus_bridge.md, Table 11.9, R319
def LB_INT_STATUS_SEM_FORCED : Fld := ⟨.LB_INT_STATUS, 2, 1, .rw1c, .any 1, false⟩
def LB_INT_STATUS_PREF_DISC : Fld := ⟨.LB_INT_STATUS, 1, 1, .rw1c, .any 1, false⟩
def LB_INT_STATUS_ELOG_NEW : Fld := ⟨.LB_INT_STATUS, 0, 1, .rw1c, .any 1, false⟩
-- LB_INT_EN: 11_local_bus_bridge.md, Table 11.9, R319
def LB_INT_EN_EN : Fld := ⟨.LB_INT_EN, 0, 3, .rw, .any 3, false⟩
-- LB_SEM: 11_local_bus_bridge.md, Table 11.9, R319
def LB_SEM_HELD : Fld := ⟨.LB_SEM, 31, 1, .ro, .any 1, false⟩
def LB_SEM_OWNER : Fld := ⟨.LB_SEM, 24, 6, .ro, .any 6, false⟩
def LB_SEM_NODE : Fld := ⟨.LB_SEM, 20, 4, .ro, .any 4, false⟩
def LB_SEM_RID : Fld := ⟨.LB_SEM, 0, 16, .ro, .any 16, false⟩
-- LB_SEM_CFG: 11_local_bus_bridge.md, Table 11.9, R319
def LB_SEM_CFG_PAGE : Fld := ⟨.LB_SEM_CFG, 12, 20, .rw, .any 20, false⟩
-- LB_SEM_HOLD: 11_local_bus_bridge.md, Table 11.9, R319
def LB_SEM_HOLD_HOLD_MAX : Fld := ⟨.LB_SEM_HOLD, 0, 14, .rw, .range 1 10000, false⟩
-- LB_TIMING: 11_local_bus_bridge.md, Table 11.9, R319
def LB_TIMING_RETRY_GAP : Fld := ⟨.LB_TIMING, 24, 8, .rw, .range 1 255, false⟩
def LB_TIMING_LIFE : Fld := ⟨.LB_TIMING, 0, 10, .rw, .range 10 1000, false⟩
-- LB_QUOTA: 11_local_bus_bridge.md, Table 11.9, R319
def LB_QUOTA_CELLS : Fld := ⟨.LB_QUOTA, 0, 13, .rw, .range 0 4096, false⟩
-- LB_CS: 11_local_bus_bridge.md, Table 11.10, R319
def LB_CS_EN : Fld := ⟨.LB_CS, 31, 1, .rw, .any 1, false⟩
def LB_CS_BURST_MAX : Fld := ⟨.LB_CS, 28, 3, .rw, .reserving 3 [(7, 7)], false⟩
def LB_CS_WAIT_MIN : Fld := ⟨.LB_CS, 24, 4, .rw, .any 4, false⟩
def LB_CS_TURN : Fld := ⟨.LB_CS, 20, 4, .rw, .range 1 15, false⟩
def LB_CS_IDLE : Fld := ⟨.LB_CS, 16, 4, .rw, .range 1 15, false⟩
def LB_CS_RETRY_MAX : Fld := ⟨.LB_CS, 8, 8, .rw, .any 8, false⟩
def LB_CS_TMO : Fld := ⟨.LB_CS, 0, 8, .rw, .range 1 255, false⟩
-- LB_PREG: 11_local_bus_bridge.md, Table 11.10, R319
def LB_PREG_BASE : Fld := ⟨.LB_PREG, 12, 20, .rw, .any 20, true⟩
def LB_PREG_SIZE : Fld := ⟨.LB_PREG, 0, 6, .rw, .reserving 6 [(1, 11), (33, 63)], true⟩
-- LB_ELOG_ADDR: 11_local_bus_bridge.md, Table 11.10, R319
def LB_ELOG_ADDR_ADDR : Fld := ⟨.LB_ELOG_ADDR, 0, 32, .ro, .any 32, false⟩
-- LB_ELOG_INFO: 11_local_bus_bridge.md, Table 11.10, R319
def LB_ELOG_INFO_VALID : Fld := ⟨.LB_ELOG_INFO, 31, 1, .ro, .any 1, false⟩
def LB_ELOG_INFO_CAUSE : Fld := ⟨.LB_ELOG_INFO, 28, 3, .ro, .any 3, false⟩
def LB_ELOG_INFO_CS : Fld := ⟨.LB_ELOG_INFO, 26, 2, .ro, .any 2, false⟩
def LB_ELOG_INFO_PART : Fld := ⟨.LB_ELOG_INFO, 20, 6, .ro, .any 6, false⟩
def LB_ELOG_INFO_WRITE : Fld := ⟨.LB_ELOG_INFO, 19, 1, .ro, .any 1, false⟩
def LB_ELOG_INFO_BYTES : Fld := ⟨.LB_ELOG_INFO, 0, 11, .ro, .any 11, false⟩
-- LB_ELOG_REQ: 11_local_bus_bridge.md, Table 11.10, R319
def LB_ELOG_REQ_RID : Fld := ⟨.LB_ELOG_REQ, 16, 16, .ro, .any 16, false⟩
def LB_ELOG_REQ_NODE : Fld := ⟨.LB_ELOG_REQ, 0, 4, .ro, .any 4, false⟩
-- LB_ELOG_TIME: 11_local_bus_bridge.md, Table 11.10, R319
def LB_ELOG_TIME_TIME : Fld := ⟨.LB_ELOG_TIME, 0, 32, .ro, .any 32, false⟩
-- LB_PLOG_ADDR: 11_local_bus_bridge.md, Table 11.10, R319
def LB_PLOG_ADDR_ADDR : Fld := ⟨.LB_PLOG_ADDR, 0, 32, .ro, .any 32, false⟩
-- LB_PLOG_INFO: 11_local_bus_bridge.md, Table 11.10, R319
def LB_PLOG_INFO_VALID : Fld := ⟨.LB_PLOG_INFO, 31, 1, .ro, .any 1, false⟩
def LB_PLOG_INFO_CS : Fld := ⟨.LB_PLOG_INFO, 26, 2, .ro, .any 2, false⟩
def LB_PLOG_INFO_PART : Fld := ⟨.LB_PLOG_INFO, 20, 6, .ro, .any 6, false⟩
def LB_PLOG_INFO_UNUSED : Fld := ⟨.LB_PLOG_INFO, 0, 9, .ro, .any 9, false⟩
-- LN_SEL: 12_lanes_and_quads.md, Table 12.5, R340
def LN_SEL_PORT : Fld := ⟨.LN_SEL, 8, 6, .rw, .reserving 6 [(48, 63)], false⟩
def LN_SEL_LANE : Fld := ⟨.LN_SEL, 0, 4, .rw, .any 4, false⟩
-- LN_LANE_CTRL: 12_lanes_and_quads.md, Table 12.5, R340
def LN_LANE_CTRL_TEST : Fld := ⟨.LN_LANE_CTRL, 6, 2, .rw, .any 2, true⟩
def LN_LANE_CTRL_LOOP : Fld := ⟨.LN_LANE_CTRL, 5, 1, .rw, .any 1, true⟩
def LN_LANE_CTRL_CLR_UNFIT : Fld := ⟨.LN_LANE_CTRL, 4, 1, .wo, .any 1, true⟩
-- LN_LANE_STAT: 12_lanes_and_quads.md, Table 12.5, R340
def LN_LANE_STAT_FOM : Fld := ⟨.LN_LANE_STAT, 24, 8, .ro, .any 8, false⟩
def LN_LANE_STAT_UNFIT : Fld := ⟨.LN_LANE_STAT, 15, 1, .ro, .any 1, false⟩
def LN_LANE_STAT_CAUSE : Fld := ⟨.LN_LANE_STAT, 13, 2, .ro, .any 2, false⟩
def LN_LANE_STAT_POL_INV : Fld := ⟨.LN_LANE_STAT, 12, 1, .ro, .any 1, false⟩
def LN_LANE_STAT_LOCK : Fld := ⟨.LN_LANE_STAT, 11, 1, .ro, .any 1, false⟩
def LN_LANE_STAT_FLIT_LOCK : Fld := ⟨.LN_LANE_STAT, 10, 1, .ro, .any 1, false⟩
-- LN_LANE_EQ: 12_lanes_and_quads.md, Table 12.6, R340
def LN_LANE_EQ_C_M2 : Fld := ⟨.LN_LANE_EQ, 24, 8, .ro, .any 8, false⟩
def LN_LANE_EQ_C_M1 : Fld := ⟨.LN_LANE_EQ, 16, 8, .ro, .any 8, false⟩
def LN_LANE_EQ_C_0 : Fld := ⟨.LN_LANE_EQ, 8, 8, .ro, .any 8, false⟩
def LN_LANE_EQ_C_P1 : Fld := ⟨.LN_LANE_EQ, 0, 8, .ro, .any 8, false⟩
-- LN_FIT: 12_lanes_and_quads.md, Table 12.6, R340
def LN_FIT_CORR_MAX : Fld := ⟨.LN_FIT, 16, 16, .rw, .range 16 65535, false⟩
def LN_FIT_LOCK_MAX : Fld := ⟨.LN_FIT, 12, 4, .rw, .range 1 15, false⟩
def LN_FIT_PX_DEGRADE : Fld := ⟨.LN_FIT, 0, 1, .rw, .any 1, false⟩
-- LN_EQ: 12_lanes_and_quads.md, Table 12.6, R340
def LN_EQ_FOM_MIN : Fld := ⟨.LN_EQ, 24, 8, .rw, .range 1 255, false⟩
def LN_EQ_PRESET_INIT : Fld := ⟨.LN_EQ, 16, 3, .rw, .any 3, false⟩
-- LN_PORT_STAT: 12_lanes_and_quads.md, Table 12.7, R340
def LN_PORT_STAT_UNFIT : Fld := ⟨.LN_PORT_STAT, 16, 16, .ro, .any 16, false⟩
def LN_PORT_STAT_PLL_LOCK : Fld := ⟨.LN_PORT_STAT, 7, 1, .ro, .any 1, false⟩
def LN_PORT_STAT_REVERSED : Fld := ⟨.LN_PORT_STAT, 6, 1, .ro, .any 1, false⟩
def LN_PORT_STAT_PLL_SET : Fld := ⟨.LN_PORT_STAT, 4, 2, .ro, .any 2, false⟩
-- SP_WARN: 13_slot_power.md, Table 13.7, R362
def SP_WARN_CYCLE_OFF : Fld := ⟨.SP_WARN, 16, 16, .rw, .range 100 10000, false⟩
def SP_WARN_LEAD : Fld := ⟨.SP_WARN, 0, 5, .rw, .range 1 20, false⟩
-- SP_CMD: 13_slot_power.md, Table 13.7, R362
def SP_CMD_CYCLE : Fld := ⟨.SP_CMD, 2, 1, .wo, .any 1, true⟩
def SP_CMD_OFF : Fld := ⟨.SP_CMD, 1, 1, .wo, .any 1, true⟩
def SP_CMD_ON : Fld := ⟨.SP_CMD, 0, 1, .wo, .any 1, true⟩
-- SP_CFG: 13_slot_power.md, Table 13.7, R362
def SP_CFG_PRES_IGN : Fld := ⟨.SP_CFG, 31, 1, .rw, .any 1, false⟩
def SP_CFG_PRIO : Fld := ⟨.SP_CFG, 30, 1, .rw, .any 1, false⟩
def SP_CFG_RETURN_EN : Fld := ⟨.SP_CFG, 29, 1, .rw, .any 1, false⟩
def SP_CFG_FEED_A : Fld := ⟨.SP_CFG, 28, 1, .rw, .any 1, false⟩
def SP_CFG_FEED_B : Fld := ⟨.SP_CFG, 27, 1, .rw, .any 1, false⟩
def SP_CFG_VGG : Fld := ⟨.SP_CFG, 20, 4, .rw, .reserving 4 [(13, 15)], false⟩
def SP_CFG_I_RAMP : Fld := ⟨.SP_CFG, 8, 8, .rw, .range 5 50, false⟩
-- SP_STATUS: 13_slot_power.md, Table 13.8, R362
def SP_STATUS_STATE : Fld := ⟨.SP_STATUS, 28, 4, .ro, .any 4, false⟩
def SP_STATUS_LATCHED : Fld := ⟨.SP_STATUS, 27, 1, .ro, .any 1, false⟩
def SP_STATUS_FEED_ACT : Fld := ⟨.SP_STATUS, 26, 1, .ro, .any 1, false⟩
def SP_STATUS_RAIL_VALID : Fld := ⟨.SP_STATUS, 25, 1, .ro, .any 1, false⟩
def SP_STATUS_PRESENT : Fld := ⟨.SP_STATUS, 24, 1, .ro, .any 1, false⟩
def SP_STATUS_PWRWARN : Fld := ⟨.SP_STATUS, 23, 1, .ro, .any 1, false⟩
def SP_STATUS_PERST : Fld := ⟨.SP_STATUS, 22, 1, .ro, .any 1, false⟩
def SP_STATUS_RETRIES_LEFT : Fld := ⟨.SP_STATUS, 18, 4, .ro, .any 4, false⟩
def SP_STATUS_CAUSE : Fld := ⟨.SP_STATUS, 14, 4, .ro, .any 4, false⟩
def SP_STATUS_POINT : Fld := ⟨.SP_STATUS, 11, 3, .ro, .any 3, false⟩
def SP_STATUS_PF_OFF : Fld := ⟨.SP_STATUS, 10, 1, .ro, .any 1, false⟩
-- SP_MEAS: 13_slot_power.md, Table 13.8, R362
def SP_MEAS_VOUT : Fld := ⟨.SP_MEAS, 16, 16, .ro, .any 16, false⟩
def SP_MEAS_ISENSE : Fld := ⟨.SP_MEAS, 0, 12, .ro, .any 12, false⟩
-- SP_TIMERS: 13_slot_power.md, Table 13.9, R362
def SP_TIMERS_T_GATE : Fld := ⟨.SP_TIMERS, 24, 8, .rw, .range 1 100, false⟩
def SP_TIMERS_T_PERST : Fld := ⟨.SP_TIMERS, 14, 10, .rw, .range 1 1000, false⟩
def SP_TIMERS_PERST_LEAD : Fld := ⟨.SP_TIMERS, 7, 7, .rw, .range 0 100, false⟩
def SP_TIMERS_OFF_MAX : Fld := ⟨.SP_TIMERS, 0, 7, .rw, .range 1 100, false⟩
-- SP_RETRY: 13_slot_power.md, Table 13.9, R362
def SP_RETRY_COUNT : Fld := ⟨.SP_RETRY, 28, 4, .rw, .any 4, false⟩
def SP_RETRY_INTERVAL : Fld := ⟨.SP_RETRY, 20, 8, .rw, .range 1 255, false⟩
def SP_RETRY_T_EMPTY : Fld := ⟨.SP_RETRY, 10, 10, .rw, .range 10 1000, false⟩
def SP_RETRY_CLEAN : Fld := ⟨.SP_RETRY, 2, 8, .rw, .range 1 255, false⟩
-- SP_FEED: 13_slot_power.md, Table 13.9, R362
def SP_FEED_T_BBM : Fld := ⟨.SP_FEED, 25, 7, .rw, .range 1 100, false⟩
def SP_FEED_RETURN : Fld := ⟨.SP_FEED, 14, 11, .rw, .range 10 2000, false⟩
-- SP_FAST: 13_slot_power.md, Table 13.9, R362
def SP_FAST_VTH : Fld := ⟨.SP_FAST, 0, 7, .rw, .range 10 100, false⟩
-- SP_CURVE: 13_slot_power.md, Table 13.10, R362
def SP_CURVE_ISET : Fld := ⟨.SP_CURVE, 22, 10, .rw, .any 10, false⟩
def SP_CURVE_UNIT : Fld := ⟨.SP_CURVE, 14, 2, .rw, .reserving 2 [(3, 3)], false⟩
def SP_CURVE_TIME : Fld := ⟨.SP_CURVE, 0, 14, .rw, .any 14, false⟩
-- FC_STATUS_LO: 14_faults_and_containment.md, Table 14.7, R384
def FC_STATUS_LO_UNIT : Fld := ⟨.FC_STATUS_LO, 0, 32, .rw1c, .any 32, true⟩
-- FC_STATUS_HI: 14_faults_and_containment.md, Table 14.7, R384
def FC_STATUS_HI_UNIT : Fld := ⟨.FC_STATUS_HI, 0, 24, .rw1c, .any 24, true⟩
-- FC_MASK_LO: 14_faults_and_containment.md, Table 14.7, R384
def FC_MASK_LO_MASK : Fld := ⟨.FC_MASK_LO, 0, 32, .rw, .any 32, false⟩
-- FC_MASK_HI: 14_faults_and_containment.md, Table 14.7, R384
def FC_MASK_HI_MASK : Fld := ⟨.FC_MASK_HI, 0, 24, .rw, .any 24, false⟩
-- FC_FIRST: 14_faults_and_containment.md, Table 14.7, R384
def FC_FIRST_VALID : Fld := ⟨.FC_FIRST, 31, 1, .rw1c, .any 1, false⟩
def FC_FIRST_UNIT : Fld := ⟨.FC_FIRST, 0, 6, .ro, .any 6, false⟩
-- FC_STATE: 14_faults_and_containment.md, Table 14.8, R384
def FC_STATE_NODE_STATE : Fld := ⟨.FC_STATE, 30, 2, .ro, .any 2, false⟩
def FC_STATE_GRAVE_VALID : Fld := ⟨.FC_STATE, 29, 1, .ro, .any 1, false⟩
def FC_STATE_GRAVE_UNIT : Fld := ⟨.FC_STATE, 16, 6, .ro, .any 6, false⟩
def FC_STATE_NODE_RESETS : Fld := ⟨.FC_STATE, 8, 8, .ro, .any 8, false⟩
-- FC_POLICY: 14_faults_and_containment.md, Table 14.8, R384
def FC_POLICY_NODE_MAX : Fld := ⟨.FC_POLICY, 28, 4, .rw, .range 1 15, false⟩
def FC_POLICY_NODE_WINDOW : Fld := ⟨.FC_POLICY, 20, 8, .rw, .range 1 255, false⟩
def FC_POLICY_T_WARN : Fld := ⟨.FC_POLICY, 13, 7, .rw, .range 80 125, false⟩
-- FC_INJECT: 14_faults_and_containment.md, Table 14.8, R384
def FC_INJECT_CLASS : Fld := ⟨.FC_INJECT, 29, 3, .wo, .any 3, true⟩
def FC_INJECT_SCOPE : Fld := ⟨.FC_INJECT, 26, 3, .wo, .any 3, true⟩
def FC_INJECT_SCOPE_ID : Fld := ⟨.FC_INJECT, 20, 6, .wo, .any 6, true⟩
def FC_INJECT_INSTANCE : Fld := ⟨.FC_INJECT, 11, 9, .wo, .any 9, true⟩
def FC_INJECT_INST_VALID : Fld := ⟨.FC_INJECT, 10, 1, .wo, .any 1, true⟩
def FC_INJECT_CODE : Fld := ⟨.FC_INJECT, 0, 10, .wo, .any 10, true⟩
-- FC_PORT: 14_faults_and_containment.md, Table 14.9, R384
def FC_PORT_DPC_TRIG : Fld := ⟨.FC_PORT, 30, 2, .rw, .reserving 2 [(3, 3)], false⟩
def FC_PORT_CYCLE_EN : Fld := ⟨.FC_PORT, 29, 1, .rw, .any 1, false⟩
def FC_PORT_ESC_COUNT : Fld := ⟨.FC_PORT, 25, 4, .rw, .range 1 15, false⟩
def FC_PORT_ESC_WINDOW : Fld := ⟨.FC_PORT, 17, 8, .rw, .range 1 255, false⟩
def FC_PORT_CYCLE_HOLD : Fld := ⟨.FC_PORT, 9, 8, .rw, .range 1 255, false⟩
def FC_PORT_RECOVER : Fld := ⟨.FC_PORT, 3, 6, .rw, .range 1 63, false⟩
def FC_PORT_RUNG : Fld := ⟨.FC_PORT, 1, 2, .ro, .any 2, false⟩
def FC_PORT_REL : Fld := ⟨.FC_PORT, 0, 1, .wo, .any 1, true⟩
-- MB_STATUS: 15_mailboxes_and_firmware.md, Table 15.3, R389
def MB_STATUS_DEFERRED : Fld := ⟨.MB_STATUS, 8, 4, .ro, .any 4, false⟩
def MB_STATUS_FW_READY : Fld := ⟨.MB_STATUS, 6, 1, .ro, .any 1, false⟩
def MB_STATUS_CMD_ERR : Fld := ⟨.MB_STATUS, 5, 1, .rw1c, .any 1, false⟩
def MB_STATUS_WR_DROP : Fld := ⟨.MB_STATUS, 4, 1, .rw1c, .any 1, false⟩
def MB_STATUS_STATE : Fld := ⟨.MB_STATUS, 1, 2, .ro, .any 2, false⟩
def MB_STATUS_CMD_DONE : Fld := ⟨.MB_STATUS, 0, 1, .rw1c, .any 1, false⟩
-- MB_CTRL: 15_mailboxes_and_firmware.md, Table 15.3, R389
def MB_CTRL_IRQ_EN : Fld := ⟨.MB_CTRL, 0, 1, .rw, .any 1, false⟩
-- MB_DOORBELL: 15_mailboxes_and_firmware.md, Table 15.3, R389
def MB_DOORBELL_GO : Fld := ⟨.MB_DOORBELL, 0, 1, .wo, .any 1, true⟩
-- MB_RSP_LEN: 15_mailboxes_and_firmware.md, Table 15.3, R389
def MB_RSP_LEN_LEN : Fld := ⟨.MB_RSP_LEN, 0, 12, .ro, .any 12, false⟩
-- MB_BUSY: 15_mailboxes_and_firmware.md, Table 15.3, R389
def MB_BUSY_ACTIVATING : Fld := ⟨.MB_BUSY, 31, 1, .ro, .any 1, false⟩
def MB_BUSY_RESTARTING : Fld := ⟨.MB_BUSY, 30, 1, .ro, .any 1, false⟩
def MB_BUSY_RETRY_MS : Fld := ⟨.MB_BUSY, 0, 16, .ro, .any 16, false⟩
-- MB_SEQ: 15_mailboxes_and_firmware.md, Table 15.3, R389
def MB_SEQ_LAST_SEQ : Fld := ⟨.MB_SEQ, 0, 16, .ro, .any 16, false⟩
-- MB_EQ_HEAD: 15_mailboxes_and_firmware.md, Table 15.4, R394
def MB_EQ_HEAD_HEAD : Fld := ⟨.MB_EQ_HEAD, 0, 6, .rw, .any 6, true⟩
-- MB_EQ_TAIL: 15_mailboxes_and_firmware.md, Table 15.4, R394
def MB_EQ_TAIL_TAIL : Fld := ⟨.MB_EQ_TAIL, 0, 6, .ro, .any 6, false⟩
-- MB_EQ_STATUS: 15_mailboxes_and_firmware.md, Table 15.4, R394
def MB_EQ_STATUS_HELD : Fld := ⟨.MB_EQ_STATUS, 2, 1, .ro, .any 1, false⟩
def MB_EQ_STATUS_LOST : Fld := ⟨.MB_EQ_STATUS, 1, 1, .rw1c, .any 1, false⟩
def MB_EQ_STATUS_NOT_EMPTY : Fld := ⟨.MB_EQ_STATUS, 0, 1, .ro, .any 1, false⟩
-- MB_EQ_LOST: 15_mailboxes_and_firmware.md, Table 15.4, R394
def MB_EQ_LOST_COUNT : Fld := ⟨.MB_EQ_LOST, 0, 32, .ro, .any 32, false⟩
-- MB_EQ_BACKLOG: 15_mailboxes_and_firmware.md, Table 15.4, R394
def MB_EQ_BACKLOG_COUNT : Fld := ⟨.MB_EQ_BACKLOG, 0, 9, .ro, .any 9, false⟩
-- PMON_CTRL: 17_performance_monitor.md, Table 17.10, R444
def PMON_CTRL_CLR_FLT : Fld := ⟨.PMON_CTRL, 1, 1, .wo, .any 1, true⟩
def PMON_CTRL_CLR_EVT : Fld := ⟨.PMON_CTRL, 0, 1, .wo, .any 1, true⟩
-- PMON_STATUS: 17_performance_monitor.md, Table 17.10, R444
def PMON_STATUS_SHV_WAITING : Fld := ⟨.PMON_STATUS, 4, 14, .ro, .any 14, false⟩
def PMON_STATUS_SHV_LOST : Fld := ⟨.PMON_STATUS, 0, 1, .rw1c, .any 1, false⟩
-- PMON_SHV: 17_performance_monitor.md, Table 17.10, R444
def PMON_SHV_EN : Fld := ⟨.PMON_SHV, 31, 1, .rw, .any 1, false⟩
def PMON_SHV_FILT_EN : Fld := ⟨.PMON_SHV, 12, 1, .rw, .any 1, false⟩
def PMON_SHV_FILTER : Fld := ⟨.PMON_SHV, 6, 6, .rw, .any 6, false⟩
def PMON_SHV_K : Fld := ⟨.PMON_SHV, 0, 5, .rw, .range 4 24, false⟩
-- PMON_SHV_SEED: 17_performance_monitor.md, Table 17.10, R444
def PMON_SHV_SEED_SEED : Fld := ⟨.PMON_SHV_SEED, 0, 32, .rw, .reserving 32 [(0, 0)], true⟩
-- PMON_BW_CFG: 17_performance_monitor.md, Table 17.10, R444
def PMON_BW_CFG_EN : Fld := ⟨.PMON_BW_CFG, 31, 1, .rw, .any 1, true⟩
def PMON_BW_CFG_LEN : Fld := ⟨.PMON_BW_CFG, 0, 20, .rw, .range 10 1000000, true⟩
-- PMON_BW_INFO: 17_performance_monitor.md, Table 17.10, R444
def PMON_BW_INFO_SEQ : Fld := ⟨.PMON_BW_INFO, 16, 16, .ro, .any 16, false⟩
def PMON_BW_INFO_HOLDOVER : Fld := ⟨.PMON_BW_INFO, 2, 1, .ro, .any 1, false⟩
def PMON_BW_INFO_LOCAL : Fld := ⟨.PMON_BW_INFO, 1, 1, .ro, .any 1, false⟩
def PMON_BW_INFO_PARTIAL : Fld := ⟨.PMON_BW_INFO, 0, 1, .ro, .any 1, false⟩
-- PMON_BW_DUR: 17_performance_monitor.md, Table 17.10, R444
def PMON_BW_DUR_DUR : Fld := ⟨.PMON_BW_DUR, 0, 20, .ro, .any 20, false⟩
-- PMON_BW_STAT: 17_performance_monitor.md, Table 17.10, R444
def PMON_BW_STAT_CHANGED : Fld := ⟨.PMON_BW_STAT, 31, 1, .ro, .any 1, false⟩
def PMON_BW_STAT_UTIL_RX : Fld := ⟨.PMON_BW_STAT, 11, 11, .ro, .any 11, false⟩
def PMON_BW_STAT_UTIL_TX : Fld := ⟨.PMON_BW_STAT, 0, 11, .ro, .any 11, false⟩
-- FLT_BASE: 17_performance_monitor.md, Table 17.11, R444
def FLT_BASE_BASE : Fld := ⟨.FLT_BASE, 12, 52, .rw, .any 52, false⟩
def FLT_BASE_ADDR_EN : Fld := ⟨.FLT_BASE, 0, 1, .rw, .any 1, false⟩
-- FLT_LIM: 17_performance_monitor.md, Table 17.11, R444
def FLT_LIM_LIMIT : Fld := ⟨.FLT_LIM, 12, 52, .rw, .any 52, false⟩
-- FLT_MATCH: 17_performance_monitor.md, Table 17.11, R444
def FLT_MATCH_RID : Fld := ⟨.FLT_MATCH, 16, 16, .rw, .any 16, false⟩
def FLT_MATCH_RID_MASK : Fld := ⟨.FLT_MATCH, 0, 16, .rw, .any 16, false⟩
-- FLT_CTRL: 17_performance_monitor.md, Table 17.11, R444
def FLT_CTRL_EN : Fld := ⟨.FLT_CTRL, 31, 1, .rw, .any 1, true⟩
def FLT_CTRL_POINT : Fld := ⟨.FLT_CTRL, 30, 1, .rw, .any 1, true⟩
def FLT_CTRL_PORT : Fld := ⟨.FLT_CTRL, 24, 6, .rw, .reserving 6 [(49, 62)], true⟩
def FLT_CTRL_PART_ANY : Fld := ⟨.FLT_CTRL, 23, 1, .rw, .any 1, true⟩
def FLT_CTRL_PART : Fld := ⟨.FLT_CTRL, 17, 6, .rw, .any 6, true⟩
def FLT_CTRL_KIND : Fld := ⟨.FLT_CTRL, 14, 3, .rw, .any 3, true⟩
def FLT_CTRL_TYPE : Fld := ⟨.FLT_CTRL, 8, 6, .rw, .any 6, true⟩
def FLT_CTRL_VC : Fld := ⟨.FLT_CTRL, 3, 5, .rw, .any 5, true⟩
def FLT_CTRL_CLASS : Fld := ⟨.FLT_CTRL, 1, 2, .rw, .any 2, true⟩
def FLT_CTRL_MODE : Fld := ⟨.FLT_CTRL, 0, 1, .rw, .any 1, true⟩
-- PWR_CTRL: 18_power_states.md, Table 18.8, R460
def PWR_CTRL_AUTO_JOIN : Fld := ⟨.PWR_CTRL, 4, 1, .rw, .any 1, false⟩
def PWR_CTRL_SL3_COLD_OK : Fld := ⟨.PWR_CTRL, 3, 1, .rw, .any 1, false⟩
def PWR_CTRL_AUTO_SL1 : Fld := ⟨.PWR_CTRL, 2, 1, .rw, .any 1, false⟩
def PWR_CTRL_PL_TARGET : Fld := ⟨.PWR_CTRL, 0, 2, .rw, .any 2, true⟩
-- PWR_STATUS: 18_power_states.md, Table 18.8, R460
def PWR_STATUS_STATE : Fld := ⟨.PWR_STATUS, 29, 3, .ro, .any 3, false⟩
def PWR_STATUS_LAST_SL : Fld := ⟨.PWR_STATUS, 27, 2, .ro, .any 2, false⟩
def PWR_STATUS_LAST_WAKE : Fld := ⟨.PWR_STATUS, 22, 5, .ro, .any 5, false⟩
def PWR_STATUS_V_FAIL : Fld := ⟨.PWR_STATUS, 3, 1, .rw1c, .any 1, false⟩
def PWR_STATUS_MOVING : Fld := ⟨.PWR_STATUS, 2, 1, .ro, .any 1, false⟩
def PWR_STATUS_PL : Fld := ⟨.PWR_STATUS, 0, 2, .ro, .any 2, false⟩
-- PWR_DVFS: 18_power_states.md, Table 18.8, R460
def PWR_DVFS_V_TMO : Fld := ⟨.PWR_DVFS, 16, 8, .rw, .range 5 100, false⟩
def PWR_DVFS_V_SLEW : Fld := ⟨.PWR_DVFS, 0, 5, .rw, .range 1 20, false⟩
-- PWR_IDLE: 18_power_states.md, Table 18.8, R460
def PWR_IDLE_SL1_IDLE : Fld := ⟨.PWR_IDLE, 0, 14, .rw, .range 1 10000, false⟩
-- PWR_SLEEP: 18_power_states.md, Table 18.8, R460
def PWR_SLEEP_DRAIN : Fld := ⟨.PWR_SLEEP, 0, 10, .rw, .range 0 1000, false⟩
-- PWR_WAKE_EN: 18_power_states.md, Table 18.9, R460
def PWR_WAKE_EN_GPIO : Fld := ⟨.PWR_WAKE_EN, 16, 16, .rw, .any 16, false⟩
def PWR_WAKE_EN_SMBUS : Fld := ⟨.PWR_WAKE_EN, 2, 1, .rw, .any 1, false⟩
def PWR_WAKE_EN_UP : Fld := ⟨.PWR_WAKE_EN, 1, 1, .rw, .any 1, false⟩
def PWR_WAKE_EN_TLP : Fld := ⟨.PWR_WAKE_EN, 0, 1, .rw, .any 1, false⟩
-- PWR_WAKE_STAT: 18_power_states.md, Table 18.9, R460
def PWR_WAKE_STAT_GPIO : Fld := ⟨.PWR_WAKE_STAT, 16, 16, .rw1c, .any 16, false⟩
def PWR_WAKE_STAT_PFW : Fld := ⟨.PWR_WAKE_STAT, 5, 1, .rw1c, .any 1, false⟩
def PWR_WAKE_STAT_TIMER : Fld := ⟨.PWR_WAKE_STAT, 4, 1, .rw1c, .any 1, false⟩
def PWR_WAKE_STAT_MAILBOX : Fld := ⟨.PWR_WAKE_STAT, 3, 1, .rw1c, .any 1, false⟩
def PWR_WAKE_STAT_SMBUS : Fld := ⟨.PWR_WAKE_STAT, 2, 1, .rw1c, .any 1, false⟩
def PWR_WAKE_STAT_UP : Fld := ⟨.PWR_WAKE_STAT, 1, 1, .rw1c, .any 1, false⟩
def PWR_WAKE_STAT_TLP : Fld := ⟨.PWR_WAKE_STAT, 0, 1, .rw1c, .any 1, false⟩
-- PWR_PADHOLD: 18_power_states.md, Table 18.9, R460
def PWR_PADHOLD_SLOT : Fld := ⟨.PWR_PADHOLD, 2, 1, .rw1c, .any 1, true⟩
def PWR_PADHOLD_GPIO : Fld := ⟨.PWR_PADHOLD, 1, 1, .rw1c, .any 1, true⟩
def PWR_PADHOLD_RING : Fld := ⟨.PWR_PADHOLD, 0, 1, .rw1c, .any 1, true⟩
-- PWR_WAKE_TMR: 18_power_states.md, Table 18.9, R460
def PWR_WAKE_TMR_SECONDS : Fld := ⟨.PWR_WAKE_TMR, 0, 32, .rw, .any 32, false⟩
-- PWR_SLOT_WAS_ON: 18_power_states.md, Table 18.9, R460
def PWR_SLOT_WAS_ON_CHAN : Fld := ⟨.PWR_SLOT_WAS_ON, 0, 12, .ro, .any 12, false⟩
-- CLK_CTRL: 19_clocks.md, Table 19.8, R478
def CLK_CTRL_AUTO_RETURN : Fld := ⟨.CLK_CTRL, 4, 1, .rw, .any 1, false⟩
def CLK_CTRL_REF_B_EN : Fld := ⟨.CLK_CTRL, 3, 1, .rw, .any 1, false⟩
def CLK_CTRL_REF_A_EN : Fld := ⟨.CLK_CTRL, 2, 1, .rw, .any 1, false⟩
def CLK_CTRL_REF_PRI : Fld := ⟨.CLK_CTRL, 0, 2, .rw, .reserving 2 [(2, 3)], false⟩
-- CLK_SR: 19_clocks.md, Table 19.8, R478
def CLK_SR_TOL : Fld := ⟨.CLK_SR, 22, 10, .rw, .range 100 1000, false⟩
def CLK_SR_RETURN_WIN : Fld := ⟨.CLK_SR, 14, 8, .rw, .range 1 255, false⟩
def CLK_SR_WIN : Fld := ⟨.CLK_SR, 0, 5, .rw, .range 12 16, false⟩
-- CLK_STATUS: 19_clocks.md, Table 19.8, R478
def CLK_STATUS_XTAL : Fld := ⟨.CLK_STATUS, 30, 2, .ro, .any 2, false⟩
def CLK_STATUS_REF_A : Fld := ⟨.CLK_STATUS, 28, 2, .ro, .any 2, false⟩
def CLK_STATUS_REF_B : Fld := ⟨.CLK_STATUS, 26, 2, .ro, .any 2, false⟩
def CLK_STATUS_LF : Fld := ⟨.CLK_STATUS, 24, 2, .ro, .any 2, false⟩
def CLK_STATUS_CPLL_SRC : Fld := ⟨.CLK_STATUS, 22, 2, .ro, .any 2, false⟩
def CLK_STATUS_TPLL_SRC : Fld := ⟨.CLK_STATUS, 20, 2, .ro, .any 2, false⟩
def CLK_STATUS_SPLL_SRC : Fld := ⟨.CLK_STATUS, 18, 2, .ro, .any 2, false⟩
def CLK_STATUS_REFDIST_SRC : Fld := ⟨.CLK_STATUS, 16, 2, .ro, .any 2, false⟩
def CLK_STATUS_CPLL_LOCK : Fld := ⟨.CLK_STATUS, 15, 1, .ro, .any 1, false⟩
def CLK_STATUS_TPLL_LOCK : Fld := ⟨.CLK_STATUS, 14, 1, .ro, .any 1, false⟩
def CLK_STATUS_SPLL_LOCK : Fld := ⟨.CLK_STATUS, 13, 1, .ro, .any 1, false⟩
def CLK_STATUS_EARLY : Fld := ⟨.CLK_STATUS, 12, 1, .ro, .any 1, false⟩
def CLK_STATUS_TIME_JUDGED : Fld := ⟨.CLK_STATUS, 11, 1, .ro, .any 1, false⟩
-- CLK_MEAS: 19_clocks.md, Table 19.8, R478
def CLK_MEAS_MEAS_B : Fld := ⟨.CLK_MEAS, 16, 16, .ro, .any 16, false⟩
def CLK_MEAS_MEAS_A : Fld := ⟨.CLK_MEAS, 0, 16, .ro, .any 16, false⟩
-- CLK_AVS: 19_clocks.md, Table 19.8, R478
def CLK_AVS_READBACK : Fld := ⟨.CLK_AVS, 16, 16, .ro, .any 16, false⟩
def CLK_AVS_BUSY : Fld := ⟨.CLK_AVS, 0, 1, .ro, .any 1, false⟩
-- PST_CTRL: 20_supplies_and_holdup.md, Table 20.4, R495
def PST_CTRL_FEED_B_FIT : Fld := ⟨.PST_CTRL, 5, 1, .rw, .any 1, false⟩
def PST_CTRL_FEED_A_FIT : Fld := ⟨.PST_CTRL, 4, 1, .rw, .any 1, false⟩
def PST_CTRL_HUV_PF_EN : Fld := ⟨.PST_CTRL, 3, 1, .rw, .any 1, false⟩
def PST_CTRL_FEED_PF_EN : Fld := ⟨.PST_CTRL, 2, 1, .rw, .any 1, false⟩
def PST_CTRL_CH1_FIT : Fld := ⟨.PST_CTRL, 1, 1, .rw, .any 1, false⟩
def PST_CTRL_CH0_FIT : Fld := ⟨.PST_CTRL, 0, 1, .rw, .any 1, false⟩
-- PST_STATUS: 20_supplies_and_holdup.md, Table 20.4, R495
def PST_STATUS_PF_HOLD : Fld := ⟨.PST_STATUS, 8, 1, .ro, .any 1, false⟩
def PST_STATUS_HUV_ERR : Fld := ⟨.PST_STATUS, 7, 1, .ro, .any 1, false⟩
def PST_STATUS_CH1_FAIL : Fld := ⟨.PST_STATUS, 6, 1, .ro, .any 1, false⟩
def PST_STATUS_CH0_FAIL : Fld := ⟨.PST_STATUS, 5, 1, .ro, .any 1, false⟩
def PST_STATUS_FEED_B_GOOD : Fld := ⟨.PST_STATUS, 4, 1, .ro, .any 1, false⟩
def PST_STATUS_FEED_A_GOOD : Fld := ⟨.PST_STATUS, 3, 1, .ro, .any 1, false⟩
def PST_STATUS_PFW : Fld := ⟨.PST_STATUS, 2, 1, .ro, .any 1, false⟩
def PST_STATUS_PF_SRC : Fld := ⟨.PST_STATUS, 0, 2, .ro, .any 2, false⟩
-- PST_BANK: 20_supplies_and_holdup.md, Table 20.4, R495
def PST_BANK_C_BANK : Fld := ⟨.PST_BANK, 16, 16, .rw, .any 16, false⟩
def PST_BANK_SHARE : Fld := ⟨.PST_BANK, 0, 9, .rw, .range 0 256, false⟩
-- PST_VLIM: 20_supplies_and_holdup.md, Table 20.4, R495
def PST_VLIM_V_TOP : Fld := ⟨.PST_VLIM, 16, 10, .rw, .range 50 1000, false⟩
def PST_VLIM_V_MIN : Fld := ⟨.PST_VLIM, 0, 10, .rw, .range 50 1000, false⟩
-- PST_HUV_CFG: 20_supplies_and_holdup.md, Table 20.4, R495
def PST_HUV_CFG_HUV_PF : Fld := ⟨.PST_HUV_CFG, 16, 10, .rw, .range 0 1000, false⟩
def PST_HUV_CFG_DIV : Fld := ⟨.PST_HUV_CFG, 0, 16, .rw, .range 100 10000, false⟩
-- PST_HUV_MEAS: 20_supplies_and_holdup.md, Table 20.4, R495
def PST_HUV_MEAS_EAVAIL : Fld := ⟨.PST_HUV_MEAS, 16, 16, .ro, .any 16, false⟩
def PST_HUV_MEAS_VHUV : Fld := ⟨.PST_HUV_MEAS, 0, 16, .ro, .any 16, false⟩
-- PST_FEED_CFG: 20_supplies_and_holdup.md, Table 20.5, R495
def PST_FEED_CFG_FEED_PF_T : Fld := ⟨.PST_FEED_CFG, 24, 8, .rw, .any 8, false⟩
def PST_FEED_CFG_V_OV : Fld := ⟨.PST_FEED_CFG, 16, 8, .rw, .range 80 160, false⟩
def PST_FEED_CFG_V_ON : Fld := ⟨.PST_FEED_CFG, 8, 8, .rw, .range 80 160, false⟩
def PST_FEED_CFG_V_OFF : Fld := ⟨.PST_FEED_CFG, 0, 8, .rw, .range 80 160, false⟩
-- PST_FEED_DIV: 20_supplies_and_holdup.md, Table 20.5, R495
def PST_FEED_DIV_B : Fld := ⟨.PST_FEED_DIV, 16, 16, .rw, .range 100 10000, false⟩
def PST_FEED_DIV_A : Fld := ⟨.PST_FEED_DIV, 0, 16, .rw, .range 100 10000, false⟩
-- PST_FEED_MEAS: 20_supplies_and_holdup.md, Table 20.5, R495
def PST_FEED_MEAS_FEED_B : Fld := ⟨.PST_FEED_MEAS, 16, 16, .ro, .any 16, false⟩
def PST_FEED_MEAS_FEED_A : Fld := ⟨.PST_FEED_MEAS, 0, 16, .ro, .any 16, false⟩
-- PST_TIMERS: 20_supplies_and_holdup.md, Table 20.5, R495
def PST_TIMERS_FEED_GOOD_T : Fld := ⟨.PST_TIMERS, 0, 8, .rw, .range 1 255, false⟩
-- MB_STRAP: 21_reset_and_bringup.md, Table 21.10, R513
def MB_STRAP_BOOT_MODE : Fld := ⟨.MB_STRAP, 10, 2, .ro, .any 2, false⟩
def MB_STRAP_SMB_ADDR : Fld := ⟨.MB_STRAP, 7, 3, .ro, .any 3, false⟩
def MB_STRAP_FMGR_EN : Fld := ⟨.MB_STRAP, 6, 1, .ro, .any 1, false⟩
def MB_STRAP_NODE_ID : Fld := ⟨.MB_STRAP, 0, 4, .ro, .any 4, false⟩
-- MB_RESET_CAUSE: 21_reset_and_bringup.md, Table 21.10, R513
def MB_RESET_CAUSE_PF_RESET : Fld := ⟨.MB_RESET_CAUSE, 4, 1, .rw1c, .any 1, false⟩
def MB_RESET_CAUSE_FAULT : Fld := ⟨.MB_RESET_CAUSE, 3, 1, .rw1c, .any 1, false⟩
def MB_RESET_CAUSE_SL3_WAKE : Fld := ⟨.MB_RESET_CAUSE, 2, 1, .rw1c, .any 1, false⟩
def MB_RESET_CAUSE_RAIL : Fld := ⟨.MB_RESET_CAUSE, 1, 1, .rw1c, .any 1, false⟩
def MB_RESET_CAUSE_FULL : Fld := ⟨.MB_RESET_CAUSE, 0, 1, .rw1c, .any 1, false⟩
-- MB_BOOT: 21_reset_and_bringup.md, Table 21.10, R513
def MB_BOOT_STAGE : Fld := ⟨.MB_BOOT, 24, 8, .ro, .any 8, false⟩
def MB_BOOT_FALLBACK : Fld := ⟨.MB_BOOT, 23, 1, .ro, .any 1, false⟩
def MB_BOOT_SLOT : Fld := ⟨.MB_BOOT, 22, 1, .ro, .any 1, false⟩
def MB_BOOT_STORE_USED : Fld := ⟨.MB_BOOT, 21, 1, .ro, .any 1, false⟩
def MB_BOOT_RECORD_OK : Fld := ⟨.MB_BOOT, 20, 1, .ro, .any 1, false⟩
-- PWR_THERM: 23_electrical_and_thermal.md, Table 23.13, R542
def PWR_THERM_SENSOR : Fld := ⟨.PWR_THERM, 24, 3, .ro, .any 3, false⟩
def PWR_THERM_TJ_PEAK : Fld := ⟨.PWR_THERM, 16, 8, .ro, .any 8, false⟩
def PWR_THERM_TJ : Fld := ⟨.PWR_THERM, 0, 8, .ro, .any 8, false⟩
-- RING_HOME: 01_ring_fabric.md, Table 01.13, R43
def RING_HOME_PLANE_B : Fld := ⟨.RING_HOME, 0, 16, .rw, .any 16, false⟩
-- ML_CREDIT_STAT: 02_maelryn_link.md, Table 02.22, R81
def ML_CREDIT_STAT_IN_USE : Fld := ⟨.ML_CREDIT_STAT, 16, 16, .ro, .any 16, false⟩
def ML_CREDIT_STAT_HELD : Fld := ⟨.ML_CREDIT_STAT, 0, 16, .ro, .any 16, false⟩
-- ML_CNT_RS_CORR: 02_maelryn_link.md, Table 02.22, R81
def ML_CNT_RS_CORR_COUNT : Fld := ⟨.ML_CNT_RS_CORR, 0, 32, .ro, .any 32, false⟩
-- ML_CNT_UNCORR: 02_maelryn_link.md, Table 02.22, R81
def ML_CNT_UNCORR_COUNT : Fld := ⟨.ML_CNT_UNCORR, 0, 32, .ro, .any 32, false⟩
-- ML_CNT_CRC: 02_maelryn_link.md, Table 02.22, R81
def ML_CNT_CRC_COUNT : Fld := ⟨.ML_CNT_CRC, 0, 32, .ro, .any 32, false⟩
-- ML_CNT_DUP: 02_maelryn_link.md, Table 02.22, R81
def ML_CNT_DUP_COUNT : Fld := ⟨.ML_CNT_DUP, 0, 32, .ro, .any 32, false⟩
-- ML_CNT_REPLAY: 02_maelryn_link.md, Table 02.22, R81
def ML_CNT_REPLAY_COUNT : Fld := ⟨.ML_CNT_REPLAY, 0, 32, .ro, .any 32, false⟩
-- ML_CNT_STALE_ACK: 02_maelryn_link.md, Table 02.22, R81
def ML_CNT_STALE_ACK_COUNT : Fld := ⟨.ML_CNT_STALE_ACK, 0, 32, .ro, .any 32, false⟩
-- ML_CNT_LEAK: 02_maelryn_link.md, Table 02.22, R81
def ML_CNT_LEAK_COUNT : Fld := ⟨.ML_CNT_LEAK, 0, 32, .ro, .any 32, false⟩
-- ML_CNT_RETRAIN: 02_maelryn_link.md, Table 02.22, R81
def ML_CNT_RETRAIN_COUNT : Fld := ⟨.ML_CNT_RETRAIN, 0, 32, .ro, .any 32, false⟩
-- ML_CNT_LINKDOWN: 02_maelryn_link.md, Table 02.22, R81
def ML_CNT_LINKDOWN_COUNT : Fld := ⟨.ML_CNT_LINKDOWN, 0, 32, .ro, .any 32, false⟩
-- ML_CNT_TT_REPLAY: 02_maelryn_link.md, Table 02.22, R81
def ML_CNT_TT_REPLAY_COUNT : Fld := ⟨.ML_CNT_TT_REPLAY, 0, 32, .ro, .any 32, false⟩
-- ML_CNT_PROTOCOL: 02_maelryn_link.md, Table 02.22, R81
def ML_CNT_PROTOCOL_COUNT : Fld := ⟨.ML_CNT_PROTOCOL, 0, 32, .ro, .any 32, false⟩
-- ML_CNT_ABORT: 02_maelryn_link.md, Table 02.22, R81
def ML_CNT_ABORT_COUNT : Fld := ⟨.ML_CNT_ABORT, 0, 32, .ro, .any 32, false⟩
-- PART_CNT_STALE: 03_partitions_and_sharing.md, Table 03.14, R112
def PART_CNT_STALE_COUNT : Fld := ⟨.PART_CNT_STALE, 0, 32, .ro, .any 32, false⟩
-- PART_CNT_UNASSIGNED: 03_partitions_and_sharing.md, Table 03.14, R112
def PART_CNT_UNASSIGNED_COUNT : Fld := ⟨.PART_CNT_UNASSIGNED, 0, 32, .ro, .any 32, false⟩
-- PART_CNT_FROZEN: 03_partitions_and_sharing.md, Table 03.14, R112
def PART_CNT_FROZEN_COUNT : Fld := ⟨.PART_CNT_FROZEN, 0, 32, .ro, .any 32, false⟩
-- PART_CNT_SYNTH: 03_partitions_and_sharing.md, Table 03.14, R112
def PART_CNT_SYNTH_COUNT : Fld := ⟨.PART_CNT_SYNTH, 0, 32, .ro, .any 32, false⟩
-- PART_CNT_QUAR: 03_partitions_and_sharing.md, Table 03.14, R112
def PART_CNT_QUAR_COUNT : Fld := ⟨.PART_CNT_QUAR, 0, 32, .ro, .any 32, false⟩
-- PART_CNT_TMO: 03_partitions_and_sharing.md, Table 03.14, R112
def PART_CNT_TMO_COUNT : Fld := ⟨.PART_CNT_TMO, 0, 32, .ro, .any 32, false⟩
-- PART_NPQ: 03_partitions_and_sharing.md, Table 03.12, R112
def PART_NPQ_IN_USE : Fld := ⟨.PART_NPQ, 16, 15, .ro, .any 15, false⟩
def PART_NPQ_QUOTA : Fld := ⟨.PART_NPQ, 0, 15, .rw, .any 15, false⟩
-- WIN_CNT_MISS: 04_windows_and_peer_paths.md, Table 04.9, R133
def WIN_CNT_MISS_COUNT : Fld := ⟨.WIN_CNT_MISS, 0, 32, .ro, .any 32, false⟩
-- WIN_CNT_VIOL: 04_windows_and_peer_paths.md, Table 04.9, R133
def WIN_CNT_VIOL_COUNT : Fld := ⟨.WIN_CNT_VIOL, 0, 32, .ro, .any 32, false⟩
-- WIN_CNT_DENY: 04_windows_and_peer_paths.md, Table 04.9, R133
def WIN_CNT_DENY_COUNT : Fld := ⟨.WIN_CNT_DENY, 0, 32, .ro, .any 32, false⟩
-- WIN_CNT_REDIRECT: 04_windows_and_peer_paths.md, Table 04.9, R133
def WIN_CNT_REDIRECT_COUNT : Fld := ⟨.WIN_CNT_REDIRECT, 0, 32, .ro, .any 32, false⟩
-- WIN_GRANT_W: 04_windows_and_peer_paths.md, Table 04.6, R133
def WIN_GRANT_W_MASK : Fld := ⟨.WIN_GRANT_W, 0, 64, .rw, .any 64, false⟩
-- WIN_GRANT_R: 04_windows_and_peer_paths.md, Table 04.6, R133
def WIN_GRANT_R_MASK : Fld := ⟨.WIN_GRANT_R, 0, 64, .rw, .any 64, false⟩
-- SC_CNT_CT: 05_switch_core_and_ordering.md, Table 05.12, R154
def SC_CNT_CT_COUNT : Fld := ⟨.SC_CNT_CT, 0, 32, .ro, .any 32, false⟩
-- SC_CNT_SF: 05_switch_core_and_ordering.md, Table 05.12, R154
def SC_CNT_SF_COUNT : Fld := ⟨.SC_CNT_SF, 0, 32, .ro, .any 32, false⟩
-- SC_CNT_REFUSED: 05_switch_core_and_ordering.md, Table 05.12, R154
def SC_CNT_REFUSED_COUNT : Fld := ⟨.SC_CNT_REFUSED, 0, 32, .ro, .any 32, false⟩
-- SC_CNT_HOLD: 05_switch_core_and_ordering.md, Table 05.12, R154
def SC_CNT_HOLD_COUNT : Fld := ⟨.SC_CNT_HOLD, 0, 32, .ro, .any 32, false⟩
-- SC_CNT_FALLBACK: 05_switch_core_and_ordering.md, Table 05.12, R154
def SC_CNT_FALLBACK_COUNT : Fld := ⟨.SC_CNT_FALLBACK, 0, 32, .ro, .any 32, false⟩
-- SC_CNT_ECC_CORR: 05_switch_core_and_ordering.md, Table 05.12, R154
def SC_CNT_ECC_CORR_COUNT : Fld := ⟨.SC_CNT_ECC_CORR, 0, 32, .ro, .any 32, false⟩
-- SC_CNT_ECC_UNCORR: 05_switch_core_and_ordering.md, Table 05.12, R154
def SC_CNT_ECC_UNCORR_COUNT : Fld := ⟨.SC_CNT_ECC_UNCORR, 0, 32, .ro, .any 32, false⟩
-- JNL_CNT_RTX: 06_delivery_journal.md, Table 06.15, R191
def JNL_CNT_RTX_COUNT : Fld := ⟨.JNL_CNT_RTX, 0, 32, .ro, .any 32, false⟩
-- JNL_CNT_DUP: 06_delivery_journal.md, Table 06.15, R191
def JNL_CNT_DUP_COUNT : Fld := ⟨.JNL_CNT_DUP, 0, 32, .ro, .any 32, false⟩
-- JNL_CNT_GAP: 06_delivery_journal.md, Table 06.15, R191
def JNL_CNT_GAP_COUNT : Fld := ⟨.JNL_CNT_GAP, 0, 32, .ro, .any 32, false⟩
-- JNL_CNT_WINDOW: 06_delivery_journal.md, Table 06.15, R191
def JNL_CNT_WINDOW_COUNT : Fld := ⟨.JNL_CNT_WINDOW, 0, 32, .ro, .any 32, false⟩
-- JNL_CNT_UNSYNC: 06_delivery_journal.md, Table 06.15, R191
def JNL_CNT_UNSYNC_COUNT : Fld := ⟨.JNL_CNT_UNSYNC, 0, 32, .ro, .any 32, false⟩
-- JNL_CNT_UNDELIV: 06_delivery_journal.md, Table 06.15, R191
def JNL_CNT_UNDELIV_COUNT : Fld := ⟨.JNL_CNT_UNDELIV, 0, 32, .ro, .any 32, false⟩
-- JNL_CNT_PURGE: 06_delivery_journal.md, Table 06.15, R191
def JNL_CNT_PURGE_COUNT : Fld := ⟨.JNL_CNT_PURGE, 0, 32, .ro, .any 32, false⟩
-- JNL_CNT_ADM_WAIT: 06_delivery_journal.md, Table 06.15, R191
def JNL_CNT_ADM_WAIT_COUNT : Fld := ⟨.JNL_CNT_ADM_WAIT, 0, 32, .ro, .any 32, false⟩
-- SPN_CNT_DELAY_LOST: 07_spindle_time_and_turns.md, Table 07.16, R228
def SPN_CNT_DELAY_LOST_COUNT : Fld := ⟨.SPN_CNT_DELAY_LOST, 0, 32, .ro, .any 32, false⟩
-- SPN_CNT_STEP: 07_spindle_time_and_turns.md, Table 07.16, R228
def SPN_CNT_STEP_COUNT : Fld := ⟨.SPN_CNT_STEP, 0, 32, .ro, .any 32, false⟩
-- SPN_CNT_TURN: 07_spindle_time_and_turns.md, Table 07.16, R228
def SPN_CNT_TURN_COUNT : Fld := ⟨.SPN_CNT_TURN, 0, 32, .ro, .any 32, false⟩
-- SPN_CNT_TURN_LATE: 07_spindle_time_and_turns.md, Table 07.16, R228
def SPN_CNT_TURN_LATE_COUNT : Fld := ⟨.SPN_CNT_TURN_LATE, 0, 32, .ro, .any 32, false⟩
-- SPN_CNT_TURN_SKIP: 07_spindle_time_and_turns.md, Table 07.16, R228
def SPN_CNT_TURN_SKIP_COUNT : Fld := ⟨.SPN_CNT_TURN_SKIP, 0, 32, .ro, .any 32, false⟩
-- SPN_CNT_TURN_DROP: 07_spindle_time_and_turns.md, Table 07.16, R228
def SPN_CNT_TURN_DROP_COUNT : Fld := ⟨.SPN_CNT_TURN_DROP, 0, 32, .ro, .any 32, false⟩
-- SPN_CNT_CAP_LOST: 07_spindle_time_and_turns.md, Table 07.16, R228
def SPN_CNT_CAP_LOST_COUNT : Fld := ⟨.SPN_CNT_CAP_LOST, 0, 32, .ro, .any 32, false⟩
-- SPN_CNT_TT_UNBOUND: 07_spindle_time_and_turns.md, Table 07.16, R228
def SPN_CNT_TT_UNBOUND_COUNT : Fld := ⟨.SPN_CNT_TT_UNBOUND, 0, 32, .ro, .any 32, false⟩
-- SPN_TT_PART: 07_spindle_time_and_turns.md, Table 07.11, R228
def SPN_TT_PART_MASK : Fld := ⟨.SPN_TT_PART, 0, 64, .rw, .any 64, false⟩
-- SCH_CNT_EXCESS: 08_scheduling_and_shaping.md, Table 08.7, R247
def SCH_CNT_EXCESS_COUNT : Fld := ⟨.SCH_CNT_EXCESS, 0, 32, .ro, .any 32, false⟩
-- SCH_CNT_HELD: 08_scheduling_and_shaping.md, Table 08.7, R247
def SCH_CNT_HELD_COUNT : Fld := ⟨.SCH_CNT_HELD, 0, 32, .ro, .any 32, false⟩
-- SCH_CNT_STARVE: 08_scheduling_and_shaping.md, Table 08.7, R247
def SCH_CNT_STARVE_COUNT : Fld := ⟨.SCH_CNT_STARVE, 0, 32, .ro, .any 32, false⟩
-- SCH_CNT_BG: 08_scheduling_and_shaping.md, Table 08.7, R247
def SCH_CNT_BG_COUNT : Fld := ⟨.SCH_CNT_BG, 0, 32, .ro, .any 32, false⟩
-- SCH_CNT_TT_PRI: 08_scheduling_and_shaping.md, Table 08.7, R247
def SCH_CNT_TT_PRI_COUNT : Fld := ⟨.SCH_CNT_TT_PRI, 0, 32, .ro, .any 32, false⟩
-- SCH_CNT_TT_DRR: 08_scheduling_and_shaping.md, Table 08.7, R247
def SCH_CNT_TT_DRR_COUNT : Fld := ⟨.SCH_CNT_TT_DRR, 0, 32, .ro, .any 32, false⟩
-- DM_CNT_BYTES: 09_data_mover.md, Table 09.10, R272
def DM_CNT_BYTES_COUNT : Fld := ⟨.DM_CNT_BYTES, 0, 64, .ro, .any 64, false⟩
-- DM_CNT_START_MISS: 09_data_mover.md, Table 09.11, R273
def DM_CNT_START_MISS_COUNT : Fld := ⟨.DM_CNT_START_MISS, 0, 32, .ro, .any 32, false⟩
-- DM_CNT_STALE: 09_data_mover.md, Table 09.11, R273
def DM_CNT_STALE_COUNT : Fld := ⟨.DM_CNT_STALE, 0, 32, .ro, .any 32, false⟩
-- DM_CNT_HALT: 09_data_mover.md, Table 09.11, R273
def DM_CNT_HALT_COUNT : Fld := ⟨.DM_CNT_HALT, 0, 32, .ro, .any 32, false⟩
-- PX_CNT_MPS: 10_pcie_ports.md, Table 10.17, R302
def PX_CNT_MPS_COUNT : Fld := ⟨.PX_CNT_MPS, 0, 32, .ro, .any 32, false⟩
-- PX_CNT_ECRC: 10_pcie_ports.md, Table 10.17, R302
def PX_CNT_ECRC_COUNT : Fld := ⟨.PX_CNT_ECRC, 0, 32, .ro, .any 32, false⟩
-- PX_CNT_IDE_BLOCK: 10_pcie_ports.md, Table 10.17, R302
def PX_CNT_IDE_BLOCK_COUNT : Fld := ⟨.PX_CNT_IDE_BLOCK, 0, 32, .ro, .any 32, false⟩
-- PX_CNT_MALFORMED: 10_pcie_ports.md, Table 10.17, R302
def PX_CNT_MALFORMED_COUNT : Fld := ⟨.PX_CNT_MALFORMED, 0, 32, .ro, .any 32, false⟩
-- PX_CNT_RXERR: 10_pcie_ports.md, Table 10.17, R302
def PX_CNT_RXERR_COUNT : Fld := ⟨.PX_CNT_RXERR, 0, 32, .ro, .any 32, false⟩
-- PX_CNT_RECOV: 10_pcie_ports.md, Table 10.17, R302
def PX_CNT_RECOV_COUNT : Fld := ⟨.PX_CNT_RECOV, 0, 32, .ro, .any 32, false⟩
-- LB_CNT_WR: 11_local_bus_bridge.md, Table 11.11, R319
def LB_CNT_WR_COUNT : Fld := ⟨.LB_CNT_WR, 0, 32, .ro, .any 32, false⟩
-- LB_CNT_RD: 11_local_bus_bridge.md, Table 11.11, R319
def LB_CNT_RD_COUNT : Fld := ⟨.LB_CNT_RD, 0, 32, .ro, .any 32, false⟩
-- LB_CNT_RETRY: 11_local_bus_bridge.md, Table 11.11, R319
def LB_CNT_RETRY_COUNT : Fld := ⟨.LB_CNT_RETRY, 0, 32, .ro, .any 32, false⟩
-- LB_CNT_ERR: 11_local_bus_bridge.md, Table 11.11, R319
def LB_CNT_ERR_COUNT : Fld := ⟨.LB_CNT_ERR, 0, 32, .ro, .any 32, false⟩
-- LB_CNT_PREF_HIT: 11_local_bus_bridge.md, Table 11.11, R319
def LB_CNT_PREF_HIT_COUNT : Fld := ⟨.LB_CNT_PREF_HIT, 0, 32, .ro, .any 32, false⟩
-- LB_CNT_PREF_DISC: 11_local_bus_bridge.md, Table 11.11, R319
def LB_CNT_PREF_DISC_COUNT : Fld := ⟨.LB_CNT_PREF_DISC, 0, 32, .ro, .any 32, false⟩
-- LB_CNT_SEM_FORCED: 11_local_bus_bridge.md, Table 11.11, R319
def LB_CNT_SEM_FORCED_COUNT : Fld := ⟨.LB_CNT_SEM_FORCED, 0, 32, .ro, .any 32, false⟩
-- LB_CNT_SEM_BAD: 11_local_bus_bridge.md, Table 11.11, R319
def LB_CNT_SEM_BAD_COUNT : Fld := ⟨.LB_CNT_SEM_BAD, 0, 32, .ro, .any 32, false⟩
-- LN_LANE_CNT_CORR: 12_lanes_and_quads.md, Table 12.4, R340
def LN_LANE_CNT_CORR_COUNT : Fld := ⟨.LN_LANE_CNT_CORR, 0, 32, .ro, .any 32, false⟩
-- LN_LANE_CNT_LOCK: 12_lanes_and_quads.md, Table 12.4, R340
def LN_LANE_CNT_LOCK_COUNT : Fld := ⟨.LN_LANE_CNT_LOCK, 0, 32, .ro, .any 32, false⟩
-- LN_LANE_CNT_TEST: 12_lanes_and_quads.md, Table 12.4, R340
def LN_LANE_CNT_TEST_COUNT : Fld := ⟨.LN_LANE_CNT_TEST, 0, 32, .ro, .any 32, false⟩
-- SP_CNT_TRIP: 13_slot_power.md, Table 13.6, R361
def SP_CNT_TRIP_COUNT : Fld := ⟨.SP_CNT_TRIP, 0, 32, .ro, .any 32, false⟩
-- SP_CNT_RETRY: 13_slot_power.md, Table 13.6, R361
def SP_CNT_RETRY_COUNT : Fld := ⟨.SP_CNT_RETRY, 0, 32, .ro, .any 32, false⟩
-- FC_CNT_CLASS: 14_faults_and_containment.md, Table 14.6, R383
def FC_CNT_CLASS_COUNT : Fld := ⟨.FC_CNT_CLASS, 0, 32, .ro, .any 32, false⟩
-- FC_CNT_NODE_RESET: 14_faults_and_containment.md, Table 14.6, R383
def FC_CNT_NODE_RESET_COUNT : Fld := ⟨.FC_CNT_NODE_RESET, 0, 32, .ro, .any 32, false⟩
-- FC_CNT_CYCLE: 14_faults_and_containment.md, Table 14.6, R383
def FC_CNT_CYCLE_COUNT : Fld := ⟨.FC_CNT_CYCLE, 0, 32, .ro, .any 32, false⟩
-- MB_ACC_ERR: 15_mailboxes_and_firmware.md, Table 15.4, R395
def MB_ACC_ERR_COUNT : Fld := ⟨.MB_ACC_ERR, 0, 32, .ro, .any 32, false⟩
-- PMON_CNT_SHV_LOST: 17_performance_monitor.md, Table 17.10, R443
def PMON_CNT_SHV_LOST_COUNT : Fld := ⟨.PMON_CNT_SHV_LOST, 0, 32, .ro, .any 32, false⟩
-- PMON_CNT_SHV_SKIP: 17_performance_monitor.md, Table 17.10, R443
def PMON_CNT_SHV_SKIP_COUNT : Fld := ⟨.PMON_CNT_SHV_SKIP, 0, 32, .ro, .any 32, false⟩
-- PMON_EVT: 17_performance_monitor.md, Table 17.9, R443
def PMON_EVT_COUNT : Fld := ⟨.PMON_EVT, 0, 48, .ro, .any 48, false⟩
-- FLT_CNT: 17_performance_monitor.md, Table 17.9, R443
def FLT_CNT_COUNT : Fld := ⟨.FLT_CNT, 0, 48, .ro, .any 48, false⟩
-- PMON_BW_END: 17_performance_monitor.md, Table 17.9, R443
def PMON_BW_END_NS : Fld := ⟨.PMON_BW_END, 0, 64, .ro, .any 64, false⟩
-- PMON_BW_RX: 17_performance_monitor.md, Table 17.9, R443
def PMON_BW_RX_BYTES : Fld := ⟨.PMON_BW_RX, 0, 48, .ro, .any 48, false⟩
-- PMON_BW_TX: 17_performance_monitor.md, Table 17.9, R443
def PMON_BW_TX_BYTES : Fld := ⟨.PMON_BW_TX, 0, 48, .ro, .any 48, false⟩
-- PWR_CNT_PL: 18_power_states.md, Table 18.7, R459
def PWR_CNT_PL_COUNT : Fld := ⟨.PWR_CNT_PL, 0, 32, .ro, .any 32, false⟩
-- PWR_CNT_SLEEP: 18_power_states.md, Table 18.7, R459
def PWR_CNT_SLEEP_COUNT : Fld := ⟨.PWR_CNT_SLEEP, 0, 32, .ro, .any 32, false⟩
-- PWR_CNT_DVFS_FAIL: 18_power_states.md, Table 18.7, R459
def PWR_CNT_DVFS_FAIL_COUNT : Fld := ⟨.PWR_CNT_DVFS_FAIL, 0, 32, .ro, .any 32, false⟩
-- CLK_CNT_REJECT: 19_clocks.md, Table 19.7, R476
def CLK_CNT_REJECT_COUNT : Fld := ⟨.CLK_CNT_REJECT, 0, 32, .ro, .any 32, false⟩
-- CLK_CNT_SWITCH: 19_clocks.md, Table 19.7, R476
def CLK_CNT_SWITCH_COUNT : Fld := ⟨.CLK_CNT_SWITCH, 0, 32, .ro, .any 32, false⟩
-- CLK_CNT_RETURN: 19_clocks.md, Table 19.7, R476
def CLK_CNT_RETURN_COUNT : Fld := ⟨.CLK_CNT_RETURN, 0, 32, .ro, .any 32, false⟩
-- CLK_CNT_AVS_ERR: 19_clocks.md, Table 19.7, R476
def CLK_CNT_AVS_ERR_COUNT : Fld := ⟨.CLK_CNT_AVS_ERR, 0, 32, .ro, .any 32, false⟩
-- PST_CNT_PFW: 20_supplies_and_holdup.md, Table 20.3, R494
def PST_CNT_PFW_COUNT : Fld := ⟨.PST_CNT_PFW, 0, 32, .ro, .any 32, false⟩
-- PST_CNT_FEED_A: 20_supplies_and_holdup.md, Table 20.3, R494
def PST_CNT_FEED_A_COUNT : Fld := ⟨.PST_CNT_FEED_A, 0, 32, .ro, .any 32, false⟩
-- PST_CNT_FEED_B: 20_supplies_and_holdup.md, Table 20.3, R494
def PST_CNT_FEED_B_COUNT : Fld := ⟨.PST_CNT_FEED_B, 0, 32, .ro, .any 32, false⟩
-- PST_CNT_CH_ERR: 20_supplies_and_holdup.md, Table 20.3, R494
def PST_CNT_CH_ERR_COUNT : Fld := ⟨.PST_CNT_CH_ERR, 0, 32, .ro, .any 32, false⟩
-- SP_CNT_SWITCH: 13_slot_power.md, Table 13.6, R361
def SP_CNT_SWITCH_COUNT : Fld := ⟨.SP_CNT_SWITCH, 0, 32, .ro, .any 32, false⟩
-- SP_CNT_CYCLE: 13_slot_power.md, Table 13.6, R361
def SP_CNT_CYCLE_COUNT : Fld := ⟨.SP_CNT_CYCLE, 0, 32, .ro, .any 32, false⟩
-- SPN_TIME: 07_spindle_time_and_turns.md, Table 07.11, R228
def SPN_TIME_FRAC : Fld := ⟨.SPN_TIME, 0, 16, .ro, .any 16, false⟩
def SPN_TIME_NS : Fld := ⟨.SPN_TIME, 32, 64, .ro, .any 64, false⟩
-- FC_CAP: 14_faults_and_containment.md, Table 14.6, R382
def FC_CAP_WORD : Fld := ⟨.FC_CAP, 0, 32, .ro, .any 32, false⟩
-- FC_GRAVE: 14_faults_and_containment.md, Table 14.6, R382
def FC_GRAVE_WORD : Fld := ⟨.FC_GRAVE, 0, 32, .ro, .any 32, false⟩

/-- The fields of each register, from the lowest bit up. -/
def Reg.fields : Reg → List Fld
  | .RING_CTRL => [RING_CTRL_HOLD_A_EN, RING_CTRL_HOLD_B_EN, RING_CTRL_JOIN, RING_CTRL_LEAVE_A, RING_CTRL_LEAVE_B, RING_CTRL_RETURN_EN]
  | .RING_STATUS => [RING_STATUS_NODE_ID, RING_STATUS_COUNT_A, RING_STATUS_COUNT_B, RING_STATUS_STATE_A, RING_STATUS_STATE_B, RING_STATUS_HOLD_A, RING_STATUS_HOLD_B, RING_STATUS_DISC_ERR]
  | .RING_MEMBER_A => [RING_MEMBER_A_MEMBERS, RING_MEMBER_A_SEG_UP]
  | .RING_MEMBER_B => [RING_MEMBER_B_MEMBERS, RING_MEMBER_B_SEG_UP]
  | .RING_FITTED => [RING_FITTED_FITTED]
  | .RING_TIMERS => [RING_TIMERS_RETURN_CLEAN, RING_TIMERS_DISC_TIMEOUT, RING_TIMERS_LEAVE_WAIT]
  | .RING_PORT => [RING_PORT_RATE_CAP, RING_PORT_BYP_RATE_CAP, RING_PORT_EXPECTED_ID, RING_PORT_PEER_ID, RING_PORT_PEER_VALID, RING_PORT_BYPASSED]
  | .ML_CTRL => [ML_CTRL_ENABLE, ML_CTRL_FORCE_DOWN, ML_CTRL_RETRAIN, ML_CTRL_WIDTH_REQ]
  | .ML_STATUS => [ML_STATUS_STATE, ML_STATUS_WIDTH, ML_STATUS_LANES, ML_STATUS_RATE, ML_STATUS_LEADER, ML_STATUS_EQ_STORED]
  | .ML_TIMERS => [ML_TIMERS_REPLAY_TMR, ML_TIMERS_LOCKLOSS, ML_TIMERS_RT_MOVE]
  | .ML_LIMITS => [ML_LIMITS_REPLAY_LIMIT, ML_LIMITS_LEAK_LIMIT, ML_LIMITS_RETRAIN_MAX]
  | .ML_CREDIT_ADV_0 => [ML_CREDIT_ADV_0_P, ML_CREDIT_ADV_0_NP]
  | .ML_CREDIT_ADV_1 => [ML_CREDIT_ADV_1_CPL, ML_CREDIT_ADV_1_TT]
  | .ML_CREDIT_ADV_2 => [ML_CREDIT_ADV_2_MG]
  | .ML_ERR_STATUS => [ML_ERR_STATUS_UNCORR, ML_ERR_STATUS_REPLAY_LIMIT, ML_ERR_STATUS_CREDIT_OVERRUN, ML_ERR_STATUS_LEAK_RETRAIN, ML_ERR_STATUS_PROTOCOL, ML_ERR_STATUS_LINK_DOWN, ML_ERR_STATUS_ROLE_ERR, ML_ERR_STATUS_FLAP_HOLD, ML_ERR_STATUS_EQ_FALLBACK]
  | .PART_GLOBAL => [PART_GLOBAL_FM_PART, PART_GLOBAL_FM_VALID, PART_GLOBAL_STBY_PART, PART_GLOBAL_STBY_VALID]
  | .PART_TIMERS => [PART_TIMERS_FM_TAKEOVER, PART_TIMERS_TAG_QUAR, PART_TIMERS_CPL_TMO]
  | .PART_CTRL => [PART_CTRL_HOST_FROZEN, PART_CTRL_SELF_THAW, PART_CTRL_UP_PORT, PART_CTRL_PART_ID, PART_CTRL_STATE, PART_CTRL_STANDBY, PART_CTRL_FM, PART_CTRL_VALID]
  | .PART_FN_A => [PART_FN_A_PHYS_RID, PART_FN_A_PORT, PART_FN_A_OWNER, PART_FN_A_BIND, PART_FN_A_FREEZE_CPL, PART_FN_A_FROZEN, PART_FN_A_VALID]
  | .PART_FN_B => [PART_FN_B_BUS_SPAN, PART_FN_B_VDSP, PART_FN_B_FREEZE_CAUSE, PART_FN_B_VIRT_BUS, PART_FN_B_GEN]
  | .WIN_PCTRL => [WIN_PCTRL_COMMIT_NO, WIN_PCTRL_COMMIT_BUSY, WIN_PCTRL_RELOAD_BUSY, WIN_PCTRL_ACT_MANAGED, WIN_PCTRL_ACT_BOUND, WIN_PCTRL_STRICT_UP, WIN_PCTRL_HELD]
  | .WIN_VLOG_ADDR_LO => [WIN_VLOG_ADDR_LO_ADDR]
  | .WIN_VLOG_ADDR_HI => [WIN_VLOG_ADDR_HI_ADDR]
  | .WIN_VLOG_INFO => [WIN_VLOG_INFO_WRITE, WIN_VLOG_INFO_ENTRY, WIN_VLOG_INFO_INST, WIN_VLOG_INFO_PART, WIN_VLOG_INFO_CAUSE, WIN_VLOG_INFO_VALID]
  | .SC_CTRL => [SC_CTRL_CUT_EN, SC_CTRL_ORDER_MODE]
  | .SC_ORDER => [SC_ORDER_STALL_THR]
  | .SC_FABRIC => [SC_FABRIC_REFUSE_WAIT]
  | .SC_TT_POOL => [SC_TT_POOL_TT_CELLS, SC_TT_POOL_TT_USED]
  | .SC_POOL_STAT => [SC_POOL_STAT_SHARED_FREE]
  | .SC_POOL_SIZE => [SC_POOL_SIZE_SHARED_SIZE]
  | .SC_EGQ => [SC_EGQ_QUOTA]
  | .SC_EGOCC => [SC_EGOCC_OCC]
  | .SC_PIN_P => [SC_PIN_P_HDR, SC_PIN_P_DATA]
  | .SC_PIN_NP => [SC_PIN_NP_HDR, SC_PIN_NP_DATA]
  | .SC_PIN_CPL => [SC_PIN_CPL_HDR, SC_PIN_CPL_DATA]
  | .JNL_CTRL => [JNL_CTRL_ADMIT_EN, JNL_CTRL_E_GATE]
  | .JNL_STATUS => [JNL_STATUS_PF_PHASE, JNL_STATUS_COLD, JNL_STATUS_RESTORED, JNL_STATUS_UNPROTECTED, JNL_STATUS_SYNC_PENDING, JNL_STATUS_PST_FITTED, JNL_STATUS_EPOCH_LO]
  | .JNL_TIMERS => [JNL_TIMERS_RTX, JNL_TIMERS_HELD_TMO, JNL_TIMERS_RCPT_MAX]
  | .JNL_TIMERS2 => [JNL_TIMERS2_UNREACH, JNL_TIMERS2_GAP_HOLD]
  | .JNL_PF => [JNL_PF_DRAIN_MAX, JNL_PF_E_DRAIN]
  | .JNL_OCC => [JNL_OCC_USED]
  | .JNL_RESV => [JNL_RESV_RESV]
  | .JNL_VMAX => [JNL_VMAX_VMAX]
  | .JNL_VCOMMIT => [JNL_VCOMMIT_VCOMMIT]
  | .JNL_EPOCH => [JNL_EPOCH_EPOCH]
  | .JNL_DQ => [JNL_DQ_QUOTA]
  | .JNL_DQOCC => [JNL_DQOCC_USED]
  | .SPN_CTRL => [SPN_CTRL_PPS_IN_EN, SPN_CTRL_PPS_OUT_EN, SPN_CTRL_HOST_PORT, SPN_CTRL_PTM_HOST_EN, SPN_CTRL_TT_TC, SPN_CTRL_GM_PRIO]
  | .SPN_STATUS => [SPN_STATUS_STATE, SPN_STATUS_PARENT, SPN_STATUS_HOPS, SPN_STATUS_STEP_PEND, SPN_STATUS_TRACEABLE, SPN_STATUS_GM_CLASS, SPN_STATUS_GM_ID]
  | .SPN_SYNC => [SPN_SYNC_SYNC_INT, SPN_SYNC_STEP_THR]
  | .SPN_HOLD => [SPN_HOLD_HOLD_MAX, SPN_HOLD_SLEW_MAX]
  | .SPN_OFFSET => [SPN_OFFSET_THETA]
  | .SPN_PPS => [SPN_PPS_PPS_WIDTH, SPN_PPS_PPS_LOCK, SPN_PPS_PPS_ERR]
  | .SPN_PORT => [SPN_PORT_K, SPN_PORT_ASYM, SPN_PORT_DELAY]
  | .SPN_GRAIN => [SPN_GRAIN_GRAIN_MAX, SPN_GRAIN_USED]
  | .SPN_PIN => [SPN_PIN_OUT_LEVEL, SPN_PIN_GATE, SPN_PIN_CAP_MODE, SPN_PIN_CAP_EDGE, SPN_PIN_OWNER, SPN_PIN_OWN_VALID]
  | .SCH_CTRL => [SCH_CTRL_STARVE_EN, SCH_CTRL_METER_EN]
  | .SCH_STARVE => [SCH_STARVE_LIMIT]
  | .SCH_STATUS => [SCH_STATUS_PEND, SCH_STATUS_REFILL_NO]
  | .SCH_PORT => [SCH_PORT_OH, SCH_PORT_TT_SHARE]
  | .SCH_MTR_C => [SCH_MTR_C_CIR, SCH_MTR_C_CBS]
  | .SCH_MTR_P => [SCH_MTR_P_PIR, SCH_MTR_P_PBS]
  | .SCH_MTR_CTOK => [SCH_MTR_CTOK_CTOK]
  | .SCH_MTR_PTOK => [SCH_MTR_PTOK_PTOK]
  | .DM_CTRL => [DM_CTRL_ENABLE, DM_CTRL_PAUSE, DM_CTRL_RESET, DM_CTRL_START, DM_CTRL_RESUME]
  | .DM_STATUS => [DM_STATUS_STATE, DM_STATUS_GEN, DM_STATUS_CLASS, DM_STATUS_ERR]
  | .DM_RING => [DM_RING_BASE]
  | .DM_CFG => [DM_CFG_RING_SIZE, DM_CFG_RD_SIZE, DM_CFG_WR_SIZE, DM_CFG_MAX_TAGS]
  | .DM_TAIL => [DM_TAIL_TAIL]
  | .DM_HEAD => [DM_HEAD_HEAD]
  | .DM_DONE => [DM_DONE_DONE]
  | .DM_ERR_ADDR_LO => [DM_ERR_ADDR_LO_ADDR]
  | .DM_ERR_ADDR_HI => [DM_ERR_ADDR_HI_ADDR]
  | .DM_TAGS => [DM_TAGS_IN_USE]
  | .DM_CNT_DESC => [DM_CNT_DESC_COUNT]
  | .DM_GLOBAL => [DM_GLOBAL_BUF_MAX]
  | .DM_GLOBAL_STAT => [DM_GLOBAL_STAT_BUF_USED]
  | .DM_ASSIGN => [DM_ASSIGN_CLASS, DM_ASSIGN_OWNER, DM_ASSIGN_VALID]
  | .DM_TAGQ => [DM_TAGQ_QUOTA, DM_TAGQ_IN_USE]
  | .PX_DUAL => [PX_DUAL_FABRIC]
  | .PX_BIF => [PX_BIF_H0, PX_BIF_H1, PX_BIF_ERR]
  | .PX_PMAP => [PX_PMAP_PORT_0, PX_PMAP_PORT_1, PX_PMAP_PORT_2, PX_PMAP_PORT_3, PX_PMAP_PORT_4]
  | .PX_PORT_CFG => [PX_PORT_CFG_IDE_PASS, PX_PORT_CFG_MPS, PX_PORT_CFG_TAG_SIZE, PX_PORT_CFG_FLIT_EN, PX_PORT_CFG_RATE_CAP, PX_PORT_CFG_ROLE, PX_PORT_CFG_ENABLE]
  | .PX_PORT_STAT => [PX_PORT_STAT_PM, PX_PORT_STAT_L0P, PX_PORT_STAT_DPC, PX_PORT_STAT_WIDTH, PX_PORT_STAT_RATE, PX_PORT_STAT_FLIT, PX_PORT_STAT_DL_ACTIVE]
  | .PX_PWR => [PX_PWR_L1_IDLE, PX_PWR_L0P_LOW, PX_PWR_L0P_MIN, PX_PWR_L0P_AUTO, PX_PWR_NO_LP]
  | .PX_SLOT => [PX_SLOT_CHAN, PX_SLOT_VALID]
  | .LB_CTRL => [LB_CTRL_EN, LB_CTRL_RESET, LB_CTRL_PREF_EN, LB_CTRL_SEM_EN, LB_CTRL_ELOG_CLR, LB_CTRL_CLK_DIV]
  | .LB_STATUS => [LB_STATUS_SEM_HELD, LB_STATUS_RESETTING, LB_STATUS_ELOG_COUNT, LB_STATUS_ELOG_OVF, LB_STATUS_PLOG_NEXT]
  | .LB_INT_STATUS => [LB_INT_STATUS_ELOG_NEW, LB_INT_STATUS_PREF_DISC, LB_INT_STATUS_SEM_FORCED]
  | .LB_INT_EN => [LB_INT_EN_EN]
  | .LB_SEM => [LB_SEM_RID, LB_SEM_NODE, LB_SEM_OWNER, LB_SEM_HELD]
  | .LB_SEM_CFG => [LB_SEM_CFG_PAGE]
  | .LB_SEM_HOLD => [LB_SEM_HOLD_HOLD_MAX]
  | .LB_TIMING => [LB_TIMING_LIFE, LB_TIMING_RETRY_GAP]
  | .LB_QUOTA => [LB_QUOTA_CELLS]
  | .LB_CS => [LB_CS_TMO, LB_CS_RETRY_MAX, LB_CS_IDLE, LB_CS_TURN, LB_CS_WAIT_MIN, LB_CS_BURST_MAX, LB_CS_EN]
  | .LB_PREG => [LB_PREG_SIZE, LB_PREG_BASE]
  | .LB_ELOG_ADDR => [LB_ELOG_ADDR_ADDR]
  | .LB_ELOG_INFO => [LB_ELOG_INFO_BYTES, LB_ELOG_INFO_WRITE, LB_ELOG_INFO_PART, LB_ELOG_INFO_CS, LB_ELOG_INFO_CAUSE, LB_ELOG_INFO_VALID]
  | .LB_ELOG_REQ => [LB_ELOG_REQ_NODE, LB_ELOG_REQ_RID]
  | .LB_ELOG_TIME => [LB_ELOG_TIME_TIME]
  | .LB_PLOG_ADDR => [LB_PLOG_ADDR_ADDR]
  | .LB_PLOG_INFO => [LB_PLOG_INFO_UNUSED, LB_PLOG_INFO_PART, LB_PLOG_INFO_CS, LB_PLOG_INFO_VALID]
  | .LN_SEL => [LN_SEL_LANE, LN_SEL_PORT]
  | .LN_LANE_CTRL => [LN_LANE_CTRL_CLR_UNFIT, LN_LANE_CTRL_LOOP, LN_LANE_CTRL_TEST]
  | .LN_LANE_STAT => [LN_LANE_STAT_FLIT_LOCK, LN_LANE_STAT_LOCK, LN_LANE_STAT_POL_INV, LN_LANE_STAT_CAUSE, LN_LANE_STAT_UNFIT, LN_LANE_STAT_FOM]
  | .LN_LANE_EQ => [LN_LANE_EQ_C_P1, LN_LANE_EQ_C_0, LN_LANE_EQ_C_M1, LN_LANE_EQ_C_M2]
  | .LN_FIT => [LN_FIT_PX_DEGRADE, LN_FIT_LOCK_MAX, LN_FIT_CORR_MAX]
  | .LN_EQ => [LN_EQ_PRESET_INIT, LN_EQ_FOM_MIN]
  | .LN_PORT_STAT => [LN_PORT_STAT_PLL_SET, LN_PORT_STAT_REVERSED, LN_PORT_STAT_PLL_LOCK, LN_PORT_STAT_UNFIT]
  | .SP_WARN => [SP_WARN_LEAD, SP_WARN_CYCLE_OFF]
  | .SP_CMD => [SP_CMD_ON, SP_CMD_OFF, SP_CMD_CYCLE]
  | .SP_CFG => [SP_CFG_I_RAMP, SP_CFG_VGG, SP_CFG_FEED_B, SP_CFG_FEED_A, SP_CFG_RETURN_EN, SP_CFG_PRIO, SP_CFG_PRES_IGN]
  | .SP_STATUS => [SP_STATUS_PF_OFF, SP_STATUS_POINT, SP_STATUS_CAUSE, SP_STATUS_RETRIES_LEFT, SP_STATUS_PERST, SP_STATUS_PWRWARN, SP_STATUS_PRESENT, SP_STATUS_RAIL_VALID, SP_STATUS_FEED_ACT, SP_STATUS_LATCHED, SP_STATUS_STATE]
  | .SP_MEAS => [SP_MEAS_ISENSE, SP_MEAS_VOUT]
  | .SP_TIMERS => [SP_TIMERS_OFF_MAX, SP_TIMERS_PERST_LEAD, SP_TIMERS_T_PERST, SP_TIMERS_T_GATE]
  | .SP_RETRY => [SP_RETRY_CLEAN, SP_RETRY_T_EMPTY, SP_RETRY_INTERVAL, SP_RETRY_COUNT]
  | .SP_FEED => [SP_FEED_RETURN, SP_FEED_T_BBM]
  | .SP_FAST => [SP_FAST_VTH]
  | .SP_CURVE => [SP_CURVE_TIME, SP_CURVE_UNIT, SP_CURVE_ISET]
  | .FC_STATUS_LO => [FC_STATUS_LO_UNIT]
  | .FC_STATUS_HI => [FC_STATUS_HI_UNIT]
  | .FC_MASK_LO => [FC_MASK_LO_MASK]
  | .FC_MASK_HI => [FC_MASK_HI_MASK]
  | .FC_FIRST => [FC_FIRST_UNIT, FC_FIRST_VALID]
  | .FC_STATE => [FC_STATE_NODE_RESETS, FC_STATE_GRAVE_UNIT, FC_STATE_GRAVE_VALID, FC_STATE_NODE_STATE]
  | .FC_POLICY => [FC_POLICY_T_WARN, FC_POLICY_NODE_WINDOW, FC_POLICY_NODE_MAX]
  | .FC_INJECT => [FC_INJECT_CODE, FC_INJECT_INST_VALID, FC_INJECT_INSTANCE, FC_INJECT_SCOPE_ID, FC_INJECT_SCOPE, FC_INJECT_CLASS]
  | .FC_PORT => [FC_PORT_REL, FC_PORT_RUNG, FC_PORT_RECOVER, FC_PORT_CYCLE_HOLD, FC_PORT_ESC_WINDOW, FC_PORT_ESC_COUNT, FC_PORT_CYCLE_EN, FC_PORT_DPC_TRIG]
  | .MB_STATUS => [MB_STATUS_CMD_DONE, MB_STATUS_STATE, MB_STATUS_WR_DROP, MB_STATUS_CMD_ERR, MB_STATUS_FW_READY, MB_STATUS_DEFERRED]
  | .MB_CTRL => [MB_CTRL_IRQ_EN]
  | .MB_DOORBELL => [MB_DOORBELL_GO]
  | .MB_RSP_LEN => [MB_RSP_LEN_LEN]
  | .MB_BUSY => [MB_BUSY_RETRY_MS, MB_BUSY_RESTARTING, MB_BUSY_ACTIVATING]
  | .MB_SEQ => [MB_SEQ_LAST_SEQ]
  | .MB_EQ_HEAD => [MB_EQ_HEAD_HEAD]
  | .MB_EQ_TAIL => [MB_EQ_TAIL_TAIL]
  | .MB_EQ_STATUS => [MB_EQ_STATUS_NOT_EMPTY, MB_EQ_STATUS_LOST, MB_EQ_STATUS_HELD]
  | .MB_EQ_LOST => [MB_EQ_LOST_COUNT]
  | .MB_EQ_BACKLOG => [MB_EQ_BACKLOG_COUNT]
  | .PMON_CTRL => [PMON_CTRL_CLR_EVT, PMON_CTRL_CLR_FLT]
  | .PMON_STATUS => [PMON_STATUS_SHV_LOST, PMON_STATUS_SHV_WAITING]
  | .PMON_SHV => [PMON_SHV_K, PMON_SHV_FILTER, PMON_SHV_FILT_EN, PMON_SHV_EN]
  | .PMON_SHV_SEED => [PMON_SHV_SEED_SEED]
  | .PMON_BW_CFG => [PMON_BW_CFG_LEN, PMON_BW_CFG_EN]
  | .PMON_BW_INFO => [PMON_BW_INFO_PARTIAL, PMON_BW_INFO_LOCAL, PMON_BW_INFO_HOLDOVER, PMON_BW_INFO_SEQ]
  | .PMON_BW_DUR => [PMON_BW_DUR_DUR]
  | .PMON_BW_STAT => [PMON_BW_STAT_UTIL_TX, PMON_BW_STAT_UTIL_RX, PMON_BW_STAT_CHANGED]
  | .FLT_BASE => [FLT_BASE_ADDR_EN, FLT_BASE_BASE]
  | .FLT_LIM => [FLT_LIM_LIMIT]
  | .FLT_MATCH => [FLT_MATCH_RID_MASK, FLT_MATCH_RID]
  | .FLT_CTRL => [FLT_CTRL_MODE, FLT_CTRL_CLASS, FLT_CTRL_VC, FLT_CTRL_TYPE, FLT_CTRL_KIND, FLT_CTRL_PART, FLT_CTRL_PART_ANY, FLT_CTRL_PORT, FLT_CTRL_POINT, FLT_CTRL_EN]
  | .PWR_CTRL => [PWR_CTRL_PL_TARGET, PWR_CTRL_AUTO_SL1, PWR_CTRL_SL3_COLD_OK, PWR_CTRL_AUTO_JOIN]
  | .PWR_STATUS => [PWR_STATUS_PL, PWR_STATUS_MOVING, PWR_STATUS_V_FAIL, PWR_STATUS_LAST_WAKE, PWR_STATUS_LAST_SL, PWR_STATUS_STATE]
  | .PWR_DVFS => [PWR_DVFS_V_SLEW, PWR_DVFS_V_TMO]
  | .PWR_IDLE => [PWR_IDLE_SL1_IDLE]
  | .PWR_SLEEP => [PWR_SLEEP_DRAIN]
  | .PWR_WAKE_EN => [PWR_WAKE_EN_TLP, PWR_WAKE_EN_UP, PWR_WAKE_EN_SMBUS, PWR_WAKE_EN_GPIO]
  | .PWR_WAKE_STAT => [PWR_WAKE_STAT_TLP, PWR_WAKE_STAT_UP, PWR_WAKE_STAT_SMBUS, PWR_WAKE_STAT_MAILBOX, PWR_WAKE_STAT_TIMER, PWR_WAKE_STAT_PFW, PWR_WAKE_STAT_GPIO]
  | .PWR_PADHOLD => [PWR_PADHOLD_RING, PWR_PADHOLD_GPIO, PWR_PADHOLD_SLOT]
  | .PWR_WAKE_TMR => [PWR_WAKE_TMR_SECONDS]
  | .PWR_SLOT_WAS_ON => [PWR_SLOT_WAS_ON_CHAN]
  | .CLK_CTRL => [CLK_CTRL_REF_PRI, CLK_CTRL_REF_A_EN, CLK_CTRL_REF_B_EN, CLK_CTRL_AUTO_RETURN]
  | .CLK_SR => [CLK_SR_WIN, CLK_SR_RETURN_WIN, CLK_SR_TOL]
  | .CLK_STATUS => [CLK_STATUS_TIME_JUDGED, CLK_STATUS_EARLY, CLK_STATUS_SPLL_LOCK, CLK_STATUS_TPLL_LOCK, CLK_STATUS_CPLL_LOCK, CLK_STATUS_REFDIST_SRC, CLK_STATUS_SPLL_SRC, CLK_STATUS_TPLL_SRC, CLK_STATUS_CPLL_SRC, CLK_STATUS_LF, CLK_STATUS_REF_B, CLK_STATUS_REF_A, CLK_STATUS_XTAL]
  | .CLK_MEAS => [CLK_MEAS_MEAS_A, CLK_MEAS_MEAS_B]
  | .CLK_AVS => [CLK_AVS_BUSY, CLK_AVS_READBACK]
  | .PST_CTRL => [PST_CTRL_CH0_FIT, PST_CTRL_CH1_FIT, PST_CTRL_FEED_PF_EN, PST_CTRL_HUV_PF_EN, PST_CTRL_FEED_A_FIT, PST_CTRL_FEED_B_FIT]
  | .PST_STATUS => [PST_STATUS_PF_SRC, PST_STATUS_PFW, PST_STATUS_FEED_A_GOOD, PST_STATUS_FEED_B_GOOD, PST_STATUS_CH0_FAIL, PST_STATUS_CH1_FAIL, PST_STATUS_HUV_ERR, PST_STATUS_PF_HOLD]
  | .PST_BANK => [PST_BANK_SHARE, PST_BANK_C_BANK]
  | .PST_VLIM => [PST_VLIM_V_MIN, PST_VLIM_V_TOP]
  | .PST_HUV_CFG => [PST_HUV_CFG_DIV, PST_HUV_CFG_HUV_PF]
  | .PST_HUV_MEAS => [PST_HUV_MEAS_VHUV, PST_HUV_MEAS_EAVAIL]
  | .PST_FEED_CFG => [PST_FEED_CFG_V_OFF, PST_FEED_CFG_V_ON, PST_FEED_CFG_V_OV, PST_FEED_CFG_FEED_PF_T]
  | .PST_FEED_DIV => [PST_FEED_DIV_A, PST_FEED_DIV_B]
  | .PST_FEED_MEAS => [PST_FEED_MEAS_FEED_A, PST_FEED_MEAS_FEED_B]
  | .PST_TIMERS => [PST_TIMERS_FEED_GOOD_T]
  | .MB_STRAP => [MB_STRAP_NODE_ID, MB_STRAP_FMGR_EN, MB_STRAP_SMB_ADDR, MB_STRAP_BOOT_MODE]
  | .MB_RESET_CAUSE => [MB_RESET_CAUSE_FULL, MB_RESET_CAUSE_RAIL, MB_RESET_CAUSE_SL3_WAKE, MB_RESET_CAUSE_FAULT, MB_RESET_CAUSE_PF_RESET]
  | .MB_BOOT => [MB_BOOT_RECORD_OK, MB_BOOT_STORE_USED, MB_BOOT_SLOT, MB_BOOT_FALLBACK, MB_BOOT_STAGE]
  | .PWR_THERM => [PWR_THERM_TJ, PWR_THERM_TJ_PEAK, PWR_THERM_SENSOR]
  | .RING_HOME => [RING_HOME_PLANE_B]
  | .ML_CREDIT_STAT => [ML_CREDIT_STAT_HELD, ML_CREDIT_STAT_IN_USE]
  | .ML_CNT_RS_CORR => [ML_CNT_RS_CORR_COUNT]
  | .ML_CNT_UNCORR => [ML_CNT_UNCORR_COUNT]
  | .ML_CNT_CRC => [ML_CNT_CRC_COUNT]
  | .ML_CNT_DUP => [ML_CNT_DUP_COUNT]
  | .ML_CNT_REPLAY => [ML_CNT_REPLAY_COUNT]
  | .ML_CNT_STALE_ACK => [ML_CNT_STALE_ACK_COUNT]
  | .ML_CNT_LEAK => [ML_CNT_LEAK_COUNT]
  | .ML_CNT_RETRAIN => [ML_CNT_RETRAIN_COUNT]
  | .ML_CNT_LINKDOWN => [ML_CNT_LINKDOWN_COUNT]
  | .ML_CNT_TT_REPLAY => [ML_CNT_TT_REPLAY_COUNT]
  | .ML_CNT_PROTOCOL => [ML_CNT_PROTOCOL_COUNT]
  | .ML_CNT_ABORT => [ML_CNT_ABORT_COUNT]
  | .PART_CNT_STALE => [PART_CNT_STALE_COUNT]
  | .PART_CNT_UNASSIGNED => [PART_CNT_UNASSIGNED_COUNT]
  | .PART_CNT_FROZEN => [PART_CNT_FROZEN_COUNT]
  | .PART_CNT_SYNTH => [PART_CNT_SYNTH_COUNT]
  | .PART_CNT_QUAR => [PART_CNT_QUAR_COUNT]
  | .PART_CNT_TMO => [PART_CNT_TMO_COUNT]
  | .PART_NPQ => [PART_NPQ_QUOTA, PART_NPQ_IN_USE]
  | .WIN_CNT_MISS => [WIN_CNT_MISS_COUNT]
  | .WIN_CNT_VIOL => [WIN_CNT_VIOL_COUNT]
  | .WIN_CNT_DENY => [WIN_CNT_DENY_COUNT]
  | .WIN_CNT_REDIRECT => [WIN_CNT_REDIRECT_COUNT]
  | .WIN_GRANT_W => [WIN_GRANT_W_MASK]
  | .WIN_GRANT_R => [WIN_GRANT_R_MASK]
  | .SC_CNT_CT => [SC_CNT_CT_COUNT]
  | .SC_CNT_SF => [SC_CNT_SF_COUNT]
  | .SC_CNT_REFUSED => [SC_CNT_REFUSED_COUNT]
  | .SC_CNT_HOLD => [SC_CNT_HOLD_COUNT]
  | .SC_CNT_FALLBACK => [SC_CNT_FALLBACK_COUNT]
  | .SC_CNT_ECC_CORR => [SC_CNT_ECC_CORR_COUNT]
  | .SC_CNT_ECC_UNCORR => [SC_CNT_ECC_UNCORR_COUNT]
  | .JNL_CNT_RTX => [JNL_CNT_RTX_COUNT]
  | .JNL_CNT_DUP => [JNL_CNT_DUP_COUNT]
  | .JNL_CNT_GAP => [JNL_CNT_GAP_COUNT]
  | .JNL_CNT_WINDOW => [JNL_CNT_WINDOW_COUNT]
  | .JNL_CNT_UNSYNC => [JNL_CNT_UNSYNC_COUNT]
  | .JNL_CNT_UNDELIV => [JNL_CNT_UNDELIV_COUNT]
  | .JNL_CNT_PURGE => [JNL_CNT_PURGE_COUNT]
  | .JNL_CNT_ADM_WAIT => [JNL_CNT_ADM_WAIT_COUNT]
  | .SPN_CNT_DELAY_LOST => [SPN_CNT_DELAY_LOST_COUNT]
  | .SPN_CNT_STEP => [SPN_CNT_STEP_COUNT]
  | .SPN_CNT_TURN => [SPN_CNT_TURN_COUNT]
  | .SPN_CNT_TURN_LATE => [SPN_CNT_TURN_LATE_COUNT]
  | .SPN_CNT_TURN_SKIP => [SPN_CNT_TURN_SKIP_COUNT]
  | .SPN_CNT_TURN_DROP => [SPN_CNT_TURN_DROP_COUNT]
  | .SPN_CNT_CAP_LOST => [SPN_CNT_CAP_LOST_COUNT]
  | .SPN_CNT_TT_UNBOUND => [SPN_CNT_TT_UNBOUND_COUNT]
  | .SPN_TT_PART => [SPN_TT_PART_MASK]
  | .SCH_CNT_EXCESS => [SCH_CNT_EXCESS_COUNT]
  | .SCH_CNT_HELD => [SCH_CNT_HELD_COUNT]
  | .SCH_CNT_STARVE => [SCH_CNT_STARVE_COUNT]
  | .SCH_CNT_BG => [SCH_CNT_BG_COUNT]
  | .SCH_CNT_TT_PRI => [SCH_CNT_TT_PRI_COUNT]
  | .SCH_CNT_TT_DRR => [SCH_CNT_TT_DRR_COUNT]
  | .DM_CNT_BYTES => [DM_CNT_BYTES_COUNT]
  | .DM_CNT_START_MISS => [DM_CNT_START_MISS_COUNT]
  | .DM_CNT_STALE => [DM_CNT_STALE_COUNT]
  | .DM_CNT_HALT => [DM_CNT_HALT_COUNT]
  | .PX_CNT_MPS => [PX_CNT_MPS_COUNT]
  | .PX_CNT_ECRC => [PX_CNT_ECRC_COUNT]
  | .PX_CNT_IDE_BLOCK => [PX_CNT_IDE_BLOCK_COUNT]
  | .PX_CNT_MALFORMED => [PX_CNT_MALFORMED_COUNT]
  | .PX_CNT_RXERR => [PX_CNT_RXERR_COUNT]
  | .PX_CNT_RECOV => [PX_CNT_RECOV_COUNT]
  | .LB_CNT_WR => [LB_CNT_WR_COUNT]
  | .LB_CNT_RD => [LB_CNT_RD_COUNT]
  | .LB_CNT_RETRY => [LB_CNT_RETRY_COUNT]
  | .LB_CNT_ERR => [LB_CNT_ERR_COUNT]
  | .LB_CNT_PREF_HIT => [LB_CNT_PREF_HIT_COUNT]
  | .LB_CNT_PREF_DISC => [LB_CNT_PREF_DISC_COUNT]
  | .LB_CNT_SEM_FORCED => [LB_CNT_SEM_FORCED_COUNT]
  | .LB_CNT_SEM_BAD => [LB_CNT_SEM_BAD_COUNT]
  | .LN_LANE_CNT_CORR => [LN_LANE_CNT_CORR_COUNT]
  | .LN_LANE_CNT_LOCK => [LN_LANE_CNT_LOCK_COUNT]
  | .LN_LANE_CNT_TEST => [LN_LANE_CNT_TEST_COUNT]
  | .SP_CNT_TRIP => [SP_CNT_TRIP_COUNT]
  | .SP_CNT_RETRY => [SP_CNT_RETRY_COUNT]
  | .FC_CNT_CLASS => [FC_CNT_CLASS_COUNT]
  | .FC_CNT_NODE_RESET => [FC_CNT_NODE_RESET_COUNT]
  | .FC_CNT_CYCLE => [FC_CNT_CYCLE_COUNT]
  | .MB_ACC_ERR => [MB_ACC_ERR_COUNT]
  | .PMON_CNT_SHV_LOST => [PMON_CNT_SHV_LOST_COUNT]
  | .PMON_CNT_SHV_SKIP => [PMON_CNT_SHV_SKIP_COUNT]
  | .PMON_EVT => [PMON_EVT_COUNT]
  | .FLT_CNT => [FLT_CNT_COUNT]
  | .PMON_BW_END => [PMON_BW_END_NS]
  | .PMON_BW_RX => [PMON_BW_RX_BYTES]
  | .PMON_BW_TX => [PMON_BW_TX_BYTES]
  | .PWR_CNT_PL => [PWR_CNT_PL_COUNT]
  | .PWR_CNT_SLEEP => [PWR_CNT_SLEEP_COUNT]
  | .PWR_CNT_DVFS_FAIL => [PWR_CNT_DVFS_FAIL_COUNT]
  | .CLK_CNT_REJECT => [CLK_CNT_REJECT_COUNT]
  | .CLK_CNT_SWITCH => [CLK_CNT_SWITCH_COUNT]
  | .CLK_CNT_RETURN => [CLK_CNT_RETURN_COUNT]
  | .CLK_CNT_AVS_ERR => [CLK_CNT_AVS_ERR_COUNT]
  | .PST_CNT_PFW => [PST_CNT_PFW_COUNT]
  | .PST_CNT_FEED_A => [PST_CNT_FEED_A_COUNT]
  | .PST_CNT_FEED_B => [PST_CNT_FEED_B_COUNT]
  | .PST_CNT_CH_ERR => [PST_CNT_CH_ERR_COUNT]
  | .SP_CNT_SWITCH => [SP_CNT_SWITCH_COUNT]
  | .SP_CNT_CYCLE => [SP_CNT_CYCLE_COUNT]
  | .SPN_TIME => [SPN_TIME_FRAC, SPN_TIME_NS]
  | .FC_CAP => [FC_CAP_WORD]
  | .FC_GRAVE => [FC_GRAVE_WORD]

/-- How many dwords a register takes; more than one makes it wide (R15). -/
def Reg.dwords : Reg → Nat
  | .DM_RING | .FLT_BASE | .FLT_LIM | .WIN_GRANT_W | .WIN_GRANT_R | .SPN_TT_PART | .DM_CNT_BYTES | .PMON_EVT | .FLT_CNT | .PMON_BW_END | .PMON_BW_RX | .PMON_BW_TX => 2
  | .SPN_TIME => 3
  | _ => 1

/-- Where a register lies: `block` is its OMI block (Table 16.4), or 0x100 for the mailbox pages (Table 15.2), 0x101 for the
event-queue registers, 0x102 for the channel slots (Table 09.7) and 0x103 for the boot registers (Table 21.10); the register
of index `first + a * n2 + b` lies at `base + s1 * a + s2 * b`, for `a < n1` and `b < n2`. -/
structure Place where
  block : Nat
  base : Nat
  first : Nat
  s1 : Nat
  n1 : Nat
  s2 : Nat
  n2 : Nat
  deriving DecidableEq, Repr

/-- The register block tables (Tables 01.7, 02.15, 03.9 and the others named Register block). -/
def Reg.place : Reg → Place
  | .RING_CTRL => ⟨0x1, 0x0, 0, 0x0, 1, 0x0, 1⟩
  | .RING_STATUS => ⟨0x1, 0x4, 0, 0x0, 1, 0x0, 1⟩
  | .RING_MEMBER_A => ⟨0x1, 0x8, 0, 0x0, 1, 0x0, 1⟩
  | .RING_MEMBER_B => ⟨0x1, 0xC, 0, 0x0, 1, 0x0, 1⟩
  | .RING_FITTED => ⟨0x1, 0x10, 0, 0x0, 1, 0x0, 1⟩
  | .RING_TIMERS => ⟨0x1, 0x14, 0, 0x0, 1, 0x0, 1⟩
  | .RING_PORT => ⟨0x1, 0x20, 44, 0x4, 4, 0x0, 1⟩
  | .ML_CTRL => ⟨0x2, 0x0, 44, 0x200, 4, 0x0, 1⟩
  | .ML_STATUS => ⟨0x2, 0x4, 44, 0x200, 4, 0x0, 1⟩
  | .ML_TIMERS => ⟨0x2, 0x8, 44, 0x200, 4, 0x0, 1⟩
  | .ML_LIMITS => ⟨0x2, 0xC, 44, 0x200, 4, 0x0, 1⟩
  | .ML_CREDIT_ADV_0 => ⟨0x2, 0x10, 44, 0x200, 4, 0x0, 1⟩
  | .ML_CREDIT_ADV_1 => ⟨0x2, 0x14, 44, 0x200, 4, 0x0, 1⟩
  | .ML_CREDIT_ADV_2 => ⟨0x2, 0x18, 44, 0x200, 4, 0x0, 1⟩
  | .ML_ERR_STATUS => ⟨0x2, 0x20, 44, 0x200, 4, 0x0, 1⟩
  | .PART_GLOBAL => ⟨0x5, 0x0, 0, 0x0, 1, 0x0, 1⟩
  | .PART_TIMERS => ⟨0x5, 0x4, 0, 0x0, 1, 0x0, 1⟩
  | .PART_CTRL => ⟨0x5, 0x100, 0, 0x4, 16, 0x0, 1⟩
  | .PART_FN_A => ⟨0x5, 0x1000, 0, 0x8, 512, 0x0, 1⟩
  | .PART_FN_B => ⟨0x5, 0x1004, 0, 0x8, 512, 0x0, 1⟩
  | .WIN_PCTRL => ⟨0x6, 0x100, 0, 0x4, 64, 0x0, 1⟩
  | .WIN_VLOG_ADDR_LO => ⟨0x6, 0x80, 0, 0x0, 1, 0x0, 1⟩
  | .WIN_VLOG_ADDR_HI => ⟨0x6, 0x84, 0, 0x0, 1, 0x0, 1⟩
  | .WIN_VLOG_INFO => ⟨0x6, 0x88, 0, 0x0, 1, 0x0, 1⟩
  | .SC_CTRL => ⟨0x7, 0x0, 0, 0x0, 1, 0x0, 1⟩
  | .SC_ORDER => ⟨0x7, 0x4, 0, 0x0, 1, 0x0, 1⟩
  | .SC_FABRIC => ⟨0x7, 0x8, 0, 0x0, 1, 0x0, 1⟩
  | .SC_TT_POOL => ⟨0x7, 0xC, 0, 0x0, 1, 0x0, 1⟩
  | .SC_POOL_STAT => ⟨0x7, 0x10, 0, 0x0, 1, 0x0, 1⟩
  | .SC_POOL_SIZE => ⟨0x7, 0x14, 0, 0x0, 1, 0x0, 1⟩
  | .SC_EGQ => ⟨0x7, 0x100, 0, 0x4, 48, 0x0, 1⟩
  | .SC_EGOCC => ⟨0x7, 0x200, 0, 0x4, 48, 0x0, 1⟩
  | .SC_PIN_P => ⟨0x7, 0x400, 0, 0x10, 48, 0x0, 1⟩
  | .SC_PIN_NP => ⟨0x7, 0x404, 0, 0x10, 48, 0x0, 1⟩
  | .SC_PIN_CPL => ⟨0x7, 0x408, 0, 0x10, 48, 0x0, 1⟩
  | .JNL_CTRL => ⟨0x9, 0x0, 0, 0x0, 1, 0x0, 1⟩
  | .JNL_STATUS => ⟨0x9, 0x4, 0, 0x0, 1, 0x0, 1⟩
  | .JNL_TIMERS => ⟨0x9, 0x8, 0, 0x0, 1, 0x0, 1⟩
  | .JNL_TIMERS2 => ⟨0x9, 0xC, 0, 0x0, 1, 0x0, 1⟩
  | .JNL_PF => ⟨0x9, 0x10, 0, 0x0, 1, 0x0, 1⟩
  | .JNL_OCC => ⟨0x9, 0x14, 0, 0x0, 1, 0x0, 1⟩
  | .JNL_RESV => ⟨0x9, 0x18, 0, 0x0, 1, 0x0, 1⟩
  | .JNL_VMAX => ⟨0x9, 0x1C, 0, 0x0, 1, 0x0, 1⟩
  | .JNL_VCOMMIT => ⟨0x9, 0x20, 0, 0x0, 1, 0x0, 1⟩
  | .JNL_EPOCH => ⟨0x9, 0x24, 0, 0x0, 1, 0x0, 1⟩
  | .JNL_DQ => ⟨0x9, 0x100, 0, 0x4, 16, 0x0, 1⟩
  | .JNL_DQOCC => ⟨0x9, 0x140, 0, 0x4, 16, 0x0, 1⟩
  | .SPN_CTRL => ⟨0xB, 0x0, 0, 0x0, 1, 0x0, 1⟩
  | .SPN_STATUS => ⟨0xB, 0x4, 0, 0x0, 1, 0x0, 1⟩
  | .SPN_SYNC => ⟨0xB, 0x8, 0, 0x0, 1, 0x0, 1⟩
  | .SPN_HOLD => ⟨0xB, 0xC, 0, 0x0, 1, 0x0, 1⟩
  | .SPN_OFFSET => ⟨0xB, 0x10, 0, 0x0, 1, 0x0, 1⟩
  | .SPN_PPS => ⟨0xB, 0x14, 0, 0x0, 1, 0x0, 1⟩
  | .SPN_PORT => ⟨0xB, 0x80, 44, 0x8, 4, 0x0, 1⟩
  | .SPN_GRAIN => ⟨0xB, 0x84, 44, 0x8, 4, 0x0, 1⟩
  | .SPN_PIN => ⟨0xB, 0xA0, 0, 0x4, 8, 0x0, 1⟩
  | .SCH_CTRL => ⟨0x8, 0x0, 0, 0x0, 1, 0x0, 1⟩
  | .SCH_STARVE => ⟨0x8, 0x4, 0, 0x0, 1, 0x0, 1⟩
  | .SCH_STATUS => ⟨0x8, 0x8, 0, 0x0, 1, 0x0, 1⟩
  | .SCH_PORT => ⟨0x8, 0x100, 0, 0x4, 48, 0x0, 1⟩
  | .SCH_MTR_C => ⟨0x8, 0x400, 0, 0x10, 64, 0x0, 1⟩
  | .SCH_MTR_P => ⟨0x8, 0x404, 0, 0x10, 64, 0x0, 1⟩
  | .SCH_MTR_CTOK => ⟨0x8, 0x408, 0, 0x10, 64, 0x0, 1⟩
  | .SCH_MTR_PTOK => ⟨0x8, 0x40C, 0, 0x10, 64, 0x0, 1⟩
  | .DM_CTRL => ⟨0x102, 0x10000, 0, 0x800, 64, 0x0, 1⟩
  | .DM_STATUS => ⟨0x102, 0x10004, 0, 0x800, 64, 0x0, 1⟩
  | .DM_RING => ⟨0x102, 0x10008, 0, 0x800, 64, 0x0, 1⟩
  | .DM_CFG => ⟨0x102, 0x10010, 0, 0x800, 64, 0x0, 1⟩
  | .DM_TAIL => ⟨0x102, 0x10014, 0, 0x800, 64, 0x0, 1⟩
  | .DM_HEAD => ⟨0x102, 0x10018, 0, 0x800, 64, 0x0, 1⟩
  | .DM_DONE => ⟨0x102, 0x1001C, 0, 0x800, 64, 0x0, 1⟩
  | .DM_ERR_ADDR_LO => ⟨0x102, 0x10020, 0, 0x800, 64, 0x0, 1⟩
  | .DM_ERR_ADDR_HI => ⟨0x102, 0x10024, 0, 0x800, 64, 0x0, 1⟩
  | .DM_TAGS => ⟨0x102, 0x10028, 0, 0x800, 64, 0x0, 1⟩
  | .DM_CNT_DESC => ⟨0x102, 0x1002C, 0, 0x800, 64, 0x0, 1⟩
  | .DM_GLOBAL => ⟨0xC, 0x0, 0, 0x0, 1, 0x0, 1⟩
  | .DM_GLOBAL_STAT => ⟨0xC, 0x4, 0, 0x0, 1, 0x0, 1⟩
  | .DM_ASSIGN => ⟨0xC, 0x100, 0, 0x4, 64, 0x0, 1⟩
  | .DM_TAGQ => ⟨0xC, 0x200, 0, 0x4, 64, 0x0, 1⟩
  | .PX_DUAL => ⟨0x4, 0x0, 0, 0x0, 1, 0x0, 1⟩
  | .PX_BIF => ⟨0x4, 0x10, 0, 0x4, 9, 0x0, 1⟩
  | .PX_PMAP => ⟨0x4, 0x40, 0, 0x4, 8, 0x0, 1⟩
  | .PX_PORT_CFG => ⟨0x4, 0x1000, 0, 0x20, 48, 0x0, 1⟩
  | .PX_PORT_STAT => ⟨0x4, 0x1004, 0, 0x20, 48, 0x0, 1⟩
  | .PX_PWR => ⟨0x4, 0x1008, 0, 0x20, 48, 0x0, 1⟩
  | .PX_SLOT => ⟨0x4, 0x100C, 0, 0x20, 48, 0x0, 1⟩
  | .LB_CTRL => ⟨0xF, 0x0, 0, 0x0, 1, 0x0, 1⟩
  | .LB_STATUS => ⟨0xF, 0x4, 0, 0x0, 1, 0x0, 1⟩
  | .LB_INT_STATUS => ⟨0xF, 0x8, 0, 0x0, 1, 0x0, 1⟩
  | .LB_INT_EN => ⟨0xF, 0xC, 0, 0x0, 1, 0x0, 1⟩
  | .LB_SEM => ⟨0xF, 0x10, 0, 0x0, 1, 0x0, 1⟩
  | .LB_SEM_CFG => ⟨0xF, 0x14, 0, 0x0, 1, 0x0, 1⟩
  | .LB_SEM_HOLD => ⟨0xF, 0x18, 0, 0x0, 1, 0x0, 1⟩
  | .LB_TIMING => ⟨0xF, 0x1C, 0, 0x0, 1, 0x0, 1⟩
  | .LB_QUOTA => ⟨0xF, 0x20, 0, 0x0, 1, 0x0, 1⟩
  | .LB_CS => ⟨0xF, 0x30, 0, 0x4, 4, 0x0, 1⟩
  | .LB_PREG => ⟨0xF, 0x80, 0, 0x4, 16, 0x0, 1⟩
  | .LB_ELOG_ADDR => ⟨0xF, 0x100, 0, 0x10, 16, 0x0, 1⟩
  | .LB_ELOG_INFO => ⟨0xF, 0x104, 0, 0x10, 16, 0x0, 1⟩
  | .LB_ELOG_REQ => ⟨0xF, 0x108, 0, 0x10, 16, 0x0, 1⟩
  | .LB_ELOG_TIME => ⟨0xF, 0x10C, 0, 0x10, 16, 0x0, 1⟩
  | .LB_PLOG_ADDR => ⟨0xF, 0x200, 0, 0x8, 16, 0x0, 1⟩
  | .LB_PLOG_INFO => ⟨0xF, 0x204, 0, 0x8, 16, 0x0, 1⟩
  | .LN_SEL => ⟨0x3, 0x0, 0, 0x0, 1, 0x0, 1⟩
  | .LN_LANE_CTRL => ⟨0x3, 0x4, 0, 0x0, 1, 0x0, 1⟩
  | .LN_LANE_STAT => ⟨0x3, 0x8, 0, 0x0, 1, 0x0, 1⟩
  | .LN_LANE_EQ => ⟨0x3, 0xC, 0, 0x0, 1, 0x0, 1⟩
  | .LN_FIT => ⟨0x3, 0x20, 0, 0x0, 1, 0x0, 1⟩
  | .LN_EQ => ⟨0x3, 0x24, 0, 0x0, 1, 0x0, 1⟩
  | .LN_PORT_STAT => ⟨0x3, 0x100, 0, 0x4, 48, 0x0, 1⟩
  | .SP_WARN => ⟨0xD, 0x0, 0, 0x0, 1, 0x0, 1⟩
  | .SP_CMD => ⟨0xD, 0x100, 0, 0x80, 12, 0x0, 1⟩
  | .SP_CFG => ⟨0xD, 0x104, 0, 0x80, 12, 0x0, 1⟩
  | .SP_STATUS => ⟨0xD, 0x108, 0, 0x80, 12, 0x0, 1⟩
  | .SP_MEAS => ⟨0xD, 0x118, 0, 0x80, 12, 0x0, 1⟩
  | .SP_TIMERS => ⟨0xD, 0x10C, 0, 0x80, 12, 0x0, 1⟩
  | .SP_RETRY => ⟨0xD, 0x110, 0, 0x80, 12, 0x0, 1⟩
  | .SP_FEED => ⟨0xD, 0x114, 0, 0x80, 12, 0x0, 1⟩
  | .SP_FAST => ⟨0xD, 0x11C, 0, 0x80, 12, 0x0, 1⟩
  | .SP_CURVE => ⟨0xD, 0x120, 0, 0x80, 12, 0x4, 8⟩
  | .FC_STATUS_LO => ⟨0xE, 0x0, 0, 0x0, 1, 0x0, 1⟩
  | .FC_STATUS_HI => ⟨0xE, 0x4, 0, 0x0, 1, 0x0, 1⟩
  | .FC_MASK_LO => ⟨0xE, 0x8, 0, 0x0, 1, 0x0, 1⟩
  | .FC_MASK_HI => ⟨0xE, 0xC, 0, 0x0, 1, 0x0, 1⟩
  | .FC_FIRST => ⟨0xE, 0x10, 0, 0x0, 1, 0x0, 1⟩
  | .FC_STATE => ⟨0xE, 0x14, 0, 0x0, 1, 0x0, 1⟩
  | .FC_POLICY => ⟨0xE, 0x18, 0, 0x0, 1, 0x0, 1⟩
  | .FC_INJECT => ⟨0xE, 0x1C, 0, 0x0, 1, 0x0, 1⟩
  | .FC_PORT => ⟨0xE, 0xA00, 0, 0x4, 48, 0x0, 1⟩
  | .MB_STATUS => ⟨0x100, 0x800, 0, 0x10000, 18, 0x0, 1⟩
  | .MB_CTRL => ⟨0x100, 0x804, 0, 0x10000, 18, 0x0, 1⟩
  | .MB_DOORBELL => ⟨0x100, 0x808, 0, 0x10000, 18, 0x0, 1⟩
  | .MB_RSP_LEN => ⟨0x100, 0x80C, 0, 0x10000, 18, 0x0, 1⟩
  | .MB_BUSY => ⟨0x100, 0x810, 0, 0x10000, 18, 0x0, 1⟩
  | .MB_SEQ => ⟨0x100, 0x814, 0, 0x10000, 18, 0x0, 1⟩
  | .MB_EQ_HEAD => ⟨0x101, 0x1000, 0, 0x10000, 16, 0x0, 1⟩
  | .MB_EQ_TAIL => ⟨0x101, 0x1004, 0, 0x10000, 16, 0x0, 1⟩
  | .MB_EQ_STATUS => ⟨0x101, 0x1008, 0, 0x10000, 16, 0x0, 1⟩
  | .MB_EQ_LOST => ⟨0x101, 0x100C, 0, 0x10000, 16, 0x0, 1⟩
  | .MB_EQ_BACKLOG => ⟨0x101, 0x1010, 0, 0x10000, 16, 0x0, 1⟩
  | .PMON_CTRL => ⟨0x10, 0x0, 0, 0x0, 1, 0x0, 1⟩
  | .PMON_STATUS => ⟨0x10, 0x4, 0, 0x0, 1, 0x0, 1⟩
  | .PMON_SHV => ⟨0x10, 0x8, 0, 0x0, 1, 0x0, 1⟩
  | .PMON_SHV_SEED => ⟨0x10, 0xC, 0, 0x0, 1, 0x0, 1⟩
  | .PMON_BW_CFG => ⟨0x10, 0x10, 0, 0x0, 1, 0x0, 1⟩
  | .PMON_BW_INFO => ⟨0x10, 0x14, 0, 0x0, 1, 0x0, 1⟩
  | .PMON_BW_DUR => ⟨0x10, 0x18, 0, 0x0, 1, 0x0, 1⟩
  | .PMON_BW_STAT => ⟨0x10, 0x6010, 0, 0x20, 48, 0x0, 1⟩
  | .FLT_BASE => ⟨0x10, 0x4000, 0, 0x20, 64, 0x0, 1⟩
  | .FLT_LIM => ⟨0x10, 0x4008, 0, 0x20, 64, 0x0, 1⟩
  | .FLT_MATCH => ⟨0x10, 0x4010, 0, 0x20, 64, 0x0, 1⟩
  | .FLT_CTRL => ⟨0x10, 0x4014, 0, 0x20, 64, 0x0, 1⟩
  | .PWR_CTRL => ⟨0x11, 0x0, 0, 0x0, 1, 0x0, 1⟩
  | .PWR_STATUS => ⟨0x11, 0x4, 0, 0x0, 1, 0x0, 1⟩
  | .PWR_DVFS => ⟨0x11, 0x8, 0, 0x0, 1, 0x0, 1⟩
  | .PWR_IDLE => ⟨0x11, 0xC, 0, 0x0, 1, 0x0, 1⟩
  | .PWR_SLEEP => ⟨0x11, 0x10, 0, 0x0, 1, 0x0, 1⟩
  | .PWR_WAKE_EN => ⟨0x11, 0x14, 0, 0x0, 1, 0x0, 1⟩
  | .PWR_WAKE_STAT => ⟨0x11, 0x18, 0, 0x0, 1, 0x0, 1⟩
  | .PWR_PADHOLD => ⟨0x11, 0x1C, 0, 0x0, 1, 0x0, 1⟩
  | .PWR_WAKE_TMR => ⟨0x11, 0x20, 0, 0x0, 1, 0x0, 1⟩
  | .PWR_SLOT_WAS_ON => ⟨0x11, 0x24, 0, 0x0, 1, 0x0, 1⟩
  | .CLK_CTRL => ⟨0x12, 0x0, 0, 0x0, 1, 0x0, 1⟩
  | .CLK_SR => ⟨0x12, 0x4, 0, 0x0, 1, 0x0, 1⟩
  | .CLK_STATUS => ⟨0x12, 0x8, 0, 0x0, 1, 0x0, 1⟩
  | .CLK_MEAS => ⟨0x12, 0xC, 0, 0x0, 1, 0x0, 1⟩
  | .CLK_AVS => ⟨0x12, 0x10, 0, 0x0, 1, 0x0, 1⟩
  | .PST_CTRL => ⟨0xA, 0x0, 0, 0x0, 1, 0x0, 1⟩
  | .PST_STATUS => ⟨0xA, 0x4, 0, 0x0, 1, 0x0, 1⟩
  | .PST_BANK => ⟨0xA, 0x8, 0, 0x0, 1, 0x0, 1⟩
  | .PST_VLIM => ⟨0xA, 0xC, 0, 0x0, 1, 0x0, 1⟩
  | .PST_HUV_CFG => ⟨0xA, 0x10, 0, 0x0, 1, 0x0, 1⟩
  | .PST_HUV_MEAS => ⟨0xA, 0x14, 0, 0x0, 1, 0x0, 1⟩
  | .PST_FEED_CFG => ⟨0xA, 0x18, 0, 0x0, 1, 0x0, 1⟩
  | .PST_FEED_DIV => ⟨0xA, 0x1C, 0, 0x0, 1, 0x0, 1⟩
  | .PST_FEED_MEAS => ⟨0xA, 0x20, 0, 0x0, 1, 0x0, 1⟩
  | .PST_TIMERS => ⟨0xA, 0x24, 0, 0x0, 1, 0x0, 1⟩
  | .MB_STRAP => ⟨0x103, 0x0, 0, 0x0, 1, 0x0, 1⟩
  | .MB_RESET_CAUSE => ⟨0x103, 0x4, 0, 0x0, 1, 0x0, 1⟩
  | .MB_BOOT => ⟨0x103, 0x8, 0, 0x0, 1, 0x0, 1⟩
  | .PWR_THERM => ⟨0x11, 0x60, 0, 0x0, 1, 0x0, 1⟩
  | .RING_HOME => ⟨0x1, 0x40, 0, 0x4, 16, 0x0, 1⟩
  | .ML_CREDIT_STAT => ⟨0x2, 0x80, 220, 0x200, 4, 0x4, 5⟩
  | .ML_CNT_RS_CORR => ⟨0x2, 0x40, 44, 0x200, 4, 0x0, 1⟩
  | .ML_CNT_UNCORR => ⟨0x2, 0x44, 44, 0x200, 4, 0x0, 1⟩
  | .ML_CNT_CRC => ⟨0x2, 0x48, 44, 0x200, 4, 0x0, 1⟩
  | .ML_CNT_DUP => ⟨0x2, 0x4C, 44, 0x200, 4, 0x0, 1⟩
  | .ML_CNT_REPLAY => ⟨0x2, 0x50, 44, 0x200, 4, 0x0, 1⟩
  | .ML_CNT_STALE_ACK => ⟨0x2, 0x54, 44, 0x200, 4, 0x0, 1⟩
  | .ML_CNT_LEAK => ⟨0x2, 0x58, 44, 0x200, 4, 0x0, 1⟩
  | .ML_CNT_RETRAIN => ⟨0x2, 0x5C, 44, 0x200, 4, 0x0, 1⟩
  | .ML_CNT_LINKDOWN => ⟨0x2, 0x60, 44, 0x200, 4, 0x0, 1⟩
  | .ML_CNT_TT_REPLAY => ⟨0x2, 0x64, 44, 0x200, 4, 0x0, 1⟩
  | .ML_CNT_PROTOCOL => ⟨0x2, 0x68, 44, 0x200, 4, 0x0, 1⟩
  | .ML_CNT_ABORT => ⟨0x2, 0x6C, 44, 0x200, 4, 0x0, 1⟩
  | .PART_CNT_STALE => ⟨0x5, 0x40, 0, 0x0, 1, 0x0, 1⟩
  | .PART_CNT_UNASSIGNED => ⟨0x5, 0x44, 0, 0x0, 1, 0x0, 1⟩
  | .PART_CNT_FROZEN => ⟨0x5, 0x48, 0, 0x0, 1, 0x0, 1⟩
  | .PART_CNT_SYNTH => ⟨0x5, 0x4C, 0, 0x0, 1, 0x0, 1⟩
  | .PART_CNT_QUAR => ⟨0x5, 0x50, 0, 0x0, 1, 0x0, 1⟩
  | .PART_CNT_TMO => ⟨0x5, 0x54, 0, 0x0, 1, 0x0, 1⟩
  | .PART_NPQ => ⟨0x5, 0x200, 0, 0x4, 64, 0x0, 1⟩
  | .WIN_CNT_MISS => ⟨0x6, 0x40, 0, 0x0, 1, 0x0, 1⟩
  | .WIN_CNT_VIOL => ⟨0x6, 0x44, 0, 0x0, 1, 0x0, 1⟩
  | .WIN_CNT_DENY => ⟨0x6, 0x48, 0, 0x0, 1, 0x0, 1⟩
  | .WIN_CNT_REDIRECT => ⟨0x6, 0x4C, 0, 0x0, 1, 0x0, 1⟩
  | .WIN_GRANT_W => ⟨0x6, 0x400, 0, 0x10, 64, 0x0, 1⟩
  | .WIN_GRANT_R => ⟨0x6, 0x408, 0, 0x10, 64, 0x0, 1⟩
  | .SC_CNT_CT => ⟨0x7, 0x40, 0, 0x0, 1, 0x0, 1⟩
  | .SC_CNT_SF => ⟨0x7, 0x44, 0, 0x0, 1, 0x0, 1⟩
  | .SC_CNT_REFUSED => ⟨0x7, 0x48, 0, 0x0, 1, 0x0, 1⟩
  | .SC_CNT_HOLD => ⟨0x7, 0x4C, 0, 0x0, 1, 0x0, 1⟩
  | .SC_CNT_FALLBACK => ⟨0x7, 0x50, 0, 0x0, 1, 0x0, 1⟩
  | .SC_CNT_ECC_CORR => ⟨0x7, 0x54, 0, 0x0, 1, 0x0, 1⟩
  | .SC_CNT_ECC_UNCORR => ⟨0x7, 0x58, 0, 0x0, 1, 0x0, 1⟩
  | .JNL_CNT_RTX => ⟨0x9, 0x40, 0, 0x0, 1, 0x0, 1⟩
  | .JNL_CNT_DUP => ⟨0x9, 0x44, 0, 0x0, 1, 0x0, 1⟩
  | .JNL_CNT_GAP => ⟨0x9, 0x48, 0, 0x0, 1, 0x0, 1⟩
  | .JNL_CNT_WINDOW => ⟨0x9, 0x4C, 0, 0x0, 1, 0x0, 1⟩
  | .JNL_CNT_UNSYNC => ⟨0x9, 0x50, 0, 0x0, 1, 0x0, 1⟩
  | .JNL_CNT_UNDELIV => ⟨0x9, 0x54, 0, 0x0, 1, 0x0, 1⟩
  | .JNL_CNT_PURGE => ⟨0x9, 0x58, 0, 0x0, 1, 0x0, 1⟩
  | .JNL_CNT_ADM_WAIT => ⟨0x9, 0x5C, 0, 0x0, 1, 0x0, 1⟩
  | .SPN_CNT_DELAY_LOST => ⟨0xB, 0x40, 0, 0x0, 1, 0x0, 1⟩
  | .SPN_CNT_STEP => ⟨0xB, 0x44, 0, 0x0, 1, 0x0, 1⟩
  | .SPN_CNT_TURN => ⟨0xB, 0x48, 0, 0x0, 1, 0x0, 1⟩
  | .SPN_CNT_TURN_LATE => ⟨0xB, 0x4C, 0, 0x0, 1, 0x0, 1⟩
  | .SPN_CNT_TURN_SKIP => ⟨0xB, 0x50, 0, 0x0, 1, 0x0, 1⟩
  | .SPN_CNT_TURN_DROP => ⟨0xB, 0x54, 0, 0x0, 1, 0x0, 1⟩
  | .SPN_CNT_CAP_LOST => ⟨0xB, 0x58, 0, 0x0, 1, 0x0, 1⟩
  | .SPN_CNT_TT_UNBOUND => ⟨0xB, 0x5C, 0, 0x0, 1, 0x0, 1⟩
  | .SPN_TT_PART => ⟨0xB, 0x30, 0, 0x0, 1, 0x0, 1⟩
  | .SCH_CNT_EXCESS => ⟨0x8, 0x40, 0, 0x0, 1, 0x0, 1⟩
  | .SCH_CNT_HELD => ⟨0x8, 0x44, 0, 0x0, 1, 0x0, 1⟩
  | .SCH_CNT_STARVE => ⟨0x8, 0x48, 0, 0x0, 1, 0x0, 1⟩
  | .SCH_CNT_BG => ⟨0x8, 0x4C, 0, 0x0, 1, 0x0, 1⟩
  | .SCH_CNT_TT_PRI => ⟨0x8, 0x50, 0, 0x0, 1, 0x0, 1⟩
  | .SCH_CNT_TT_DRR => ⟨0x8, 0x54, 0, 0x0, 1, 0x0, 1⟩
  | .DM_CNT_BYTES => ⟨0x102, 0x10030, 0, 0x800, 64, 0x0, 1⟩
  | .DM_CNT_START_MISS => ⟨0xC, 0x40, 0, 0x0, 1, 0x0, 1⟩
  | .DM_CNT_STALE => ⟨0xC, 0x44, 0, 0x0, 1, 0x0, 1⟩
  | .DM_CNT_HALT => ⟨0xC, 0x48, 0, 0x0, 1, 0x0, 1⟩
  | .PX_CNT_MPS => ⟨0x4, 0x80, 0, 0x0, 1, 0x0, 1⟩
  | .PX_CNT_ECRC => ⟨0x4, 0x84, 0, 0x0, 1, 0x0, 1⟩
  | .PX_CNT_IDE_BLOCK => ⟨0x4, 0x88, 0, 0x0, 1, 0x0, 1⟩
  | .PX_CNT_MALFORMED => ⟨0x4, 0x8C, 0, 0x0, 1, 0x0, 1⟩
  | .PX_CNT_RXERR => ⟨0x4, 0x1010, 0, 0x20, 48, 0x0, 1⟩
  | .PX_CNT_RECOV => ⟨0x4, 0x1014, 0, 0x20, 48, 0x0, 1⟩
  | .LB_CNT_WR => ⟨0xF, 0x40, 0, 0x0, 1, 0x0, 1⟩
  | .LB_CNT_RD => ⟨0xF, 0x44, 0, 0x0, 1, 0x0, 1⟩
  | .LB_CNT_RETRY => ⟨0xF, 0x48, 0, 0x0, 1, 0x0, 1⟩
  | .LB_CNT_ERR => ⟨0xF, 0x4C, 0, 0x0, 1, 0x0, 1⟩
  | .LB_CNT_PREF_HIT => ⟨0xF, 0x50, 0, 0x0, 1, 0x0, 1⟩
  | .LB_CNT_PREF_DISC => ⟨0xF, 0x54, 0, 0x0, 1, 0x0, 1⟩
  | .LB_CNT_SEM_FORCED => ⟨0xF, 0x58, 0, 0x0, 1, 0x0, 1⟩
  | .LB_CNT_SEM_BAD => ⟨0xF, 0x5C, 0, 0x0, 1, 0x0, 1⟩
  | .LN_LANE_CNT_CORR => ⟨0x3, 0x10, 0, 0x0, 1, 0x0, 1⟩
  | .LN_LANE_CNT_LOCK => ⟨0x3, 0x14, 0, 0x0, 1, 0x0, 1⟩
  | .LN_LANE_CNT_TEST => ⟨0x3, 0x18, 0, 0x0, 1, 0x0, 1⟩
  | .SP_CNT_TRIP => ⟨0xD, 0x140, 0, 0x80, 12, 0x0, 1⟩
  | .SP_CNT_RETRY => ⟨0xD, 0x14C, 0, 0x80, 12, 0x0, 1⟩
  | .FC_CNT_CLASS => ⟨0xE, 0x40, 0, 0x4, 5, 0x0, 1⟩
  | .FC_CNT_NODE_RESET => ⟨0xE, 0x54, 0, 0x0, 1, 0x0, 1⟩
  | .FC_CNT_CYCLE => ⟨0xE, 0x58, 0, 0x0, 1, 0x0, 1⟩
  | .MB_ACC_ERR => ⟨0x101, 0x1014, 0, 0x10000, 16, 0x0, 1⟩
  | .PMON_CNT_SHV_LOST => ⟨0x10, 0x40, 0, 0x0, 1, 0x0, 1⟩
  | .PMON_CNT_SHV_SKIP => ⟨0x10, 0x44, 0, 0x0, 1, 0x0, 1⟩
  | .PMON_EVT => ⟨0x10, 0x1000, 0, 0x8, 1472, 0x0, 1⟩
  | .FLT_CNT => ⟨0x10, 0x4018, 0, 0x20, 64, 0x0, 1⟩
  | .PMON_BW_END => ⟨0x10, 0x20, 0, 0x0, 1, 0x0, 1⟩
  | .PMON_BW_RX => ⟨0x10, 0x6000, 0, 0x20, 48, 0x0, 1⟩
  | .PMON_BW_TX => ⟨0x10, 0x6008, 0, 0x20, 48, 0x0, 1⟩
  | .PWR_CNT_PL => ⟨0x11, 0x40, 0, 0x0, 1, 0x0, 1⟩
  | .PWR_CNT_SLEEP => ⟨0x11, 0x44, 0, 0x0, 1, 0x0, 1⟩
  | .PWR_CNT_DVFS_FAIL => ⟨0x11, 0x48, 0, 0x0, 1, 0x0, 1⟩
  | .CLK_CNT_REJECT => ⟨0x12, 0x40, 0, 0x0, 1, 0x0, 1⟩
  | .CLK_CNT_SWITCH => ⟨0x12, 0x44, 0, 0x0, 1, 0x0, 1⟩
  | .CLK_CNT_RETURN => ⟨0x12, 0x48, 0, 0x0, 1, 0x0, 1⟩
  | .CLK_CNT_AVS_ERR => ⟨0x12, 0x4C, 0, 0x0, 1, 0x0, 1⟩
  | .PST_CNT_PFW => ⟨0xA, 0x40, 0, 0x0, 1, 0x0, 1⟩
  | .PST_CNT_FEED_A => ⟨0xA, 0x44, 0, 0x0, 1, 0x0, 1⟩
  | .PST_CNT_FEED_B => ⟨0xA, 0x48, 0, 0x0, 1, 0x0, 1⟩
  | .PST_CNT_CH_ERR => ⟨0xA, 0x4C, 0, 0x0, 1, 0x0, 1⟩
  | .SP_CNT_SWITCH => ⟨0xD, 0x144, 0, 0x80, 12, 0x0, 1⟩
  | .SP_CNT_CYCLE => ⟨0xD, 0x148, 0, 0x80, 12, 0x0, 1⟩
  | .SPN_TIME => ⟨0xB, 0x20, 0, 0x0, 1, 0x0, 1⟩
  | .FC_CAP => ⟨0xE, 0x100, 0, 0x4, 512, 0x0, 1⟩
  | .FC_GRAVE => ⟨0xE, 0x900, 0, 0x4, 8, 0x0, 1⟩

/-- Every register name. -/
def Reg.all0 : List Reg := [.RING_CTRL, .RING_STATUS, .RING_MEMBER_A, .RING_MEMBER_B, .RING_FITTED, .RING_TIMERS, .RING_PORT, .ML_CTRL, .ML_STATUS, .ML_TIMERS, .ML_LIMITS, .ML_CREDIT_ADV_0, .ML_CREDIT_ADV_1, .ML_CREDIT_ADV_2, .ML_ERR_STATUS, .PART_GLOBAL, .PART_TIMERS, .PART_CTRL, .PART_FN_A, .PART_FN_B, .WIN_PCTRL, .WIN_VLOG_ADDR_LO, .WIN_VLOG_ADDR_HI, .WIN_VLOG_INFO, .SC_CTRL, .SC_ORDER, .SC_FABRIC, .SC_TT_POOL, .SC_POOL_STAT, .SC_POOL_SIZE, .SC_EGQ, .SC_EGOCC, .SC_PIN_P, .SC_PIN_NP, .SC_PIN_CPL, .JNL_CTRL, .JNL_STATUS, .JNL_TIMERS, .JNL_TIMERS2, .JNL_PF, .JNL_OCC, .JNL_RESV, .JNL_VMAX, .JNL_VCOMMIT, .JNL_EPOCH, .JNL_DQ, .JNL_DQOCC, .SPN_CTRL, .SPN_STATUS, .SPN_SYNC, .SPN_HOLD, .SPN_OFFSET, .SPN_PPS, .SPN_PORT, .SPN_GRAIN, .SPN_PIN, .SCH_CTRL, .SCH_STARVE, .SCH_STATUS, .SCH_PORT]
def Reg.all1 : List Reg := [.SCH_MTR_C, .SCH_MTR_P, .SCH_MTR_CTOK, .SCH_MTR_PTOK, .DM_CTRL, .DM_STATUS, .DM_RING, .DM_CFG, .DM_TAIL, .DM_HEAD, .DM_DONE, .DM_ERR_ADDR_LO, .DM_ERR_ADDR_HI, .DM_TAGS, .DM_CNT_DESC, .DM_GLOBAL, .DM_GLOBAL_STAT, .DM_ASSIGN, .DM_TAGQ, .PX_DUAL, .PX_BIF, .PX_PMAP, .PX_PORT_CFG, .PX_PORT_STAT, .PX_PWR, .PX_SLOT, .LB_CTRL, .LB_STATUS, .LB_INT_STATUS, .LB_INT_EN, .LB_SEM, .LB_SEM_CFG, .LB_SEM_HOLD, .LB_TIMING, .LB_QUOTA, .LB_CS, .LB_PREG, .LB_ELOG_ADDR, .LB_ELOG_INFO, .LB_ELOG_REQ, .LB_ELOG_TIME, .LB_PLOG_ADDR, .LB_PLOG_INFO, .LN_SEL, .LN_LANE_CTRL, .LN_LANE_STAT, .LN_LANE_EQ, .LN_FIT, .LN_EQ, .LN_PORT_STAT, .SP_WARN, .SP_CMD, .SP_CFG, .SP_STATUS, .SP_MEAS, .SP_TIMERS, .SP_RETRY, .SP_FEED, .SP_FAST, .SP_CURVE]
def Reg.all2 : List Reg := [.FC_STATUS_LO, .FC_STATUS_HI, .FC_MASK_LO, .FC_MASK_HI, .FC_FIRST, .FC_STATE, .FC_POLICY, .FC_INJECT, .FC_PORT, .MB_STATUS, .MB_CTRL, .MB_DOORBELL, .MB_RSP_LEN, .MB_BUSY, .MB_SEQ, .MB_EQ_HEAD, .MB_EQ_TAIL, .MB_EQ_STATUS, .MB_EQ_LOST, .MB_EQ_BACKLOG, .PMON_CTRL, .PMON_STATUS, .PMON_SHV, .PMON_SHV_SEED, .PMON_BW_CFG, .PMON_BW_INFO, .PMON_BW_DUR, .PMON_BW_STAT, .FLT_BASE, .FLT_LIM, .FLT_MATCH, .FLT_CTRL, .PWR_CTRL, .PWR_STATUS, .PWR_DVFS, .PWR_IDLE, .PWR_SLEEP, .PWR_WAKE_EN, .PWR_WAKE_STAT, .PWR_PADHOLD, .PWR_WAKE_TMR, .PWR_SLOT_WAS_ON, .CLK_CTRL, .CLK_SR, .CLK_STATUS, .CLK_MEAS, .CLK_AVS, .PST_CTRL, .PST_STATUS, .PST_BANK, .PST_VLIM, .PST_HUV_CFG, .PST_HUV_MEAS, .PST_FEED_CFG, .PST_FEED_DIV, .PST_FEED_MEAS, .PST_TIMERS, .MB_STRAP, .MB_RESET_CAUSE, .MB_BOOT]
def Reg.all3 : List Reg := [.PWR_THERM, .RING_HOME, .ML_CREDIT_STAT, .ML_CNT_RS_CORR, .ML_CNT_UNCORR, .ML_CNT_CRC, .ML_CNT_DUP, .ML_CNT_REPLAY, .ML_CNT_STALE_ACK, .ML_CNT_LEAK, .ML_CNT_RETRAIN, .ML_CNT_LINKDOWN, .ML_CNT_TT_REPLAY, .ML_CNT_PROTOCOL, .ML_CNT_ABORT, .PART_CNT_STALE, .PART_CNT_UNASSIGNED, .PART_CNT_FROZEN, .PART_CNT_SYNTH, .PART_CNT_QUAR, .PART_CNT_TMO, .PART_NPQ, .WIN_CNT_MISS, .WIN_CNT_VIOL, .WIN_CNT_DENY, .WIN_CNT_REDIRECT, .WIN_GRANT_W, .WIN_GRANT_R, .SC_CNT_CT, .SC_CNT_SF, .SC_CNT_REFUSED, .SC_CNT_HOLD, .SC_CNT_FALLBACK, .SC_CNT_ECC_CORR, .SC_CNT_ECC_UNCORR, .JNL_CNT_RTX, .JNL_CNT_DUP, .JNL_CNT_GAP, .JNL_CNT_WINDOW, .JNL_CNT_UNSYNC, .JNL_CNT_UNDELIV, .JNL_CNT_PURGE, .JNL_CNT_ADM_WAIT, .SPN_CNT_DELAY_LOST, .SPN_CNT_STEP, .SPN_CNT_TURN, .SPN_CNT_TURN_LATE, .SPN_CNT_TURN_SKIP, .SPN_CNT_TURN_DROP, .SPN_CNT_CAP_LOST, .SPN_CNT_TT_UNBOUND, .SPN_TT_PART, .SCH_CNT_EXCESS, .SCH_CNT_HELD, .SCH_CNT_STARVE, .SCH_CNT_BG, .SCH_CNT_TT_PRI, .SCH_CNT_TT_DRR, .DM_CNT_BYTES, .DM_CNT_START_MISS]
def Reg.all4 : List Reg := [.DM_CNT_STALE, .DM_CNT_HALT, .PX_CNT_MPS, .PX_CNT_ECRC, .PX_CNT_IDE_BLOCK, .PX_CNT_MALFORMED, .PX_CNT_RXERR, .PX_CNT_RECOV, .LB_CNT_WR, .LB_CNT_RD, .LB_CNT_RETRY, .LB_CNT_ERR, .LB_CNT_PREF_HIT, .LB_CNT_PREF_DISC, .LB_CNT_SEM_FORCED, .LB_CNT_SEM_BAD, .LN_LANE_CNT_CORR, .LN_LANE_CNT_LOCK, .LN_LANE_CNT_TEST, .SP_CNT_TRIP, .SP_CNT_RETRY, .FC_CNT_CLASS, .FC_CNT_NODE_RESET, .FC_CNT_CYCLE, .MB_ACC_ERR, .PMON_CNT_SHV_LOST, .PMON_CNT_SHV_SKIP, .PMON_EVT, .FLT_CNT, .PMON_BW_END, .PMON_BW_RX, .PMON_BW_TX, .PWR_CNT_PL, .PWR_CNT_SLEEP, .PWR_CNT_DVFS_FAIL, .CLK_CNT_REJECT, .CLK_CNT_SWITCH, .CLK_CNT_RETURN, .CLK_CNT_AVS_ERR, .PST_CNT_PFW, .PST_CNT_FEED_A, .PST_CNT_FEED_B, .PST_CNT_CH_ERR, .SP_CNT_SWITCH, .SP_CNT_CYCLE, .SPN_TIME, .FC_CAP, .FC_GRAVE]
def Reg.all : List Reg := Reg.all0 ++ Reg.all1 ++ Reg.all2 ++ Reg.all3 ++ Reg.all4

/-- Table 13.4: the reset value of point `k` of a channel's curve, as (ISET, UNIT, TIME). -/
def curveReset : Nat → Nat × Nat × Nat
  | 0 => (0x096, 2, 100) | 1 => (0x0B4, 2, 20) | 2 => (0x0DC, 2, 5) | 3 => (0x104, 1, 100)
  | 4 => (0x12C, 1, 20) | 5 => (0x168, 0, 500) | 6 => (0x1B8, 0, 100) | _ => (0x208, 0, 20)

/-- The reset values that are not 0, by register: the value of the field at `lsb` of the register of index `i`. -/
def Reg.resetOf (r : Reg) (lsb i : Nat) : Nat :=
  match r with
  | .PX_PMAP => 5 * i + lsb / 6
  | .PX_BIF => if i = 8 ∧ lsb = 0 then 1 else 0
  | .SP_CURVE =>
    let p := curveReset (i % 8)
    if lsb = 22 then p.1 else if lsb = 14 then p.2.1 else p.2.2
  | .RING_CTRL => if lsb = 5 then 1 else 0
  | .RING_TIMERS => if lsb = 18 then 0x14 else if lsb = 10 then 0x14 else if lsb = 0 then 0x64 else 0
  | .RING_PORT => if lsb = 2 then 1 else if lsb = 0 then 2 else 0
  | .ML_TIMERS => if lsb = 16 then 0xC else if lsb = 8 then 4 else if lsb = 0 then 0x1E else 0
  | .ML_LIMITS => if lsb = 16 then 8 else if lsb = 8 then 0x10 else if lsb = 0 then 4 else 0
  | .ML_CREDIT_ADV_0 => if lsb = 16 then 0x100 else if lsb = 0 then 0x400 else 0
  | .ML_CREDIT_ADV_1 => if lsb = 16 then 0x100 else if lsb = 0 then 0x400 else 0
  | .ML_CREDIT_ADV_2 => if lsb = 0 then 0x80 else 0
  | .PART_TIMERS => if lsb = 22 then 0x32 else if lsb = 12 then 0xA else if lsb = 2 then 0x64 else 0
  | .PART_FN_B => if lsb = 24 then 1 else if lsb = 1 then 0x10 else 0
  | .SC_CTRL => if lsb = 0 then 1 else 0
  | .SC_ORDER => if lsb = 0 then 0x14 else 0
  | .SC_FABRIC => if lsb = 0 then 0xA else 0
  | .SC_TT_POOL => if lsb = 0 then 0x800 else 0
  | .SC_POOL_STAT => if lsb = 0 then 0x4E000 else 0
  | .SC_POOL_SIZE => if lsb = 0 then 0x4E000 else 0
  | .SC_EGQ => if lsb = 0 then 0x1800 else 0
  | .JNL_CTRL => if lsb = 1 then 1 else 0
  | .JNL_TIMERS => if lsb = 20 then 0x14 else if lsb = 10 then 0xA else if lsb = 0 then 0x28 else 0
  | .JNL_TIMERS2 => if lsb = 16 then 0x32 else if lsb = 0 then 0x3E8 else 0
  | .JNL_PF => if lsb = 8 then 0x64 else if lsb = 0 then 0xC8 else 0
  | .JNL_VCOMMIT => if lsb = 0 then 0x20C0 else 0
  | .JNL_DQ => if lsb = 0 then 0x3000 else 0
  | .SPN_CTRL => if lsb = 24 then 0x80 else if lsb = 21 then 7 else 0
  | .SPN_SYNC => if lsb = 18 then 0xA else if lsb = 0 then 0x7D else 0
  | .SPN_HOLD => if lsb = 24 then 0x64 else if lsb = 0 then 0x14 else 0
  | .SPN_PPS => if lsb = 0 then 0x64 else 0
  | .SPN_GRAIN => if lsb = 0 then 0x100 else 0
  | .SCH_CTRL => if lsb = 1 then 1 else if lsb = 0 then 1 else 0
  | .SCH_STARVE => if lsb = 0 then 0x40 else 0
  | .SCH_PORT => if lsb = 8 then 0x10 else if lsb = 0 then 0xA else 0
  | .SCH_MTR_C => if lsb = 16 then 0x100 else if lsb = 0 then 0xFFFF else 0
  | .SCH_MTR_P => if lsb = 16 then 0x100 else 0
  | .SCH_MTR_CTOK => if lsb = 0 then 0x10000 else 0
  | .SCH_MTR_PTOK => if lsb = 0 then 0x10000 else 0
  | .DM_STATUS => if lsb = 10 then 1 else 0
  | .DM_CFG => if lsb = 24 then 0x40 else if lsb = 18 then 3 else if lsb = 16 then 3 else if lsb = 0 then 8 else 0
  | .DM_GLOBAL => if lsb = 0 then 0x800 else 0
  | .DM_TAGQ => if lsb = 0 then 0x80 else 0
  | .PX_DUAL => if lsb = 0 then 0xF else 0
  | .PX_PORT_CFG => if lsb = 26 then 5 else if lsb = 25 then 1 else if lsb = 20 then 3 else 0
  | .PX_PWR => if lsb = 20 then 1 else if lsb = 18 then 1 else if lsb = 10 then 0xA else if lsb = 0 then 0x40 else 0
  | .LB_CTRL => if lsb = 5 then 8 else 0
  | .LB_INT_EN => if lsb = 0 then 7 else 0
  | .LB_SEM_CFG => if lsb = 12 then 0xFFFFF else 0
  | .LB_SEM_HOLD => if lsb = 0 then 0x64 else 0
  | .LB_TIMING => if lsb = 24 then 0xA else if lsb = 0 then 0x64 else 0
  | .LB_QUOTA => if lsb = 0 then 0x100 else 0
  | .LB_CS => if lsb = 28 then 3 else if lsb = 20 then 1 else if lsb = 16 then 1 else if lsb = 8 then 0x40 else if lsb = 0 then 0x10 else 0
  | .LN_FIT => if lsb = 16 then 0x4000 else if lsb = 12 then 3 else 0
  | .LN_EQ => if lsb = 24 then 0x30 else if lsb = 16 then 3 else 0
  | .SP_WARN => if lsb = 16 then 0x1F4 else if lsb = 0 then 1 else 0
  | .SP_CFG => if lsb = 29 then 1 else if lsb = 20 then 6 else if lsb = 8 then 0x14 else 0
  | .SP_STATUS => if lsb = 22 then 1 else if lsb = 18 then 3 else 0
  | .SP_TIMERS => if lsb = 24 then 0xA else if lsb = 14 then 0x64 else if lsb = 7 then 0xA else if lsb = 0 then 0xA else 0
  | .SP_RETRY => if lsb = 28 then 3 else if lsb = 20 then 0xA else if lsb = 10 then 0xFA else if lsb = 2 then 0xA else 0
  | .SP_FEED => if lsb = 25 then 5 else if lsb = 14 then 0x64 else 0
  | .SP_FAST => if lsb = 0 then 0x3C else 0
  | .FC_POLICY => if lsb = 28 then 2 else if lsb = 20 then 0x3C else if lsb = 13 then 0x78 else 0
  | .FC_PORT => if lsb = 30 then 1 else if lsb = 29 then 1 else if lsb = 25 then 3 else if lsb = 17 then 0xA else if lsb = 9 then 0x3C else if lsb = 3 then 0xA else 0
  | .MB_CTRL => if lsb = 0 then 1 else 0
  | .PMON_SHV => if lsb = 0 then 0x10 else 0
  | .PMON_SHV_SEED => if lsb = 0 then 1 else 0
  | .PMON_BW_CFG => if lsb = 0 then 0x3E8 else 0
  | .FLT_CTRL => if lsb = 24 then 0x3F else if lsb = 23 then 1 else if lsb = 14 then 7 else if lsb = 8 then 0x3F else if lsb = 3 then 0x1F else if lsb = 1 then 3 else 0
  | .PWR_CTRL => if lsb = 4 then 1 else 0
  | .PWR_DVFS => if lsb = 16 then 0x14 else if lsb = 0 then 5 else 0
  | .PWR_IDLE => if lsb = 0 then 0x64 else 0
  | .PWR_SLEEP => if lsb = 0 then 0x14 else 0
  | .PWR_WAKE_EN => if lsb = 2 then 1 else if lsb = 1 then 1 else if lsb = 0 then 1 else 0
  | .CLK_CTRL => if lsb = 4 then 1 else if lsb = 3 then 1 else if lsb = 2 then 1 else 0
  | .CLK_SR => if lsb = 22 then 0xC8 else if lsb = 14 then 0x40 else if lsb = 0 then 0xC else 0
  | .CLK_STATUS => if lsb = 22 then 3 else if lsb = 20 then 3 else if lsb = 18 then 3 else if lsb = 16 then 3 else if lsb = 12 then 1 else 0
  | .PST_CTRL => if lsb = 2 then 1 else 0
  | .PST_VLIM => if lsb = 16 then 0x168 else if lsb = 0 then 0xA0 else 0
  | .PST_HUV_CFG => if lsb = 0 then 0xBB8 else 0
  | .PST_FEED_CFG => if lsb = 24 then 5 else if lsb = 16 then 0x8C else if lsb = 8 then 0x70 else if lsb = 0 then 0x6C else 0
  | .PST_FEED_DIV => if lsb = 16 then 0x4B0 else if lsb = 0 then 0x4B0 else 0
  | .PST_TIMERS => if lsb = 0 then 0xA else 0
  | .MB_RESET_CAUSE => if lsb = 0 then 1 else 0
  | .PART_NPQ => if lsb = 0 then 0x400 else 0
  | _ => 0

/-- The key under which State holds a field of index `i`. -/
def Fld.key (f : Fld) (i : Nat) : Nat := (i * 128 + f.lsb) * 512 + f.reg.ctorIdx

/-- What the field of a key holds after reset. -/
def fieldReset (k : Nat) : Nat := (Reg.ofNat (k % 512)).resetOf (k / 512 % 128) (k / 65536)

end Sys2Proof
end

