-- ==== Sys2Proof/Word.lean ====
section
/-! DEFINITION. The words of the registers: a dword is what an access to register space moves (R14). -/

namespace Sys2Proof

/-- A byte. -/
abbrev Byte := BitVec 8

/-- A dword of register space (R14). -/
abbrev Dword := BitVec 32

end Sys2Proof
end

