-- ==== Sys2Proof/Syntax.lean ====
section
/-! DEFINITION. The commands of the FS-5168 as syntax: the things that cross its pins (TLPs, fabric records, flits, link
control, ring messages, OMI parameters) and `Instr`, one constructor per row of spec/opcode_table.json. -/

namespace Sys2Proof

/-- Virtual channels of Maelryn Link (Table 00.4), in the order of their codes in Table 02.3. -/
inductive VC where
  | p | np | cpl | tt | mg
  deriving DecidableEq, Repr

/-- The 3-bit code of CR_VC (Table 02.3). -/
def VC.code : VC → Nat
  | .p => 0 | .np => 1 | .cpl => 2 | .tt => 3 | .mg => 4

/-- The two rings (R17). -/
inductive Plane where
  | a | b
  deriving DecidableEq, Repr

/-- East is the direction of ascending Node ID (Table 00.4). -/
inductive Dir where
  | east | west
  deriving DecidableEq, Repr

/-- What a TLP is, as far as a rule of the spec tells TLPs apart. -/
inductive TlpKind where
  | memRead | memWrite | atomic | ioRead | ioWrite | cfgRead0 | cfgWrite0 | cfgRead1 | cfgWrite1
  | msg | cpl
  deriving DecidableEq, Repr

/-- Completion status of the PCI Express Base Specification, as Table 03.6 names them. -/
inductive CplStatus where
  | sc | ur | rrs | ca
  deriving DecidableEq, Repr

/-- Address type of a request (04, R114): untranslated, translation request or translated. -/
inductive AddrType where
  | untranslated | translationRequest | translated
  deriving DecidableEq, Repr

/-- One transaction layer packet, reduced to the header content the rules of the spec read, and its payload.
`hdrBytes` is the length of its header with every prefix (at most 80, R136); `bytes` the payload length, or the length a read
asks for. `reqId` and `tag` are those the TLP carries; `cplId`, `status` and `byteCount` are a completion's; `msgCode` a
message's. `malformed` and `ecrcBad` say what the link checks or the header parse found wrong (10, R281 to R284). -/
structure Tlp where
  kind : TlpKind := .memRead
  reqId : Nat := 0
  tag : Nat := 0
  addr : Nat := 0
  bytes : Nat := 0
  hdrBytes : Nat := 16
  data : List (BitVec 8) := []
  tc : Nat := 0
  ro : Bool := false
  ido : Bool := false
  at_ : AddrType := .untranslated
  firstBe : Nat := 0xF
  lastBe : Nat := 0xF
  poisoned : Bool := false
  cplId : Nat := 0
  status : CplStatus := .sc
  byteCount : Nat := 0
  lowerAddr : Nat := 0
  msgCode : Nat := 0
  msgRoute : Nat := 0
  /-- the function a configuration request or a message routed by ID is for, and the byte offset of the register -/
  target : Nat := 0
  regNo : Nat := 0
  ide : Bool := false
  ecrcBad : Bool := false
  malformed : Bool := false
  deriving DecidableEq, Repr

/-- Journal event 0x41 (Table 06.10). -/
structure JEvent where
  reason : Nat
  vc : VC
  nonPosted : Bool := false
  summary : Bool := false
  dstNode : Nat
  srcNode : Nat
  seq : Nat
  addr : Nat := 0
  requester : Nat := 0
  tag : Nat := 0
  dstPort : Nat := 0
  srcPart : Nat := 0
  count : Nat := 1
  admitTs : Nat := 0
  reportTs : Nat := 0
  deriving DecidableEq, Repr

/-- The content of a capture record (Table 14.2). -/
structure Capture where
  unit : Nat
  cls : Nat
  high : Nat
  escalated : Bool := false
  mixed : Bool := false
  cause : Nat
  scope : Nat
  scopeId : Nat
  inst : Option Nat := none
  timeLocal : Bool := false
  timeHoldover : Bool := false
  injected : Bool := false
  addr : Nat := 0
  master : Nat := 0
  masterPart : Nat := 0xC0
  access : Nat := 0
  merges : Nat := 0
  lastDelta : Nat := 0
  time : Nat := 0
  deriving DecidableEq, Repr

/-- The events of the event queues, by their TYPE byte (15, R396). -/
inductive Ev where
  /-- 0x41 undeliverable (Table 06.10) -/
  | undeliverable (e : JEvent)
  /-- 0x81 fault captured (reason 1) or class raised (reason 2) (R368) -/
  | fault (reason : Nat) (c : Capture)
  /-- a stream's reservation is degraded, or its group has left both candidate paths (R225, R226): the spec gives this event
  no TYPE byte -/
  | grains (unreserved : Bool) (srcNode srcPart dstNode : Nat)
  /-- an instance's function is marked failed (R103): the spec gives this event no TYPE byte -/
  | functionFailed (node inst : Nat)
  /-- 0x82 and 0x93 and the others: the TYPE byte and the event's fields in the order of its table -/
  | other (type : Nat) (fields : List Nat)
  deriving DecidableEq, Repr

/-- A firmware message between nodes (R161, R387). -/
inductive FwMsg where
  /-- an event for a partition's queue, raised at node `from_` (R396) -/
  | event (part from_ : Nat) (e : Ev)
  /-- a discovery or cabling event of the fabric manager, and the like -/
  | other (type : Nat) (fields : List Nat)
  deriving DecidableEq, Repr

/-- An item of a journal control record (Table 06.2). -/
structure JItem where
  part : Nat
  vc : VC
  dir : Bool := false
  reason : Nat := 0
  seqA : Nat := 0
  seqB : Nat := 0
  deriving DecidableEq, Repr

/-- The body of a fabric packet record (KIND of Table 02.5): a TLP (0x1), a journal control record (0x2, Table 06.2), or a
reserved kind. -/
inductive Body where
  | tlp (t : Tlp)
  /-- KIND 0x1 on MG (R161) -/
  | fw (m : FwMsg)
  | ctl (subtype : Nat) (last : Bool) (items : List JItem)
  | reserved (kind : Nat)
  deriving DecidableEq, Repr

/-- A fabric packet record: the header of Table 02.5 and its body. -/
structure Record where
  srcPart : Nat := 0
  srcNode : Nat := 0
  dstNode : Nat := 0
  len : Nat := 20
  gen : Nat := 0
  dstPort : Nat := 0
  hops : Nat := 0
  plane : Plane := .a
  excess : Bool := false
  vc : VC := .p
  seq : Nat := 0
  admitTs : Nat := 0
  /-- instance of the destination node that the lookup found (04, Table 04.2) -/
  inst : Option Nat := none
  /-- chip select of the local bus that the lookup found (04, Table 04.2) -/
  cs : Nat := 0
  body : Body := .tlp {}
  deriving DecidableEq, Repr

/-- What a DATA flit's payload holds, in dwords from its first: the next dwords of the record in progress, or a record that
starts here and the number of its dwords in this flit. What follows the last piece is the end marker and padding (R49). -/
inductive Piece where
  | cont (dwords : Nat)
  | start (r : Record) (dwords : Nat)
  deriving DecidableEq, Repr

/-- Table 01.1's node record. -/
structure NodeRec where
  node : Nat
  eastBypass : Bool := false
  otherUp : Bool := false
  fmHome : Bool := false
  feature : Nat := 0
  fitted : Nat := 0
  deriving DecidableEq, Repr

/-- Discovery message (Table 01.1). -/
structure DiscMsg where
  plane : Plane
  launch : Dir
  turned : Bool := false
  origin : Nat
  run : Nat
  recs : List NodeRec
  deriving DecidableEq, Repr

/-- STATE of a link-state message (Table 01.2). -/
inductive SegState where
  | down | up | leaving
  deriving DecidableEq, Repr

/-- Link-state message (Table 01.2); `state` is none for a reserved value of the byte. -/
structure LsMsg where
  plane : Plane
  segment : Nat
  state : Option SegState
  epoch : Nat
  reporter : Nat
  deriving DecidableEq, Repr

/-- Time announcement (Table 07.2). -/
structure AnnMsg where
  gmId : Nat
  gmClass : Nat
  gmPrio : Nat
  gmEpoch : Nat
  hops : Nat
  traceable : Bool := false
  /-- the sender's state, coded as SPN_STATUS.STATE -/
  state : Nat := 2
  stepAnnounced : Bool := false
  stepAt : Nat := 0
  stepDelta : Int := 0
  deriving DecidableEq, Repr

/-- A hop-by-hop MG message (a MSG flit's payload, R47): the types 0x21, 0x22 and the time announcement; any other type. -/
inductive MgMsg where
  | disc (m : DiscMsg)
  | linkState (m : LsMsg)
  | announce (m : AnnMsg)
  | other (type : Nat)
  deriving DecidableEq, Repr

/-- One value per virtual channel. -/
structure PerVc where
  p : Nat := 0
  np : Nat := 0
  cpl : Nat := 0
  tt : Nat := 0
  mg : Nat := 0
  deriving DecidableEq, Repr

/-- AUDIT payload (Table 02.7). -/
structure Audit where
  no : Nat := 0
  consumed : PerVc := {}
  received : PerVc := {}
  held : PerVc := {}
  advEcho : PerVc := {}
  deriving DecidableEq, Repr

/-- What the receiver learns of any flit beside its content (Tables 02.2 and 02.3): `bad` are the bytes in error on
arrival, by their place in the flit (R52), `seq` the check sequence its sender put into the CRC (R53, R54). -/
structure FlitHdr where
  bad : List Nat := []
  seq : Nat := 0
  ack : Nat := 0xFFF
  crVc : Option VC := none
  crCount : Nat := 0
  deriving DecidableEq, Repr

/-- TS2 payload (Table 02.11). -/
structure Ts2 where
  node : Nat
  plane : Plane
  west : Bool
  lane : Nat
  usable : Nat
  rateCap : Nat
  feature : Nat
  eqValid : Bool
  deriving DecidableEq, Repr

/-- OP of an EQ flit (Table 12.2). -/
inductive EqOp where
  | presetReq | coefReq | applied | rejected | done | failed
  | reserved (op : Nat)
  deriving DecidableEq, Repr

/-- A transmitter setting: C-2, C-1, C0 and C+1 (R329). -/
structure Coefs where
  m2 : Int := 0
  m1 : Int := 0
  c0 : Int := 0
  p1 : Int := 0
  deriving DecidableEq, Repr

/-- EQ payload for one lane (Table 12.2). -/
structure EqMsg where
  op : EqOp
  preset : Nat := 0xFF
  coef : Coefs := {}
  fom : Nat := 0
  req : Nat := 0
  deriving DecidableEq, Repr

/-- LCTL flits (Table 02.11). -/
inductive Lctl where
  /-- the logical lane number the sender gives this lane, and its training number -/
  | ts1 (number train : Nat)
  | ts2 (t : Ts2)
  | rateGo (rate lanes left : Nat)
  | eq (lane : Nat) (m : EqMsg)
  | init (adv : PerVc) (depth lanes : Nat)
  | initDone
  | retrainReq (reason node wanted : Nat) (forced : Bool)
  | retrainAck (node wanted : Nat)
  | quiesceDone
  | reserved (code : Nat)
  deriving DecidableEq, Repr

/-- What a flit carries (Table 02.4). -/
inductive FlitBody where
  | idle
  | data (vc : VC) (first : Nat) (pieces : List Piece)
  | msg (m : MgMsg)
  | audit (a : Audit)
  | replay (start : Nat)
  | lctl (m : Lctl)
  /-- Link-delay measurement (Table 07.2): request or response, EXCH_ID, T_TX, T2_ECHO and T1_ECHO in units of 2^-16 ns, and
  the sender's state and whether it is grandmaster. -/
  | delay (response : Bool) (id tTx t2 t1 state : Nat) (gm : Bool)
  deriving DecidableEq, Repr

/-- A flit as sent. -/
structure Flit where
  hdr : FlitHdr := {}
  body : FlitBody := .idle
  deriving DecidableEq, Repr

/-- A fault report on its way to the collector (R363). -/
structure Report where
  unit : Nat
  cls : Nat
  /-- 3 port, 4 partition, 5 node (Table 14.2) -/
  scope : Nat := 5
  scopeId : Nat := 0
  inst : Option Nat := none
  cause : Nat := 0
  addr : Nat := 0
  master : Nat := 0
  /-- partition of the master in [5:0] and its kind in [7:6] -/
  masterPart : Nat := 0xC0
  access : Nat := 0
  injected : Bool := false
  /-- the rule that defines the error has frozen the instance already (R109) -/
  froze : Bool := false
  deriving DecidableEq, Repr


/-- The commands: one constructor per row of spec/opcode_table.json, in its order. -/
inductive Instr where
  /-- REGISTER_WRITE, R12. A write to a register field that has no row of its own sets the field under its access code, with out-of-range values replaced and reserved encodings ignored. `i`: the register's index; `dw`: which of its dwords, from the lowest; `v`: the value. -/
  | registerWrite (r : Reg) (i dw v : Nat)
  /-- NARROW_REGISTER_WRITE, R14. A write narrower than a dword to register space is discarded and, through a management endpoint BAR0, counted in MB_ACC_ERR. `ep`: the local slot of the management endpoint whose BAR0 it came through, if any. -/
  | narrowRegisterWrite (ep : Option Nat)
  /-- WIDE_REGISTER_READ, R15. A read of the lowest dword of a register wider than 32 bits captures its higher dwords into a holding copy. -/
  | wideRegisterRead (r : Reg) (i : Nat)
  /-- WIDE_REGISTER_HIGH_WRITE, R15. A write of the highest dword of a wider RW register makes the staged lower dwords and the high dword take effect together. -/
  | wideRegisterHighWrite (r : Reg) (i v : Nat)
  /-- DISCOVERY_MESSAGE_RECEIVE, R21. A node receiving a discovery message appends its record and forwards it, turns it back at a down segment, or ends it at its originator. `p` is the fabric port it arrived on. -/
  | discoveryMessageReceive (p : Nat) (m : DiscMsg)
  /-- DISCOVERY_TIMEOUT, R21. RING_TIMERS.DISC_TIMEOUT expires and completes the discovery run in progress. -/
  | discoveryTimeout (pl : Plane)
  /-- LINK_STATE_MESSAGE_RECEIVE, R30. A link-state message is forwarded once, de-duplicated and applied to the segment map by highest epoch. -/
  | linkStateMessageReceive (p : Nat) (m : LsMsg)
  /-- RETURN_CLEAN_EXPIRY, R33. The home path has been clean for RETURN_CLEAN and the source starts the drain of the group. The group is that of source partition `part` toward node `dst`. -/
  | returnCleanExpiry (part dst : Nat)
  /-- RETURN_DRAIN_COMPLETE, R33. Once HELD covers every sent entry of the group, the source moves it to the home path and resumes sending. -/
  | returnDrainComplete (part dst : Nat)
  /-- RETURN_DRAIN_ABORT, R33. The journal retransmit timer expires before the drain receipts arrive and the return is abandoned and counted. -/
  | returnDrainAbort (part dst : Nat)
  /-- JOIN, R41. A write of RING_CTRL.JOIN starts the join sequence for each enabled plane not already held high. -/
  | join
  /-- JOIN_HOLD_RAISE, R41. After its wait for clean planes the join drives the plane's RING_HOLD high and the plane's ports train. -/
  | joinHoldRaise (pl : Plane)
  /-- LEAVE_A, R42. A write of RING_CTRL.LEAVE_A starts a planned leave of plane A with leaving link-state messages. -/
  | leaveA
  /-- LEAVE_B, R42. A write of RING_CTRL.LEAVE_B starts a planned leave of plane B with leaving link-state messages. -/
  | leaveB
  /-- LEAVE_WAIT_EXPIRY, R42. LEAVE_WAIT expires and the node drives the plane's RING_HOLD low. -/
  | leaveWaitExpiry (pl : Plane)
  /-- SLEEP_PLANE_B_LEAVE, R42. Ten microseconds after plane A has left, the node starts the leave of plane B. -/
  | sleepPlaneBLeave
  /-- FLIT_SLOT, R67. At each flit slot the transmitter sends the first entry of the transmit order that has something to send. `p` is the fabric port, 44 to 47. -/
  | flitSlot (p : Nat)
  /-- AUDIT_DUE, R65. After 65,535 flits an AUDIT flit falls due and is built with consistent credit counts. -/
  | auditDue (p : Nat)
  /-- DATA_FLIT_RECEIVE, R49. A DATA flit is checked, accepted or discarded, its records parsed and its FIRST checked, and its ACK and credit return taken. -/
  | dataFlitReceive (p : Nat) (h : FlitHdr) (vc : VC) (first : Nat) (pieces : List Piece)
  /-- IDLE_FLIT_RECEIVE, R56. An IDLE flit passes its check and its ACK and any credit return are taken. -/
  | idleFlitReceive (p : Nat) (h : FlitHdr)
  /-- MSG_FLIT_RECEIVE, R47. A hop-by-hop MSG flit carrying an MG message is accepted and consumed. -/
  | msgFlitReceive (p : Nat) (h : FlitHdr) (m : MgMsg)
  /-- AUDIT_FLIT_RECEIVE, R66. An AUDIT flit is accepted and the receiver computes the leak per VC. -/
  | auditFlitReceive (p : Nat) (h : FlitHdr) (a : Audit)
  /-- REPLAY_FLIT_RECEIVE, R58. A REPLAY flit sets the check sequence to its start, or forces a retrain if the start lies too far behind. -/
  | replayFlitReceive (p : Nat) (h : FlitHdr) (start : Nat)
  /-- REPLAY_TIMER_EXPIRY, R57. The replay timer expires and the transmitter sends REPLAY and resends every outstanding flit. -/
  | replayTimerExpiry (p : Nat)
  /-- TS1_RECEIVE, R325. A TS1 flit is received on a lane, building flit lock, or in ACTIVE making the peer follow a retrain. `lane` is the port's physical lane it arrived on, `number` the sender's. -/
  | ts1Receive (p : Nat) (h : FlitHdr) (lane number : Nat)
  /-- TS2_RECEIVE, R71. TS2 flits are received in CONFIG and, once enough arrive, the roles are checked. -/
  | ts2Receive (p : Nat) (h : FlitHdr) (lane : Nat) (t : Ts2)
  /-- RATE_GO_RECEIVE, R71. A RATE_GO flit names the target rate and lanes and both ends change rate after the stated TS2 count. -/
  | rateGoReceive (p : Nat) (h : FlitHdr) (rate lanes left : Nat)
  /-- EQ_FLIT_RECEIVE, R330. An EQ flit carries a preset or coefficient request, or an applied, rejected, done or failed answer. -/
  | eqFlitReceive (p : Nat) (h : FlitHdr) (lane : Nat) (e : EqMsg)
  /-- EQ_ADAPT_END, R331. The 20 µs adapt period at PRESET_INIT ends and the search begins. -/
  | eqAdaptEnd (p lane : Nat)
  /-- EQ_MEASURE_END, R331. A 4.0 µs measurement of one requested setting ends and the next setting or the best is requested. `fom` is the figure of merit measured. -/
  | eqMeasureEnd (p lane fom : Nat)
  /-- EQUALISE_TIMEOUT, R331. Sixty microseconds after the rate change without lane done on every lane, equalisation fails and the rate falls back. -/
  | equaliseTimeout (p : Nat)
  /-- INIT_RECEIVE, R63. The peer's INIT flit gives the credit grants and the sequences reset to 0. -/
  | initReceive (p : Nat) (h : FlitHdr) (adv : PerVc) (depth lanes : Nat)
  /-- INIT_DONE_RECEIVE, R69. INIT_DONE takes the link to ACTIVE and sends the link-state up message. -/
  | initDoneReceive (p : Nat) (h : FlitHdr)
  /-- RETRAIN_REQ_RECEIVE, R76. A RETRAIN_REQ is answered with RETRAIN_ACK, resolved by Node ID in a collision, or followed as forced. -/
  | retrainReqReceive (p : Nat) (h : FlitHdr) (reason node wanted : Nat) (forced : Bool)
  /-- RETRAIN_ACK_RECEIVE, R73. A RETRAIN_ACK lets both ends enter LEAVING and send leaving link-state messages. -/
  | retrainAckReceive (p : Nat) (h : FlitHdr) (node wanted : Nat)
  /-- QUIESCE_DONE_RECEIVE, R73. QUIESCE_DONE received after sending its own takes both ends into RETRAIN. -/
  | quiesceDoneReceive (p : Nat) (h : FlitHdr)
  /-- PLANNED_RETRAIN_PROCEED, R73. A planned retrain waiting for the other plane goes on to send RETRAIN_REQ once that plane has no segment down. -/
  | plannedRetrainProceed (p : Nat)
  /-- RETRAIN_REQ_REPEAT, R73. Every 0.2 µs an unanswered RETRAIN_REQ is sent again. -/
  | retrainReqRepeat (p : Nat)
  /-- RT_MOVE_EXPIRY, R73. RT_MOVE expires in LEAVING and both ends enter QUIESCE. -/
  | rtMoveExpiry (p : Nat)
  /-- QUIESCE_TIMEOUT, R73. Two microseconds after QUIESCE began the ends enter RETRAIN and drop unacknowledged flits. -/
  | quiesceTimeout (p : Nat)
  /-- RETRAIN_TIMEOUT, R75. RETRAIN not reaching ACTIVE in 10 µs is repeated once, and a second failure declares link-down and returns to DETECT. -/
  | retrainTimeout (p : Nat)
  /-- LOCKLOSS_EXPIRY, R80. Symbol lock lost on an active lane for t_LOCKLOSS causes a link-down declaration. -/
  | locklossExpiry (p : Nat)
  /-- FLAP_HOLD_CLEAR, R78. Firmware clearing ML_ERR_STATUS.FLAP_HOLD releases the port to a full training. -/
  | flapHoldClear (p : Nat)
  /-- WIDTH_REQ, R81. A write of ML_CTRL.WIDTH_REQ narrower than the present width starts a planned retrain, wider takes effect later. -/
  | widthReq (p v : Nat)
  /-- ML_RETRAIN, R73. A write of 1 to ML_CTRL.RETRAIN schedules a planned retrain with reason firmware request. -/
  | mlRetrain (p : Nat)
  /-- FORCE_DOWN, R80. Setting ML_CTRL.FORCE_DOWN declares link-down and holds DOWN, clearing it lets the port train. -/
  | forceDown (p : Nat) (b : Bool)
  /-- ML_ENABLE, R137. ML_CTRL.ENABLE set takes the link reserve and lets the port train, and cleared takes it DOWN. -/
  | mlEnable (p : Nat) (b : Bool)
  /-- PX_PORT_ENABLE, R137. PX_PORT_CFG_p.ENABLE set takes the ingress reserve and trains the port in its role, and cleared returns the reserve. -/
  | pxPortEnable (p : Nat) (on : Bool)
  /-- RESERVE_COMPLETE, R137. A port reserve that was collecting freed segments becomes whole and the port completes initialisation. -/
  | reserveComplete (p : Nat)
  /-- TLP_RECEIVE, R155. A TLP received whole on a PCI Express port passes assignment and window lookup, freeze check, metering and admission and is acknowledged. -/
  | tlpReceive (p : Nat) (t : Tlp)
  /-- CONFIG_REQUEST_RECEIVE, R89. A configuration request to the virtual hierarchy is answered by the home node's port controller. -/
  | configRequestReceive (p : Nat) (t : Tlp)
  /-- VDSP_SECONDARY_BUS_WRITE, R95. A host write of a vDSP secondary bus number installs VIRT_BUS at the function's node before it completes. `k` is the local slot and `n` the vDSP, here and below; `v` the bus number dword. -/
  | vdspSecondaryBusWrite (k n v reqId tag : Nat)
  /-- VIRTUAL_BAR_WRITE, R116. A host write of a BAR or Memory Space Enable of a function-bound function stages and commits the bound segment before completing. `off` is 0x04 (Command) or a BAR. -/
  | virtualBarWrite (k n off v reqId tag : Nat)
  /-- BRIDGE_RANGE_WRITE, R117. A host write of a port-bound vDSP base or limit completes after every node holding the map has installed it. -/
  | bridgeRangeWrite (k n off v reqId tag : Nat)
  /-- HOST_FLR, R104. An owner's FLR of a function-bound function is forwarded and advances the generation. `i` is the instance, at its own node. -/
  | hostFlr (i : Nat)
  /-- SECONDARY_BUS_RESET, R289. Secondary Bus Reset of a vDSP hot-resets the physical port or issues an FLR of the function. -/
  | secondaryBusReset (k n : Nat)
  /-- LINK_DISABLE, R289. Link Disable of a port-bound vDSP holds the physical port down. -/
  | linkDisable (k n : Nat) (on : Bool)
  /-- RETRAIN_LINK_BIT, R289. Retrain Link of a port-bound vDSP retrains the physical port. -/
  | retrainLinkBit (k n : Nat)
  /-- POWER_CONTROLLER_CONTROL, R296. An owner write of Power Controller Control sends the slot channel an enable or disable command. -/
  | powerControllerControl (k n : Nat) (off : Bool)
  /-- DPC_TRIGGER_STATUS_CLEAR, R298. Clearing DPC Trigger Status ends containment of a port-bound port, or thaws a function-bound instance with ADVANCE. -/
  | dpcTriggerStatusClear (k n : Nat)
  /-- DPC_SOFTWARE_TRIGGER, R299. DPC Software Trigger contains the port or freezes the function-bound instance with FREEZE_CPL. -/
  | dpcSoftwareTrigger (k n : Nat)
  /-- MANAGEMENT_ENDPOINT_FLR, R291. An FLR of the management endpoint resets its channels, empties its event queue and resets MSI-X within 1 ms. -/
  | managementEndpointFlr (k : Nat)
  /-- MEMORY_SPACE_ENABLE, R291. Memory Space Enable of the management endpoint adds or removes its MGMT window entry. -/
  | memorySpaceEnable (k : Nat) (on : Bool) (reqId tag : Nat)
  /-- BUS_MASTER_ENABLE, R291. Bus Master Enable 0 pauses the partition's channels, drops timed writes and holds MSI-X messages. -/
  | busMasterEnable (k : Nat) (on : Bool)
  /-- PCIE_LINK_UP, R84. A PCI Express link reaches DL_Active, taking an upstream partition to ACTIVE. rate and width coded as PX_PORT_STAT; `partner` are the header and data credits of P, NP and CPL. -/
  | pcieLinkUp (p rate width : Nat) (flit : Bool) (partner : List (Option Nat))
  /-- PCIE_LINK_DOWN, R105. A PCI Express link goes down, advancing generations and starting a partition reset on an upstream port. -/
  | pcieLinkDown (p : Nat) (surprise : Bool)
  /-- HOT_RESET_RECEIVE, R105. A hot reset on the upstream link starts a partition reset. -/
  | hotResetReceive (p : Nat)
  /-- PCIE_EGRESS_ACK, R169. The link acknowledgement of a record at its destination port marks it done and advances DELIVERED. `id` names the packet. -/
  | pcieEgressAck (id : Nat)
  /-- COMPLETION_RECEIVE, R99. A completion is matched to its NPT context, checked for staleness and quarantine, and restored to its requester. -/
  | completionReceive (p : Nat) (t : Tlp)
  /-- PME_TURN_OFF_RECEIVE, R285. A PME_Turn_Off from a host is forwarded to its port-bound ports. -/
  | pmeTurnOffReceive (p : Nat)
  /-- PME_TO_ACK_TIMEOUT, R285. Ten milliseconds after forwarding PME_Turn_Off without all acknowledgements, the vUSP sends PME_TO_Ack. -/
  | pmeToAckTimeout (k : Nat)
  /-- L1_IDLE_EXPIRY, R292. An enabled port idle for L1_IDLE initiates ASPM L1. -/
  | l1IdleExpiry (p : Nat)
  /-- L0P_NARROW, R292. Utilisation below L0P_LOW for 100 µs narrows the port to L0P_MIN. -/
  | l0pNarrow (p : Nat)
  /-- L0P_WIDEN, R292. Utilisation above 50 % over 10 µs or more than 16 KiB queued restores full width. -/
  | l0pWiden (p : Nat)
  /-- MARGIN_COMMAND, R293. A lane margining command is answered by the switch's receiver or carried on the link. -/
  | marginCommand (p lane receiver command payload : Nat)
  /-- SPDM_REQUEST, R301. A DOE SPDM request to the management endpoint is answered within 100 ms. -/
  | spdmRequest (k code : Nat)
  /-- PX_BIF_WRITE, R275. A write of PX_BIF_g splits the lane group, or is refused with ERR set. -/
  | pxBifWrite (g v : Nat)
  /-- PX_PMAP_WRITE, R276. A write of PX_PMAP_g numbers the group's ports, or is refused with ERR set. -/
  | pxPmapWrite (g v : Nat)
  /-- PX_DUAL_WRITE, R286. A write of PX_DUAL selects fabric or PCI Express mode for disabled dual-mode ports. -/
  | pxDualWrite (v : Nat)
  /-- CHARGE_MOVE, R141. A reserve-charged packet moves to the shared or TT pool once quotas, free space and journal restoration allow. The VOQ is that of source index `i` at egress `e`. -/
  | chargeMove (i e : Nat) (vc : VC)
  /-- REFUSE_WAIT_EXPIRY, R144. A record still uncharged after REFUSE_WAIT is refused, its credits returned. `id` names the packet. -/
  | refuseWaitExpiry (id : Nat)
  /-- HOLD_EXPIRY, R145. A hold ends after 2 ms. -/
  | holdExpiry (port srcNode srcPart dstNode : Nat)
  /-- EGRESS_SELECT, R239. An egress able to start a packet selects it by TT, urgent, committed, excess and background order. -/
  | egressSelect (e : Nat)
  /-- PACKET_DEPARTURE, R141. A packet that has left its egress releases its segments from its pool. -/
  | packetDeparture (id : Nat)
  /-- STALL_THRESHOLD_EXPIRY, R151. A packet stalled for STALL_THR with another VC queued behind switches its stream to the PCI Express rules. -/
  | stallThresholdExpiry (i e : Nat)
  /-- BUFFER_ECC_ERROR, R153. A buffer word read with an ECC error is corrected, or the packet is discarded, ended or aborted and reported. -/
  | bufferEccError (id : Nat) (double : Bool)
  /-- INTERNAL_ADMISSION, R166. A transaction raised inside the switch is admitted once entries, quota and energy allow. -/
  | internalAdmission
  /-- RECEIPT_RECEIVE, R171. A RECEIPT item frees entries up to DELIVERED and records HELD. `src` is the node that sent the control record, `items` are its items, here and below. -/
  | receiptReceive (src : Nat) (items : List JItem)
  /-- GAP_RECEIVE, R171. A GAP item makes the group retransmit beyond HELD unless it did so within GAP_HOLD. -/
  | gapReceive (src : Nat) (items : List JItem)
  /-- UNDELIV_RECEIVE, R187. An UNDELIV item tells the source to report and free the named entry. -/
  | undelivReceive (src : Nat) (items : List JItem)
  /-- PURGE_RECEIVE, R189. The destination discards queued records up to u, advances its state and answers PURGE_ACK. -/
  | purgeReceive (src : Nat) (items : List JItem)
  /-- PURGE_ACK_RECEIVE, R189. The source reports unnamed entries, frees every entry up to u and resumes the flow. `items` are those of the whole answer, which may span several records. -/
  | purgeAckReceive (src : Nat) (items : List JItem)
  /-- REWIND_RECEIVE, R174. A REWIND makes the source resend every unfreed entry of its groups toward that node. -/
  | rewindReceive (src : Nat)
  /-- SYNC_REQ_RECEIVE, R175. A member purges its flows to the cold node and answers SYNC_RSP, or repeats the kept answer. -/
  | syncReqReceive (src number : Nat)
  /-- SYNC_RSP_RECEIVE, R175. The cold node installs the flow sequences from SYNC_RSP and, at LAST, the remaining flows. -/
  | syncRspReceive (src number : Nat) (last : Bool) (items : List JItem)
  /-- SYNC_REQ_RESEND, R176. At each HELD_TMO expiry a cold node resends SYNC_REQ to members that have not answered. -/
  | syncReqResend
  /-- RECEIPT_SEND, R169. Within RCPT_MAX of an advance the destination sends RECEIPT items. `n` is the source node the receipts go to. -/
  | receiptSend (n : Nat)
  /-- RETRANSMIT_TIMER_EXPIRY, R171. A group's retransmit timer expires and it resends every entry beyond HELD, or repeats PURGE. -/
  | retransmitTimerExpiry (part dst : Nat)
  /-- HELD_TIMEOUT, R171. HELD_TMO without a receipt makes the group resend every unfreed entry. -/
  | heldTimeout (part dst : Nat)
  /-- UNREACHABLE_TIMEOUT, R187. A group unreachable for UNREACH purges its entries with reason 0x05. -/
  | unreachableTimeout (part dst : Nat)
  /-- CPL_AGE_PURGE, R190. A generation-carrying CPL entry unfreed for 1,000 ms is purged without report. `id` names the journal entry. -/
  | cplAgePurge (id : Nat)
  /-- VMAX_COMPUTE, R178. Every 10 µs the persistence controller computes E_avail and V_max. -/
  | vmaxCompute
  /-- POWER_FAIL_WARNING, R180. PFW_n falling withholds credits, asserts slot early warning, stops restorations and starts the drain. -/
  | powerFailWarning
  /-- DRAIN_MAX_EXPIRY, R181. DRAIN_MAX passes and the drain ends. -/
  | drainMaxExpiry
  /-- PERSIST_COMPLETE, R182. The commit record is written, PF_PHASE becomes done and slot channels turn off. -/
  | persistComplete
  /-- POWER_FAIL_WARNING_END, R183. The warning ends, resuming normal operation or marking the record consumed and resetting the node. -/
  | powerFailWarningEnd
  /-- PERSIST_RECOVERY, R186. After power-up the persistence controller restores the newest valid record or starts cold. `consumed`: the record chosen has been marked consumed and read back. -/
  | persistRecovery (consumed : Bool)
  /-- DELAY_EXCHANGE_START, R200. Every SYNC_INT each end of a fabric link sends a DELAY request. -/
  | delayExchangeStart (p : Nat)
  /-- DELAY_REQUEST_RECEIVE, R200. A DELAY request is answered within 1 µs with a response. `id` is EXCH_ID, `t1` T_TX. -/
  | delayRequestReceive (p : Nat) (h : FlitHdr) (id t1 state : Nat) (gm : Bool)
  /-- DELAY_RESPONSE_RECEIVE, R201. A DELAY response gives delay and theta, and theta drives the servo on the parent port. -/
  | delayResponseReceive (p : Nat) (h : FlitHdr) (id t3 t2 t1 state : Nat) (gm : Bool)
  /-- DELAY_EXCHANGE_ABANDON, R200. An exchange without a passing response in 2 µs is abandoned and counted. -/
  | delayExchangeAbandon (p : Nat)
  /-- ANNOUNCE_TIMER, R196. Every 1 ms, or after a field change, a node sends a time announcement on each ACTIVE fabric port. -/
  | announceTimer
  /-- TIME_ANNOUNCEMENT_RECEIVE, R197. A time announcement updates the ranking, parent choice and any announced step. -/
  | timeAnnouncementReceive (p : Nat) (m : AnnMsg)
  /-- ANNOUNCE_ABSENT, R195. Announcements absent for 3 ms lose the grandmaster or parent. -/
  | announceAbsent (p : Nat)
  /-- GM_CANDIDATE_SETTLE, R195. A better candidate unchanged for 1 s becomes the grandmaster. -/
  | gmCandidateSettle
  /-- PPS_IN_EDGE, R197. A PPS_IN rising edge is captured and steers the grandmaster. -/
  | ppsInEdge
  /-- PPS_IN_LOSS, R197. No PPS_IN edge for 1.5 s loses the lock. -/
  | ppsInLoss
  /-- SET_SPINDLE, R198. The Set Spindle command slews or schedules a coordinated step at the grandmaster. `k` is the mailbox that runs the command, here and in every OMI command. -/
  | setSpindle (k : Nat)
  /-- COORDINATED_STEP, R198. When the Spindle reaches STEP_AT the node applies the announced step. -/
  | coordinatedStep
  /-- PTM_HOST_EXCHANGE, R198. Every SYNC_INT the grandmaster's upstream port runs a PTM exchange with its host. `time` is the host's PTM time in nanoseconds as the exchange gives it. -/
  | ptmHostExchange (time : Nat)
  /-- PTM_REQUEST_RECEIVE, R206. A downstream port answers a PTM Request itself with or without Spindle time. -/
  | ptmRequestReceive (p : Nat)
  /-- HOLDOVER_TIMEOUT, R203. HOLD_MAX in HOLDOVER without a return to VALID makes the state INVALID. -/
  | holdoverTimeout
  /-- ASSIGN_TURNS, R420. The Assign Turns command assigns or releases Turn entries. -/
  | assignTurns (k : Nat)
  /-- WRITE_TURN, R420. The Write Turn command writes an unarmed Turn entry. -/
  | writeTurn (k : Nat)
  /-- ARM_TURN, R209. The Arm Turn command arms an entry whose next launch lies at least 2 µs ahead. -/
  | armTurn (k : Nat)
  /-- DISARM_TURN, R209. The Disarm Turn command disarms an entry for launches more than 2 µs ahead. -/
  | disarmTurn (k : Nat)
  /-- READ_TURN, R420. The Read Turn command returns a Turn entry. -/
  | readTurn (k : Nat)
  /-- ASSIGN_TIME_PIN, R216. The Assign Time Pin command assigns a pin pair or channel to a partition. -/
  | assignTimePin (k : Nat)
  /-- RESERVE_GRAINS, R220. The Reserve Grains command installs a TT stream reservation on candidate paths 1 and 2. -/
  | reserveGrains (k : Nat)
  /-- RELEASE_GRAINS, R220. The Release Grains command removes a reservation. -/
  | releaseGrains (k : Nat)
  /-- TURN_FETCH, R209. TURN_LEAD before each launch the engine fetches it. -/
  | turnFetch (n : Nat)
  /-- TURN_LAUNCH, R210. A Turn launches its action at its Spindle time and advances its schedule. -/
  | turnLaunch (n : Nat)
  /-- TIMED_WRITE_DROP, R211. A timed write not admitted within 1 µs of its time is dropped and reported. `id` names the timed write that waits for admission. -/
  | timedWriteDrop (id : Nat)
  /-- TIME_OUT_PULSE_FALL, R208. One pulse width after a pulse launch, the TIME_OUT pin falls. -/
  | timeOutPulseFall (n : Nat)
  /-- TIME_IN_EDGE, R216. An edge on a TIME_IN pin is stamped and stored in its FIFO. -/
  | timeInEdge (n : Nat) (rising : Bool)
  /-- PPS_OUT_RISE, R217. At each whole second PPS_OUT rises. -/
  | ppsOutRise
  /-- PPS_OUT_FALL, R217. PPS_WIDTH after its rise PPS_OUT falls. -/
  | ppsOutFall
  /-- GRAIN_BOUNDARY, R218. A Grain of the wheel begins and reserved TT flits may leave. -/
  | grainBoundary (p : Nat)
  /-- RESERVATION_RECHECK, R225. Within 1 ms of a change of K or C, firmware checks and degrades reservations across the link. -/
  | reservationRecheck (p : Nat)
  /-- GRAIN_RESERVATION_RECOMPUTE, R227. After a membership change firmware reinstalls the reservations of its source streams. -/
  | grainReservationRecompute
  /-- SCHEDULER_REFILL, R231. Every 1.024 µs pending values are latched and every bucket refilled. -/
  | schedulerRefill
  /-- PACKET_RELEASE, R235. A packet's release time passes and it becomes eligible. -/
  | packetRelease (id : Nat)
  /-- STARVATION_TIMER_EXPIRY, R244. A stream's wait timer passes LIMIT and the stream becomes urgent. -/
  | starvationTimerExpiry (i e : Nat)
  /-- ASSIGN_CHANNEL, R250. The Assign Channel command sets a channel's owner, class and allowance through a channel reset. -/
  | assignChannel (k : Nat)
  /-- RELEASE_CHANNEL, R421. The Release Channel command withdraws a channel through a channel reset. -/
  | releaseChannel (k : Nat)
  /-- DM_TAIL_WRITE, R252. A host write of DM_TAIL offers descriptors to the channel. -/
  | dmTailWrite (c v : Nat)
  /-- DM_START, R265. A write of DM_CTRL.START is a host start that releases a waiting TSTART descriptor. -/
  | dmStart (c : Nat)
  /-- DM_RESET, R271. A write of DM_CTRL.RESET starts a channel reset. -/
  | dmReset (c : Nat)
  /-- DM_RESUME, R269. A write of DM_CTRL.RESUME leaves HALTED with the next descriptor. -/
  | dmResume (c : Nat)
  /-- DM_PAUSE, R270. DM_CTRL.PAUSE set stops new issue, and cleared resumes. -/
  | dmPause (c : Nat) (on : Bool)
  /-- DM_ENABLE, R270. DM_CTRL.ENABLE set runs the channel, and cleared starts a channel reset. -/
  | dmEnable (c : Nat) (on : Bool)
  /-- DESCRIPTOR_FETCH_COMPLETE, R252. A descriptor fetch read completes and the descriptors are held, or the fetch fails with STATUS 0x08. -/
  | descriptorFetchComplete (c : Nat)
  /-- DM_READ_ISSUE, R260. A data read is issued once a tag and its buffer reservation are available. -/
  | dmReadIssue (c : Nat)
  /-- DM_FILL_WRITE_FORM, R260. A FILL write is formed once its buffer reservation is available. -/
  | dmFillWriteForm (c : Nat)
  /-- DM_READ_COMPLETION, R256. Read completion data arrives and forms writes in address order, or fails the descriptor. `tag` is the data mover's read tag. -/
  | dmReadCompletion (tag : Nat) (t : Tlp)
  /-- DM_READ_TIMEOUT, R261. A data read with no completion within CPL_TMO fails its descriptor with STATUS 0x05. -/
  | dmReadTimeout (tag : Nat)
  /-- DESCRIPTOR_COMPLETE, R264. A descriptor whose reads, acceptances and deliveries are done writes back its status and event. -/
  | descriptorComplete (c : Nat)
  /-- CHANNEL_RESET_COMPLETE, R271. A channel reset ends and the channel becomes IDLE. -/
  | channelResetComplete (c : Nat)
  /-- CREATE_PARTITION, R82. The Create Partition command creates a partition at its home node and distributes its record. -/
  | createPartition (k : Nat)
  /-- DELETE_PARTITION, R84. The Delete Partition command removes every instance and frees the partition ID. -/
  | deletePartition (k : Nat)
  /-- RESET_PARTITION, R105. The Reset Partition command runs a partition reset. -/
  | resetPartition (k : Nat)
  /-- PARTITION_RESET_COMPLETE, R105. After the resets of its instances end, the partition's freeze clears and it enters ACTIVE or CREATED. `k` is the local slot. -/
  | partitionResetComplete (k : Nat)
  /-- TRANSFER_FABRIC_MANAGEMENT, R86. The Transfer Fabric Management command passes the privilege at the new home node's confirmation. -/
  | transferFabricManagement (k : Nat)
  /-- SET_STANDBY, R87. The Set Standby command names or clears the standby partition. -/
  | setStandby (k : Nat)
  /-- FREEZE_PARTITION, R110. The Freeze Partition command freezes a partition's host and instances. -/
  | freezePartition (k : Nat)
  /-- THAW_PARTITION, R111. The Thaw Partition command clears the partition's freeze, optionally advancing generations. -/
  | thawPartition (k : Nat)
  /-- READ_PARTITION, R416. The Read Partition command returns a partition record and instance list. -/
  | readPartition (k : Nat)
  /-- PARTITION_RECORD_INSTALL, R83. A member installs a distributed change of a partition record. -/
  | partitionRecordInstall (src : Nat) (f : List Nat)
  /-- FM_TAKEOVER_EXPIRY, R87. The fabric manager's upstream link down for FM_TAKEOVER makes the privilege vacant or passes it to the standby. -/
  | fmTakeoverExpiry
  /-- COMPLETION_TIMEOUT, R101. An NPT context without completion for CPL_TMO is retired with a synthesised UR. -/
  | completionTimeout (idx : Nat)
  /-- TAG_QUARANTINE_END, R101. TAG_QUAR passes and the proxy tag is free again. -/
  | tagQuarantineEnd (port tag : Nat)
  /-- GENERATION_WAIT_END, R100. A generation wait ends 4 ms after the last advance and the generation advances once. -/
  | generationWaitEnd (i : Nat)
  /-- ASSIGN_FUNCTION, R418. The Assign Function command makes an instance entry live and fills the vDSP. -/
  | assignFunction (k : Nat)
  /-- REMOVE_FUNCTION, R103. The Remove Function command freezes the instance, empties its vDSP and withdraws its windows. -/
  | removeFunction (k : Nat)
  /-- REMOVAL_DRAIN_POINT, R103. The drain point is reached and the generation advances and the function is reset. -/
  | removalDrainPoint (i : Nat)
  /-- REMOVAL_DRAIN_TIMEOUT, R103. The drain not ended in 100 ms purges the remaining requests as undeliverable. -/
  | removalDrainTimeout (i : Nat)
  /-- REMOVAL_RESET_WAIT_END, R103. The 100 ms wait after the reset ends and configuration reads of the function begin. -/
  | removalResetWaitEnd (i : Nat)
  /-- REMOVAL_FUNCTION_READY, R103. A configuration read completes without RRS and the entry is cleared or reassigned. -/
  | removalFunctionReady (i : Nat)
  /-- REMOVAL_FUNCTION_TIMEOUT, R103. The function not ready within 1 s is marked failed and the entry left cleared. -/
  | removalFunctionTimeout (i : Nat)
  /-- FREEZE_FUNCTION, R418. The Freeze Function command freezes an instance with FREEZE_CAUSE 0x4. -/
  | freezeFunction (k : Nat)
  /-- THAW_FUNCTION, R111. The Thaw Function command thaws an instance, optionally advancing its generation. -/
  | thawFunction (k : Nat)
  /-- SET_BUS_SPAN, R418. The Set Bus Span command sets the bus span of an empty port-bound instance. -/
  | setBusSpan (k : Nat)
  /-- ENABLE_VFS, R418. The Enable VFs command enables or disables the VFs of a managed physical function. -/
  | enableVfs (k : Nat)
  /-- ENABLE_VFS_TIMEOUT, R418. VFs not answering within 1 s end Enable VFs with FAILED. -/
  | enableVfsTimeout (port : Nat)
  /-- SET_MANAGED_PORT, R418. The Set Managed Port command designates or removes a managed port. -/
  | setManagedPort (k : Nat)
  /-- READ_INSTANCE, R418. The Read Instance command returns an instance entry. -/
  | readInstance (k : Nat)
  /-- WRITE_WINDOW_ENTRY, R417. The Write Window Entry command writes a managed entry into the shadow bank. -/
  | writeWindowEntry (k : Nat)
  /-- READ_WINDOW_ENTRY, R417. The Read Window Entry command returns an active or shadow entry. -/
  | readWindowEntry (k : Nat)
  /-- COMMIT_WINDOWS, R120. The Commit Windows command validates and commits the managed segment at every node holding the map. -/
  | commitWindows (k : Nat)
  /-- COMMIT_SWAP, R122. A node receiving a commit swaps the named banks in one core cycle. -/
  | commitSwap (part : Nat)
  /-- SHADOW_COPY_DONE, R123. The copy of the new active bank into the shadow ends and RELOAD_BUSY falls. -/
  | shadowCopyDone (part : Nat)
  /-- SET_PEER_GRANT, R126. The Set Peer Grant command changes a partition's grant masks at every member. -/
  | setPeerGrant (k : Nat)
  /-- LB_INTAKE, R303. The bridge takes an eligible request from its VOQs when it has room. -/
  | lbIntake
  /-- LB_CYCLE_START, R307. The bridge starts a bus cycle of a taken request. -/
  | lbCycleStart
  /-- LB_PHASE_TERMINATION, R308. The sampled LB_RDY_n and LB_WAIT_n complete, retry or error-terminate a data phase. `rdy` and `wait` are true where LB_RDY_n and LB_WAIT_n are sampled low; `data` is LB_AD. -/
  | lbPhaseTermination (rdy wait : Bool) (data : Nat)
  /-- LB_RETRY_GAP_EXPIRY, R308. RETRY_GAP after a retry the cycle is performed again. -/
  | lbRetryGapExpiry (id : Nat)
  /-- LB_PHASE_TIMEOUT, R308. A data phase exceeding 16 × TMO clocks ends the request with a timeout. -/
  | lbPhaseTimeout
  /-- PREFETCH_LINE_EXPIRY, R312. A prefetch line older than LIFE is discarded and logged if unused. -/
  | prefetchLineExpiry (no : Nat)
  /-- SEMAPHORE_FORCED_RELEASE, R314. HOLD_MAX passing forces the semaphore's release and notifies the owner. -/
  | semaphoreForcedRelease
  /-- BRIDGE_RESET, R315. A write of LB_CTRL.RESET starts a bridge reset. -/
  | bridgeReset
  /-- LB_ENABLE, R315. LB_CTRL.EN set starts the bridge and cleared starts a bridge reset. -/
  | lbEnable (on : Bool)
  /-- LB_RESET_RELEASE, R315. After 10 µs of LB_CLK, LB_RST_n is released. -/
  | lbResetRelease
  /-- ELOG_CLR, R318. A write of LB_CTRL.ELOG_CLR empties the error log. -/
  | elogClr
  /-- LB_PREG_WRITE, R312. A write of a prefetch region discards that region's lines. -/
  | lbPregWrite (c n v : Nat)
  /-- QUAD_PLL_LOCK, R321. A powered quad PLL locks. -/
  | quadPllLock (q : Nat)
  /-- QUAD_PLL_LOCK_LOSS, R322. A quad PLL losing lock stops its lanes and reports Port-fatal. -/
  | quadPllLockLoss (q : Nat)
  /-- LANE_LOCK_LOSS, R326. A lane loses symbol lock and reports it to its port controller. -/
  | laneLockLoss (p lane : Nat)
  /-- LANE_LOCK_REGAIN, R326. A lane regains symbol lock. -/
  | laneLockRegain (p lane : Nat)
  /-- FEC_WINDOW_END, R332. A lane's window of 2^24 bytes ends and its corrected count is judged. `corr` are the bytes corrected on a lane of a PCI Express port in the window. -/
  | fecWindowEnd (p lane corr : Nat)
  /-- CLR_UNFIT, R335. A write of LN_LANE_CTRL.CLR_UNFIT clears the lane's unfit mark. -/
  | clrUnfit (p lane : Nat)
  /-- LANE_TEST, R338. A write of LN_LANE_CTRL.TEST or LOOP starts or stops a PRBS lane test. `errors` are the bit errors the test running until now has met. -/
  | laneTest (p lane test : Nat) (loop : Bool) (errors : Nat)
  /-- SP_CMD_ON, R344. A write of SP_CMD_c.ON is an enable command that starts a turn-on. -/
  | spCmdOn (c : Nat)
  /-- SP_CMD_OFF, R346. A write of SP_CMD_c.OFF is a disable command that turns the rail off. -/
  | spCmdOff (c : Nat)
  /-- SP_CMD_CYCLE, R359. A write of SP_CMD_c.CYCLE starts a containment power cycle. -/
  | spCmdCycle (c : Nat)
  /-- ENABLE_SLOT, R423. The Enable Slot command sends an enable command to a channel. -/
  | enableSlot (k : Nat)
  /-- DISABLE_SLOT, R423. The Disable Slot command sends a disable command to a channel. -/
  | disableSlot (k : Nat)
  /-- CYCLE_SLOT, R423. The Cycle Slot command starts a power cycle of a channel in ON. -/
  | cycleSlot (k : Nat)
  /-- GATE_CHECK_PASS, R345. Gate-good and rail level reached make the rail valid. -/
  | gateCheckPass (c : Nat)
  /-- GATE_CHECK_TIMEOUT, R345. Gate check not passed within t_GATE latches the channel. -/
  | gateCheckTimeout (c : Nat)
  /-- GATE_GOOD_LOSS, R345. Gate-good lost for 100 µs in ON latches the channel. -/
  | gateGoodLoss (c : Nat)
  /-- PERST_RELEASE_TIMER, R344. T_PERST after the rail became valid SLOT_PERST_n is released. -/
  | perstReleaseTimer (c : Nat)
  /-- PERST_LEAD_EXPIRY, R346. PERST_LEAD after assertion the gates are pulled down. -/
  | perstLeadExpiry (c : Nat)
  /-- RAIL_BELOW_OFF_LEVEL, R346. SLOT_VSNS falling below 1.0 V reports the channel off. -/
  | railBelowOffLevel (c : Nat)
  /-- OFF_MAX_EXPIRY, R346. The rail not fallen by OFF_MAX reports off, latching if the shunt shows conduction. -/
  | offMaxExpiry (c : Nat)
  /-- SHUNT_SAMPLE, R348. Every 1 µs the shunt is sampled and the curve timers advance. `v` is the sample in units of 0.025 mV. -/
  | shuntSample (c v : Nat)
  /-- FAST_COMPARATOR_TRIP, R350. Shunt voltage above VTH pulls the gates down and trips. -/
  | fastComparatorTrip (c : Nat)
  /-- RETRY_INTERVAL_EXPIRY, R351. INTERVAL after a trip the retry turn-on begins. -/
  | retryIntervalExpiry (c : Nat)
  /-- CLEAN_EXPIRY, R352. The rail valid for CLEAN without trip restores the retry budget. -/
  | cleanExpiry (c : Nat)
  /-- PRESENCE_DEBOUNCED, R353. SLOT_PRSNT_n stable for 10 ms changes presence. -/
  | presenceDebounced (c : Nat) (present : Bool)
  /-- EMPTY_TIMEOUT, R353. A slot empty for t_EMPTY cancels its retry and restores the budget. -/
  | emptyTimeout (c : Nat)
  /-- FEED_RETURN_EXPIRY, R354. The preferred feed good for RETURN switches the channel back. -/
  | feedReturnExpiry (c : Nat)
  /-- BBM_EXPIRY, R354. t_BBM after pulling the old gate down the other gate is driven. -/
  | bbmExpiry (c : Nat)
  /-- RAIL_LOST_TIMEOUT, R355. SLOT_VSNS below 10.8 V for 1 ms with no feed good loses the rail. -/
  | railLostTimeout (c : Nat)
  /-- WARN_LEAD_EXPIRY, R356. LEAD after a warning the switch may pull gates down. -/
  | warnLeadExpiry (c : Nat)
  /-- CYCLE_OFF_EXPIRY, R359. CYCLE_OFF after turn-off the power cycle turns the channel on. -/
  | cycleOffExpiry (c : Nat)
  /-- FAULT_REPORT, R366. A unit's report is captured or merged and starts its class's reaction. `r` is the report; where it concerns a Turn entry, a channel or a plane without naming it, its address field carries the number. -/
  | faultReport (r : Report)
  /-- MANAGEMENT_RESTART_END, R376. The restarted firmware resumes. -/
  | managementRestartEnd
  /-- NODE_RESET_END, R508. The reset ends, generations advance and firmware enables ports. -/
  | nodeResetEnd (copyA copyB : Bool)
  /-- NODE_RESET_TIMEOUT, R377. A node reset not ended within 100 ms enters Grave. -/
  | nodeResetTimeout
  /-- PORT_RECOVER_TIMEOUT, R375. A port not in DL_Active within RECOVER raises Node-fatal. -/
  | portRecoverTimeout (p : Nat)
  /-- CYCLE_HOLD_EXPIRY, R373. CYCLE_HOLD after a cycle request RUNG returns to 00b. -/
  | cycleHoldExpiry (p : Nat)
  /-- MANAGED_DPC_RELEASE, R372. 100 ms after containment began firmware releases a managed port. -/
  | managedDpcRelease (p : Nat)
  /-- RELEASE_PORT, R424. The Release Port command releases a held port. -/
  | releasePort (k : Nat)
  /-- FC_PORT_REL, R373. A write of FC_PORT_p.REL releases a held port. -/
  | fcPortRel (p : Nat)
  /-- INJECT_FAULT, R424. The Inject Fault command makes a report from unit 55. -/
  | injectFault (k : Nat)
  /-- FC_INJECT_WRITE, R381. A firmware write of FC_INJECT makes an injected report. -/
  | fcInjectWrite (v : Nat)
  /-- FC_STATUS_CLEAR, R366. Clearing a unit's FC_STATUS bit discards its record and re-arms the unit. `hi`: FC_STATUS_HI. -/
  | fcStatusClear (hi : Bool) (v : Nat)
  /-- MAILBOX_GO, R390. A write of MB_DOORBELL.GO submits the command in the buffer. -/
  | mailboxGo (k : Nat)
  /-- COMMAND_BUFFER_WRITE, R390. A write to the buffer window enters the command buffer, or is discarded while running. `off`: offset in the mailbox page; `data`: the bytes written. -/
  | commandBufferWrite (k off : Nat) (data : List Nat)
  /-- COMMAND_COMPLETE, R390. Firmware places the response, sets DONE and CMD_DONE. -/
  | commandComplete (k : Nat)
  /-- DEFERRED_COMMAND_COMPLETE, R391. A deferred command ends and its event 0x91 is placed. -/
  | deferredCommandComplete (k : Nat)
  /-- EVENT_QUEUE_HEAD_WRITE, R394. A host write of MB_EQ_HEAD frees slots and moves stored events in. -/
  | eventQueueHeadWrite (k v : Nat)
  /-- FIRMWARE_MESSAGE_RECEIVE, R387. A firmware message, such as a forwarded command or event, is taken at mailbox 17. -/
  | firmwareMessageReceive (src part : Nat) (m : FwMsg)
  /-- FORWARDED_COMMAND_RETRY, R387. A forwarded command met busy is retried, up to 250 ms. `id`: the command's number at this node. -/
  | forwardedCommandRetry (id node : Nat)
  /-- SESSION_TIMEOUT, R393. A session idle for 60 s closes and its work is discarded. -/
  | sessionTimeout
  /-- SMBUS_BLOCK_WRITE, R397. SMBus code 0x20 writes bytes into mailbox 16's page. `pec`: the PEC is good. -/
  | smbusBlockWrite (off : Nat) (data : List Nat) (pec : Bool)
  /-- SMBUS_SET_READ_POINTER, R397. SMBus code 0x21 sets the read pointer. -/
  | smbusSetReadPointer (off : Nat) (pec : Bool)
  /-- SMBUS_BLOCK_READ, R397. SMBus code 0x22 returns bytes from the read pointer. `n`: the bytes that the issuer takes. -/
  | smbusBlockRead (n : Nat)
  /-- BEGIN_STAGE, R400. The Begin Stage command opens a staging session on a slot. -/
  | beginStage (k : Nat)
  /-- WRITE_STAGE, R400. The Write Stage command writes image bytes into the slot. -/
  | writeStage (k : Nat)
  /-- END_STAGE, R400. The End Stage command checks the slot and marks it verified. -/
  | endStage (k : Nat)
  /-- ACTIVATE_IMAGE, R403. The Activate Image command runs a verified slot hitlessly. -/
  | activateImage (k : Nat)
  /-- ACTIVATION_QUIESCE_END, R403. After quiesce up to 50 ms, running commands abort and the check begins. -/
  | activationQuiesceEnd
  /-- ACTIVATION_CHECK_DONE, R403. The slot checks good and the handover record is written, starting switchover. -/
  | activationCheckDone
  /-- ACTIVATION_SWITCHOVER_END, R403. The new or restored image loads and FW_READY rises. -/
  | activationSwitchoverEnd
  /-- COMMIT_IMAGE, R402. The Commit Image command writes the boot selector. -/
  | commitImage (k : Nat)
  /-- ADVANCE_SECURITY_VERSION, R402. The Advance Security Version command raises the fuse minimum. -/
  | advanceSecurityVersion (k : Nat)
  /-- READ_FIRMWARE_STATUS, R427. The Read Firmware Status command returns slot and selector state. -/
  | readFirmwareStatus (k : Nat)
  /-- READ_REGISTERS, R413. The Read Registers command returns dwords of a block. -/
  | readRegisters (k : Nat)
  /-- WRITE_REGISTERS, R413. The Write Registers command applies masked writes to a block. -/
  | writeRegisters (k : Nat)
  /-- GET_IDENTITY, R415. The Get Identity command returns the node's identity. -/
  | getIdentity (k : Nat)
  /-- READ_CERTIFICATE, R415. The Read Certificate command returns certificate chain bytes. -/
  | readCertificate (k : Nat)
  /-- INSTALL_OWNER_CHAIN, R415. The Install Owner Chain command writes the owner certificate chain. -/
  | installOwnerChain (k : Nat)
  /-- WRITE_TABLE, R419. The Write Table command writes pair quotas or quanta. -/
  | writeTable (k : Nat)
  /-- READ_TABLE, R419. The Read Table command returns pair quotas or quanta. -/
  | readTable (k : Nat)
  /-- SET_JOURNAL_QUOTA, R167. The Set Journal Quota command sets a destination quota. -/
  | setJournalQuota (k : Nat)
  /-- PURGE_DESTINATION, R189. The Purge Destination command purges the named flows. -/
  | purgeDestination (k : Nat)
  /-- READ_FLOW, R422. The Read Flow command returns a flow's state. -/
  | readFlow (k : Nat)
  /-- READ_COUNTERS, R432. The Read Counters command captures and returns event counters. -/
  | readCounters (k : Nat)
  /-- READ_SHAVINGS, R439. The Read Shavings command returns and removes Shaving records. -/
  | readShavings (k : Nat)
  /-- SET_POWER_LEVEL, R447. The Set Power Level command moves nodes to a level. -/
  | setPowerLevel (k : Nat)
  /-- SET_MANAGED_ASPM, R426. The Set Managed ASPM command enables L1 on a managed port. -/
  | setManagedAspm (k : Nat)
  /-- REQUEST_SLEEP, R452. The Request Sleep command starts sleep entry or a wake. -/
  | requestSleep (k : Nat)
  /-- JOIN_FABRIC, R428. The Join Fabric command starts a join. -/
  | joinFabric (k : Nat)
  /-- LEAVE_PLANE, R428. The Leave Plane command starts a planned leave. -/
  | leavePlane (k : Nat)
  /-- RETRAIN_LINK, R428. The Retrain Link command schedules a retrain of a port. -/
  | retrainLink (k : Nat)
  /-- MARGIN_LANE, R428. The Margin Lane command margins one lane for a dwell. -/
  | marginLane (k : Nat)
  /-- CLR_EVT, R431. A write of PMON_CTRL.CLR_EVT zeroes every event counter. -/
  | clrEvt
  /-- CLR_FLT, R436. A write of PMON_CTRL.CLR_FLT zeroes every filtered count. -/
  | clrFlt
  /-- FLT_CTRL_WRITE, R436. A write of FLT_CTRL installs the filter and zeroes its count. `v` is the dword written. -/
  | fltCtrlWrite (f v : Nat)
  /-- SHV_SEED_WRITE, R437. A write of PMON_SHV_SEED restarts the Shaving generator. -/
  | shvSeedWrite (v : Nat)
  /-- BW_WINDOW_END, R440. At a window boundary every port latches bytes and utilisation. -/
  | bwWindowEnd
  /-- BW_CFG_WRITE, R441. A write of PMON_BW_CFG ends the window partial and starts the next. -/
  | bwCfgWrite (v : Nat)
  /-- PL_TARGET_WRITE, R447. A write of PWR_CTRL.PL_TARGET starts a DVFS move. -/
  | plTargetWrite (v : Nat)
  /-- DVFS_READBACK, R448. Every 4 µs the voltage is read back and, once confirmed, the move proceeds. `mv` is the voltage read; none: the frame has failed. -/
  | dvfsReadback (mv : Option Nat)
  /-- CLOCK_RAMP_STEP, R448. Every 512 ns the core clocks step by 1/32 toward the new frequency. -/
  | clockRampStep
  /-- DVFS_TIMEOUT, R449. The voltage not confirmed within V_TMO fails the move. -/
  | dvfsTimeout
  /-- SLEEP_PME_WAIT_END, R452. PME_TO_Ack received or 10 ms passed, links go to L2/L3 Ready and slot channels turn off. -/
  | sleepPmeWaitEnd
  /-- SLEEP_DRAIN_END, R452. The sleep drain ends by emptying or DRAIN. -/
  | sleepDrainEnd
  /-- SLEEP_COMMIT, R452. After the completion is receipted or 2 ms, the node leaves both planes and latches pads. -/
  | sleepCommit
  /-- SL1_IDLE_EXPIRY, R453. Idle conditions held for SL1_IDLE enter SL1 automatically. -/
  | sl1IdleExpiry
  /-- WAKE_EVENT, R455. An enabled wake source wakes the node. `sources`: bits as in PWR_WAKE_STAT. -/
  | wakeEvent (sources : Nat)
  /-- SL3_HOLD_END, R456. A wake held in the first second of SL3 starts. -/
  | sl3HoldEnd
  /-- WAKE_TIMER_EXPIRY, R455. PWR_WAKE_TMR expires and wakes the node. -/
  | wakeTimerExpiry
  /-- PADHOLD_RELEASE, R454. A write of 1 to a PWR_PADHOLD bit releases the held pads. -/
  | padholdRelease (v : Nat)
  /-- COARSE_WINDOW_END, R465. A coarse window ends and each input's count is judged. Counts of the 25 MHz input, REFCLK_A, REFCLK_B and the 32.768 kHz crystal. -/
  | coarseWindowEnd (x a b l : Nat)
  /-- MISSING_EDGE, R465. An input without an edge for its limit is rejected at once. `i`: 0 the 25 MHz input, 1 REFCLK_A, 2 REFCLK_B, 3 the 32.768 kHz crystal. -/
  | missingEdge (i : Nat)
  /-- FINE_WINDOW_END, R466. A fine window ends and the pairs are judged under Table 19.4. Counts of REFCLK_A and REFCLK_B. -/
  | fineWindowEnd (a b : Nat)
  /-- PLL_REFERENCE_SWITCH_END, R469. A PLL holding its output locks to its new reference. `pll`: 0 CPLL, 1 TPLL, 2 SPLL. -/
  | pllReferenceSwitchEnd (pll : Nat)
  /-- PLL_LOCK_LOSS, R475. CPLL, TPLL or SPLL losing lock enters Grave. -/
  | pllLockLoss (pll : Nat)
  /-- AVS_VOLTAGE_POLL, R472. Every 8 µs the core voltage is read for the window check. -/
  | avsVoltagePoll (mv : Option Nat)
  /-- EARLY_BOOT_SOURCE_TIMEOUT, R474. No source qualifying within 10 ms of power-on reset enters Grave. -/
  | earlyBootSourceTimeout
  /-- FULL_POWER_ON_RESET, R496. Applying or losing the always-on rails resets every domain. -/
  | fullPowerOnReset
  /-- MAIN_POWER_ON_RESET, R481. A main rail failure or wake from SL3 resets the main domains. -/
  | mainPowerOnReset
  /-- FEED_SAMPLE, R484. Every 1 µs each fitted feed is sampled. `a` and `b` are the voltages at FEEDA_SENSE and FEEDB_SENSE in microvolts. -/
  | feedSample (a b : Nat)
  /-- FEED_GOOD_EXPIRY, R484. A feed in window for FEED_GOOD_T becomes good. `b`: feed B. -/
  | feedGoodExpiry (b : Bool)
  /-- FEED_PF_TIMEOUT, R486. No fitted feed good for FEED_PF_T starts the power-fail sequence. -/
  | feedPfTimeout
  /-- HUV_SAMPLE, R488. Every 10 µs HUV_SENSE is sampled and range and bank trigger checked. `v` is the voltage at HUV_SENSE in microvolts. -/
  | huvSample (v : Nat)
  /-- PST_CHANNEL_CHECK, R492. The persistence controller checks and trains each fitted channel. Capacity in MiB of the device on each channel that passes steps 1 to 3. -/
  | pstChannelCheck (c0 c1 : Option Nat)
  /-- PST_WRITE_FAILURE, R493. A persist read-back mismatch fails the channel. -/
  | pstWriteFailure (n : Nat)
  /-- STRAP_LATCH, R499. One millisecond after the always-on rails are valid the straps latch. -/
  | strapLatch (v : Nat)
  /-- BOOT_ROM_IMAGE_LOADED, R500. The boot ROM finishes loading and checking an image and starts firmware. -/
  | bootRomImageLoaded
  /-- FIRMWARE_BRINGUP_RESUME, R504. After the persist restore, firmware enables slots, creates partitions and opens ports. -/
  | firmwareBringupResume
  /-- UART_RECOVERY_IMAGE, R500. In recovery mode an image received over the UART is checked and run. -/
  | uartRecoveryImage (image : List Nat) (writes : List (Nat × List Nat))
  /-- BOOT_JOIN_TIMER, R509. At FW_READY plus JOIN_STAGGER × r the node writes JOIN. -/
  | bootJoinTimer
  /-- SELF_FACING_RELEASE, R510. A port held facing itself returns to DETECT 10 ms after the hold. -/
  | selfFacingRelease (p : Nat)
  /-- THERMAL_SAMPLE, R542. Every 1 ms the thermal sensors are read and compared with T_WARN and 135 °C. Readings of the sensors in °C, sensor 0 first. -/
  | thermalSample (ts : List Int)
  /-- MAIN_RAILS_VALID, R481. Once every rail of steps 2 to 6 has reached 95 % of its voltage, the power-on reset of the main domains is released and the boot ROM starts. -/
  | mainRailsValid
  /-- PLLS_LOCKED, R462. CPLL, TPLL and SPLL, started on a qualifying source at early boot or at wake from SL2, reach lock, after which MGMT and BOOT_SPI move to the SPLL and the core clocks ramp. -/
  | pllsLocked
  /-- WAKE_FIRMWARE_READY, R457. After wake from SL2 the retention check ends and firmware resumes serving mailboxes, raising FW_READY and returning PWR_STATUS.STATE from WAKING to RUN. -/
  | wakeFirmwareReady
  /-- FLOW_CONTROL_CREDIT_RETURN, R238. The link partner of a PCI Express egress returns flow-control credits, letting streams that waited for link credits of their type become ready. -/
  | flowControlCreditReturn (p : Nat) (vc : VC) (hdr data : Nat)
  deriving DecidableEq, Repr

end Sys2Proof
end

