-- ==== Sys2Proof/Config.lean ====
section
/-! DEFINITION. What the spec leaves open: values it says exist and does not state. Each is an opaque constant with no body, so
that no proof and no test can use a value of it. -/

namespace Sys2Proof.Config

/-- A value the spec leaves undefined, the `n`-th one taken in a run (State.free counts them). -/
opaque freeNat : Nat → Nat

/-- The `n`-th value of the Shaving generator after a restart from `seed` (R437: pseudo-random, repeatable). -/
opaque shvDraw : Nat → Nat → Nat

/-- What a function behind a physical port declares (the function is by port × 65,536 + physical requester ID): the power of two
of the size of its `i`-th memory BAR (0: it has none), and whether that BAR is prefetchable (R116, R131). -/
opaque devBar : Nat → Nat → Nat
opaque devBarPref : Nat → Nat → Bool

/-- Address of that BAR in the node's own physical hierarchy, which firmware's enumeration gives it (R96, R116). -/
opaque devBarAddr : Nat → Nat → Nat

/-- Requester ID of a downstream port in the node's physical numbering, which firmware's enumeration gives it (R96). -/
opaque portRid : Nat → Nat

/-- Vendor ID and Device ID that the switch answers for a virtual function (R91): those of its physical function. -/
opaque vfIds : Nat → Nat

/-- Where a physical function's SR-IOV capability lies, if it has one (R91): the offset of the capability that points to it, its
own offset, and the offset of the one after it. -/
opaque devSriov : Nat → Option (Nat × Nat × Nat)

/-- Slot power limit that the board record of the channel with a physical slot number gives (Table 10.10). -/
opaque slotPowerLimit : Nat → Nat

/-- TotalVFs of a function, and the requester ID of a VF's physical function (R91). -/
opaque devTotalVfs : Nat → Nat
opaque devPf : Nat → Option Nat

/-- SHA-384 of a list of bytes (R399), and whether an ECDSA P-384 signature of a header under the key in the boot ROM is valid: the
spec names the functions and does not define them. -/
opaque sha384 : List Nat → List Nat
opaque signed : List Nat → List Nat → Bool

/-- Whether a chain ends in a P-384 certificate (R415). -/
opaque chainOk : List Nat → Bool

/-- The device identity chain of SPDM slot 0 (R301), and the die's serial number (R415), provisioned by the maker. -/
opaque deviceChain : List Nat
opaque serial : Nat

/-- Sync number of a cold start, from the die's serial number and the local time of the start (R176). -/
opaque syncNumber : Nat → Nat → Nat

end Sys2Proof.Config
end

