-- ==== Sys2Proof/Machine/Tab.lean ====
section
/-! DEFINITION. Sparse tables: a list of keys and values in one canonical form. Keys rise strictly, and no entry equals what an
unlisted key reads as, so equal tables are equal lists. State holds every array of the spec (fields of registers, flows,
contexts, entries of a map, channels, lanes) this way, and a table right after reset is the empty list. -/

namespace Sys2Proof

/-- A table from numbers to values. -/
abbrev Tab (α : Type) := List (Nat × α)

/-- The entry of a key, if it is listed. -/
def Tab.find? {α : Type} : Tab α → Nat → Option α
  | [], _ => none
  | (k', v) :: t, k => if k' = k then some v else Tab.find? t k

/-- What a key reads as: its entry, or `d` when it has none. -/
def Tab.get {α : Type} (d : α) (t : Tab α) (k : Nat) : α := (Tab.find? t k).getD d

/-- The table without a key. -/
def Tab.erase {α : Type} : Tab α → Nat → Tab α
  | [], _ => []
  | (k', v) :: t, k => if k' = k then Tab.erase t k else (k', v) :: Tab.erase t k

/-- The table with an entry put at its place among rising keys. -/
def Tab.insert {α : Type} : Tab α → Nat → α → Tab α
  | [], k, v => [(k, v)]
  | (k', v') :: t, k, v =>
    if k < k' then (k, v) :: (k', v') :: t
    else if k = k' then (k, v) :: t
    else (k', v') :: Tab.insert t k v

/-- Write a key: writing what an unlisted key reads as removes the entry. -/
def Tab.put {α : Type} [DecidableEq α] (d : α) (t : Tab α) (k : Nat) (v : α) : Tab α :=
  if v = d then Tab.erase t k else Tab.insert t k v

/-- Change a key's value. -/
def Tab.upd {α : Type} [DecidableEq α] (d : α) (t : Tab α) (k : Nat) (f : α → α) : Tab α :=
  Tab.put d t k (f (Tab.get d t k))

/-- Change every listed value; values that become `d` leave the table. -/
def Tab.mapVals {α : Type} [DecidableEq α] (d : α) (f : Nat → α → α) (t : Tab α) : Tab α :=
  (t.map fun e => (e.1, f e.1 e.2)).filter fun e => e.2 ≠ d

/-- The canonical form: keys rise strictly and no entry equals its default. -/
def Tab.wf {α : Type} [DecidableEq α] (d : Nat → α) : Tab α → Bool
  | [] => true
  | [(k, v)] => v ≠ d k
  | (k, v) :: (k', v') :: t => decide (v ≠ d k) && decide (k < k') && Tab.wf d ((k', v') :: t)

end Sys2Proof
end

