-- ==== Sys2Proof/Machine/State.lean ====
section
/-! DEFINITION. The state of one FS-5168 node as plain data: the fields of every register (one table), the state behind the
registers subsystem by subsystem, the queue of waiting commands and what the node has sent. -/

namespace Sys2Proof.Machine

/-! ## Ring router (01) -/

/-- A discovery run of this node on one plane (R21): the messages that have ended, the records they brought (R23). -/
structure DiscRun where
  run : Nat
  /-- the records and the turned flag each message came back with -/
  east : Option (List NodeRec × Bool) := none
  west : Option (List NodeRec × Bool) := none
  deriving DecidableEq, Repr

/-- The last link-state message taken for a segment from one reporter (R30). -/
structure Seen where
  plane : Plane
  segment : Nat
  reporter : Nat
  epoch : Nat
  state : SegState
  deriving DecidableEq, Repr

/-- A route group of this node as source (R25): its present path, whether its return drain runs (R33), and whether it is
unreachable (R29). `placed` is false until the group first needs a path. -/
structure Grp where
  placed : Bool := false
  plane : Plane := .a
  dir : Dir := .east
  draining : Bool := false
  unreachable : Bool := false
  /-- a retransmission of the group is recorded at this local time (R171, GAP_HOLD) -/
  lastRtx : Option Nat := none
  deriving DecidableEq, Repr

/-- The steps of a join (R41). -/
inductive JoinStep where
  /-- step 1 and the second half of step 4: waiting until the other plane has no segment reported down in the last 10 ms -/
  | waitOther
  /-- steps 2 and 3: the pin is high; the ports train and discovery runs -/
  | training
  /-- the first half of step 4: RETURN_CLEAN with the plane up -/
  | clean
  deriving DecidableEq, Repr

/-- A join in progress: the plane being joined, its step, and whether plane B follows (R41). -/
structure JoinRun where
  plane : Plane
  step : JoinStep
  thenB : Bool
  deriving DecidableEq, Repr

/-- State of the ring router that no register shows. -/
structure RingSt where
  /-- last run number used on each plane: retention (R21) -/
  runA : Nat := 0
  runB : Nat := 0
  discA : Option DiscRun := none
  discB : Option DiscRun := none
  /-- own change number of each segment reported, by plane and segment: retention (R30) -/
  epochs : Tab Nat := []
  seen : List Seen := []
  /-- last run number seen from each foreign originator, by plane and node (R30) -/
  runsSeen : Tab Nat := []
  /-- home of the fabric manager as discovery reports it (Table 01.1 flag 2) -/
  fmHomes : List Nat := []
  /-- firmware feature levels of the members by node (Table 01.1) -/
  features : Tab Nat := []
  /-- route groups, by source partition × 16 + destination node -/
  groups : Tab Grp := []
  /-- local time of the last drain started (R34) -/
  lastDrain : Option Nat := none
  /-- local time at which a link-state message last reported a segment down, per plane (R41) -/
  lastDownA : Option Nat := none
  lastDownB : Option Nat := none
  join : Option JoinRun := none
  /-- a planned leave waits for LEAVE_WAIT (R42) -/
  leavingA : Bool := false
  leavingB : Bool := false
  /-- plane B leaves after plane A for a sleep entry (R42) -/
  sleepLeave : Bool := false
  /-- segments that the last run of each plane went over (R21, R24) -/
  pathA : Nat := 0
  pathB : Nat := 0
  /-- the node has met members since it last joined: what R83, R174 and R511 send on joining has been sent -/
  met : Bool := false
  /-- returns abandoned (R33) -/
  abortedReturns : Nat := 0
  deriving DecidableEq, Repr

/-! ## Maelryn Link ports (02) -/

/-- A record arriving on a VC of a fabric port: the record and the dwords of it still to come (R49). -/
structure RxRec where
  record : Record
  left : Nat
  /-- identity of its packet in the buffer once it has one -/
  pkt : Option Nat := none
  /-- it has been discarded: only its length still counts (R51) -/
  dropped : Bool := false
  deriving DecidableEq, Repr

/-- A record being sent on a VC: the dwords still to be placed in flits (R49). -/
structure TxRec where
  record : Record
  left : Nat
  pkt : Option Nat := none
  /-- the first dword has been sent -/
  begun : Bool := false
  /-- the rest cannot come: the record is to be aborted (R544) -/
  abort : Bool := false
  /-- it is sent in the Grain reserved for its stream (R223): the stream's key -/
  bound : Option Nat := none
  deriving DecidableEq, Repr

/-- A retrain wanted or requested (R73, R74): its reason byte (Table 02.11), the wanted lanes, and whether it is forced. -/
structure Retrain where
  reason : Nat
  wanted : Nat
  forced : Bool := false
  deriving DecidableEq, Repr

/-- One logical lane in the per-lane training states (R71, R331). -/
structure LaneTrain where
  /-- flits passed in a row while flit lock is sought, up to 16 (R325) -/
  run : Nat := 0
  /-- the last TS2 received and how many identical ones in a row -/
  ts2 : Option Ts2 := none
  ts2Run : Nat := 0
  /-- search: the preset requested last or being measured, and the figures measured -/
  trying : Option Nat := none
  foms : List (Nat × Nat) := []
  /-- the best setting has been requested -/
  final : Bool := false
  reqNo : Nat := 0
  /-- done or failed sent and received: true is done -/
  sent : Option Bool := none
  got : Option Bool := none
  deriving DecidableEq, Repr

/-- A stream that holds the Grain in progress: its key, its flits per occurrence, bytes of its records sent so far (R223). -/
structure GrainUse where
  stream : Nat
  r : Nat
  bytes : Nat := 0
  deriving DecidableEq, Repr

/-- A Grain reserved for TT that is in progress at a fabric egress, and the Spindle nanoseconds at which it began (R223). -/
structure GrainNow where
  uses : List GrainUse
  began : Nat
  deriving DecidableEq, Repr

/-- State of one fabric port's controller that no register shows. -/
structure Link where
  /-- T, e, c and B of R54 and R56, modulo 4,096 -/
  t : Nat := 0
  e : Nat := 0
  c : Nat := 0
  b : Nat := 0
  /-- the replay buffer: the outstanding sequenced flits, B first (R56) -/
  replay : List Flit := []
  /-- the flits of a replay still to be resent, and whether its REPLAY flit is still to go (R57) -/
  replaying : List Flit := []
  replayStart : Option Nat := none
  /-- consecutive replays (R59) -/
  consec : Nat := 0
  /-- this end's grants and the peer's, as exchanged in INIT (R63) -/
  adv : PerVc := {}
  peerAdv : PerVc := {}
  /-- credits consumed and returns accepted as transmitter, returns placed in flits as receiver, since INIT (R65, R66) -/
  consumed : PerVc := {}
  received : PerVc := {}
  returned : PerVc := {}
  /-- credits freed and not yet returned (R62) -/
  pendRet : PerVc := {}
  audits : Nat := 0
  sinceAudit : Nat := 0
  auditDue : Bool := false
  /-- link-delay flits that fall due (07) -/
  delayDue : List FlitBody := []
  lctl : List Lctl := []
  msgs : List MgMsg := []
  mgRecs : List Record := []
  rxP : Option RxRec := none
  rxNp : Option RxRec := none
  rxCpl : Option RxRec := none
  rxTt : Option RxRec := none
  rxMg : Option RxRec := none
  /-- records being sent, in the order in which the scheduler chose them; at most two of one VC (R49, R67, R240) -/
  tx : List (VC × TxRec) := []
  /-- scheduled planned retrain that has not sent RETRAIN_REQ (R73 step 1) -/
  sched : Option Retrain := none
  /-- own RETRAIN_REQ awaiting its answer (R73 step 2) -/
  req : Option Retrain := none
  /-- lanes agreed for the retrain in progress -/
  nextLanes : Nat := 0
  quiesceSent : Bool := false
  quiesceGot : Bool := false
  /-- RETRAIN has been repeated once (R75) -/
  repeated : Bool := false
  /-- no link-down has been declared since ACTIVE was last reached (R75, R80) -/
  up : Bool := false
  /-- forced RETRAIN_REQ still to send (R74) -/
  reqLeft : Nat := 0
  /-- corrected bytes of each lane in its present window (R332), and the local times of its lock losses within 1 s (R333) -/
  winCorr : Tab Nat := []
  /-- local times of retrains and link-downs of the last second (R78) -/
  flaps : List Nat := []
  lanes : Tab LaneTrain := []
  /-- TS1 lane numbers arrive in descending order (R327) -/
  descending : Bool := false
  /-- trainings begun: the training number of TS1 -/
  trainNo : Nat := 0
  /-- TS2 flits sent on each lane in CONFIG (R71) -/
  ts2Sent : Nat := 0
  peer : Option Ts2 := none
  /-- RATE_GO sent or taken: the target rate and the TS2 still to be sent (R71) -/
  targetRate : Nat := 0
  rateLeft : Nat := 0
  initGot : Bool := false
  initSent : Bool := false
  doneSent : Bool := false
  /-- the peer node and rate the equalisation is stored for (R72) -/
  eqPeer : Option (Nat × Nat) := none
  /-- the Grain reserved for TT on this link in this direction that is in progress (R67, R223) -/
  grain : Option GrainNow := none
  /-- a discard found no free hold: the port is forced to retrain (R145) -/
  noHold : Bool := false
  /-- self-facing hold of R510 -/
  selfFacing : Bool := false
  deriving DecidableEq, Repr

/-! ## Switch core (05) -/

/-- The pool a packet's segments are charged to (Table 05.1). `waiting` is a packet raised inside the switch whose pool is
short of segments (R545). -/
inductive Charge where
  | reserve (port : Nat)
  | shared
  | tt
  /-- no segments: the bytes are read from the journal (R170) -/
  | journal
  | waiting
  deriving DecidableEq, Repr

/-- How a packet stands with de-duplication at its destination (R172). -/
inductive Pass where
  /-- not presented yet, or not a record arrived from the fabric -/
  | none
  | provisional
  | final
  deriving DecidableEq, Repr

/-- Who raised a packet (05 R140, 17 KIND). -/
inductive Origin where
  | host | instance_ | internal
  deriving DecidableEq, Repr

/-- A packet in the shared buffer (R136, R140). -/
structure Packet where
  id : Nat
  record : Record
  /-- where it came in: a port, or none for a packet raised inside -/
  inPort : Option Nat := none
  /-- source index of R140 -/
  src : Nat := 0
  egress : Nat := 0
  charge : Charge := .waiting
  origin : Origin := .host
  /-- number of arrival within its ordering stream (R149) -/
  arrival : Nat := 0
  /-- every byte is in the buffer -/
  complete : Bool := true
  /-- transmission on its egress has begun -/
  started : Bool := false
  /-- its last byte has left -/
  gone : Bool := false
  /-- may start before it is complete (judged when its header was enqueued: CUT_EN) -/
  cutOk : Bool := false
  /-- it started before it was complete (R68, R147) -/
  cut : Bool := false
  pass : Pass := .none
  /-- eligible from this local time on (R234); none: at once -/
  release : Option Nat := none
  /-- waits at its VOQ head for an NPT context (R149) -/
  ctxWait : Bool := false
  /-- it is stalled: the local time at which the stall passes STALL_THR (R149, R151) -/
  stalled : Option Nat := none
  /-- header and data credits to return on its PCI Express ingress (R139) -/
  hdrCr : Nat := 0
  dataCr : Nat := 0
  /-- the journal entry it is the buffer copy of: flow key and admission number -/
  entry : Option Nat := none
  /-- counted once in JNL_CNT_ADM_WAIT (R165) -/
  admWaited : Bool := false
  /-- the instance it belongs to, if any -/
  inst : Option Nat := none
  /-- the bridge range or entry it hit names the function the requester sees (R102) -/
  cplId : Nat := 0
  /-- address before translation, for the filters and Shavings (R435, R437) -/
  addr0 : Nat := 0
  /-- L of R230 in bytes -/
  bytes : Nat := 0
  /-- carries the tag of a Shaving (R438), and the stages it has reached with their local times -/
  shaved : Bool := false
  t0 : Nat := 0
  stages : List (Nat × Nat) := []
  /-- local time at which it entered its VOQ -/
  tIn : Nat := 0
  /-- on a reserve from before its last initialisation: it returns no credits (R63, R138) -/
  noCredit : Bool := false
  /-- marked excess by the two-bucket stage (R234) -/
  excess : Bool := false
  /-- it missed its Grain at a transit egress (R223) -/
  missed : Bool := false
  /-- segments counted in DM_GLOBAL_STAT.BUF_USED until it leaves (R260) -/
  dmSegs : Nat := 0
  deriving DecidableEq, Repr

/-- A reserve of segments of a port (R137): its size and how many of them have been collected from the free list. -/
structure Reserve where
  size : Nat := 0
  got : Nat := 0
  deriving DecidableEq, Repr

/-- A hold on a route group at a fabric port (R145). -/
structure Hold where
  port : Nat
  srcNode : Nat
  srcPart : Nat
  dstNode : Nat
  seq : Nat
  deriving DecidableEq, Repr

/-- A packet that has begun to leave on a PCI Express port and whose link acknowledgement is still to come (R169); `arrived` is
the number of the flow it came in on from the fabric. -/
structure AckDue where
  id : Nat
  port : Nat
  record : Record
  arrived : Option Nat := none
  cplId : Nat := 0
  deriving DecidableEq, Repr

/-- State of the switch core that no register shows. -/
structure ScSt where
  acksDue : List AckDue := []
  /-- number of the next packet; 0 is none -/
  nextId : Nat := 1
  /-- the packets of the buffer in order of arrival -/
  pkts : List Packet := []
  /-- reserves by port: PCI Express ingress or link reserve (R137) -/
  reserves : Tab Reserve := []
  /-- pair quota table, by source index × 64 + egress (R141), default 1,024 -/
  pairQuota : Tab Nat := []
  /-- PAIR(i, e) in segments, by source index × 64 + egress -/
  pairOcc : Tab Nat := []
  /-- streams under the PCI Express rules (R151), by source index × 64 + egress -/
  fallback : Tab Bool := []
  holds : List Hold := []
  /-- segments the TT pool holds at present: TT_CELLS takes effect as segments allow (R146) -/
  ttSize : Nat := 8192
  /-- arrival counters of the streams, by source index × 64 + egress (R149) -/
  arrivals : Tab Nat := []
  /-- credits of an ingress withheld by the power-fail sequence (R139, R180): port, VC, header and data credits -/
  withheld : List (Nat × VC × Nat × Nat) := []
  deriving DecidableEq, Repr

/-! ## Delivery journal and persistence (06) -/

/-- A request to purge a flow (R189): up to `upTo`, with its reason; one under R190 or a CPL purge reports nothing. -/
structure Mark where
  upTo : Nat
  reason : Nat
  silent : Bool := false
  deriving DecidableEq, Repr

/-- Source flow state (R162). `purge` holds the purges that wait for their PURGE_ACK, first named first. -/
structure SrcFlow where
  next : Nat := 0
  oldest : Nat := 0
  held : Nat := 0xFFFFFFFF
  purge : List Mark := []
  deriving DecidableEq, Repr

/-- A journalled record (R160), in admission order in `JnlSt.entries`. `seq` is none while its flow waits for
synchronisation (R164). -/
structure Entry where
  id : Nat
  record : Record
  seq : Option Nat
  sent : Bool := false
  /-- to be sent again (R171) -/
  resend : Bool := false
  /-- the buffer copy stands, so the first sending is taken from it (R170) -/
  copy : Bool := true
  admitted : Nat := 0
  origin : Origin := .host
  inst : Option Nat := none
  /-- the destination has named it in an UNDELIV item with this reason (R187) -/
  undeliv : Option Nat := none
  /-- the completer the requester sees, from the lookup (R102) -/
  cplId : Nat := 0
  /-- what has already been said of it: reported (R188) -/
  reported : Bool := false
  deriving DecidableEq, Repr

/-- De-duplication state (R172). `done` lists the k with DONE bit k set. -/
structure Dedup where
  expected : Nat := 0
  delivered : Nat := 0xFFFFFFFF
  done : List Nat := []
  /-- its values have been installed by a SYNC_RSP of a member that has still to answer with LAST (R175) -/
  installed : Bool := false
  provisional : Option Nat := none
  /-- a RECEIPT item is owed (R169) -/
  owed : Bool := false
  deriving DecidableEq, Repr

/-- An answered synchronisation kept for a repeat (R176). -/
structure SyncKept where
  number : Nat
  items : List JItem
  deriving DecidableEq, Repr

/-- What was lost of a flow within the node: transactions and the oldest of them (R159). -/
structure Loss where
  flow : Nat
  count : Nat
  oldest : Record
  deriving DecidableEq, Repr

/-- One area of the persist store (R184), with the content a recovery loads. `state` is the STATE byte of its commit record,
`ok` says that every check of R185 on at least one channel holds apart from STATE and NODE_ID. -/
structure Area where
  epoch : Nat
  state : Nat
  node : Nat
  ok : Bool
  /-- the drain ended by DRAIN_MAX or by energy -/
  limited : Bool := false
  /-- the channels it is written on -/
  chans : Nat := 0
  flows : Tab SrcFlow := []
  dedup : Tab Dedup := []
  /-- members whose flows have SYNCED clear -/
  unsynced : List Nat := []
  gens : Tab Nat := []
  entries : List Entry := []
  /-- local loss block (R159) -/
  losses : List Loss := []
  lost : Nat := 0
  pfwTime : Nat := 0
  deriving DecidableEq, Repr

/-- A transaction raised inside the switch that waits for admission (R166). -/
structure IntTx where
  record : Record
  internalReserve : Bool
  inst : Option Nat := none
  cplId : Nat := 0
  /-- release time given by the two-bucket stage (R234) -/
  release : Option Nat := none
  /-- number of the data mover's write, and the segments it holds (R260) -/
  dmWr : Option Nat := none
  dmSegs : Nat := 0
  /-- a timed write: its number, the Turn entry and the scheduled time (R211) -/
  turn : Option (Nat × Nat × Nat) := none
  deriving DecidableEq, Repr

/-- State of the journal and the persistence controller that no register shows. -/
structure JnlSt where
  nextId : Nat := 0
  /-- by (source partition × 16 + destination node) × 8 + VC code -/
  flows : Tab SrcFlow := []
  entries : List Entry := []
  /-- entries reported undeliverable that stay unfreed until their event has its room (R396) -/
  parked : List Entry := []
  /-- by (source node × 64 + source partition) × 8 + VC code -/
  dedup : Tab Dedup := []
  /-- admission reserve of each port: entries held, and its full size (R163) -/
  admRes : Tab Reserve := []
  /-- entries of the internal reserve held (R163) -/
  intRes : Nat := 0
  intWait : List IntTx := []
  /-- members that have not answered SYNC_REQ, and this node's sync number (R175, R176) -/
  unsynced : List Nat := []
  syncNo : Nat := 0
  /-- members asked with SYNC_REQ that have not answered with LAST -/
  syncAsked : List Nat := []
  /-- REWIND is owed to every member at the next joining (R174) -/
  rewindDue : Bool := false
  /-- by incoming flow: the last purge answered and the items of the answer (R189) -/
  purgeKept : Tab (Nat × List JItem) := []
  /-- Purge Destination commands in work: the flows whose purge has still to end, with its sequence -/
  purgeCmds : List (Nat × List (Nat × Nat)) := []
  /-- by node: the SYNC_RSP last sent (R176) -/
  kept : List (Nat × SyncKept) := []
  /-- admission may be established: step 4 or 6 of R186 has passed -/
  recovered : Bool := false
  /-- the two persist areas: not volatile (R184) -/
  area0 : Option Area := none
  area1 : Option Area := none
  /-- the area and content being written in the persist step (R182) -/
  writing : Option (Bool × Area) := none
  /-- outputs are held after the persist step (R182) -/
  outputsHeld : Bool := false
  /-- work of flows within the node that was lost, to be reported (R159) -/
  losses : List Loss := []
  deriving DecidableEq, Repr

/-! ## Lane complex (12) -/

/-- State of the lane complex that no register shows: the quads whose PLL is locked, and by lane (port × 16 + logical lane) the
local time of a loss of symbol lock that lasts, and the local times of the short losses of the last second (R333). -/
structure LnSt where
  quadLock : List Nat := []
  lostAt : Tab (Option Nat) := []
  short : Tab (List Nat) := []
  deriving DecidableEq, Repr

/-! ## Partitions (03) -/

/-- A partition record, as every member keeps it (R83). -/
structure PartRec where
  present : Bool := false
  home : Nat := 0
  /-- Table 03.1 -/
  state : Nat := 0
  upPort : Nat := 0
  /-- RING_HOME mask: bit d is the home plane toward node d (R26) -/
  homePlane : Nat := 0
  /-- bus numbers of the vUSP and of the internal bus, which the completer IDs of R102 need at every node -/
  upBus : Nat := 0
  intBus : Nat := 0
  deriving DecidableEq, Repr

/-- A context of the Non-Posted Tracker (R96). -/
structure Ctx where
  idx : Nat
  /-- the port the request left on and its proxy tag; toward a host the request keeps its own tag -/
  port : Nat
  tag : Nat
  proxy : Bool
  reqId : Nat
  tag0 : Nat
  srcNode : Nat
  srcPart : Nat
  /-- the generation under R98 and the instance of this node it belongs to -/
  gen : Nat := 0
  inst : Option Nat := none
  /-- the instance of this node the request goes to -/
  target : Option Nat := none
  /-- the function the requester sees as completer (R102) -/
  cplId : Nat := 0
  vc : VC := .cpl
  /-- payload bytes still to come -/
  left : Nat := 0
  issued : Nat := 0
  /-- a configuration read: its register (R91) -/
  cfgReg : Option Nat := none
  deriving DecidableEq, Repr

/-- What a removal does when it ends (R103): the entry is cleared, or written for a new owner. -/
structure Reassign where
  owner : Nat
  vdsp : Nat
  deriving DecidableEq, Repr

/-- A marker of a removal (R103 step 4): the last sequence admitted on a flow of the owner toward this node. -/
structure Marker where
  srcNode : Nat
  vc : VC
  seq : Nat
  deriving DecidableEq, Repr

/-- The removal of an instance in progress (R103). -/
structure Removal where
  step : Nat
  owner : Nat
  markers : List Marker := []
  /-- nodes holding the owner's map whose markers have still to come -/
  waiting : List Nat := []
  then_ : Option Reassign := none
  /-- the command that waits for the end -/
  cmd : Option Nat := none
  deriving DecidableEq, Repr

/-- A partition reset at this node (R105 step 3): instances whose own reset has still to end, and the acknowledgement to send. -/
structure ResetJob where
  left : List Nat
  ack : Option (Nat × Nat) := none
  deriving DecidableEq, Repr

/-- A thaw in progress (R111): the instances that have still to thaw, and what ends with the last of them. -/
structure Thaw where
  insts : List Nat
  ack : Option (Nat × Nat) := none
  part : Nat := 0
  cmd : Option Nat := none
  deriving DecidableEq, Repr

/-- Enable VFs in progress (Table 16.8): the port, the physical function, how many VFs, the command. -/
structure VfJob where
  port : Nat
  pf : Nat
  n : Nat
  /-- VFs that have answered a configuration read -/
  got : List Nat := []
  cmd : Nat
  deriving DecidableEq, Repr

/-- State of the partition manager and the NPT that no register shows. -/
structure PartSt where
  records : Tab PartRec := []
  ctxs : List Ctx := []
  /-- proxy tags in quarantine, by port (R101) -/
  quar : List (Nat × Nat) := []
  /-- local time of each instance's last generation advance (R100) -/
  lastAdv : Tab (Option Nat) := []
  removals : Tab (Option Removal) := []
  /-- partition resets in progress, by partition: instances whose own reset has still to end (R105) -/
  resets : Tab (Option ResetJob) := []
  /-- local slots whose partition reset every node has ended: PARTITION_RESET_COMPLETE is due -/
  resetDone : List Nat := []
  /-- Reset Partition commands that end with the reset of their slot -/
  rstCmds : List (Nat × Nat) := []
  thaws : List Thaw := []
  /-- instances assigned with FREEZE_CPL on later freezes (Table 16.8) -/
  frzCpl : List Nat := []
  vfJobs : List VfJob := []
  /-- Set Managed Port in work: port and command -/
  mgJobs : List (Nat × Nat) := []
  /-- Delete Partition in work: local slot and command -/
  deletes : List (Nat × Nat) := []
  /-- subordinate bus of the vDSP, installed with VIRT_BUS (R90, R95) -/
  virtSub : Tab Nat := []
  /-- functions of the instances marked failed (R103) -/
  failed : List (Nat × Nat) := []
  /-- instances whose function is in an FLR the switch issued (Table 03.6) -/
  inFlr : List Nat := []
  /-- ports of this node that pass no partition traffic until the records have come (R83) -/
  recordsDue : Bool := false
  deriving DecidableEq, Repr

/-! ## PCI Express ports (10) -/

/-- What a vDSP presents (R90): 1 a function, 2 a port. -/
structure Bind where
  kind : Nat
  node : Nat
  inst : Nat
  port : Nat
  phys : Nat := 0
  busSpan : Nat := 16
  failed : Bool := false
  /-- what the function's node has told of the instance: GEN, FROZEN, FREEZE_CAUSE, whether its managed port is contained -/
  gen : Nat := 1
  frozen : Bool := false
  cause : Nat := 0
  contained : Bool := false
  /-- the slot channel behind it is latched off (R347) -/
  latched : Bool := false
  /-- rate and width of the port's link as PX_PORT_STAT codes them, and the physical slot number (R294), 0 without a channel -/
  rate : Nat := 0
  width : Nat := 0
  slotNo : Nat := 0
  /-- MPS code and IDE_PASS of the port (R281, R284) -/
  mps : Nat := 3
  ide : Bool := false
  deriving DecidableEq, Repr

/-- State of one PCI Express port that no register shows. -/
structure Px where
  /-- held by Link Disable, by DPC or by the collector -/
  disabled : Bool := false
  heldDown : Bool := false
  /-- waits for its reserves before flow-control initialisation completes (R137, R163) -/
  waiting : Bool := false
  /-- credits the partner has granted: header and data for P, NP and CPL; none is infinite -/
  partner : List (Option Nat) := []
  /-- physical secondary bus of a downstream port in the node's own numbering (R96) -/
  secBus : Nat := 0
  l1Enabled : Bool := false
  /-- local time at which a TLP last passed the port (R292) -/
  lastTlp : Nat := 0
  /-- a packet of this port is on its egress -/
  sending : Option Nat := none
  dpcHeld : Bool := false
  /-- width to which L0p goes back, coded as WIDTH (R292) -/
  full : Nat := 0
  /-- Error Count Limit of each lane's margining, 4 where none is set (R293; PRESUMED: the default of PCI Express) -/
  marginLimit : Tab Nat := []
  deriving DecidableEq, Repr

/-- State of the port controllers that no register shows: the configuration space of the virtual hierarchies of this node's
partitions (R89), the bindings of their vDSPs, the ports. -/
structure PcieSt where
  /-- dwords of configuration space, by ((slot × 80 + function) × 1024 + dword): function 0 is the vUSP, 1 to 31 the vDSPs, 32
  the management endpoint, 33 + n the registers the switch holds of the function behind vDSP n (R116) -/
  cfg : Tab Nat := []
  binds : Tab (Option Bind) := []
  ports : Tab Px := []
  /-- PME_Turn_Off forwarded by a slot's vUSP: the vDSPs whose ports have still to acknowledge (R285) -/
  pme : Tab (Option (List Nat)) := []
  /-- MSI-X vectors pending by slot (R291), and the MSI-X table by (slot × 2 + vector) × 4 + dword -/
  msixPending : List (Nat × Nat) := []
  msix : Tab Nat := []
  /-- SPDM exchanges: state by slot (R301) -/
  spdm : Tab Nat := []
  /-- Subsystem IDs of the board record (Table 10.4) -/
  subsys : Nat := 0
  deriving DecidableEq, Repr

/-! ## Event queues (15) -/

/-- A frame of an event queue (R394). -/
structure Frame where
  seq : Nat
  lostBefore : Bool := false
  node : Nat
  ev : Ev
  deriving DecidableEq, Repr

/-- One partition's event queue: the frames in the ring, the overflow store, events that wait at their units (R396). -/
structure EvQueue where
  ring : List Frame := []
  store : List (Nat × Ev) := []
  held : List (Nat × Ev) := []
  seq : Nat := 0
  lostNext : Bool := false
  deriving DecidableEq, Repr

/-! ## Address windows (04) -/

/-- A window entry (Table 04.1); `size` 0 is an invalid entry. -/
structure WEnt where
  tgtPart : Nat := 0
  tgtNode : Nat := 0
  tgtCs : Nat := 0
  kind : Nat := 0
  atOk : Bool := false
  prefetch : Bool := false
  fromInst : Bool := false
  fromHost : Bool := false
  wrEn : Bool := false
  rdEn : Bool := false
  size : Nat := 0
  tgtInst : Nat := 0
  base : Nat := 0
  offset : Nat := 0
  deriving DecidableEq, Repr

/-- What every node that may need it knows of a function of a partition's virtual hierarchy (R95, R117, R127, R281): number 0 is
the vUSP and its host port, 1 to 31 the vDSPs. `kind` is 0 empty, 1 function-bound, 2 port-bound. -/
structure VView where
  kind : Nat := 0
  node : Nat := 0
  inst : Nat := 0
  port : Nat := 0
  /-- egress MPS in bytes -/
  mps : Nat := 1024
  acs : Nat := 0
  acsVec : Nat := 0
  memBase : Nat := 1
  memLimit : Nat := 0
  prefBase : Nat := 1
  prefLimit : Nat := 0
  sec : Nat := 0
  sub : Nat := 0
  /-- physical secondary bus of a port-bound port, and whether the port passes IDE (R284) -/
  physSec : Nat := 0
  ide : Bool := false
  /-- DPC Trigger Enable of the vDSP (R299) -/
  dpc : Nat := 0
  deriving DecidableEq, Repr

/-- A commit at this node (R122, R123): its segments, and the command or the acknowledgement that waits for its end. -/
structure Commit where
  part : Nat
  bound : Bool
  managed : Bool
  cmd : Option Nat := none
  /-- node and number of the acknowledgement to send -/
  ack : Option (Nat × Nat) := none
  deriving DecidableEq, Repr

/-- State of the window tables that no register shows. -/
structure WinSt where
  /-- by (partition × 2 + bank) × 256 + index -/
  ents : Tab WEnt := []
  /-- STRICT_UP held with the managed banks, by partition × 2 + bank -/
  strict : Tab Bool := []
  /-- by partition × 32 + function -/
  view : Tab VView := []
  commits : List Commit := []
  /-- bound commits that wait for one in progress (Table 04.3), with the segment to stage -/
  waiting : List (Commit × List WEnt) := []
  deriving DecidableEq, Repr

/-- What follows when every node has acknowledged (R83, R95, R107): a command ends, or a host's configuration write completes. -/
inductive AckDone where
  | omi (id : Nat)
  | cfg (part reqId tag cplId : Nat)
  /-- a bound commit of the partition at every node follows, then the same end -/
  | commit (part : Nat) (reqId tag cplId : Nat)
  /-- every node has checked a commit of the managed segment: the command goes on (R120, R123) -/
  | goCommit (id : Nat)
  /-- acknowledge in turn to a node -/
  | ackTo (part node id : Nat)
  /-- the owner's vDSP of an instance of this node has been emptied and its ranges withdrawn (R103 steps 2 and 3) -/
  | emptied (inst : Nat)
  /-- the owner's vDSP of an instance of this node has been filled (R92): the command that assigned it ends -/
  | filled (inst : Nat) (cmd : Option Nat)
  /-- the resets of a partition's instances have ended at every node (R105) -/
  | partReset (k : Nat)
  /-- a partition being deleted has no instance left at any node (Table 03.1) -/
  | drained (k : Nat) (cmd : Option Nat)
  /-- every node has cleared the record of the partition of slot k (Table 03.1) -/
  | deleted (k : Nat) (cmd : Option Nat)
  | none
  deriving DecidableEq, Repr

/-- Acknowledgements of other nodes that this node waits for. -/
structure AckJob where
  id : Nat
  waiting : List Nat
  done : AckDone
  deriving DecidableEq, Repr

/-! ## Spindle time, Turns and Grains (07) -/

/-- A grandmaster or candidate: the criteria of R195. -/
structure Cand where
  node : Nat
  cls : Nat
  prio : Nat
  deriving DecidableEq, Repr

/-- The last announcement of a port and the local time at which it came. -/
structure AnnSeen where
  m : AnnMsg
  at_ : Nat
  deriving DecidableEq, Repr

/-- A Turn entry (Table 07.7), the number of its next launch, and a launch that has been fetched. `due` is the Spindle time of
the launch fetched; a timed write's lookup happens then (R211). -/
structure Turn where
  armed : Bool := false
  tt : Bool := false
  owner : Option Nat := none
  action : Nat := 0
  count : Nat := 0
  start : Nat := 0
  period : Nat := 0
  arg : Nat := 0
  data : Nat := 0
  /-- occurrences passed, launched or skipped -/
  n : Nat := 0
  /-- the launch fetched: its Spindle time, and for a timed write what its lookup gave -/
  due : Option Nat := none
  /-- the write found at the fetch, and the completer its lookup names; none where the lookup denied it -/
  write : Option IntTx := none
  /-- a suspension has been reported (R214) -/
  suspended : Bool := false
  deriving DecidableEq, Repr

/-- A capture (Table 07.9): rising edge, the Spindle, its flags. -/
structure Capt where
  rising : Bool
  time : Nat
  holdover : Bool
  invalid : Bool
  lost : Bool
  deriving DecidableEq, Repr

/-- A stream reservation at one egress of this node (R220); `path` is the candidate, 1 or 2. -/
structure Resv where
  stream : Nat
  path : Nat
  port : Nat
  phase : Nat
  period : Nat
  r : Nat
  degraded : Bool := false
  deriving DecidableEq, Repr

/-- A stream reserved by this node as source (R220): what the fabric manager named, and the candidates it is installed on. -/
structure Stream where
  stream : Nat
  g0 : Nat
  period : Nat
  r : Nat
  deriving DecidableEq, Repr

/-- A reservation or release of this node as source in progress: the command, the paths or nodes still to answer, the first
failure. -/
structure ResvJob where
  cmd : Option Nat
  stream : Nat
  release : Bool
  waiting : List Nat
  fail : Option Nat := none
  deriving DecidableEq, Repr

/-- State of the Spindle, the Turn engine and the Grains that no register shows. -/
structure SpnSt where
  /-- the counter at local time `at_`, in units of 2^-16 ns, 80 bits -/
  base : Nat := 0
  at_ : Nat := 0
  /-- servo correction of the rate in units of 2^-32, and what is left of a slew, in units of 2^-16 ns (R199, R201) -/
  rate : Int := 0
  slew : Int := 0
  seen : Tab (Option AnnSeen) := []
  /-- exchanges: the number of the next, and by port the one in progress and its t1 (R200) -/
  nextExch : Nat := 0
  exch : Tab (Option (Nat × Nat)) := []
  lastExch : Tab (Option Nat) := []
  /-- the last eight delays of a port in units of 2^-16 ns, newest first -/
  delays : Tab (List Int) := []
  /-- consecutive exchanges with abs(theta) ≤ 1.0 ns (Table 07.5) -/
  good : Nat := 0
  gm : Option Cand := none
  parent : Option Nat := none
  /-- a better candidate whose second runs (R195) -/
  rival : Option Cand := none
  epoch : Nat := 0
  /-- continuous host time is coming (R198) -/
  hostTime : Bool := false
  /-- the host has set the time since PPS_IN locked (R198) -/
  hostSet : Bool := false
  ppsRun : Nat := 0
  ppsHigh : Bool := false
  /-- the coordinated step announced: its time and the step (R198) -/
  step : Option (Nat × Int) := none
  lastAnn : Nat := 0
  lastPtm : Nat := 0
  sent : Option AnnMsg := none
  turns : Tab Turn := []
  /-- channels permitted for Turn starts, by channel: the partition (R216) -/
  chan : Tab (Option Nat) := []
  fifo : Tab (List Capt) := []
  /-- edges were lost at a pin since the last capture stored -/
  capLost : List Nat := []
  /-- local time of the last edge on a TIME_OUT pin (R210) -/
  lastEdge : Tab (Option Nat) := []
  resv : List Resv := []
  streams : List Stream := []
  jobs : List ResvJob := []
  /-- launches of the Turn engine in the last 16 ns (R210) -/
  launches : List Nat := []
  /-- number of the next timed write -/
  nextTw : Nat := 0
  deriving DecidableEq, Repr

/-! ## Scheduler (08) -/

/-- A stream at an egress (R238, R241, R244). -/
structure StreamSt where
  deficit : Nat := 0
  visited : Bool := false
  /-- wait gathered while ready, and the local time since which it is ready -/
  wait : Nat := 0
  ready : Option Nat := none
  urgent : Bool := false
  deriving DecidableEq, Repr

/-- State of the scheduler that no register shows. -/
structure SchSt where
  /-- the values of SCH fields in force, by field key: latched at each refill (R231) -/
  act : Tab Nat := []
  /-- quanta written, and in force, by source index × 64 + egress (R242) -/
  quanta : Tab Nat := []
  quantaAct : Tab Nat := []
  streams : Tab StreamSt := []
  /-- the committed and the excess list of each egress in round order, the pointer at the head (R241) -/
  comm : Tab (List Nat) := []
  exc : Tab (List Nat) := []
  /-- TT bucket of each egress in bytes; none is full (R245) -/
  tt : Tab (Option Nat) := []
  /-- an urgent service in progress: the stream, and whether its first candidate has gone (R244) -/
  serving : Tab (Option (Nat × Bool)) := []
  lastRefill : Nat := 0
  /-- commands that end with the next refill (R232) -/
  cmds : List Nat := []
  deriving DecidableEq, Repr

/-! ## Performance monitor (17) -/

/-- The address and master dwords of a filter in force (R436). -/
structure Filt where
  addrEn : Bool := false
  base : Nat := 0
  limit : Nat := 0
  rid : Nat := 0
  ridMask : Nat := 0
  deriving DecidableEq, Repr

/-- A Shaving (Table 17.7). `d` are D1 to D7. -/
structure Shaving where
  discarded : Bool
  lostBefore : Bool := false
  localTime : Bool
  holdover : Bool
  excess : Bool
  cutThrough : Bool
  pcieRules : Bool
  interNode : Bool
  ingress : Nat
  egress : Nat
  part : Nat
  kind : Nat
  access : Nat
  vc : VC
  requester : Nat
  addr : Nat
  len : Nat
  tag : Nat
  seq : Nat
  t0 : Nat
  d : List (Option Nat)
  dstNode : Nat
  reason : Nat
  deriving DecidableEq, Repr

/-- State of the performance monitor that no register shows. -/
structure PmonSt where
  filters : Tab Filt := []
  shavings : List Shaving := []
  lostNext : Bool := false
  /-- values drawn from the generator since it last restarted (R437) -/
  drawn : Nat := 0
  /-- bytes of the present bandwidth window by port, received and sent -/
  rx : Tab Nat := []
  tx : Tab Nat := []
  /-- Spindle nanoseconds at the start of the present window (R441) -/
  winStart : Nat := 0
  changed : List Nat := []
  deriving DecidableEq, Repr

/-! ## Data mover (09) -/

/-- A write a descriptor has formed (R257): its number, the journal entry or the buffer packet it stands in. -/
structure DmWr where
  id : Nat
  entry : Option Nat := none
  pkt : Option Nat := none
  bytes : Nat := 0
  deriving DecidableEq, Repr

/-- A fetched descriptor (Table 09.2) and how far it has come. -/
structure Desc where
  idx : Nat
  op : Nat := 0
  srcMap : Bool := false
  dstMap : Bool := false
  fence : Bool := false
  tstart : Bool := false
  length : Nat := 0
  irq : Bool := false
  deliv : Bool := false
  rsvd : Nat := 0
  user : Nat := 0
  src : Nat := 0
  dst : Nat := 0
  /-- bytes whose reads have been issued; bytes whose writes have been formed -/
  issued : Nat := 0
  formed : Nat := 0
  /-- read data that has come and is not written yet: offset and bytes -/
  data : List (Nat × List (BitVec 8)) := []
  /-- the start event has come (R265) -/
  started : Bool := false
  writes : List DmWr := []
  /-- segments reserved for its data and not used by a write yet (R260) -/
  held : Nat := 0
  /-- STATUS of its failure, 0 while it has none, and the address of the failed request -/
  status : Nat := 0
  errAddr : Nat := 0
  deriving DecidableEq, Repr

/-- A read tag in use (R258, R259): its number, the value carried, the read, how much of it has come. -/
structure DmTag where
  tag : Nat
  wire : Nat
  part : Nat
  chan : Nat
  gen : Nat
  idx : Nat
  addr : Nat
  /-- offset of the read within its descriptor, and its length -/
  off : Nat
  len : Nat
  got : Nat := 0
  retired : Bool := false
  /-- set aside for a start, and not sent yet (R266) -/
  aside : Bool := false
  deriving DecidableEq, Repr

/-- One channel. -/
structure DmCh where
  descs : List Desc := []
  /-- slots of the ring that the fetch in flight reads -/
  fetching : Nat := 0
  halted : Bool := false
  /-- address of a fetch that has failed and halts the channel once the descriptors before it are complete (R269) -/
  fetchErr : Option Nat := none
  /-- the command that ends with the channel reset, and the owner and class it then takes (R250) -/
  cmd : Option Nat := none
  newOwner : Option (Option (Nat × Nat)) := none
  deriving DecidableEq, Repr

/-- State of the data mover that no register shows. `cpls` are the completions to its requests that have come and wait for their
own step; `lost` names the writes reported undeliverable. -/
structure DmSt where
  chans : Tab DmCh := []
  tags : List DmTag := []
  cpls : List (Nat × Tlp) := []
  lost : List Nat := []
  nextWr : Nat := 0
  deriving DecidableEq, Repr

/-! ## Local bus bridge (11) -/

/-- A request the bridge has taken and not ended (R303, R310). `todo` are the dwords still to be put on the bus with their byte
enables, `got` the dwords read. -/
structure LbReq where
  /-- number of the packet it came in -/
  id : Nat
  write : Bool
  record : Record
  tlp : Tlp
  cs : Nat := 0
  cplId : Nat := 0
  todo : List (Nat × Nat) := []
  got : List (Nat × Nat) := []
  retries : Nat := 0
  /-- it waits out its RETRY_GAP -/
  gap : Bool := false
  /-- index of its NPT context -/
  ctx : Option Nat := none
  /-- first byte beyond the read that is prefetched with it (R311) -/
  pref : Option Nat := none
  taken : Nat := 0
  deriving DecidableEq, Repr

/-- The cycle on the bus: its request, the phases left, whether the present one is the first (R307). -/
structure LbCyc where
  req : Nat
  left : List (Nat × Nat)
  first : Bool := true
  deriving DecidableEq, Repr

/-- A prefetch line (R311): the block, the prefetched bytes from `start` on, the dwords, the bytes some read has received. -/
structure LbLine where
  no : Nat
  cs : Nat
  part : Nat
  block : Nat
  start : Nat
  stop : Nat
  data : List (Nat × Nat)
  used : List Nat := []
  filled : Nat := 0
  deriving DecidableEq, Repr

/-- State of the bridge that no register shows. `lines` stands in order of use, least recent first. -/
structure LbSt where
  reqs : List LbReq := []
  cyc : Option LbCyc := none
  lines : List LbLine := []
  nextLine : Nat := 0
  /-- source index served last (R303) -/
  rr : Nat := 111
  deriving DecidableEq, Repr

/-! ## Slot power channels (13) -/

/-- State of one channel that no register shows. -/
structure SpCh where
  /-- the settings latched at the last turn-on from an enable command or a power cycle, by field key (R344 step 1) -/
  latched : Tab Nat := []
  /-- the timers of the eight curve points in µs (R348) -/
  curve : List Nat := []
  /-- feed whose gate is driven or is to be driven, and whether a gate is driven -/
  feed : Nat := 0
  driven : Bool := false
  /-- a containment power cycle runs (R359); an enable command waits for OFF (Table 13.5) -/
  cycling : Bool := false
  enPend : Bool := false
  /-- a retry has fallen due while the slot is empty (R353) -/
  retryHeld : Bool := false
  /-- causes of SLOT_PWRWARN_n, and the local time of its assertion (R356) -/
  warnPf : Bool := false
  warnFeed : Bool := false
  warnCycle : Bool := false
  warnSleep : Bool := false
  warnAt : Nat := 0
  /-- the persist step has ended: the channel turns off after LEAD (R357) -/
  pfDone : Bool := false
  /-- an owner's command of Power Controller Control waits for its end: partition and vDSP (R296) -/
  cmd : Option (Nat × Nat) := none
  /-- debounced level of SLOT_PRSNT_n: a card is present -/
  pin : Bool := false
  /-- local time of the last trip -/
  tripAt : Option Nat := none
  deriving DecidableEq, Repr

/-! ## Mailboxes (15, 16) -/

/-- A command taken by a mailbox: its number at this node (the model's), the header fields (Table 16.1), who issued it and with
which privilege (0 host, 1 fabric manager, 2 gateway), its parameter bytes. A forwarded one carries the number it has at its
issuing node. -/
structure OmiRun where
  id : Nat := 0
  mbox : Nat := 0
  opcode : Nat := 0
  flags : Nat := 0
  seq : Nat := 0
  token : Nat := 0
  priv : Nat := 0
  part : Nat := 0
  node : Nat := 0
  fwdId : Nat := 0
  /-- PART_CTRL_k.SELF_THAW of its issuer's slot when it was taken -/
  selfThaw : Bool := false
  params : List Nat := []
  deriving DecidableEq, Repr

/-- Status dword and results of a response (R407). -/
structure OmiRsp where
  status : Nat := 0
  applied : Nat := 0
  failNode : Nat := 0xFF
  results : List Nat := []
  deriving DecidableEq, Repr

/-- A command in work: nodes whose answers are awaited, the answers, and its outcome once it has one. -/
structure OmiWork where
  run : OmiRun
  started : Bool := false
  multi : Bool := false
  waiting : List Nat := []
  answers : List (Nat × OmiRsp) := []
  outcome : Option OmiRsp := none
  deriving DecidableEq, Repr

/-- One mailbox: command buffer by byte, response buffer, the command running, its deferred commands, the stored response
(R392). `quiet` are commands that ran when the mailbox was reset: their responses are stored and not placed (Table 15.10). -/
structure Mbox where
  buf : Tab Nat := []
  rsp : List Nat := []
  running : Option OmiWork := none
  deferred : List OmiWork := []
  stored : Option (Nat × List Nat) := none
  quiet : List OmiWork := []
  /-- page pointer of the SMBus target (R397) -/
  ptr : Nat := 0
  deriving DecidableEq, Repr

/-- What a command waits for at this node until it ends there: RING_CTRL.JOIN to clear (R41); the RING_HOLD pins of planes to be low
(R42), a mask of A and B; the dwell of a margining step on a lane, with its end in local time (R336). -/
inductive CmdWait where
  | join
  | leave (planes : Nat)
  | margin (port lane until_ : Nat)
  deriving DecidableEq, Repr

/-- State of the mailboxes that no register shows. -/
structure MbSt where
  boxes : Tab Mbox := []
  nextCmd : Nat := 1
  /-- forwarded commands that wait for mailbox 17 (R387) -/
  fwd : List OmiRun := []
  /-- retries of a forwarded command that met busy: command, node, and the local time at which they end (R387) -/
  retry : List (Nat × Nat × Nat) := []
  /-- commands that end with a state of the node, by number -/
  waits : List (Nat × CmdWait) := []
  deriving DecidableEq, Repr

/-! ## Firmware images (15) -/

/-- The fields of an image header that anything reads (Table 15.8). -/
structure ImgHdr where
  version : Nat := 0
  feature : Nat := 0
  minPeer : Nat := 0
  secVer : Nat := 0
  deriving DecidableEq, Repr

/-- A boot selector copy (Table 15.9). -/
structure Selector where
  epoch : Nat
  active : Nat
  version : Nat
  deriving DecidableEq, Repr

/-- A session under R393: what it is (1 staging of a slot, 2 an owner chain), its token, its issuer's partition, the slot, the
bytes of a chain taken so far. -/
structure Session where
  kind : Nat
  token : Nat
  part : Nat
  slot : Nat := 0
  data : List Nat := []
  deriving DecidableEq, Repr

/-- An activation in progress (R403): its phase, its slot, the command that waits, the hash checked in phase 2. -/
structure Activation where
  phase : Nat
  slot : Nat
  cmd : Option Nat := none
  hash : List Nat := []
  deriving DecidableEq, Repr

/-- Firmware: the boot flash (by offset of Table 15.7; erased bytes read 0xFF), the slots marked verified, the running image and its
slot, the fuses, the session. -/
structure ImgSt where
  flash : Tab Nat := []
  verified : List Nat := []
  slot : Nat := 0
  hdr : ImgHdr := {}
  /-- minimum security version in the fuses -/
  fuse : Nat := 0
  /-- a Commit Image of the running image has ended since it was loaded -/
  committed : Bool := false
  session : Option Session := none
  act : Option Activation := none
  /-- MIN_PEER_LEVEL that members announce, by node (R403) -/
  minPeers : Tab Nat := []
  deriving DecidableEq, Repr

/-! ## Fault collector (14) -/

/-- State of the collector that no register shows. -/
structure FcSt where
  /-- capture records by unit: what FC_CAP_u shows (R366) -/
  caps : Tab (Option Capture) := []
  /-- local times of each port's last Port-fatal reports (R374) -/
  hist : Tab (List Nat) := []
  /-- local times of the node resets that faults started (R377) -/
  resets : List Nat := []
  /-- local time of the last Contained report of unit 35 or 37 (R376) -/
  restartAt : Option Nat := none
  /-- class and unit of a node reset whose notices wait for the rejoining (R380) -/
  noticeDue : Option (Nat × Nat) := none
  /-- a node reset waits for the end of the persist step (Table 14.5) -/
  resetWaits : Bool := false
  /-- ports contained by a Port-fatal reaction: RECOVER runs from the end of their containment (R375) -/
  recover : List Nat := []
  deriving DecidableEq, Repr

/-! ## Reset and bring-up (21) -/

/-- Where the node stands between a reset and its work. -/
structure BootSt where
  /-- every rail of steps 2 to 6 is valid: power-on reset of the main domains is released (R481) -/
  main : Bool := false
  /-- the boot ROM runs: an image load is due (R500) -/
  rom : Bool := false
  /-- firmware runs; in recovery (R500) -/
  running : Bool := false
  recovery : Bool := false
  /-- firmware has passed step 3 of R504 and waits for the persist recovery -/
  waits : Bool := false
  /-- the main domains wake from SL3 -/
  sl3 : Bool := false
  /-- register values that commands have set, each plus 1, by field key (R507) -/
  store : Tab Nat := []
  deriving DecidableEq, Repr

/-! ## Power levels and sleep (18) -/

/-- A DVFS move (R448): from and to which level, the voltage before it in mV, whether its clocks ramp now (else a voltage is written and
to be confirmed). -/
structure Move where
  src : Nat
  dst : Nat
  old : Nat
  ramp : Bool
  deriving DecidableEq, Repr

/-- A sleep entry (R452): the level, the step it has reached, the command that waits, whether it is automatic. -/
structure Sleep where
  level : Nat
  step : Nat
  cmd : Option Nat := none
  /-- ports whose PME_TO_Ack is awaited -/
  pme : List Nat := []
  /-- a wake source has come after step 4, and its bit in PWR_WAKE_STAT (Table 18.6) -/
  woken : Option Nat := none
  /-- PFW_n has fallen after step 4 -/
  pfw : Bool := false
  deriving DecidableEq, Repr

/-- State of the power manager that no register shows. Clock frequencies are in units of 0.5 MHz. -/
structure PwSt where
  move : Option Move := none
  /-- frequency of the core, buffer and journal clocks; 0 while the CPLL is off -/
  freq : Nat := 0
  /-- target of VDD_CORE in mV; the window check is suspended until it is confirmed -/
  volt : Nat := 800
  unconfirmed : Bool := false
  /-- local time since which VDD_CORE has been outside its window -/
  outside : Option Nat := none
  /-- Set Power Level commands in work, with their levels -/
  cmds : List (Nat × Nat) := []
  sleep : Option Sleep := none
  /-- local time and Spindle of the end of step 7 -/
  asleepAt : Nat := 0
  spnAt : Nat := 0
  /-- a wake source held in the first second of SL3 (R456) -/
  pendWake : Option Nat := none
  /-- Request Sleep commands with LEVEL 0 that wait for FW_READY (R426) -/
  wakers : List Nat := []
  /-- TLPs taken in SL1 that wait for the core (R455) -/
  tlps : List (Nat × Tlp) := []
  /-- upstream ports whose links went down with the sleep (R457) -/
  upDown : List Nat := []
  deriving DecidableEq, Repr

/-! ## Clocks (19) -/

/-- State of the clock manager that no register shows. Inputs are 0 XTAL, 1 REFCLK_A, 2 REFCLK_B, 3 the 32.768 kHz crystal. -/
structure CkSt where
  /-- passing fine windows in a row of an input that has been rejected, on its way back (R467) -/
  passes : Tab Nat := []
  /-- inputs rejected since they were last GOOD: they return only after RETURN_WIN windows -/
  back : List Nat := []
  /-- offsets of the last fine windows of the pairs with REFCLK_A and REFCLK_B, in cycles of a window of 2^16 cycles of the 25 MHz input,
  newest first, at most 256 (R466) -/
  offsA : List Int := []
  offsB : List Int := []
  /-- PLLs that hold their output while they take a new reference: 0 CPLL, 1 TPLL, 2 SPLL, the reference, whether a rejection forced it (R469) -/
  holding : List (Nat × Nat × Bool) := []
  /-- failures in a row of an AVSBus frame (R472) -/
  avsFails : Nat := 0
  deriving DecidableEq, Repr

/-! ## Supplies and hold-up (20) -/

/-- State of the persistence controller's sensing that no register shows. -/
structure PstSt where
  /-- consecutive samples of a feed outside V_OFF to V_OV (R484) -/
  badA : Nat := 0
  badB : Nat := 0
  /-- consecutive samples of V_HUV below HUV_PF, and whether the bank trigger is armed (R486) -/
  lowHuv : Nat := 0
  armed : Bool := false
  /-- the feeds case and the bank case of internal detection hold (R486) -/
  feedCause : Bool := false
  bankCause : Bool := false
  /-- the channels have been checked since power-on reset (R492) -/
  checked : Bool := false
  /-- Spindle nanoseconds at the start of the power-fail sequence (Table 06.7) -/
  pfwAt : Nat := 0
  /-- levels of SUP_MAIN_EN and SUP_SER_EN (R482) -/
  mainEn : Bool := true
  serEn : Bool := true
  deriving DecidableEq, Repr

/-! ## Register access (00) -/

/-- Holding copies of wide registers that have been read, and staging copies of those being written (R15), by register, index
and dword: (index × 16 + dword) × 512 + register. -/
structure HoldSt where
  copy : Tab Nat := []
  staged : Tab (Option Nat) := []
  deriving DecidableEq, Repr

/-- The timers of the node. A running timer stands in `State.timers` with the local time at which it expires. -/
inductive TimerId where
  -- 01
  | disc (p : Plane) | returnClean (g : Nat) | drain (g : Nat) | leaveWait (p : Plane) | sleepPlaneB | joinClean
  -- 02
  | replay (port : Nat) | req (port : Nat) | rtMove (port : Nat) | quiesce (port : Nat) | retrain (port : Nat)
  | equalise (port : Nat) | adapt (port lane : Nat) | measure (port lane : Nat) | lockLoss (port : Nat) | selfFacing (port : Nat)
  -- 05
  | refuse (pkt : Nat) | hold (port srcNode srcPart dstNode : Nat) | stall (stream : Nat)
  -- 06
  | rtx (g : Nat) | heldTmo (g : Nat) | unreach (g : Nat) | cplAge (entry : Nat) | syncResend | receipt (node : Nat)
  | drainMax
  -- 03
  | spGate (c : Nat) | spPerst (c : Nat) | spLead (c : Nat) | spOffMax (c : Nat) | spRetry (c : Nat) | spClean (c : Nat)
  | spEmpty (c : Nat) | spReturn (c : Nat) | spBbm (c : Nat) | spWarn (c : Nat) | spCycleOff (c : Nat)
  | fcRecover (port : Nat) | fcCycle (port : Nat) | fcDpc (port : Nat)
  | vfs (port : Nat) | pme (slot : Nat)
  | lbPhase | lbGap (id : Nat) | lbLine (no : Nat) | lbSem | lbRst
  | dmRead (tag : Nat) | dmReset (chan : Nat)
  | ctx (idx : Nat) | tagQuar (port tag : Nat) | genWait (inst : Nat) | remDrain (inst : Nat) | remWait (inst : Nat)
  | remFunc (inst : Nat) | fmTakeover
  -- 04
  | swap (part : Nat) | reload (part : Nat)
  -- 07
  | exch (port : Nat) | absent (port : Nat) | gmSettle | ppsLoss | holdover | pulse (pin : Nat) | ppsFall | turnWrite (id : Nat)
  -- 14
  | nodeReset
  -- 15
  | session | quiesce15
  -- 18
  | vTmo | sl1Idle | sleepPme | sleepDrain | sleepCommit | sl3Hold | wakeTmr
  -- 19
  | earlyBoot
  -- 20
  | feedGood (b : Bool) | feedPf
  -- 21
  | bootJoin | strap
  deriving DecidableEq, Repr

/-- A message or record the links have accepted whose own step has still to come. -/
inductive InMsg where
  | mg (port : Nat) (m : MgMsg)
  /-- a journal control record (06, R168): its sender, subtype, sync number, LAST and items -/
  | ctl (src subtype number : Nat) (last : Bool) (items : List JItem)
  /-- a firmware message that has passed de-duplication and that firmware has still to take: its sender, partition and sequence -/
  | fw (src part : Nat) (m : FwMsg) (seq : Nat)
  deriving DecidableEq, Repr

/-- What the node sends out. -/
inductive Emit where
  | flit (port : Nat) (f : Flit)
  | tlp (port : Nat) (t : Tlp)
  /-- a TLP on a PCI Express egress is ended as nullified (R148) -/
  | nullify (port : Nat)
  /-- link-layer acknowledgement of the next TLP of an ingress port (R155) -/
  | ack (port : Nat)
  /-- header and data credits returned on a PCI Express ingress (R139) -/
  | credits (port : Nat) (vc : VC) (hdr data : Nat)
  /-- MSI-X vector of a partition's management endpoint -/
  | msix (part vector : Nat)
  /-- MSI of a vDSP's hot-plug or DPC event (R296) -/
  | msi (part vdsp : Nat)
  /-- a PCI Express port begins to train in its role, or stops; a hot reset, a retrain of it -/
  | train (port : Nat) (on : Bool)
  | hotReset (port : Nat)
  | retrain (port : Nat)
  /-- an FLR, and a configuration read, that firmware issues to a function of a port (R103 step 6) -/
  | flr (port rid : Nat)
  | cfgPoll (port rid : Nat)
  /-- VFs of a physical function are enabled or disabled (R418) -/
  | vfEnable (port rid n : Nat)
  /-- ASPM L1 initiated, L0p width request: the width in lanes (R292) -/
  | enterL1 (port : Nat)
  | l0p (port width : Nat)
  /-- a message that the switch originates or forwards on a port (R285): its code -/
  | message (port code : Nat)
  /-- answer of a receiver to a margining command, or the command carried on the link (R293) -/
  | marginAnswer (port lane payload : Nat)
  | marginCarry (port lane receiver command payload : Nat)
  /-- SPDM response to a DOE request of a partition: its code and content (R301) -/
  | doe (part code : Nat) (content : List Nat)
  /-- a request handed to a management endpoint's BAR0 -/
  | bar0 (part : Nat) (t : Tlp)
  /-- a cycle of the local bus: chip select, write, address, byte enables and data of its phases (R307) -/
  | lbCycle (cs : Nat) (write : Bool) (addr : Nat) (phases : List (Nat × Nat))
  /-- the gate of a channel toward a feed, SLOT_PERST_n and SLOT_PWRWARN_n of a channel (Table 13.1) -/
  | slotGate (c feed : Nat) (on : Bool)
  | slotPerst (c : Nat) (low : Bool)
  | slotWarn (c : Nat) (low : Bool)
  /-- level of LB_RST_n (R315) -/
  | lbRst (low : Bool)
  /-- PTM ResponseD with Spindle nanoseconds, or a PTM Response without data (R206) -/
  | ptm (port : Nat) (time : Option Nat)
  /-- level of a TIME_OUT pin, and of PPS_OUT (R208, R217) -/
  | timeOut (pin : Nat) (high : Bool)
  | ppsOut (high : Bool)
  /-- bytes that the SMBus target returns (R397) -/
  | smbus (xs : List Nat)
  /-- level of SMB_ALERT_n (R502) -/
  | smbAlert (low : Bool)
  /-- RING_HOLD pin of a plane (R36) -/
  | ringHold (p : Plane) (high : Bool)
  deriving DecidableEq, Repr

/-- The state of the node. `pending` is the model's own queue of commands (the block takes them first in, first out); `out`,
`inbox` and `reports` are the model's own record of what has been sent, what the links have accepted and what the collector
has still to take; `now` is local time in nanoseconds; `free` counts the free values taken. -/
structure State where
  fields : Tab Nat := []
  ring : RingSt := {}
  /-- by port, 44 to 47 -/
  links : Tab Link := []
  ln : LnSt := {}
  sc : ScSt := {}
  jnl : JnlSt := {}
  spn : SpnSt := {}
  win : WinSt := {}
  acks : List AckJob := []
  nextAck : Nat := 1
  part : PartSt := {}
  pcie : PcieSt := {}
  mb : MbSt := {}
  img : ImgSt := {}
  fc : FcSt := {}
  boot : BootSt := {}
  pw : PwSt := {}
  ck : CkSt := {}
  pst : PstSt := {}
  hold : HoldSt := {}
  sch : SchSt := {}
  dm : DmSt := {}
  lb : LbSt := {}
  /-- by slot power channel -/
  sp : Tab SpCh := []
  pmon : PmonSt := {}
  /-- event queues by local slot -/
  evq : Tab EvQueue := []
  timers : List (TimerId × Nat) := []
  inbox : List InMsg := []
  reports : List Report := []
  out : List Emit := []
  now : Nat := 0
  /-- feature level of the running firmware image (15) -/
  fwFeature : Nat := 0
  free : Nat := 0
  pending : List Instr := []
  deriving DecidableEq, Repr

/-- The machine right after full power-on reset: every register at its reset value; the straps latch after 1 ms (R499). -/
def State.reset : State := { timers := [(.strap, 1000000)] }

/-! ## The machine -/

/-- What the block can stop with: nothing. Every command of the spec has an effect, and an event whose conditions do not
hold leaves the state as it is. The type is closed and has one constructor that names the one case in which the spec gives an
access no place to go. -/
inductive Fault where
  /-- Raised by no meaning: kept so that the type has a constructor. Safe. -/
  | none
  deriving DecidableEq, Repr

/-- Why a command is refused. -/
inductive Refusal where
  /-- Raised by Dispatch.lean for a command that has no meaning yet. Safe: the run stops. -/
  | notModelled (mnemonic : String)
  deriving DecidableEq, Repr

end Sys2Proof.Machine
end

