-- ==== Sys2Proof/Machine/Ops.lean ====
section
/-! DEFINITION. The named operations every meaning is built from: fields of registers, timers, counters, fault reports, events,
free values, serial arithmetic. -/

namespace Sys2Proof.Machine

/-- A command's outcome. -/
abbrev Res := Host.Outcome State Fault Refusal

/-! ## Register fields -/

/-- A field of a register, of index `i`. -/
def State.get (s : State) (f : Fld) (i : Nat := 0) : Nat := Tab.get (fieldReset (f.key i)) s.fields (f.key i)

/-- The field as a flag. -/
def State.on (s : State) (f : Fld) (i : Nat := 0) : Bool := s.get f i != 0

/-- Set a field; the value is cut to the field's width. -/
def State.set (s : State) (f : Fld) (v : Nat) (i : Nat := 0) : State :=
  { s with fields := Tab.put (fieldReset (f.key i)) s.fields (f.key i) (v % 2 ^ f.width) }

/-- Set or clear a flag. -/
def State.flag (s : State) (f : Fld) (b : Bool) (i : Nat := 0) : State := s.set f (if b then 1 else 0) i

/-- Return a field to its reset value (R7). -/
def State.unset (s : State) (f : Fld) (i : Nat := 0) : State := s.set f (fieldReset (f.key i)) i

/-- Return every field of a register to its reset value. -/
def State.unsetReg (s : State) (r : Reg) (i : Nat := 0) : State := r.fields.foldl (fun s f => s.unset f i) s

/-- A counter adds `n`; it wraps at its width. -/
def State.bump (s : State) (f : Fld) (i : Nat := 0) (n : Nat := 1) : State := s.set f (s.get f i + n) i

/-- A counter adds 1 and saturates at its width. -/
def State.bumpSat (s : State) (f : Fld) (i : Nat := 0) : State := s.set f (min (2 ^ f.width - 1) (s.get f i + 1)) i

/-- The value a write of `v` to a field leaves, `old` being the present one: reserved encodings leave it (R16), values out of
range take the limit they pass, named values stay (R8). -/
def legalise (d : Dom) (old v : Nat) : Nat :=
  if d.resv.any (fun r => r.1 ≤ v && v ≤ r.2) then old
  else if d.named.contains v then v
  else if v < d.lo then d.lo
  else if d.hi < v then d.hi
  else v

/-- A write of `v` to a field under its access code (R12). -/
def State.write (s : State) (f : Fld) (v : Nat) (i : Nat := 0) : State :=
  let v := v % 2 ^ f.width
  let old := s.get f i
  match f.acc with
  | .rw => s.set f (legalise f.dom old v) i
  | .rw1c => s.set f (old &&& (2 ^ f.width - 1 - v)) i
  | .rw1s => s.set f (old ||| v) i
  | .ro | .wo | .rc => s

/-- Performance-monitor event `n` happens `k` times (R431). -/
def State.evt (s : State) (n : Nat) (k : Nat := 1) : State := s.bump PMON_EVT_COUNT n k

/-- Port events (Table 17.2), fabric port events (Table 17.3), partition events (17.4), journal events toward a node (17.5)
and node-wide events (17.6). -/
def State.evtPort (s : State) (p j : Nat) (k : Nat := 1) : State := s.evt (16 * p + j) k
def State.evtFab (s : State) (p j : Nat) (k : Nat := 1) : State := s.evt (768 + 16 * (p - 44) + j) k
def State.evtPart (s : State) (q j : Nat) (k : Nat := 1) : State := s.evt (832 + 8 * q + j) k
def State.evtJnl (s : State) (d j : Nat) (k : Nat := 1) : State := s.evt (1344 + 4 * d + j) k
def State.evtNode (s : State) (g j : Nat) (k : Nat := 1) : State := s.evt (1408 + 8 * g + j) k

/-! ## Time and timers -/

/-- A timer is running. -/
def State.runs (s : State) (t : TimerId) : Bool := s.timers.any fun x => x.1 == t

/-- Stop a timer. -/
def State.stop (s : State) (t : TimerId) : State := { s with timers := s.timers.filter fun x => x.1 != t }

/-- Start a timer, or start it afresh, to expire `ns` nanoseconds from now. -/
def State.start (s : State) (t : TimerId) (ns : Nat) : State :=
  let s := s.stop t
  { s with timers := s.timers ++ [(t, s.now + ns)] }

/-- Start a timer that does not run yet. -/
def State.startIfNot (s : State) (t : TimerId) (ns : Nat) : State := if s.runs t then s else s.start t ns

/-- The timer expires: local time has reached its end, and it runs no longer. None where it does not run. -/
def State.expire (s : State) (t : TimerId) : Option State :=
  match s.timers.find? fun x => x.1 == t with
  | some x => some { s.stop t with now := max s.now x.2 }
  | none => none

/-! ## Sending, reporting, free values -/

/-- The node sends. -/
def State.emit (s : State) (e : Emit) : State := { s with out := s.out ++ [e] }

/-- A unit reports an error to the collector (R363), which takes it in its own step (FAULT_REPORT). -/
def State.report (s : State) (r : Report) : State := { s with reports := s.reports ++ [r] }

/-- A report of class `cls` from `unit` against a port. -/
def State.reportPort (s : State) (unit cls port : Nat) (cause : Nat := 0) : State :=
  s.report { unit := unit, cls := cls, scope := 3, scopeId := port, cause := cause }

/-- A free value: what the spec leaves undefined, a new one each time. -/
def State.fresh (s : State) : Nat × State := (Config.freeNat s.free, { s with free := s.free + 1 })

/-- This node's Node ID (R4). -/
def State.nodeId (s : State) : Nat := s.get MB_STRAP_NODE_ID

/-- Report against this node. -/
def State.reportNode (s : State) (unit cls : Nat) (cause : Nat := 0) : State :=
  s.report { unit := unit, cls := cls, scope := 5, scopeId := s.nodeId, cause := cause }

/-! ## Small arithmetic -/

/-- Ceiling division. -/
def ceilDiv (a b : Nat) : Nat := (a + b - 1) / b

/-- Serial comparison modulo 2^32 (R162): `a` is later than `b`. -/
def later (a b : Nat) : Bool :=
  let d := (a + 0x100000000 - b % 0x100000000) % 0x100000000
  1 ≤ d && d ≤ 0x7FFFFFFF

/-- `a` is `b` or earlier. -/
def upTo (a b : Nat) : Bool := !later a b

/-- The next sequence modulo 2^32. -/
def seqNext (a : Nat) : Nat := (a + 1) % 0x100000000

/-- The sequence before, modulo 2^32. -/
def seqPrev (a : Nat) : Nat := (a + 0xFFFFFFFF) % 0x100000000

/-- Distance from `b` to `a` modulo `m`. -/
def subMod (m a b : Nat) : Nat := (a + m - b % m) % m

/-- Bit `n` of a mask. -/
def bit (mask n : Nat) : Bool := mask.testBit n

/-- A mask with bit `n` set or cleared. -/
def setBit (mask n : Nat) (b : Bool) : Nat :=
  if b then mask ||| 2 ^ n else if mask.testBit n then mask - 2 ^ n else mask

/-- A flag at bit `n`. -/
def b2n (b : Bool) (n : Nat) : Nat := if b then 2 ^ n else 0

/-- How many of the 16 low bits are set. -/
def pop16 (m : Nat) : Nat := ((List.range 16).filter fun n => m.testBit n).length

/-- Segments, entries or credits of a record: 64 bytes each (R62, R136, R160). -/
def units (len : Nat) : Nat := ceilDiv len 64

/-- A per-VC vector's value. -/
def perVc (x : PerVc) : VC → Nat
  | .p => x.p | .np => x.np | .cpl => x.cpl | .tt => x.tt | .mg => x.mg

/-- A per-VC vector with one value changed. -/
def perVcSet (x : PerVc) (v : VC) (n : Nat) : PerVc :=
  match v with
  | .p => { x with p := n } | .np => { x with np := n } | .cpl => { x with cpl := n }
  | .tt => { x with tt := n } | .mg => { x with mg := n }

/-- A per-VC counter modulo 2^32 adds `n` (R65). -/
def perVcAdd (x : PerVc) (v : VC) (n : Nat) : PerVc := perVcSet x v ((perVc x v + n) % 0x100000000)

/-- The five virtual channels in the order of their codes. -/
def allVcs : List VC := [.p, .np, .cpl, .tt, .mg]

/-- What is left of a slew after `dt` ns at most SLEW_MAX ppm (R199), and how much of it has been made up. -/
def slewDone (max : Nat) (slew : Int) (dt : Nat) : Int :=
  let m : Int := (dt * max * 65536 / 1000000 : Nat)
  if slew < 0 then -(min (-slew) m) else min slew m

/-- The Spindle in units of 2^-16 ns (R192), modulo 2^80: the counter advances at the corrected rate. -/
def State.spindle (s : State) : Nat :=
  let dt := s.now - s.spn.at_
  let v : Int := (s.spn.base : Int) + dt * 65536 + (dt : Int) * s.spn.rate / 65536 +
    slewDone (s.get SPN_HOLD_SLEW_MAX) s.spn.slew dt
  (v % (2 ^ 80 : Nat)).toNat

/-- A time stamp has a resolution of 1/32 ns (R192). -/
def State.stamp (s : State) : Nat := s.spindle / 2048 * 2048

/-- Spindle nanoseconds at this moment, modulo 2^64. -/
def State.spindleNs (s : State) : Nat := s.spindle / 65536

/-! ## Partitions and events -/

/-- The local slot that holds a partition at this node, its home node (R3). -/
def State.slotOf (s : State) (part : Nat) : Option Nat :=
  (List.range 16).find? fun k => s.on PART_CTRL_VALID k && s.get PART_CTRL_PART_ID k == part

/-- The record of a partition (R83). -/
def State.partRec (s : State) (part : Nat) : PartRec := Tab.get {} s.part.records part

/-- Raise a transaction inside the switch; it is admitted in its own step (R166). -/
def State.raise (s : State) (t : IntTx) : State := { s with jnl.intWait := s.jnl.intWait ++ [t] }

/-- A firmware message toward another node: a journalled MG record of KIND 0x1 (R161), of 64 bytes. -/
def State.sendFw (s : State) (part dst : Nat) (m : FwMsg) : State :=
  let r : Record := { srcPart := part, srcNode := s.nodeId, dstNode := dst, len := 64, vc := .mg, body := .fw m }
  (s.raise { record := r, internalReserve := true }).evtNode 7 5

/-- MSI-X of a slot's management endpoint can be sent now: Bus Master Enable, MSI-X Enable, no mask (R291). The bits are those of
PCI Express (PRESUMED: the capability's dword 0x48 and the table's Vector Control). -/
def State.msixOpen (s : State) (k v : Nat) : Bool :=
  let c (off : Nat) : Nat := Tab.get 0 s.pcie.cfg ((k * 80 + 32) * 1024 + off / 4)
  (c 0x04).testBit 2 && (c 0x48).testBit 31 && !(c 0x48).testBit 30 && !(Tab.get 1 s.pcie.msix ((k * 2 + v) * 4 + 3)).testBit 0

/-- Signal MSI-X vector `v` of the management endpoint of slot `k`, or set its pending bit (R291). -/
def State.signal (s : State) (k v : Nat) : State :=
  if s.msixOpen k v then s.emit (.msix (s.get PART_CTRL_PART_ID k) v)
  else if s.pcie.msixPending.contains (k, v) then s
  else { s with pcie.msixPending := s.pcie.msixPending ++ [(k, v)] }

/-- Pending vectors that can be sent are sent. -/
def State.flushMsix (s : State) : State :=
  s.pcie.msixPending.foldl (init := s) fun s x =>
    if s.msixOpen x.1 x.2 then
      { s with pcie.msixPending := s.pcie.msixPending.erase x }.emit (.msix (s.get PART_CTRL_PART_ID x.1) x.2)
    else s

/-- The events that are never discarded for want of room (R396). -/
def evLossless : Ev → Bool
  | .undeliverable _ => true
  | .fault _ _ | .grains _ _ _ _ | .functionFailed _ _ => false
  | .other t _ => t == 0x41 || t == 0x82 || t == 0x91 || t == 0x92 || t == 0x93 || t == 0x51

/-- The event queue of a local slot. -/
def State.queue (s : State) (k : Nat) : EvQueue := Tab.get {} s.evq k

/-- Put a queue back, with the registers that show it (Table 15.4). -/
def State.setQueue (s : State) (k : Nat) (q : EvQueue) : State :=
  let s := { s with evq := Tab.put {} s.evq k q }
  let s := s.set MB_EQ_BACKLOG_COUNT q.store.length k
  let s := s.flag MB_EQ_STATUS_HELD (!q.held.isEmpty) k
  s.flag MB_EQ_STATUS_NOT_EMPTY (s.get MB_EQ_HEAD_HEAD k != s.get MB_EQ_TAIL_TAIL k) k

/-- Place an event at TAIL of a ring that has room, and signal MSI-X vector 1 where the ring was empty (R394). -/
def State.ringPlace (s : State) (k node : Nat) (e : Ev) : State :=
  let q := s.queue k
  let wasEmpty := q.ring.isEmpty
  let q := { q with ring := q.ring ++ [{ seq := q.seq, lostBefore := q.lostNext, node := node, ev := e }]
                    seq := (q.seq + 1) % 65536, lostNext := false }
  let s := (s.set MB_EQ_TAIL_TAIL ((s.get MB_EQ_TAIL_TAIL k + 1) % 63) k).setQueue k q
  let s := s.evtNode 7 3
  if wasEmpty then s.signal k 1 else s

/-- Place an event raised at `node` in the queue of local slot `k`: in the ring, in the overflow store, or, both being full,
held at its unit or discarded and counted (R396). -/
def State.queuePlace (s : State) (k node : Nat) (e : Ev) : State :=
  let q := s.queue k
  if q.ring.length < 62 && q.store.isEmpty then s.ringPlace k node e
  else if q.store.length < 448 && q.held.isEmpty then s.setQueue k { q with store := q.store ++ [(node, e)] }
  else if evLossless e then s.setQueue k { q with held := q.held ++ [(node, e)] }
  else
    let s := (s.setQueue k { q with lostNext := true }).bump MB_EQ_LOST_COUNT k
    (s.set MB_EQ_STATUS_LOST 1 k).evtNode 7 4

/-- Raise an event for a partition: placed at its home node, which another node reaches by a firmware message (R396). An event
for a partition of which this node has no record goes nowhere. -/
def State.raiseEvent (s : State) (part : Nat) (e : Ev) : State :=
  match s.slotOf part with
  | some k => s.queuePlace k s.nodeId e
  | none =>
    let r := s.partRec part
    if r.present && r.home != s.nodeId then s.sendFw part r.home (.event part s.nodeId e) else s

/-- Raise an event for the fabric manager; none is written while the privilege is vacant (R366). -/
def State.raiseFm (s : State) (e : Ev) : State :=
  if s.on PART_GLOBAL_FM_VALID then s.raiseEvent (s.get PART_GLOBAL_FM_PART) e else s

end Sys2Proof.Machine
end

