-- ==== Sys2Proof/Machine/FabricOps.lean ====
section
/-! DEFINITION. Shared operations of the fabric: planes and ports, routes and route groups (01), what moves when a segment goes
down (R31), and the packets and entries of a group that are sent again (06, R170, R171). -/

namespace Sys2Proof.Machine

/-! ## Planes, ports, registers of a plane -/

def Plane.other : Plane → Plane | .a => .b | .b => .a
def Plane.code : Plane → Nat | .a => 0 | .b => 1
def Dir.other : Dir → Dir | .east => .west | .west => .east

/-- FA-E, FA-W, FB-E and FB-W (R17). -/
def fabPort : Plane → Dir → Nat
  | .a, .east => 44 | .a, .west => 45 | .b, .east => 46 | .b, .west => 47

def portPlane (p : Nat) : Plane := if p < 46 then .a else .b
def portDir (p : Nat) : Dir := if p % 2 = 0 then .east else .west
/-- The other fabric port of the same plane. -/
def portOpp (p : Nat) : Nat := if p % 2 = 0 then p + 1 else p - 1

def fabPorts : List Nat := [44, 45, 46, 47]

def fMembers : Plane → Fld | .a => RING_MEMBER_A_MEMBERS | .b => RING_MEMBER_B_MEMBERS
def fSegUp : Plane → Fld | .a => RING_MEMBER_A_SEG_UP | .b => RING_MEMBER_B_SEG_UP
def fPlaneState : Plane → Fld | .a => RING_STATUS_STATE_A | .b => RING_STATUS_STATE_B
def fCount : Plane → Fld | .a => RING_STATUS_COUNT_A | .b => RING_STATUS_COUNT_B
def fHold : Plane → Fld | .a => RING_STATUS_HOLD_A | .b => RING_STATUS_HOLD_B
def fHoldEn : Plane → Fld | .a => RING_CTRL_HOLD_A_EN | .b => RING_CTRL_HOLD_B_EN

/-- Table 01.3. -/
abbrev planeOff : Nat := 0
abbrev planeJoining : Nat := 1
abbrev planeRing : Nat := 2
abbrev planeLine : Nat := 3
abbrev planeFailed : Nat := 4

def State.planeState (s : State) (pl : Plane) : Nat := s.get (fPlaneState pl)

/-- The plane carries inter-node traffic of this node (R23, R24). -/
def State.planeOpen (s : State) (pl : Plane) : Bool :=
  s.planeState pl == planeRing || s.planeState pl == planeLine

/-- Table 02.10. -/
abbrev lsDown : Nat := 0x0
abbrev lsDetect : Nat := 0x1
abbrev lsLock : Nat := 0x2
abbrev lsConfig : Nat := 0x3
abbrev lsEqualise : Nat := 0x4
abbrev lsInit : Nat := 0x5
abbrev lsActive : Nat := 0x6
abbrev lsLeaving : Nat := 0x7
abbrev lsQuiesce : Nat := 0x8
abbrev lsRetrain : Nat := 0x9
abbrev lsHeld : Nat := 0xA

def State.linkState (s : State) (p : Nat) : Nat := s.get ML_STATUS_STATE p

/-- Flits with records and messages pass: ACTIVE, and LEAVING until it ends. -/
def State.linkCarries (s : State) (p : Nat) : Bool :=
  s.linkState p == lsActive || s.linkState p == lsLeaving

/-- F of a fabric port's link in ns (Table 02.1), by its RATE and WIDTH codes. -/
def State.flitNs (s : State) (p : Nat) : Nat := 2 * 2 ^ (2 - s.get ML_STATUS_RATE p) * 2 ^ s.get ML_STATUS_WIDTH p

/-- A port in fabric mode: PX_DUAL gives it to Maelryn Link (R286). -/
def State.fabricMode (s : State) (p : Nat) : Bool := 44 ≤ p && p ≤ 47 && bit (s.get PX_DUAL_FABRIC) (p - 44)

/-- Raw bytes of a port's link in 1.024 µs (R245): lanes × rate, at the present width. -/
def State.rawRefill (s : State) (p : Nat) : Nat :=
  if s.fabricMode p then (if s.linkCarries p then 262144 / s.flitNs p else 0)
  else
    let w := s.get PX_PORT_STAT_WIDTH p
    (if w = 0 then 0 else 2 ^ (w - 1)) * [5, 10, 16, 32, 64, 128].getD (s.get PX_PORT_STAT_RATE p) 0 * 64

/-- The stagger of a port's link (R221): the smallest K of 3 to 7 whose bound holds for DELAY, 0 where there is none or the link
is not ACTIVE. -/
def State.stagger (s : State) (p : Nat) : Nat :=
  if s.linkState p != lsActive then 0
  else ([3, 4, 5, 6, 7].find? fun k => s.get SPN_PORT_DELAY p + 256 * (99 + 7 * s.flitNs p) ≤ 256 * 64 * k).getD 0

def State.setK (s : State) (p : Nat) : State := s.set SPN_PORT_K (s.stagger p) p

/-- A fabric port's controller state. -/
def State.link (s : State) (p : Nat) : Link := Tab.get {} s.links p
def State.setLink (s : State) (p : Nat) (l : Link) : State := { s with links := Tab.put {} s.links p l }
def State.updLink (s : State) (p : Nat) (f : Link → Link) : State := s.setLink p (f (s.link p))

/-- Hand a hop-by-hop message to a port's transmitter; a port that carries nothing drops it. -/
def State.sendMsg (s : State) (p : Nat) (m : MgMsg) : State :=
  if s.linkCarries p then s.updLink p fun l => { l with msgs := l.msgs ++ [m] } else s

/-! ## Routes (R25 to R29) -/

def members (mask : Nat) : List Nat := (List.range 16).filter fun n => mask.testBit n

/-- The member after `n` going east over a member mask, wrapping; `n` itself when it is alone. -/
def eastOf (mask n : Nat) : Nat :=
  match (members mask).find? fun m => n < m with
  | some m => m
  | none => (members mask).headD n

/-- The member before `n`, going west. -/
def westOf (mask n : Nat) : Nat :=
  match (members mask).reverse.find? fun m => m < n with
  | some m => m
  | none => (members mask).reverse.headD n

/-- 0-based index of a node among the members in ascending order (R27). -/
def posOf (mask n : Nat) : Nat := ((members mask).filter fun m => m < n).length

/-- R27: the direction of a group over a member list. -/
def direction (mask src dst : Nat) : Dir :=
  let n := pop16 mask
  let dEast := subMod n (posOf mask dst) (posOf mask src)
  let dWest := n - dEast
  if dEast < dWest then .east else if dWest < dEast then .west else if src < dst then .east else .west

/-- Hops from `src` to `dst` in a direction over a member list. -/
def hopCount (mask src dst : Nat) (d : Dir) : Nat :=
  let n := pop16 mask
  match d with
  | .east => subMod n (posOf mask dst) (posOf mask src)
  | .west => subMod n (posOf mask src) (posOf mask dst)

/-- The segments of a path, each by the node at its West end (R19). -/
def pathSegs (mask src dst : Nat) (d : Dir) : Nat → List Nat
  | 0 => []
  | fuel + 1 =>
    if src = dst then []
    else match d with
      | .east => src :: pathSegs mask (eastOf mask src) dst d fuel
      | .west => westOf mask src :: pathSegs mask (westOf mask src) dst d fuel

/-- Both ends are members of an open plane and every segment of the path is up (R28). -/
def State.pathUp (s : State) (dst : Nat) (pl : Plane) (d : Dir) : Bool :=
  let mask := s.get (fMembers pl)
  s.planeOpen pl && bit mask s.nodeId && bit mask dst &&
    (pathSegs mask s.nodeId dst d 16).all fun n => bit (s.get (fSegUp pl)) n

/-- R26: the home plane of a group; the home node's RING_HOME_k is authoritative, other nodes use their copy of the record. -/
def State.homePlane (s : State) (part dst : Nat) : Plane :=
  let mask := match s.slotOf part with
    | some k => s.get RING_HOME_PLANE_B k
    | none => (s.partRec part).homePlane
  if bit mask dst then .b else .a

/-- The home path (R28). -/
def State.homePath (s : State) (part dst : Nat) : Plane × Dir :=
  let h := s.homePlane part dst
  (h, direction (s.get (fMembers h)) s.nodeId dst)

/-- Table 01.4: the candidates in order of preference. -/
def State.candidates (s : State) (part dst : Nat) : List (Plane × Dir) :=
  let h := s.homePlane part dst
  let o := Plane.other h
  let dh := direction (s.get (fMembers h)) s.nodeId dst
  let dOth := direction (s.get (fMembers o)) s.nodeId dst
  [(h, dh), (o, dOth), (h, Dir.other dh), (o, Dir.other dOth)]

/-- The first candidate that qualifies (R28); none makes the group unreachable (R29). -/
def State.choosePath (s : State) (part dst : Nat) : Option (Plane × Dir) :=
  (s.candidates part dst).find? fun c => s.pathUp dst c.1 c.2

/-! ## Route groups -/

/-- A group's number: source partition × 16 + destination node. -/
def grpKey (part dst : Nat) : Nat := part * 16 + dst
def State.grp (s : State) (g : Nat) : Grp := Tab.get {} s.ring.groups g
def State.setGrp (s : State) (g : Nat) (x : Grp) : State := { s with ring.groups := Tab.put {} s.ring.groups g x }

def recGrp (r : Record) : Nat := grpKey r.srcPart r.dstNode
def entryGrp (e : Entry) : Nat := recGrp e.record

/-- A flow's number as source (R162) and as destination (R172). -/
def flowKey (part dst : Nat) (vc : VC) : Nat := (part * 16 + dst) * 8 + vc.code
def dedupKey (src part : Nat) (vc : VC) : Nat := (src * 64 + part) * 8 + vc.code
def State.flow (s : State) (k : Nat) : SrcFlow := Tab.get {} s.jnl.flows k
def State.setFlow (s : State) (k : Nat) (f : SrcFlow) : State := { s with jnl.flows := Tab.put {} s.jnl.flows k f }
def State.dedup (s : State) (k : Nat) : Dedup := Tab.get {} s.jnl.dedup k
def State.setDedup (s : State) (k : Nat) (f : Dedup) : State := { s with jnl.dedup := Tab.put {} s.jnl.dedup k f }
def entryFlow (e : Entry) : Nat := flowKey e.record.srcPart e.record.dstNode e.record.vc

/-- The entry lies beyond its flow's HELD (R171); one without a sequence has not been sent. -/
def State.beyondHeld (s : State) (e : Entry) : Bool :=
  match e.seq with
  | some q => later q (s.flow (entryFlow e)).held
  | none => true

/-- Timer periods of the journal, in ns (Table 06.13). -/
def State.rtxNs (s : State) : Nat := s.get JNL_TIMERS_RTX * 1000
def State.heldTmoNs (s : State) : Nat := s.get JNL_TIMERS_HELD_TMO * 1000000
def State.gapHoldNs (s : State) : Nat := s.get JNL_TIMERS2_GAP_HOLD * 100

/-- The retransmit timer runs while the group has a sent entry beyond HELD; HELD_TMO while entries remain unfreed (R171). -/
def State.grpTimers (s : State) (g : Nat) (restart : Bool) : State :=
  let es := s.jnl.entries.filter fun e => entryGrp e == g
  let purging := es.any fun e => !(s.flow (entryFlow e)).purge.isEmpty
  let s :=
    if (es.any fun e => e.sent && s.beyondHeld e) || purging then
      (if restart then s.start (.rtx g) s.rtxNs else s.startIfNot (.rtx g) s.rtxNs)
    else s.stop (.rtx g)
  if es.isEmpty then s.stop (.heldTmo g)
  else if restart then s.start (.heldTmo g) s.heldTmoNs else s.startIfNot (.heldTmo g) s.heldTmoNs

/-! ## Buffer segments (05) -/

/-- Return segments to the pool a charge names (R141, R143). -/
def State.release (s : State) (c : Charge) (egress src n : Nat) : State :=
  match c with
  | .shared =>
    let s := s.set SC_EGOCC_OCC (s.get SC_EGOCC_OCC egress - n) egress
    let s := s.set SC_POOL_STAT_SHARED_FREE (s.get SC_POOL_STAT_SHARED_FREE + n)
    let k := src * 64 + egress
    { s with sc.pairOcc := Tab.put 0 s.sc.pairOcc k (Tab.get 0 s.sc.pairOcc k - n) }
  | .tt => s.set SC_TT_POOL_TT_USED (s.get SC_TT_POOL_TT_USED - n)
  | .reserve _ | .journal | .waiting => s

def pktUnits (p : Packet) : Nat := units p.record.len

/-- The group a packet of this node's own journal belongs to. -/
def pktGrp (p : Packet) : Nat := recGrp p.record

/-- Put the entries of a group that `sel` picks in line for its present egress, in admission order: a packet of theirs that has
not started keeps its place in the buffer and changes egress, the others are read from the journal (R170). `drop` gives up the
buffer copies that are charged to a shared pool, as a failover does. -/
def State.lineUp (s : State) (g egress : Nat) (sel : Entry → Bool) (drop : Bool) : State :=
  let es := s.jnl.entries.filter fun e => entryGrp e == g && sel e
  let mine (p : Packet) : Bool := !p.started && p.entry.any fun i => es.any fun e => e.id == i
  let old := s.sc.pkts.filter mine
  let s := { s with sc.pkts := s.sc.pkts.filter fun p => !mine p }
  es.foldl (init := s) fun s e =>
    let s := if e.sent then (s.bump JNL_CNT_RTX_COUNT).evtJnl e.record.dstNode 2 else s
    let a := Tab.get 0 s.sc.arrivals ((48 + e.record.srcPart) * 64 + egress)
    let s := { s with sc.arrivals := Tab.put 0 s.sc.arrivals ((48 + e.record.srcPart) * 64 + egress) (a + 1) }
    match old.find? fun p => p.entry == some e.id with
    | some p =>
      let isRes : Bool := match p.charge with | .reserve _ => true | _ => false
      let p := { p with arrival := a, stalled := none }
      if drop && !isRes then
        let s := s.release p.charge p.egress p.src (pktUnits p)
        { s with sc.pkts := s.sc.pkts ++ [{ p with egress := egress, charge := .journal, cutOk := false, release := none }] }
      else { s with sc.pkts := s.sc.pkts ++ [{ p with egress := egress, cutOk := false }] }
    | none =>
      let p : Packet := { id := s.sc.nextId, record := e.record, src := 48 + e.record.srcPart, egress := egress, arrival := a
                          charge := .journal, origin := e.origin, entry := some e.id, inst := e.inst, tIn := s.now }
      { s with sc.pkts := s.sc.pkts ++ [p], sc.nextId := s.sc.nextId + 1 }

/-- R171: a group sends again every unfreed entry (`all`), or every entry beyond its flow's HELD, oldest admission first. -/
def State.resendGrp (s : State) (g : Nat) (all drop : Bool) : State :=
  let x := s.grp g
  if x.unreachable || !x.placed then s
  else
    let s := s.lineUp g (fabPort x.plane x.dir) (fun e => all || s.beyondHeld e) drop
    let s := s.setGrp g { s.grp g with lastRtx := some s.now }
    s.grpTimers g true

/-! ## Control records (R168) -/

/-- The port a record of group (`part`, `dst`) leaves on, and its hops: the first candidate that qualifies. -/
def State.pathTo (s : State) (part dst : Nat) : Option (Nat × Plane × Nat) :=
  (s.choosePath part dst).map fun c => (fabPort c.1 c.2, c.1, hopCount (s.get (fMembers c.1)) s.nodeId dst c.2)

/-- Send a journal control record on MG; one toward a node that no path reaches goes nowhere. -/
def State.sendCtl (s : State) (dst subtype number : Nat) (last : Bool) (items : List JItem) : State :=
  match s.pathTo 0 dst with
  | some (p, pl, hops) =>
    let r : Record := { srcNode := s.nodeId, dstNode := dst, vc := .mg, len := 20 + 12 * items.length, hops := hops
                        plane := pl, seq := number, admitTs := s.spindleNs % 0x100000000
                        body := .ctl subtype last items }
    s.updLink p fun l => { l with mgRecs := l.mgRecs ++ [r] }
  | none => s

abbrev ctlReceipt : Nat := 1
abbrev ctlGap : Nat := 2
abbrev ctlUndeliv : Nat := 3
abbrev ctlPurge : Nat := 4
abbrev ctlPurgeAck : Nat := 5
abbrev ctlRewind : Nat := 6
abbrev ctlSyncReq : Nat := 7
abbrev ctlSyncRsp : Nat := 8

def keyNode (k : Nat) : Nat := k / 512
def keyPart (k : Nat) : Nat := k / 8 % 64
def vcOf : Nat → VC | 0 => .p | 1 => .np | 2 => .cpl | 3 => .tt | _ => .mg
def keyVc (k : Nat) : VC := vcOf (k % 8)

/-- The latest sequence of a flow's purges. -/
def lastMark (ms : List Mark) : Nat := ms.foldl (fun u m => if later m.upTo u then m.upTo else u) ((ms.headD ⟨0, 0, true⟩).upTo)

/-- Send PURGE for a flow of this node. -/
def State.sendPurge (s : State) (k : Nat) : State :=
  let f := s.flow k
  s.sendCtl (k / 8 % 16) ctlPurge 0 false [{ part := k / 128, vc := vcOf (k % 8), seqA := lastMark f.purge }]

/-- A group that can send again sends its waiting purges before any later record (R189). -/
def State.sendPurges (s : State) (g : Nat) : State :=
  [0, 1, 2, 3, 4].foldl (init := s) fun s v => if (s.flow (g * 8 + v)).purge.isEmpty then s else s.sendPurge (g * 8 + v)

/-- A group with a reserved TT stream that moves to candidate 3 or 4 of Table 01.4 leaves its reservations (R226). -/
def State.unreserved (s : State) (g : Nat) (pl : Plane) (d : Dir) : State :=
  let k := s.nodeId * 1024 + g
  if (s.spn.streams.any fun x => x.stream == k) && !((s.candidates (g / 16) (g % 16)).take 2).contains (pl, d) then
    let e : Ev := .grains true s.nodeId (g / 16) (g % 16)
    let s := s.raiseEvent (g / 16) e
    if s.on PART_GLOBAL_FM_VALID && s.get PART_GLOBAL_FM_PART == g / 16 then s else s.raiseFm e
  else s

/-- The group moves to a path and sends every unfreed entry there from the oldest (R31). -/
def State.moveGrp (s : State) (g : Nat) (pl : Plane) (d : Dir) : State :=
  let s := s.unreserved g pl d
  let s := s.setGrp g { s.grp g with placed := true, plane := pl, dir := d, draining := false, unreachable := false }
  let s := ((s.stop (.unreach g)).stop (.drain g)).sendPurges g
  s.resendGrp g true true

/-- The group has no path: it sends nothing and its timers stop; UNREACH begins (R29, R171, R187). -/
def State.loseGrp (s : State) (g : Nat) : State :=
  let s := s.setGrp g { s.grp g with placed := true, draining := false, unreachable := true }
  let s := ((s.stop (.rtx g)).stop (.heldTmo g)).stop (.drain g)
  s.startIfNot (.unreach g) (s.get JNL_TIMERS2_UNREACH * 1000000)

/-- A group gets its first path when it first needs one. -/
def State.placeGrp (s : State) (g : Nat) : State :=
  if (s.grp g).placed then s
  else match s.choosePath (g / 16) (g % 16) with
    | some (pl, d) => s.setGrp g { s.grp g with placed := true, plane := pl, dir := d }
    | none => s.loseGrp g

/-- What a group does after a change of the segment map or of a member list: a path that no longer qualifies is left for the
first candidate that does (R31, R34), an unreachable group with a candidate becomes reachable (R29), and the clean time of the
home path is started, kept or stopped (R33, R35). -/
def State.checkGrp (s : State) (g : Nat) : State :=
  let x := s.grp g
  let part := g / 16
  let dst := g % 16
  let s :=
    if !x.unreachable && s.pathUp dst x.plane x.dir then s
    else match s.choosePath part dst with
      | some (pl, d) => s.moveGrp g pl d
      | none => s.loseGrp g
  let x := s.grp g
  let h := s.homePath part dst
  let homeUp := s.pathUp dst h.1 h.2
  let s := if x.draining && !homeUp then (s.setGrp g { x with draining := false }).stop (.drain g) else s
  if !x.unreachable && (x.plane != h.1 || x.dir != h.2) && homeUp && s.on RING_CTRL_RETURN_EN then
    s.startIfNot (.returnClean g) (s.get RING_TIMERS_RETURN_CLEAN * 1000000)
  else s.stop (.returnClean g)

/-- Every placed group is looked at again. -/
def State.checkGroups (s : State) : State :=
  (s.ring.groups.map Prod.fst).foldl (fun s g => s.checkGrp g) s

/-! ## The segment map (R30) -/

/-- A segment is up when every reporter's last message says so; where two endpoints disagree it is down. One that no message
has named is up when the last run went over it (R21). -/
def segIsUp (seen : List Seen) (pl : Plane) (path seg : Nat) : Bool :=
  let xs := seen.filter fun x => x.plane == pl && x.segment == seg
  if xs.isEmpty then bit path seg else xs.all fun x => x.state == .up

/-- Write SEG_UP, and Ring or Line of a plane the node is a member of (R24). -/
def State.refreshPlane (s : State) (pl : Plane) : State :=
  let mask := s.get (fMembers pl)
  let up := (members mask).foldl (fun m n => if segIsUp s.ring.seen pl (match pl with | .a => s.ring.pathA | .b => s.ring.pathB) n then m + 2 ^ n else m) 0
  let s := s.set (fSegUp pl) up
  if s.planeOpen pl then
    let whole := 2 ≤ pop16 mask && (members mask).all fun n => bit up n
    s.set (fPlaneState pl) (if whole then planeRing else planeLine)
  else s

/-- Keep a link-state report, replacing the reporter's last for that segment. -/
def State.keepSeen (s : State) (x : Seen) : State :=
  { s with ring.seen := (s.ring.seen.filter fun y =>
      !(y.plane == x.plane && y.segment == x.segment && y.reporter == x.reporter)) ++ [x] }

/-- The local time at which a plane last had a segment reported down (R41). -/
def State.noteDown (s : State) (pl : Plane) : State :=
  match pl with
  | .a => { s with ring.lastDownA := some s.now }
  | .b => { s with ring.lastDownB := some s.now }

/-- The plane has a segment down, as far as the segment map shows (R73). -/
def State.segmentDown (s : State) (pl : Plane) : Bool :=
  let mask := s.get (fMembers pl)
  2 ≤ pop16 mask && !((members mask).all fun n => bit (s.get (fSegUp pl)) n)

/-- The segment a fabric port of this node ends: its West-end node (R19). -/
def State.portSegment (s : State) (p : Nat) : Nat :=
  let mask := s.get (fMembers (portPlane p))
  match portDir p with
  | .east => s.nodeId
  | .west => if s.on RING_PORT_PEER_VALID p then s.get RING_PORT_PEER_ID p else westOf mask s.nodeId

/-- Report a segment of this node: a new change number (R30), the message East and West on both planes, the map and the groups
brought up to date at this node (R31). -/
def State.reportSegment (s : State) (p : Nat) (st : SegState) : State :=
  let pl := portPlane p
  let seg := s.portSegment p
  let k := Plane.code pl * 16 + seg
  let ep := seqNext (Tab.get 0 s.ring.epochs k)
  let s := { s with ring.epochs := Tab.put 0 s.ring.epochs k ep }
  let m : LsMsg := { plane := pl, segment := seg, state := some st, epoch := ep, reporter := s.nodeId }
  let s := fabPorts.foldl (fun s q => if q == p && st != .up && st != .leaving then s else s.sendMsg q (.linkState m)) s
  let s := s.keepSeen { plane := pl, segment := seg, reporter := s.nodeId, epoch := ep, state := st }
  let s := if st == .down then s.noteDown pl else s
  ((s.refreshPlane pl).checkGroups)

/-! ## Discovery runs (R21) -/

/-- The record this node puts into a discovery message of a plane (Table 01.1). -/
def State.ownRec (s : State) (pl : Plane) : NodeRec :=
  { node := s.nodeId
    eastBypass := s.on RING_PORT_BYPASSED (fabPort pl .east)
    otherUp := s.planeOpen (Plane.other pl)
    fmHome := s.on PART_GLOBAL_FM_VALID && (s.slotOf (s.get PART_GLOBAL_FM_PART)).isSome
    feature := s.fwFeature
    fitted := s.get RING_FITTED_FITTED }

def State.discOf (s : State) : Plane → Option DiscRun | .a => s.ring.discA | .b => s.ring.discB
def State.setDisc (s : State) (pl : Plane) (d : Option DiscRun) : State :=
  match pl with
  | .a => { s with ring.discA := d }
  | .b => { s with ring.discB := d }
def State.runOf (s : State) : Plane → Nat | .a => s.ring.runA | .b => s.ring.runB

end Sys2Proof.Machine
end

