-- ==== Sys2Proof/Machine/PmonOps.lean ====
section
/-! DEFINITION. Shared operations of the performance monitor (17): filters, Shavings, bandwidth counts. -/

namespace Sys2Proof.Machine

/-- What the monitor sees of a packet at a point: its partition, kind of master, type, class, requester, address, bytes. -/
structure Seen17 where
  part : Nat
  kind : Nat
  type : Option Nat
  vc : VC
  excess : Bool
  requester : Nat
  addr : Option Nat
  bytes : Nat
  deriving DecidableEq, Repr

def Origin.code : Origin → Nat | .host => 0 | .instance_ => 1 | .internal => 2

/-- Bit of TYPE in a filter (Table 17.11); I/O requests have none. -/
def tlpType : TlpKind → Option Nat
  | .memRead => some 0 | .memWrite => some 1 | .atomic => some 2
  | .cfgRead0 | .cfgWrite0 | .cfgRead1 | .cfgWrite1 => some 3
  | .msg => some 4 | .cpl => some 5 | .ioRead | .ioWrite => none

/-- ACCESS of Table 14.2 for a TLP. -/
def tlpAccess : TlpKind → Nat
  | .memRead => 1 | .memWrite => 2 | .atomic => 3 | .cfgRead0 | .cfgRead1 => 4 | .cfgWrite0 | .cfgWrite1 => 5
  | .msg => 6 | .cpl => 7 | .ioRead | .ioWrite => 8

/-- Requests that carry an address. -/
def tlpHasAddr : TlpKind → Bool
  | .memRead | .memWrite | .atomic | .ioRead | .ioWrite => true
  | _ => false

/-- The view of a packet at a point; `addr` is the address of that point (R435). -/
def pktSeen (p : Packet) (addr : Nat) : Seen17 :=
  match p.record.body with
  | .tlp t => { part := p.record.srcPart, kind := p.origin.code, type := tlpType t.kind, vc := p.record.vc
                excess := p.record.excess && p.record.vc != .tt, requester := t.reqId
                addr := if tlpHasAddr t.kind then some addr else none, bytes := p.bytes }
  | .fw _ => { part := p.record.srcPart, kind := p.origin.code, type := some 4, vc := p.record.vc, excess := false
               requester := 0, addr := none, bytes := p.bytes }
  | .ctl _ _ _ | .reserved _ => { part := p.record.srcPart, kind := p.origin.code, type := none, vc := p.record.vc, excess := false
                                  requester := 0, addr := none, bytes := p.bytes }

/-- A packet matches filter `f`, its point apart (R435); EN says whether the filter counts. -/
def State.matches (s : State) (f port : Nat) (x : Seen17) : Bool :=
  let a : Filt := Tab.get {} s.pmon.filters f
  (s.get FLT_CTRL_PORT f == 0x3F || s.get FLT_CTRL_PORT f == port) &&
  (s.on FLT_CTRL_PART_ANY f || s.get FLT_CTRL_PART f == x.part) &&
  bit (s.get FLT_CTRL_KIND f) x.kind &&
  (x.requester ^^^ a.rid) &&& a.ridMask == 0 &&
  (!a.addrEn || x.addr.any fun v => a.base ≤ v / 4096 && v / 4096 ≤ a.limit) &&
  x.type.any (fun t => bit (s.get FLT_CTRL_TYPE f) t) &&
  bit (s.get FLT_CTRL_VC f) x.vc.code &&
  bit (s.get FLT_CTRL_CLASS f) (if x.excess then 1 else 0)

/-- A packet passes point `pt` (0 ingress, 1 egress) at a port: every filter there counts it (R435). -/
def State.filterPass (s : State) (pt port : Nat) (x : Seen17) : State :=
  (List.range 64).foldl (init := s) fun s f =>
    if s.on FLT_CTRL_EN f && s.get FLT_CTRL_POINT f == pt && s.matches f port x then
      s.bump FLT_CNT_COUNT f (if s.on FLT_CTRL_MODE f then x.bytes else 1)
    else s

/-- The next pseudo-random value (R437). -/
def State.draw (s : State) : Nat × State :=
  (Config.shvDraw (s.get PMON_SHV_SEED_SEED) s.pmon.drawn, { s with pmon.drawn := s.pmon.drawn + 1 })

/-- Whether a candidate is tagged (R437, R438). -/
def State.tag (s : State) (port : Nat) (x : Seen17) : Bool × State :=
  if !s.on PMON_SHV_EN then (false, s)
  else if s.on PMON_SHV_FILT_EN && !s.matches (s.get PMON_SHV_FILTER) port x then (false, s)
  else
    let d := s.draw
    if d.1 % 2 ^ s.get PMON_SHV_K != 0 then (false, d.2)
    else if 64 ≤ (d.2.sc.pkts.filter fun p => p.shaved).length then (false, d.2.bump PMON_CNT_SHV_SKIP_COUNT)
    else (true, d.2)

/-- A tagged packet reaches stage `k` (Table 17.7). -/
def State.stage (s : State) (id k : Nat) : State :=
  { s with sc.pkts := s.sc.pkts.map fun p =>
      if p.id == id && p.shaved && !(p.stages.any fun x => x.1 == k) then { p with stages := p.stages ++ [(k, s.spindleNs)] } else p }

/-- Put a Shaving into the store (R439). -/
def State.putShaving (s : State) (x : Shaving) : State :=
  if s.pmon.shavings.length < 8192 then
    let s := { s with pmon.shavings := s.pmon.shavings ++ [{ x with lostBefore := s.pmon.lostNext }], pmon.lostNext := false }
    s.set PMON_STATUS_SHV_WAITING s.pmon.shavings.length
  else ({ s with pmon.lostNext := true }.bump PMON_CNT_SHV_LOST_COUNT).flag PMON_STATUS_SHV_LOST true

/-- Codes of SPN_STATUS.STATE (07): INVALID, ACQUIRING, VALID, HOLDOVER. -/
abbrev spnInvalid : Nat := 0
abbrev spnAcquiring : Nat := 1
abbrev spnValid : Nat := 2
abbrev spnHoldover : Nat := 3
def State.localTime (s : State) : Bool := s.get SPN_STATUS_STATE != spnValid && s.get SPN_STATUS_STATE != spnHoldover

/-- The Shaving of a tagged packet that leaves, or is discarded for `reason` (R438). -/
def State.shave (s : State) (p : Packet) (discarded : Bool) (reason : Nat) (rules : Bool) : State :=
  if !p.shaved then s
  else
    let t := match p.record.body with | .tlp t => t | _ => {}
    let off (k : Nat) : Option Nat := (p.stages.find? fun x => x.1 == k).map fun x => min 0xFFFFFFFE (x.2 - p.t0)
    s.putShaving
      { discarded := discarded, localTime := s.localTime, holdover := s.get SPN_STATUS_STATE == spnHoldover
        excess := p.record.excess, cutThrough := p.cut, pcieRules := rules, interNode := p.record.dstNode != s.nodeId
        ingress := p.inPort.getD 0x3F, egress := p.egress, part := p.record.srcPart, kind := p.origin.code
        access := (match p.record.body with | .tlp _ => tlpAccess t.kind | _ => 9), vc := p.record.vc, requester := t.reqId
        addr := if tlpHasAddr t.kind then p.addr0 else 0, len := p.bytes, tag := t.tag
        seq := if p.record.dstNode != s.nodeId then p.record.seq else 0, t0 := p.t0
        d := [off 1, off 2, off 3, off 4, off 5, off 6, off 7], dstNode := p.record.dstNode
        reason := if discarded then reason else 0 }

/-- Bytes received or sent on a port, for its events and its bandwidth window (R434, R440). -/
def State.rxBytes (s : State) (p n : Nat) : State :=
  let s := s.evtPort p 2 n
  if s.on PMON_BW_CFG_EN then { s with pmon.rx := Tab.put 0 s.pmon.rx p (Tab.get 0 s.pmon.rx p + n) } else s
def State.txBytes (s : State) (p n : Nat) : State :=
  let s := s.evtPort p 3 n
  if s.on PMON_BW_CFG_EN then { s with pmon.tx := Tab.put 0 s.pmon.tx p (Tab.get 0 s.pmon.tx p + n) } else s

/-- A port's width or rate changed, or its link went down, in the present window (R441). -/
def State.bwChanged (s : State) (p : Nat) : State :=
  if s.on PMON_BW_CFG_EN && !s.pmon.changed.contains p then { s with pmon.changed := s.pmon.changed ++ [p] } else s

/-- The event of a packet received on a port, by its virtual channel (Table 17.2). -/
def State.rxEvents (s : State) (p : Nat) (vc : VC) (n : Nat) : State :=
  let s := (s.evtPort p 0).rxBytes p n
  match vc with
  | .p => s.evtPort p 4
  | .np => s.evtPort p 5
  | .cpl => s.evtPort p 6
  | .tt | .mg => s

/-! ## Bandwidth windows (R440 to R442) -/

/-- UTIL of R442 for a number of bytes in a window of `us` microseconds. -/
def State.util (s : State) (p bytes us : Nat) : Nat :=
  let d := s.rawRefill p * us * 1000
  if d = 0 then 0 else min 2047 (1048576 * bytes / d)

/-- The next window starts now. -/
def State.bwStart (s : State) : State :=
  { s with pmon.rx := [], pmon.tx := [], pmon.changed := [], pmon.winStart := s.spindleNs }

/-- A window ends: every port latches, and the next starts (R440 to R442). -/
def State.bwEnd (s : State) : State :=
  let us := (s.spindleNs - s.pmon.winStart) / 1000
  let s := (List.range 48).foldl (init := s) fun s p =>
    let rx := Tab.get 0 s.pmon.rx p
    let tx := Tab.get 0 s.pmon.tx p
    let s := ((s.set PMON_BW_RX_BYTES rx p).set PMON_BW_TX_BYTES tx p).flag PMON_BW_STAT_CHANGED (s.pmon.changed.contains p) p
    (s.set PMON_BW_STAT_UTIL_RX (s.util p rx us) p).set PMON_BW_STAT_UTIL_TX (s.util p tx us) p
  let s := ((s.bump PMON_BW_INFO_SEQ).flag PMON_BW_INFO_LOCAL s.localTime).flag PMON_BW_INFO_PARTIAL (us < s.get PMON_BW_CFG_LEN)
  let s := s.flag PMON_BW_INFO_HOLDOVER (s.get SPN_STATUS_STATE == spnHoldover)
  ((s.set PMON_BW_DUR_DUR us).set PMON_BW_END_NS s.spindleNs).bwStart

/-- A Spindle step ends a window early and the next starts on the stepped Spindle (R441): before and after the step. -/
def State.bwBefore (s : State) : State := if s.on PMON_BW_CFG_EN then s.bwEnd else s
def State.bwAfter (s : State) : State := if s.on PMON_BW_CFG_EN then s.bwStart else s

end Sys2Proof.Machine
end

