-- ==== Sys2Proof/Machine/ScOps.lean ====
section
/-! DEFINITION. Shared operations of the switch core (05): pools and reserves, charges, virtual output queues, credits. -/

namespace Sys2Proof.Machine

/-! ## Pools (R137, R141, R146) -/

def State.reserve (s : State) (p : Nat) : Reserve := Tab.get {} s.sc.reserves p
def State.setReserve (s : State) (p : Nat) (r : Reserve) : State :=
  { s with sc.reserves := Tab.put {} s.sc.reserves p r }

/-- Free segments of the shared pool. -/
def State.sharedFree (s : State) : Nat := s.get SC_POOL_STAT_SHARED_FREE
def State.addFree (s : State) (n : Nat) : State := s.set SC_POOL_STAT_SHARED_FREE (s.sharedFree + n)
def State.takeFree (s : State) (n : Nat) : State := s.set SC_POOL_STAT_SHARED_FREE (s.sharedFree - n)

/-- SC_POOL_SIZE: what the reserves and the TT pool leave of the 327,680 segments (Table 05.1). -/
def State.resize (s : State) : State :=
  s.set SC_POOL_SIZE_SHARED_SIZE (327680 - s.sc.ttSize - (s.sc.reserves.map fun x => x.2.size).sum)

/-- Segments of a port's reserve that hold packets. -/
def State.reserveUsed (s : State) (p : Nat) : Nat :=
  ((s.sc.pkts.filter fun k => k.charge == .reserve p && !k.noCredit).map pktUnits).sum

/-- The reserve is whole (R137). -/
def State.reserveWhole (s : State) (p : Nat) : Bool := (s.reserve p).size ≤ (s.reserve p).got

/-- PAIR(i, e) and the quota of the pair (R141). -/
def pairKey (i e : Nat) : Nat := i * 64 + e
def State.pairOcc (s : State) (i e : Nat) : Nat := Tab.get 0 s.sc.pairOcc (pairKey i e)
def State.pairQuota (s : State) (i e : Nat) : Nat := Tab.get 1024 s.sc.pairQuota (pairKey i e)

/-- Quota of an egress in cells; the local bus bridge, egress 48, has its own (R303). -/
def State.egQuota (s : State) (e : Nat) : Nat := if e = 48 then s.get LB_QUOTA_CELLS else s.get SC_EGQ_QUOTA e

/-- Charge `n` segments to the shared pool for the pair (i, e). -/
def State.chargeShared (s : State) (i e n : Nat) : State :=
  let s := (s.takeFree n).set SC_EGOCC_OCC (s.get SC_EGOCC_OCC e + n) e
  { s with sc.pairOcc := Tab.put 0 s.sc.pairOcc (pairKey i e) (s.pairOcc i e + n) }

/-- The three conditions of R141; for TT, room in the TT pool (R146). -/
def State.canCharge (s : State) (i e : Nat) (vc : VC) (n : Nat) : Bool :=
  if vc == .tt then s.get SC_TT_POOL_TT_USED + n ≤ s.sc.ttSize
  else s.get SC_EGOCC_OCC e + n ≤ 4 * s.egQuota e && s.pairOcc i e + n ≤ 4 * (if e = 48 then s.egQuota 48 else s.pairQuota i e) &&
    n ≤ s.sharedFree

/-- Charge a packet of `n` segments to the pool of its virtual channel. -/
def State.charge (s : State) (i e : Nat) (vc : VC) (n : Nat) : State :=
  if vc == .tt then s.set SC_TT_POOL_TT_USED (s.get SC_TT_POOL_TT_USED + n)
  else (s.chargeShared i e n).evtNode 0 0

/-- The pool a virtual channel is charged to. -/
def poolOf (vc : VC) : Charge := if vc == .tt then .tt else .shared

/-- The TT pool follows SC_TT_POOL.TT_CELLS as free segments allow (R146). -/
def State.adjustTt (s : State) : State :=
  let want := 4 * s.get SC_TT_POOL_TT_CELLS
  let now := s.sc.ttSize
  if now < want then
    if want - now ≤ s.sharedFree then
      let s := s.takeFree (want - now)
      ({ s with sc.ttSize := want }).resize
    else s
  else
    let least := max want (s.get SC_TT_POOL_TT_USED)
    if least < now then
      let s := s.addFree (now - least)
      ({ s with sc.ttSize := least }).resize
    else s

/-- Freed segments go to the reserves that still collect (R137), to the TT pool (R146), and to the packets raised inside that
wait for their pool (R545). -/
def State.collect (s : State) : State :=
  let s := (s.sc.reserves.map Prod.fst).foldl (init := s) fun s p =>
    let r := s.reserve p
    let k := min (r.size - r.got) s.sharedFree
    if k = 0 then s else (s.takeFree k).setReserve p { r with got := r.got + k }
  let s := s.adjustTt
  s.sc.pkts.foldl (init := s) fun s p =>
    if p.charge != .waiting then s
    else
      let n := pktUnits p
      let ok : Bool := if p.record.vc == .tt then s.get SC_TT_POOL_TT_USED + n ≤ s.sc.ttSize else n ≤ s.sharedFree
      if !ok then s
      else
        let s := s.charge p.src p.egress p.record.vc n
        { s with sc.pkts := s.sc.pkts.map fun q => if q.id == p.id then { q with charge := poolOf p.record.vc } else q }

/-- A packet charged to a reserve that is taken anew. -/
def retireOn (p : Nat) (k : Packet) : Packet := if k.charge == .reserve p then { k with noCredit := true } else k

/-- Take, or recompute, a port's reserve (R137): what it held before no longer counts, and the packets still on it return their
segments to the free list when they leave. -/
def State.takeReserve (s : State) (p size : Nat) : State :=
  let r := s.reserve p
  let spare := r.got - s.reserveUsed p
  let s := { s with sc.pkts := s.sc.pkts.map (retireOn p) }
  let s := (s.addFree spare).setReserve p { size := size, got := 0 }
  s.resize.collect

/-- Return a port's reserve (R137). -/
def State.giveReserve (s : State) (p : Nat) : State :=
  let s := s.takeReserve p 0
  { s with sc.reserves := Tab.put {} s.sc.reserves p {} }

/-! ## Credits and journal reserves -/

/-- Header and data credits go back on a PCI Express ingress, unless the power-fail sequence withholds them (R139, R180). -/
def State.pcieCredits (s : State) (port : Nat) (vc : VC) (h d : Nat) : State :=
  if s.get JNL_STATUS_PF_PHASE = 0 then s.emit (.credits port vc h d)
  else { s with sc.withheld := s.sc.withheld ++ [(port, vc, h, d)] }

/-- Withheld credits go back when the warning ends (R183). -/
def State.unwithhold (s : State) : State :=
  let xs := s.sc.withheld
  xs.foldl (fun s x => s.emit (.credits x.1 x.2.1 x.2.2.1 x.2.2.2)) { s with sc.withheld := [] }


def creditKey (p : Nat) (vc : VC) : Nat := p * 5 + vc.code

/-- Link-reserve segments of a fabric port free and their credits fall due for return (R62, R143). -/
def State.fabricCredits (s : State) (p : Nat) (vc : VC) (n : Nat) : State :=
  let s := s.set ML_CREDIT_STAT_IN_USE (s.get ML_CREDIT_STAT_IN_USE (creditKey p vc) - n) (creditKey p vc)
  s.updLink p fun l => { l with pendRet := perVcSet l.pendRet vc (perVc l.pendRet vc + n) }

/-- JNL_OCC, JNL_RESV and the volume they commit (R178). -/
def State.vcommit (s : State) : State :=
  s.set JNL_VCOMMIT_VCOMMIT (8384 + s.get JNL_OCC_USED + s.get JNL_RESV_RESV)
def State.setUsed (s : State) (n : Nat) : State := (s.set JNL_OCC_USED n).vcommit
def State.setResv (s : State) (n : Nat) : State := (s.set JNL_RESV_RESV n).vcommit

/-- Journal entries neither used nor reserved (R160). -/
def State.entriesFree (s : State) : Nat := 98304 - s.get JNL_OCC_USED - s.get JNL_RESV_RESV

/-- Reserves are restored and transactions raised inside admitted: not in the power-fail sequence, nor from the entry of a sleep level
to its end (R180, R452). -/
def State.mayRestore (s : State) : Bool :=
  s.get JNL_STATUS_PF_PHASE == 0 && (s.get PWR_STATUS_STATE == 0 || s.get PWR_STATUS_STATE == 3)

/-- The conditions of R165 for `n` entries toward node `d`; no restoration takes place in the power-fail sequence (R180). -/
def State.restoreOk (s : State) (n d : Nat) : Bool :=
  n ≤ s.entriesFree && s.get JNL_DQOCC_USED d ≤ s.get JNL_DQ_QUOTA d &&
  (!s.on JNL_CTRL_E_GATE || s.get JNL_STATUS_PST_FITTED == 0 ||
    s.get JNL_VCOMMIT_VCOMMIT + n ≤ s.get JNL_VMAX_VMAX) &&
  s.mayRestore

def State.admitRes (s : State) (p : Nat) : Reserve := Tab.get {} s.jnl.admRes p
def State.setAdmitRes (s : State) (p : Nat) (r : Reserve) : State :=
  { s with jnl.admRes := Tab.put {} s.jnl.admRes p r }

/-- The journal restores `n` entries to a port's admission reserve (R165). -/
def State.restore (s : State) (p n : Nat) : State :=
  let r := s.admitRes p
  (s.setAdmitRes p { r with got := r.got + n }).setResv (s.get JNL_RESV_RESV + n)

/-! ## Packets -/

def State.pkt (s : State) (id : Nat) : Option Packet := s.sc.pkts.find? fun p => p.id == id
def State.updPkt (s : State) (id : Nat) (f : Packet → Packet) : State :=
  { s with sc.pkts := s.sc.pkts.map fun p => if p.id == id then f p else p }
def State.rmPkt (s : State) (id : Nat) : State := { s with sc.pkts := s.sc.pkts.filter fun p => p.id != id }

/-- A packet leaves its reserve: its segments free and its credits return (R139, R143). -/
def State.leaveReserve (s : State) (p : Packet) (port : Nat) : State :=
  let n := pktUnits p
  if p.noCredit then (s.addFree n).collect
  else if s.fabricMode port then s.fabricCredits port p.record.vc n
  else s.pcieCredits port p.record.vc p.hdrCr p.dataCr

/-- The packets queued in a VOQ (R140), oldest first: those that have not started. -/
def State.voq (s : State) (i e : Nat) (vc : VC) : List Packet :=
  s.sc.pkts.filter fun p => p.src == i && p.egress == e && p.record.vc == vc && !p.started && !p.gone

/-- The packets queued in an ordering stream (R149). -/
def State.stream (s : State) (i e : Nat) : List Packet :=
  s.sc.pkts.filter fun p => p.src == i && p.egress == e && !p.started && !p.gone &&
    (p.record.vc == .p || p.record.vc == .np || p.record.vc == .cpl)

/-- A stream that has emptied goes back to the strict rules (R151, R152). -/
def State.checkStream (s : State) (i e : Nat) : State :=
  if (s.stream i e).isEmpty then
    { s with sc.fallback := Tab.put false s.sc.fallback (pairKey i e) false }.stop (.stall (pairKey i e))
  else s

/-- The stream runs under the PCI Express rules (R151, R152). -/
def State.pcieRules (s : State) (i e : Nat) : Bool :=
  s.get SC_CTRL_ORDER_MODE == 1 || Tab.get false s.sc.fallback (pairKey i e)

/-- ORDER_MODE has gone back to the strict rules: every stream that holds a packet keeps the PCI Express rules until it is next empty
(R152). This is no fallback, and is not counted. -/
def State.orderStrict (s : State) : State :=
  let held := s.sc.pkts.filter fun p => !p.started && !p.gone && (p.record.vc == .p || p.record.vc == .np || p.record.vc == .cpl)
  { s with sc.fallback := held.foldl (fun (t : Tab Bool) p => Tab.put false t (pairKey p.src p.egress) true) s.sc.fallback }

/-- A packet leaves the buffer, having left the node or been discarded: its segments go back (R141), and a tagged one writes its
Shaving (R438). An inter-node packet on its ingress reserve keeps it until the journal can restore its entries (R139). -/
def State.unbuffer (s : State) (p : Packet) : State :=
  let n := pktUnits p
  let s := s.shave p (!p.started && !p.gone) 5 (s.pcieRules p.src p.egress)
  let p := { p with shaved := false }
  let s := if p.dmSegs = 0 then s else s.set DM_GLOBAL_STAT_BUF_USED (s.get DM_GLOBAL_STAT_BUF_USED - p.dmSegs)
  let s := match p.charge with
    | .reserve port =>
      if p.entry.isSome && !p.noCredit && !s.fabricMode port then
        if s.restoreOk n p.record.dstNode then ((s.rmPkt p.id).restore port n).leaveReserve p port
        else s.updPkt p.id fun q => { q with gone := true, started := true, shaved := false }
      else (s.rmPkt p.id).leaveReserve p port
    | c => ((s.rmPkt p.id).release c p.egress p.src n).collect
  s.checkStream p.src p.egress

/-- Put a packet into its VOQ with its arrival number (R140, R149). -/
def State.enqueue (s : State) (p : Packet) : State :=
  let k := pairKey p.src p.egress
  let a := Tab.get 0 s.sc.arrivals k
  { s with sc.pkts := s.sc.pkts ++ [{ p with id := s.sc.nextId, arrival := a, tIn := s.now }]
           sc.nextId := s.sc.nextId + 1, sc.arrivals := Tab.put 0 s.sc.arrivals k (a + 1) }

/-- Address of the TLP a record carries. -/
def recAddr (r : Record) : Nat := match r.body with | .tlp t => t.addr | _ => 0

/-- A packet raised inside the switch, a candidate for a Shaving (R437), enters its VOQ and is charged, or waits for its pool (R545). -/
def State.enqueueInternal (s : State) (p : Packet) : State :=
  let p := { p with charge := .waiting, origin := .internal, src := 48 + p.record.srcPart, addr0 := recAddr p.record }
  let g := s.tag 0x3F (pktSeen p p.addr0)
  (g.2.enqueue { p with shaved := g.1, t0 := s.spindleNs }).collect

/-! ## Holds (R145) -/

/-- A hold stands on the group of a record at a port. -/
def State.held (s : State) (port : Nat) (r : Record) : Bool :=
  s.sc.holds.any fun h => h.port == port && h.srcNode == r.srcNode && h.srcPart == r.srcPart && h.dstNode == r.dstNode

def holdTimer (h : Hold) : TimerId := .hold h.port h.srcNode h.srcPart h.dstNode

/-- Remove the holds that `f` picks. -/
def State.dropHolds (s : State) (f : Hold → Bool) : State :=
  let out := s.sc.holds.filter f
  out.foldl (fun s h => s.stop (holdTimer h)) { s with sc.holds := s.sc.holds.filter fun h => !f h }

/-- Deficits, marks and wait timers of an egress become 0 and its TT bucket fills (Table 08.2). -/
def State.clearEgress (s : State) (e : Nat) : State :=
  { s with sch.comm := Tab.put [] s.sch.comm e [], sch.exc := Tab.put [] s.sch.exc e []
           sch.streams := s.sch.streams.filter fun x => x.1 % 64 != e
           sch.tt := Tab.put none s.sch.tt e none, sch.serving := Tab.put none s.sch.serving e none }

end Sys2Proof.Machine
end

