-- ==== Sys2Proof/Machine/PartOps.lean ====
section
/-! DEFINITION. Shared operations of the partition manager (03): configuration space of the virtual hierarchies, instances,
generations, contexts of the Non-Posted Tracker, synthesised completions, freezes, the privilege. -/

namespace Sys2Proof.Machine

/-! ## Configuration space (R89, R287, R288) -/

/-- The vUSP, the management endpoint and the function behind vDSP n, as numbers of a slot's functions. -/
abbrev fnVusp : Nat := 0
abbrev fnMgmt : Nat := 32
def fnBehind (n : Nat) : Nat := 33 + n

def cfgKey (k fn off : Nat) : Nat := (k * 80 + fn) * 1024 + off / 4

/-- A dword of configuration space as stored. -/
def State.cfg (s : State) (k fn off : Nat) : Nat := Tab.get 0 s.pcie.cfg (cfgKey k fn off)
def State.setCfg (s : State) (k fn off v : Nat) : State :=
  { s with pcie.cfg := Tab.put 0 s.pcie.cfg (cfgKey k fn off) (v % 0x100000000) }

/-- Set a bit of a dword of configuration space. -/
def State.cfgSet (s : State) (k fn off n : Nat) (b : Bool) : State := s.setCfg k fn off (setBit (s.cfg k fn off) n b)

/-- Offsets of Table 10.5 within a function. -/
abbrev cfgCommand : Nat := 0x04
abbrev cfgBus : Nat := 0x18
abbrev cfgDevCtl : Nat := 0x68
abbrev cfgLinkCtl : Nat := 0x70
abbrev cfgSlotCtl : Nat := 0x78
abbrev cfgAerUnc : Nat := 0x104
abbrev cfgAerCor : Nat := 0x110
abbrev cfgAcsCtl : Nat := 0x14C
abbrev cfgAcsVec : Nat := 0x150
abbrev cfgDpcCtl : Nat := 0x17C
abbrev cfgDpcStat : Nat := 0x180

/-- Bits of the AER Uncorrectable Error Status. -/
abbrev aerSurprise : Nat := 5
abbrev aerPoisoned : Nat := 12
abbrev aerMalformed : Nat := 18
abbrev aerEcrc : Nat := 19
abbrev aerUr : Nat := 20
abbrev aerInternal : Nat := 22

/-- An uncorrectable error is logged in the AER of a function of a slot's hierarchy (R300). -/
def State.aer (s : State) (k fn n : Nat) : State := s.cfgSet k fn cfgAerUnc n true

def bindKey (k n : Nat) : Nat := k * 32 + n
def State.bind (s : State) (k n : Nat) : Option Bind := Tab.get none s.pcie.binds (bindKey k n)
def State.setBind (s : State) (k n : Nat) (b : Option Bind) : State :=
  { s with pcie.binds := Tab.put none s.pcie.binds (bindKey k n) b }

def State.px (s : State) (p : Nat) : Px := Tab.get {} s.pcie.ports p
def State.setPx (s : State) (p : Nat) (x : Px) : State := { s with pcie.ports := Tab.put {} s.pcie.ports p x }
def State.updPx (s : State) (p : Nat) (f : Px → Px) : State := s.setPx p (f (s.px p))

/-- Roles of a PCI Express port (R278). -/
abbrev roleUp : Nat := 1
abbrev roleBound : Nat := 2
abbrev roleManaged : Nat := 3
def State.role (s : State) (p : Nat) : Nat := s.get PX_PORT_CFG_ROLE p

/-- The port's data link layer is active. -/
def State.dlActive (s : State) (p : Nat) : Bool := s.on PX_PORT_STAT_DL_ACTIVE p

/-! ## Partitions at this node -/

/-- Table 03.1. -/
abbrev partFree : Nat := 0
abbrev partCreated : Nat := 1
abbrev partActive : Nat := 2
abbrev partResetting : Nat := 3
abbrev partDeleting : Nat := 4

/-- The partition whose upstream port is `p` at this node, as a local slot. -/
def State.slotOfPort (s : State) (p : Nat) : Option Nat :=
  (List.range 16).find? fun k => s.on PART_CTRL_VALID k && s.get PART_CTRL_UP_PORT k == p

/-- State of a partition as this node knows it (R83). -/
def State.partState (s : State) (part : Nat) : Nat :=
  match s.slotOf part with
  | some k => s.get PART_CTRL_STATE k
  | none => if (s.partRec part).present then (s.partRec part).state else partFree

def State.homeOf (s : State) (part : Nat) : Option Nat :=
  match s.slotOf part with
  | some _ => some s.nodeId
  | none => if (s.partRec part).present then some (s.partRec part).home else none

/-- Members of either plane other than this node. -/
def State.others (s : State) : List Nat :=
  (members (s.get RING_MEMBER_A_MEMBERS ||| s.get RING_MEMBER_B_MEMBERS)).filter fun n => n != s.nodeId

/-- Firmware message `m` on behalf of a partition to every other member. -/
def State.fwAll (s : State) (part : Nat) (m : FwMsg) : State := s.others.foldl (fun s n => s.sendFw part n m) s

/-- Message types of firmware between nodes: the partition record (R83), VIRT_BUS (R95), the commit and its answers (R122),
and the others. They are the model's numbers: the spec gives firmware messages no layout beyond Table 15.5. -/
abbrev fwRecord : Nat := 0x01

/-- The home node's record of a partition, kept by every node (R83), is distributed at each change. -/
def State.distribute (s : State) (part : Nat) : State :=
  let r := s.partRec part
  s.fwAll part (.other fwRecord
    [part, if r.present then 1 else 0, r.home, r.state, r.upPort, r.homePlane, r.upBus, r.intBus])

def State.setRec (s : State) (part : Nat) (r : PartRec) : State :=
  { s with part.records := Tab.put {} s.part.records part r }

/-- The state of a partition of this node changes (R84). -/
def State.setPartState (s : State) (k st : Nat) : State :=
  let s := s.set PART_CTRL_STATE st k
  let part := s.get PART_CTRL_PART_ID k
  (s.setRec part { s.partRec part with state := st }).distribute part

/-! ## Instances (R93 to R95) -/

def allInst : List Nat := List.range 512

def State.liveInst (s : State) (i : Nat) : Bool := s.on PART_FN_A_VALID i

/-- The live instances of a port or of an owner. -/
def State.instsOfPort (s : State) (p : Nat) : List Nat :=
  allInst.filter fun i => s.liveInst i && s.get PART_FN_A_PORT i == p
def State.instsOf (s : State) (part : Nat) : List Nat :=
  allInst.filter fun i => s.liveInst i && s.get PART_FN_A_OWNER i == part

/-- Assignment lookup by port and physical requester ID (R94): a function-bound entry by PHYS_RID, a port-bound one by its bus
span, and only while a secondary bus is installed (R95) and the bus is presented (R90). -/
def State.assigned (s : State) (p rid : Nat) : Option Nat :=
  (s.instsOfPort p).find? fun i =>
    s.get PART_FN_B_VIRT_BUS i != 0 &&
    if s.on PART_FN_A_BIND i then
      let sec := s.get PART_FN_A_PHYS_RID i / 256
      let b := rid / 256
      sec ≤ b && b < sec + s.get PART_FN_B_BUS_SPAN i &&
        b - sec + s.get PART_FN_B_VIRT_BUS i ≤ Tab.get 255 s.part.virtSub i
    else s.get PART_FN_A_PHYS_RID i == rid

/-- The virtual requester ID of a physical one (R94), and back. -/
def State.virtRid (s : State) (i rid : Nat) : Nat :=
  if s.on PART_FN_A_BIND i then
    (rid + s.get PART_FN_B_VIRT_BUS i * 256 + 0x10000 - s.get PART_FN_A_PHYS_RID i / 256 * 256) % 0x10000
  else s.get PART_FN_B_VIRT_BUS i * 256
def State.physRid (s : State) (i rid : Nat) : Nat :=
  if s.on PART_FN_A_BIND i then
    (rid + s.get PART_FN_A_PHYS_RID i / 256 * 256 + 0x10000 - s.get PART_FN_B_VIRT_BUS i * 256) % 0x10000
  else s.get PART_FN_A_PHYS_RID i

/-- The instance of this node that a partition's requester ID names. -/
def State.instOfRid (s : State) (part rid : Nat) : Option Nat :=
  (s.instsOf part).find? fun i =>
    let vb := s.get PART_FN_B_VIRT_BUS i
    vb != 0 && if s.on PART_FN_A_BIND i then vb ≤ rid / 256 && rid / 256 < vb + s.get PART_FN_B_BUS_SPAN i
      else rid == vb * 256

/-- The instance is in a generation wait (R100). -/
def State.inGenWait (s : State) (i : Nat) : Bool := s.runs (.genWait i)

/-- Bus and function numbers of the switch's own functions as a partition's host sees them (R102). -/
def State.vuspId (s : State) (part : Nat) : Nat := (s.partRec part).upBus * 256
def State.vdspId (s : State) (part n : Nat) : Nat := (s.partRec part).intBus * 256 + n * 8

/-! ## Completions (R102) -/

/-- The port on which a completion for a requester of this node leaves: the instance's port or the host's. -/
def State.reqPort (s : State) (part rid : Nat) : Option Nat :=
  match s.instOfRid part rid with
  | some i => some (s.get PART_FN_A_PORT i)
  | none => (s.slotOf part).map fun k => s.get PART_CTRL_UP_PORT k

/-- Payload bytes of a TLP: a read carries none. -/
def tlpPay (t : Tlp) : Nat :=
  match t.kind with
  | .memWrite | .ioWrite | .cfgWrite0 | .cfgWrite1 | .atomic | .msg | .cpl => t.bytes
  | .memRead | .ioRead | .cfgRead0 | .cfgRead1 => 0

/-- L of R230: header with every prefix, and payload. -/
def tlpBytes (t : Tlp) : Nat := t.hdrBytes + tlpPay t

/-- LEN of a record that carries a TLP (R136). -/
def tlpLen (t : Tlp) : Nat := 16 + ceilDiv (tlpBytes t) 4 * 4

/-- Virtual channel of a TLP by its kind (Table 00.4). -/
def tlpVc (t : Tlp) : VC :=
  match t.kind with
  | .memWrite | .msg => .p
  | .cpl => .cpl
  | .memRead | .atomic | .ioRead | .ioWrite | .cfgRead0 | .cfgWrite0 | .cfgRead1 | .cfgWrite1 => .np

/-- The request needs a completion. -/
def tlpNonPosted (t : Tlp) : Bool := tlpVc t == .np

/-- ACCESS of Table 14.2 with its non-posted bit. -/
def tlpAccess16 (t : Tlp) : Nat := tlpAccess t.kind + if tlpNonPosted t then 16 else 0

def recTlp (r : Record) : Option Tlp := match r.body with | .tlp t => some t | _ => none

/-- Requester ID of a partition's management endpoint (R89, R255): device 0 of the internal bus, once the host has numbered it. -/
def State.epId (s : State) (part : Nat) : Nat := (s.partRec part).intBus * 256

/-- A completion is for the management endpoint of a partition of this node: a request of its data mover channels. -/
def State.isEpCpl (s : State) (part : Nat) (r : Record) : Bool :=
  r.vc == .cpl && (s.slotOf part).isSome && s.epId part != 0 && (recTlp r).any fun t => t.reqId == s.epId part

/-- It is kept for its own step (R259, R261). -/
def State.epCpl (s : State) (part : Nat) (t : Tlp) : State := { s with dm.cpls := s.dm.cpls ++ [(part, t)] }

/-- A completion raised inside the switch is put on a port of this node. -/
def State.cplOut (s : State) (part p : Nat) (t : Tlp) (org : Origin) : State :=
  s.enqueueInternal { id := 0, egress := p, origin := org, pass := .final, bytes := tlpBytes t
                      record := { srcPart := part, srcNode := s.nodeId, dstNode := s.nodeId, vc := .cpl,
                                  len := tlpLen t, dstPort := p, body := .tlp t } }

/-- Deliver a completion to a requester of this node: it is put on the requester's port, which writes the requester's own ID
into it as it sends it, unless the partition's host takes none (R84, R105). -/
def State.cplHere (s : State) (part : Nat) (t : Tlp) (org : Origin) : State :=
  let send (s : State) (p : Nat) : State := s.cplOut part p t org
  match s.instOfRid part t.reqId with
  | some i => send s (s.get PART_FN_A_PORT i)
  | none =>
    match s.slotOf part with
    | some k =>
      if s.epId part != 0 && t.reqId == s.epId part then s.epCpl part t
      else if s.get PART_CTRL_STATE k == partActive then send s (s.get PART_CTRL_UP_PORT k)
      else s.bump PART_CNT_STALE_COUNT
    | none => s

/-- Destination port of a completion for the requester's own port, which the requester's node finds (Table 02.5). -/
abbrev dstFind : Nat := 63

/-- Send a completion raised inside the switch to a requester of any node. -/
def State.sendCpl (s : State) (part node gen : Nat) (t : Tlp) : State :=
  if node = s.nodeId then s.cplHere part t .internal
  else s.raise { record := { srcPart := part, srcNode := s.nodeId, dstNode := node, dstPort := dstFind, vc := .cpl, gen := gen
                             len := tlpLen t, body := .tlp t }
                 internalReserve := true }

/-- Synthesise a completion (R102): original requester ID and tag, the completer the requester sees, no data. -/
def State.synth (s : State) (part node reqId tag cplId : Nat) (st : CplStatus) : State :=
  let s := (s.bump PART_CNT_SYNTH_COUNT).evtPart part 7
  s.sendCpl part node 0 { kind := .cpl, reqId := reqId, tag := tag, cplId := cplId, status := st, hdrBytes := 12 }

/-! ## Contexts of the NPT (R96, R97, R101) -/

/-- Remove a context; `quar` puts its proxy tag into quarantine. -/
def State.endCtx (s : State) (c : Ctx) (quar : Bool) : State :=
  let s := { s with part.ctxs := s.part.ctxs.filter fun x => x.idx != c.idx }
  let s := (s.stop (.ctx c.idx)).set PART_NPQ_IN_USE (s.get PART_NPQ_IN_USE c.srcPart - 1) c.srcPart
  if quar && c.proxy then
    let s := { s with part.quar := s.part.quar ++ [(c.port, c.tag)] }
    s.start (.tagQuar c.port c.tag) (s.get PART_TIMERS_TAG_QUAR * 1000000)
  else s

/-- Retire a context: its completion is synthesised with UR and its tag is quarantined (R101, R102). -/
def State.retireCtx (s : State) (c : Ctx) : State :=
  (s.endCtx c true).synth c.srcPart c.srcNode c.reqId c.tag0 c.cplId .ur

/-- Retire every context that holds a request to an instance. -/
def State.retireTarget (s : State) (i : Nat) : State :=
  (s.part.ctxs.filter fun c => c.target == some i).foldl (fun s c => s.retireCtx c) s

/-- Size of a port's tag map (R96, R282). -/
def State.tagSpace (s : State) (p : Nat) : Nat :=
  let z := s.get PX_PORT_CFG_TAG_SIZE p
  if z = 0 then 256 else if z = 1 || !s.on PX_PORT_STAT_FLIT p then 1024 else 16384

/-- A number of `m` that `f` allows, from a free value on: which one is taken is not specified (R96). -/
def pickFrom (start m : Nat) (f : Nat → Bool) : Option Nat :=
  (List.range m).findSome? fun k => let x := (start + k) % m; if f x then some x else none

/-- Tags of a port that are free and outside quarantine. -/
def State.tagFree (s : State) (p t : Nat) : Bool :=
  !(s.part.ctxs.any fun c => c.port == p && c.proxy && c.tag == t) && !s.part.quar.contains (p, t)

/-- Take a context for a request that leaves on port `p` (R96): none where the partition's quota, the contexts or the port's
tags are used up. -/
def State.takeCtx (s : State) (p : Nat) (part node : Nat) (t : Tlp) (gen : Nat) (inst target : Option Nat)
    (cplId : Nat) (proxy : Bool) (vc : VC) : Option (Nat × State) :=
  if s.get PART_NPQ_QUOTA part ≤ s.get PART_NPQ_IN_USE part then none
  else
    let f := s.fresh
    let s := f.2
    match pickFrom f.1 16384 fun i =>
        !(s.part.ctxs.any fun c => c.idx == i) &&
        (!proxy || s.tagSpace p != 16384 || s.tagFree p i) with
    | none => none
    | some idx =>
      let tag := if !proxy then some t.tag
        else if s.tagSpace p = 16384 then some idx
        else pickFrom f.1 (s.tagSpace p) (s.tagFree p)
      match tag with
      | none => none
      | some tag =>
        let c : Ctx := { idx := idx, port := p, tag := tag, proxy := proxy, reqId := t.reqId, tag0 := t.tag,
                         srcNode := node, srcPart := part, gen := gen, inst := inst, target := target, cplId := cplId
                         vc := vc, left := if t.kind == .memRead then t.bytes else 0, issued := s.now
                         cfgReg := (match t.kind with
                           | .cfgRead0 | .cfgRead1 => some t.regNo
                           | _ => none) }
        let s := { s with part.ctxs := s.part.ctxs ++ [c] }
        let s := (s.bump PART_NPQ_IN_USE part).evtPart part 3
        some (tag, s.start (.ctx idx) (s.get PART_TIMERS_CPL_TMO * 1000000))

/-! ## Hot-plug registers of a vDSP (R92, R296; PRESUMED: the bits of PCI Express) -/

/-- The MSI of vDSP `n` of slot `k`: sent with MSI Enable and Bus Master Enable and no mask, else its pending bit is set. -/
def State.msiVdsp (s : State) (k n : Nat) : State :=
  if !((s.cfg k n 0x48).testBit 16 && (s.cfg k n cfgCommand).testBit 2) then s
  else if (s.cfg k n 0x58).testBit 0 then s.cfgSet k n 0x5C 0 true
  else s.emit (.msi (s.get PART_CTRL_PART_ID k) n)

/-- Bit `st` of Slot Status is set; the interrupt follows bit `en` of Slot Control and Hot-Plug Interrupt Enable. -/
def State.hotplug (s : State) (k n st en : Nat) : State :=
  let s := s.cfgSet k n cfgSlotCtl (16 + st) true
  if (s.cfg k n cfgSlotCtl).testBit en && (s.cfg k n cfgSlotCtl).testBit 5 then s.msiVdsp k n else s

/-- Data Link Layer Link Active of a vDSP, and its event where it changes. -/
def State.showLink (s : State) (k n : Nat) (up : Bool) : State :=
  if (s.cfg k n cfgLinkCtl).testBit 29 == up then s else (s.cfgSet k n cfgLinkCtl 29 up).hotplug k n 8 12

/-- Presence Detect State of a vDSP, and its event where it changes. -/
def State.showPresence (s : State) (k n : Nat) (present : Bool) : State :=
  if (s.cfg k n cfgSlotCtl).testBit 22 == present then s else (s.cfgSet k n cfgSlotCtl 22 present).hotplug k n 3 3

/-- DPC Trigger Status of a vDSP as stored (R298, R299). -/
def State.dpcTriggered (s : State) (k n : Nat) : Bool := (s.cfg k n cfgDpcStat).testBit 0

/-! ## What the home node shows of an instance (Table 10.8, Table 16.6) -/

abbrev fwInst : Nat := 0x0E

/-- The home node takes what an instance's node tells: GEN, FROZEN, FREEZE_CAUSE, failed, whether its managed port is contained. A
function-bound vDSP shows a freeze by a fault report as DPC, and the thaw as its release (R299). -/
def State.instTold (s : State) (part vdsp : Nat) (f : List Nat) : State :=
  match s.slotOf part with
  | none => s
  | some k =>
    match s.bind k vdsp with
    | some b =>
      let frozen : Bool := f.getD 1 0 == 1
      let s := s.setBind k vdsp (some { b with gen := f.getD 0 0, frozen := frozen, cause := f.getD 2 0
                                               failed := f.getD 3 0 == 1, contained := f.getD 4 0 == 1 })
      if b.kind != 1 then s
      else if frozen && f.getD 2 0 == 2 && !b.frozen && s.cfg k vdsp cfgDpcCtl / 65536 % 4 != 0 then
        (s.cfgSet k vdsp cfgDpcStat 0 true).showLink k vdsp false
      else if !frozen && b.frozen && s.dpcTriggered k vdsp then (s.cfgSet k vdsp cfgDpcStat 0 false).showLink k vdsp true
      else s
    | none => s

/-- The acknowledgement of PME_Turn_Off goes to a slot's host, and its link to L2/L3 Ready (R285). -/
def State.pmeAnswer (s : State) (k : Nat) : State :=
  let p := s.get PART_CTRL_UP_PORT k
  (s.emit (.message p 0x1B)).set PX_PORT_STAT_PM 2 p

/-- The port behind vDSP `n` has acknowledged PME_Turn_Off; with the last of them the vUSP sends PME_TO_Ack (R285). -/
def State.pmeAck (s : State) (k n : Nat) : State :=
  match Tab.get none s.pcie.pme k with
  | some ns =>
    let left := ns.filter fun x => x != n
    if !left.isEmpty then { s with pcie.pme := Tab.put none s.pcie.pme k (some left) }
    else ({ s with pcie.pme := Tab.put none s.pcie.pme k none }.stop (.pme k)).pmeAnswer k
  | none => s

/-- What a port tells the home node of a vDSP (R296, R298, Table 10.11). -/
abbrev fwLink : Nat := 9
abbrev lnkLink : Nat := 1
abbrev lnkDone : Nat := 2
abbrev lnkFault : Nat := 3
abbrev lnkPresent : Nat := 4
abbrev lnkContained : Nat := 5
abbrev lnkLatched : Nat := 6
abbrev lnkAer : Nat := 7
abbrev lnkPme : Nat := 8
abbrev lnkCfg : Nat := 9

/-- The home node takes an event of the port behind vDSP `n`; an empty vDSP takes none. A link event carries the
rate and the width with bit 0, a containment 1 + its reason, an error its uncorrectable bit or 32 + its correctable one, a change of
settings the MPS code with IDE_PASS in bit 2. -/
def State.vdspEvent (s : State) (part n ev v : Nat) : State :=
  match s.slotOf part with
  | none => s
  | some k =>
    match s.bind k n with
    | none => s
    | some b =>
      if ev = lnkLink then
        (s.setBind k n (some { b with rate := v / 2 % 8, width := v / 16 % 8 })).showLink k n
          (v % 2 == 1 && !(b.kind == 1 && s.dpcTriggered k n))
      else if ev = lnkDone then s.hotplug k n 4 4
      else if ev = lnkFault then s.hotplug k n 1 1
      else if ev = lnkPresent then (if b.kind = 2 then s.showPresence k n (v == 1) else s)
      else if ev = lnkContained then
        (if b.kind = 2 then s.setCfg k n cfgDpcStat (s.cfg k n cfgDpcStat / 128 * 128 + (if v = 0 then 0 else 1 + 2 * (v - 1))) else s.setBind k n (some { b with contained := v != 0 }))
      else if ev = lnkLatched then s.setBind k n (some { b with latched := v == 1 })
      else if ev = lnkAer then (if v < 32 then s.aer k n v else s.cfgSet k n cfgAerCor (v - 32) true)
      else if ev = lnkCfg then s.setBind k n (some { b with mps := v % 4, ide := v.testBit 2 })
      else if ev = lnkPme then s.pmeAck k n
      else s

def State.tellVdsp (s : State) (part n ev v : Nat) : State :=
  match s.homeOf part with
  | some h => if h = s.nodeId then s.vdspEvent part n ev v else s.sendFw part h (.other fwLink [part, n, ev, v])
  | none => s

/-- Every vDSP that presents something on a port hears of an event there. -/
def State.tellPort (s : State) (p ev v : Nat) : State :=
  (s.instsOfPort p).foldl (init := s) fun s i =>
    let n := s.get PART_FN_B_VDSP i
    if n = 0 then s else s.tellVdsp (s.get PART_FN_A_OWNER i) n ev v

def State.instWords (s : State) (i : Nat) : List Nat :=
  let p := s.get PART_FN_A_PORT i
  [s.get PART_FN_B_GEN i, s.get PART_FN_A_FROZEN i, s.get PART_FN_B_FREEZE_CAUSE i,
   if s.part.failed.contains (p, s.get PART_FN_A_PHYS_RID i) then 1 else 0, s.get PX_PORT_STAT_DPC p]

/-- An instance of this node has changed: its owner's home node is told. -/
def State.tellInst (s : State) (i : Nat) : State :=
  let part := s.get PART_FN_A_OWNER i
  let v := s.get PART_FN_B_VDSP i
  if !s.liveInst i || v = 0 then s
  else match s.homeOf part with
    | some h => if h = s.nodeId then s.instTold part v (s.instWords i)
      else s.sendFw part h (.other fwInst ([part, v] ++ s.instWords i))
    | none => s

/-! ## Generations (R98 to R100) -/

/-- GEN advances: 1 to 255 and again from 1; the contexts of requests to the instance are retired. -/
def State.advanceNow (s : State) (i : Nat) : State :=
  let g := s.get PART_FN_B_GEN i
  let s := s.set PART_FN_B_GEN (if g ≥ 255 then 1 else g + 1) i
  let s := { s with part.lastAdv := Tab.put none s.part.lastAdv i (some s.now) }
  (s.tellInst i).retireTarget i

/-- An event of Table 03.4: the generation advances, or, less than 4 ms after the last advance, a generation wait begins; an
event within a wait is absorbed (R100, Table 03.7). -/
def State.advanceGen (s : State) (i : Nat) : State :=
  if s.inGenWait i then s
  else match Tab.get none s.part.lastAdv i with
    | some t =>
      if s.now < t + 4000000 then (s.start (.genWait i) (t + 4000000 - s.now)).retireTarget i
      else s.advanceNow i
    | none => s.advanceNow i

/-! ## Freezes (R109 to R111) -/

/-- FREEZE_CAUSE of Table 03.13. -/
abbrev frzViolation : Nat := 1
abbrev frzFault : Nat := 2
abbrev frzFirmware : Nat := 3
abbrev frzCommand : Nat := 4

/-- An instance is frozen; the first cause stays, and a second freeze is counted (R106, R109). A freeze by a fault report that its
function-bound vDSP shows as DPC is made with FREEZE_CPL (R299). -/
def State.freeze (s : State) (i cause : Nat) : State :=
  if s.on PART_FN_A_FROZEN i then s.bump PART_CNT_FROZEN_COUNT
  else
    let v := Tab.get {} s.win.view (s.get PART_FN_A_OWNER i * 32 + s.get PART_FN_B_VDSP i)
    let s := (s.flag PART_FN_A_FROZEN true i).set PART_FN_B_FREEZE_CAUSE cause i
    let s := if cause == frzFault && v.kind == 1 && v.dpc != 0 then s.flag PART_FN_A_FREEZE_CPL true i else s
    s.tellInst i

/-- A freeze clears (R111). -/
def State.unfreeze (s : State) (i : Nat) : State :=
  ((s.flag PART_FN_A_FROZEN false i).flag PART_FN_A_FREEZE_CPL (s.part.frzCpl.contains i) i).set PART_FN_B_FREEZE_CAUSE 0 i
    |>.tellInst i

/-- DPC Trigger Enable of a vDSP of this node is not 00b (R299). -/
def State.dpcEnabled (s : State) (k n : Nat) : Bool := s.cfg k n cfgDpcCtl / 65536 % 4 != 0

/-! ## The privilege (R85 to R87, R546) -/

/-- The privilege is held by `holder` from now on: PART_GLOBAL, and FM of the local slots. -/
def State.setFm (s : State) (holder : Option Nat) : State :=
  let s := match holder with
    | some h => (s.flag PART_GLOBAL_FM_VALID true).set PART_GLOBAL_FM_PART h
    | none => s.flag PART_GLOBAL_FM_VALID false
  (List.range 16).foldl (init := s) fun s k =>
    s.flag PART_CTRL_FM (s.on PART_CTRL_VALID k && holder == some (s.get PART_CTRL_PART_ID k)) k

/-- The standby is `st` from now on. -/
def State.setStandbyPart (s : State) (st : Option Nat) : State :=
  let s := match st with
    | some h => (s.flag PART_GLOBAL_STBY_VALID true).set PART_GLOBAL_STBY_PART h
    | none => (s.flag PART_GLOBAL_STBY_VALID false).set PART_GLOBAL_STBY_PART 0
  (List.range 16).foldl (init := s) fun s k =>
    s.flag PART_CTRL_STANDBY (s.on PART_CTRL_VALID k && st == some (s.get PART_CTRL_PART_ID k)) k

/-- The privilege notice of R546, for a partition of this node. -/
def State.fmNotice (s : State) (k reason new old home : Nat) : State :=
  s.queuePlace k s.nodeId (.other 0x93 [reason, new, old, home, s.spindleNs])

/-- A partition as byte 2 or 3 of the notice: bit 7 when there is none. -/
def fmByte : Option Nat → Nat | some p => p | none => 0x80

/-- The partition that holds the privilege. -/
def State.fmHolder (s : State) : Option Nat :=
  if s.on PART_GLOBAL_FM_VALID then some (s.get PART_GLOBAL_FM_PART) else none

/-- A node is reachable: this node, or a member of either plane. -/
def State.reachable (s : State) (n : Nat) : Bool := n == s.nodeId || s.others.contains n

/-- The privilege becomes vacant; a standby that is reachable and ACTIVE takes it, and receives the notice (R87). -/
def State.vacateFm (s : State) : State :=
  let old := s.fmHolder
  let st := s.get PART_GLOBAL_STBY_PART
  let takes : Bool := s.on PART_GLOBAL_STBY_VALID && s.partState st == partActive &&
    (s.homeOf st).any fun h => s.reachable h
  if takes then
    let s := (s.setFm (some st)).setStandbyPart none
    match s.slotOf st with
    | some k => s.fmNotice k 2 st (fmByte old) s.nodeId
    | none => s
  else s.setFm none

/-- The holder's home node has become unreachable (R87). -/
def State.checkFm (s : State) : State :=
  match s.fmHolder with
  | some p =>
    match s.homeOf p with
    | some h => if s.reachable h then s else s.vacateFm
    | none => s
  | none => s

/-- Two fabric managers found by discovery (R85): the partition whose home node has the lower Node ID keeps the privilege. -/
def State.compareFm (s : State) : State :=
  match s.fmHolder with
  | some p =>
    match s.slotOf p with
    | some k =>
      match s.ring.fmHomes.find? fun n => n < s.nodeId with
      | some win =>
        let new := (List.range 64).find? fun q => (s.partRec q).present && (s.partRec q).home == win
        let f := s.fresh
        let s := if new.isNone then f.2 else s
        let h := new.getD (f.1 % 64)
        (s.setFm new).fmNotice k 1 h p win
      | none => s
    | none => s
  | none => s

end Sys2Proof.Machine
end

