-- ==== Sys2Proof/Machine/JnlOps.lean ====
section
/-! DEFINITION. Shared operations of the delivery journal (06): admission, control records, receipts, de-duplication, holds,
undeliverable reports, purges. -/

namespace Sys2Proof.Machine

/-! ## Control records (R168) -/

/-- Items in control records of at most 91 (Table 06.2); LAST stands in the final one. -/
def State.sendItems (s : State) (dst subtype number : Nat) (last : Bool) (items : List JItem) : Nat → State
  | 0 => s
  | fuel + 1 =>
    if items.length ≤ 91 then s.sendCtl dst subtype number last items
    else (s.sendCtl dst subtype number false (items.take 91)).sendItems dst subtype number last (items.drop 91) fuel

/-! ## Receipts (R169) and de-duplication (R172) -/

/-- HELD of a flow: the last sequence up to which every record has passed finally. -/
def Dedup.heldSeq (d : Dedup) : Nat :=
  match d.provisional with
  | some q => seqPrev q
  | none => seqPrev d.expected

/-- The RECEIPT item of a flow. -/
def State.receiptItem (s : State) (k : Nat) : JItem :=
  { part := keyPart k, vc := keyVc k, seqA := (s.dedup k).delivered, seqB := (s.dedup k).heldSeq }

/-- Send a receipt of one flow at once. -/
def State.receiptNow (s : State) (k : Nat) : State :=
  let s := s.setDedup k { s.dedup k with owed := false }
  (s.evtNode 2 1).sendCtl (keyNode k) ctlReceipt 0 false [s.receiptItem k]

/-- DELIVERED or HELD of a flow has advanced: a receipt falls due within RCPT_MAX. -/
def State.owe (s : State) (k : Nat) : State :=
  let s := s.setDedup k { s.dedup k with owed := true }
  s.startIfNot (.receipt (keyNode k)) (s.get JNL_TIMERS_RCPT_MAX * 100)

/-- Flows from a node on which a receipt is owed. -/
def State.owedFlows (s : State) (n : Nat) : List Nat :=
  (s.jnl.dedup.filter fun x => keyNode x.1 == n && x.2.owed).map Prod.fst

/-- Send every receipt owed to a node. -/
def State.sendReceipts (s : State) (n : Nat) : State :=
  let ks := s.owedFlows n
  let items := ks.map fun k => s.receiptItem k
  let s := (ks.foldl (fun s k => s.setDedup k { s.dedup k with owed := false }) s).stop (.receipt n)
  if ks.isEmpty then s else (s.evtNode 2 1 ks.length).sendItems n ctlReceipt 0 false items 64

/-- How many of 1, 2, 3 … stand in a list without a gap. -/
def runLen (xs : List Nat) : Nat → Nat → Nat
  | 0, k => k - 1
  | fuel + 1, k => if xs.contains k then runLen xs fuel (k + 1) else k - 1

/-- DELIVERED moves over the records done ahead of it (R172). -/
def Dedup.advance (d : Dedup) : Dedup :=
  let m := runLen d.done 512 1
  { d with delivered := (d.delivered + m) % 0x100000000, done := (d.done.filter fun k => m < k).map fun k => k - m }

/-- A record of a flow has been acknowledged or reported undeliverable (R172). -/
def State.markDone (s : State) (k seq : Nat) : State :=
  let d := s.dedup k
  let i := subMod 0x100000000 seq d.delivered
  if i = 0 || 512 ≤ i then s
  else
    let d' := ({ d with done := if d.done.contains i then d.done else d.done ++ [i] }).advance
    let s := s.setDedup k d'
    if d'.delivered != d.delivered then s.owe k else s

/-- The sequence of a firmware message, where it is the next of its flow that firmware has to take. -/
def State.fwNext (s : State) (src part : Nat) (m : FwMsg) : Option Nat :=
  s.inbox.findSome? (fun x => match x with | .fw a b w q => if a == src && b == part then some (w, q) else none | _ => none) |>.bind
    fun x => if x.1 == m then some x.2 else none

/-- Firmware takes a message that waits for it (R161, R169, R396): each flow in its order; the record is delivered with that. During a
restart and a switchover messages wait (R404). -/
def State.takeFw (s : State) (src part : Nat) (m : FwMsg) : Option State :=
  if s.get FC_STATE_NODE_STATE == 1 || s.img.act.any fun a => a.phase == 3 then none
  else (s.fwNext src part m).map fun q =>
    { s with inbox := s.inbox.erase (.fw src part m q) }.markDone (dedupKey src part .mg) q

/-- What waits from a node counts as delivered: its flows are agreed anew (R175). -/
def State.fwOfNode (s : State) (n : Nat) : State :=
  s.inbox.foldl (init := s) fun s x => match x with | .fw a b _ q => if a == n then s.markDone (dedupKey a b .mg) q else s | _ => s

def pktKey (p : Packet) : Nat := dedupKey p.record.srcNode p.record.srcPart p.record.vc

/-- The destination reports a record undeliverable (R187): done, counted, and named to its source. -/
def State.undelivDest (s : State) (r : Record) (reason : Nat) : State :=
  let s := s.markDone (dedupKey r.srcNode r.srcPart r.vc) r.seq
  let s := (s.bump JNL_CNT_UNDELIV_COUNT).evtNode 2 6
  s.sendCtl r.srcNode ctlUndeliv 0 false [{ part := r.srcPart, vc := r.vc, reason := reason, seqA := r.seq }]

/-- A record arrived from the fabric whose destination is this node. -/
def State.arrived (s : State) (p : Packet) : Bool :=
  (p.inPort.any fun q => s.fabricMode q) && p.record.dstNode == s.nodeId

/-- A node that discards a P record of a group holds its later NP and CPL records at that port (R145). -/
def State.placeHold (s : State) (port : Nat) (r : Record) : State :=
  if r.vc != .p then s
  else
    let h : Hold := { port := port, srcNode := r.srcNode, srcPart := r.srcPart, dstNode := r.dstNode, seq := r.seq }
    if (s.sc.holds.filter fun x => x.port == port).length < 32 then
      ({ s with sc.holds := s.sc.holds ++ [h] }).start (holdTimer h) 2000000
    else (s.updLink port fun l => { l with noHold := true }).reportPort 19 2 port

/-- A pass that is still provisional is undone: EXPECTED returns to the record's sequence (R172). -/
def State.undoPass (s : State) (p : Packet) : State :=
  let d := s.dedup (pktKey p)
  if p.pass == .provisional then s.setDedup (pktKey p) { d with expected := p.record.seq, provisional := none } else s

/-- Discard a packet of the buffer whose loss the source journal or a report covers: an unfinished pass is undone and a P record
holds its group at the port it came in on. -/
def State.discard (s : State) (p : Packet) : State :=
  let s := s.undoPass p
  let s := if s.arrived p && p.pass != .final then
      match p.inPort with | some q => s.placeHold q p.record | none => s
    else s
  s.unbuffer p

/-- Refuse a record before de-duplication (R144, R172). -/
def State.refuse (s : State) (p : Packet) (c : Fld) : State :=
  let s := match p.inPort with | some q => (s.placeHold q p.record).evtFab q 12 | none => s
  ((s.bump c).stop (.refuse p.id)).unbuffer p

/-- Why a record cannot be delivered at this node, if it cannot (Table 06.9): an instance that takes none is named before the slot,
the slot before the port (Table 10.18). -/
def State.undelivReason (s : State) (r : Record) : Option Nat :=
  let p := r.dstPort
  let inst : Option Nat := if r.vc == .cpl then none else r.inst
  if 48 ≤ p then none
  else if inst.any fun i =>
      !s.liveInst i || (s.on PART_FN_A_FROZEN i && s.on PART_FN_A_FREEZE_CPL i) || s.inGenWait i then some 0x02
  else
    let c := s.get PX_SLOT_CHAN p
    if s.on PX_SLOT_VALID p && !(s.on SP_STATUS_RAIL_VALID c && s.on SP_STATUS_PRESENT c) then some 0x04
    else if !s.dlActive p || s.on PX_PORT_STAT_DPC p then some 0x01
    else if r.inst.isSome then none
    else match s.slotOfPort p with
      | some k => if s.get PART_CTRL_STATE k == partActive then none else some 0x03
      | none => none

/-- A record has passed de-duplication finally (R172): HELD advances, and a record that cannot be delivered is reported, or,
being a completion for a host that takes none, discarded (R84). -/
def State.passed (s : State) (p : Packet) : State :=
  let k := pktKey p
  let d := s.dedup k
  let s := (s.setDedup k { d with provisional := none }).owe k
  if s.isEpCpl p.record.srcPart p.record then
    (((s.markDone k p.record.seq).epCpl p.record.srcPart ((recTlp p.record).getD {})).unbuffer p)
  else match s.undelivReason p.record with
  | some reason =>
    let s := if p.record.vc == .cpl && reason == 0x03
      then (s.markDone k p.record.seq).bump PART_CNT_STALE_COUNT
      else s.undelivDest p.record reason
    s.unbuffer p
  | none => s.updPkt p.id fun q => { q with pass := .final }

/-- SYNCED of an incoming flow (R172, R175): clear for the flows of a member that has not answered a cold start. -/
def State.flowSynced (s : State) (k : Nat) : Bool := !s.jnl.unsynced.contains (keyNode k) || (s.dedup k).installed

/-- DEDUP_PRESENT (R172): a charged record is passed, discarded as a duplicate or a gap, or refused. -/
def State.present (s : State) (p : Packet) : State :=
  let k := pktKey p
  let d := s.dedup k
  let q := p.record.seq
  let s := s.stop (.refuse p.id)
  if !s.flowSynced k then (s.refuse p JNL_CNT_UNSYNC_COUNT).evtNode 2 5
  else if d.provisional == some q then s.refuse p SC_CNT_REFUSED_COUNT
  else
    let x := subMod 0x100000000 q d.expected
    let i := subMod 0x100000000 q d.delivered
    if x = 0 then
      if 512 ≤ i then (s.refuse p JNL_CNT_WINDOW_COUNT).evtNode 2 4
      else
        let s := s.setDedup k { d with expected := seqNext q }
        if d.done.contains i then (((s.bump JNL_CNT_DUP_COUNT).evtNode 2 2).unbuffer p).receiptNow k
        else if p.complete then s.passed p
        else
          let s := s.setDedup k { s.dedup k with provisional := some q }
          s.updPkt p.id fun r => { r with pass := .provisional }
    else if 0x80000000 ≤ x then (((s.bump JNL_CNT_DUP_COUNT).evtNode 2 2).unbuffer p).receiptNow k
    else
      let s := (s.bump JNL_CNT_GAP_COUNT).evtNode 2 3
      let s := match p.inPort with | some pt => s.placeHold pt p.record | none => s
      (s.unbuffer p).sendCtl (keyNode k) ctlGap 0 false [{ part := keyPart k, vc := keyVc k, seqA := d.expected }]

/-- The last byte of a record is in the buffer (R172): a provisional pass becomes final. -/
def State.completed (s : State) (id : Nat) : State :=
  let s := s.updPkt id fun p => { p with complete := true }
  match s.pkt id with
  | some p => if p.pass == .provisional then s.passed p else s
  | none => s

/-! ## Admission (R160, R164) -/

/-- Copy a record into the journal: sequence, ADMIT_TS, occupancy, timers. Gives the entry's number. -/
def State.admitRec (s : State) (r : Record) (org : Origin) (inst : Option Nat) (cplId : Nat) : Nat × State :=
  let k := flowKey r.srcPart r.dstNode r.vc
  let n := units r.len
  let f := s.flow k
  let sync := !s.jnl.unsynced.contains r.dstNode
  let r := { r with seq := if sync then f.next else 0, admitTs := s.spindleNs % 0x100000000, srcNode := s.nodeId }
  let e : Entry := { id := s.jnl.nextId, record := r, seq := if sync then some f.next else none, admitted := s.now
                     origin := org, inst := inst, cplId := cplId }
  let s := { s with jnl.entries := s.jnl.entries ++ [e], jnl.nextId := s.jnl.nextId + 1 }
  let s := if sync then s.setFlow k { f with next := seqNext f.next } else s
  let s := (s.setUsed (s.get JNL_OCC_USED + n)).bump JNL_DQOCC_USED r.dstNode n
  let s := s.evtJnl r.dstNode 0 n
  let s := if r.vc == .cpl && r.gen != 0 then s.start (.cplAge e.id) 1000000000 else s
  let g := recGrp r
  (e.id, (s.placeGrp g).grpTimers g false)

/-- The buffer copy of an admitted record stands in its VOQ toward its group's path (R164). -/
def State.egressOf (s : State) (g : Nat) : Nat := fabPort (s.grp g).plane (s.grp g).dir

def State.entry (s : State) (id : Nat) : Option Entry := s.jnl.entries.find? fun e => e.id == id
def State.updEntry (s : State) (id : Nat) (f : Entry → Entry) : State :=
  { s with jnl.entries := s.jnl.entries.map fun e => if e.id == id then f e else e }

/-- The event that reports an entry. -/
def reportsEntry (e : Entry) : Ev → Bool
  | .undeliverable v => v.seq == e.record.seq && v.vc == e.record.vc && v.srcPart == e.record.srcPart && v.dstNode == e.record.dstNode &&
      v.srcNode == e.record.srcNode
  | .fault _ _ | .grains _ _ _ _ | .functionFailed _ _ | .other _ _ => false

/-- The event that reports an entry still waits: its queue has no room for it, or the message that takes it to the home node is not in
the journal (R396). -/
def State.eventHeld (s : State) (e : Entry) : Bool :=
  ((s.slotOf e.record.srcPart).any fun k => (s.queue k).held.any fun x => reportsEntry e x.2) ||
    s.jnl.intWait.any fun t => match t.record.body with | .fw (.event p _ v) => p == e.record.srcPart && reportsEntry e v | _ => false

/-- The room of an entry is free. -/
def State.releaseEntry (s : State) (e : Entry) : State :=
  let n := units e.record.len
  (s.setUsed (s.get JNL_OCC_USED - n)).set JNL_DQOCC_USED (s.get JNL_DQOCC_USED e.record.dstNode - n) e.record.dstNode

/-- Free an entry (R171): its copies that have not started leave the buffer. One whose event waits keeps its room (R396). -/
def State.freeEntry (s : State) (e : Entry) : State :=
  let s := { s with jnl.entries := s.jnl.entries.filter fun x => x.id != e.id }
  let s := if s.eventHeld e then { s with jnl.parked := s.jnl.parked ++ [e] } else s.releaseEntry e
  let s := s.stop (.cplAge e.id)
  (s.sc.pkts.filter fun p => p.entry == some e.id && !p.started && !p.gone).foldl (fun s p => s.unbuffer p) s

/-- Establish admission reserves (R163, R165): the internal reserve first, then those of the ports that wait, each whole and
under the conditions of a restoration; none before recovery and ADMIT_EN (R186), or while a warning holds them back (R487). -/
def State.establish (s : State) : State :=
  if !(s.jnl.recovered && s.on JNL_CTRL_ADMIT_EN && s.mayRestore && !s.on PST_STATUS_PF_HOLD) then s
  else
    let room (s : State) (n : Nat) : Bool := n ≤ s.entriesFree &&
      (!s.on JNL_CTRL_E_GATE || s.get JNL_STATUS_PST_FITTED == 0 || s.get JNL_VCOMMIT_VCOMMIT + n ≤ s.get JNL_VMAX_VMAX)
    let need := 256 - s.jnl.intRes
    let s := if need != 0 && room s need
      then ({ s with jnl.intRes := 256 }).setResv (s.get JNL_RESV_RESV + need) else s
    (s.jnl.admRes.map Prod.fst).foldl (init := s) fun s p =>
      let r := s.admitRes p
      if r.got = 0 && r.size != 0 && (s.px p).waiting && room s r.size && !s.part.recordsDue then s.restore p r.size else s

/-- Entries whose event has found its room are freed (R396). -/
def State.unpark (s : State) : State :=
  let go := s.jnl.parked.filter fun e => !s.eventHeld e
  if go.isEmpty then s
  else (go.foldl (fun (s : State) e => s.releaseEntry e) { s with jnl.parked := s.jnl.parked.filter fun e => s.eventHeld e }).establish

/-- The admission reserve of a port is released (R163). -/
def State.dropAdmit (s : State) (p : Nat) : State :=
  let r := s.admitRes p
  { s with jnl.admRes := Tab.put {} s.jnl.admRes p {} }.setResv (s.get JNL_RESV_RESV - r.got)

/-! ## Undeliverable reports (R188) -/

/-- The journal event of a record (Table 06.10). -/
def State.jEvent (s : State) (r : Record) (reason : Nat) : JEvent :=
  let t := (recTlp r).getD {}
  { reason := reason, vc := r.vc, nonPosted := tlpNonPosted t && (recTlp r).isSome, dstNode := r.dstNode
    srcNode := r.srcNode, seq := r.seq, addr := if r.vc == .cpl then 0 else t.addr, requester := t.reqId, tag := t.tag
    dstPort := r.dstPort, srcPart := r.srcPart, admitTs := r.admitTs, reportTs := s.spindleNs % 0x100000000 }

/-- UNDELIVERABLE_REPORT (R188): the event in the source partition's queue, the fabric manager's copy, the error in the
management endpoint, and UR for a non-posted request. -/
def State.undeliverable (s : State) (r : Record) (reason cplId : Nat) : State :=
  let ev := s.jEvent r reason
  let s := (s.evtNode 2 6).raiseEvent r.srcPart (.undeliverable ev)
  let s := if (reason == 5 || reason == 7 || reason == 8) && s.fmHolder != some r.srcPart
    then s.raiseFm (.undeliverable ev) else s
  let s := match s.slotOf r.srcPart with
    | some k => s.aer k fnMgmt aerInternal
    | none => s
  match recTlp r with
  | some t => if tlpNonPosted t && r.vc != .mg then s.synth r.srcPart s.nodeId t.reqId t.tag cplId .ur else s
  | none => s

/-! ## Writes of the data mover (R257, R264) -/

/-- Change the writes that the descriptors of every channel have formed. -/
def State.mapWrites (s : State) (f : DmWr → DmWr) : State :=
  { s with dm.chans := Tab.mapVals {} (fun _ (c : DmCh) =>
      { c with descs := c.descs.map fun (d : Desc) => { d with writes := d.writes.map f } }) s.dm.chans }

/-- A write of the data mover is accepted: it stands in a journal entry. -/
def State.dmAdmitted (s : State) (w e : Nat) : State :=
  s.mapWrites fun x => if x.id == w then { x with entry := some e } else x

/-- The writes of the data mover that `f` picks have been reported undeliverable. -/
def State.dmLose (s : State) (f : DmWr → Bool) : State :=
  let ws := s.dm.chans.flatMap fun c => c.2.descs.flatMap fun d => d.writes.filter f
  if ws.isEmpty then s else { s with dm.lost := s.dm.lost ++ ws.map fun w => w.id }

/-- Report an entry of this node's journal, once. -/
def State.reportEntry (s : State) (e : Entry) (reason : Nat) : State :=
  if e.reported then s
  else ((s.dmLose fun w => w.entry == some e.id).updEntry e.id fun x => { x with reported := true }).undeliverable e.record reason e.cplId

/-! ## Purges (R189, R190) -/

/-- Entries of a flow up to `u`, oldest first. -/
def State.flowUpTo (s : State) (k u : Nat) : List Entry :=
  s.jnl.entries.filter fun e => entryFlow e == k && (e.seq.any fun q => upTo q u)

/-- The first purge that names a sequence. -/
def markOf (ms : List Mark) (q : Nat) : Option Mark := ms.find? fun m => upTo q m.upTo

/-- Report, as the first purge that named it requires, and free the entries of a flow up to `u`; `spare` are the sequences that
reached their port or were reported already. -/
def State.purgeFree (s : State) (k u : Nat) (spare : Nat → Bool) : State :=
  let ms := (s.flow k).purge
  let s := (s.flowUpTo k u).foldl (init := s) fun s e =>
    let q := e.seq.getD 0
    let s := (s.bump JNL_CNT_PURGE_COUNT).evtNode 2 7
    let s := match markOf ms q with
      | some m => if m.silent || spare q then s else s.reportEntry e m.reason
      | none => s
    s.freeEntry e
  let f := s.flow k
  s.setFlow k { f with oldest := seqNext u }

/-- The purge of a flow up to `u` has ended: Purge Destination commands that wait for it. -/
def State.purgeEnded (s : State) (k u : Nat) : State :=
  { s with jnl.purgeCmds := s.jnl.purgeCmds.map fun c => (c.1, c.2.filter fun x => !(x.1 == k && upTo x.2 u)) }

/-- Purge a flow up to `u` (R189): the flow stops and PURGE is sent; with the destination unreachable its entries are reported
and freed at once, and PURGE is sent when the group becomes reachable again. -/
def State.purge (s : State) (k u reason : Nat) (silent : Bool) : State :=
  let f := s.flow k
  let g := k / 8
  let s := s.setFlow k { f with purge := f.purge ++ [{ upTo := u, reason := reason, silent := silent }] }
  if (s.grp g).unreachable then (s.purgeFree k u fun _ => false).purgeEnded k u
  else if f.purge.isEmpty then (s.sendPurge k).grpTimers g true
  else s

/-- Purge every entry of a group with a reason, each flow up to its newest entry. -/
def State.purgeGroup (s : State) (g reason : Nat) : State :=
  [VC.p, .np, .cpl, .tt, .mg].foldl (init := s) fun s vc =>
    let k := g * 8 + vc.code
    if (s.jnl.entries.any fun e => entryFlow e == k) then s.purge k (seqPrev (s.flow k).next) reason (vc == .cpl && reason == 7)
    else s

/-! ## Members met (R174 to R176) -/

/-- Ask a member to synchronise (R175): SYNC_REQ carries the sync number. -/
def State.askSync (s : State) (n : Nat) : State :=
  let s := s.sendCtl n ctlSyncReq s.jnl.syncNo false []
  let s := { s with jnl.syncAsked := if s.jnl.syncAsked.contains n then s.jnl.syncAsked else s.jnl.syncAsked ++ [n] }
  (s.flag JNL_STATUS_SYNC_PENDING true).startIfNot .syncResend s.heldTmoNs

/-- REWIND to a member, and with it a receipt for every flow from it that holds state (R169, R174). -/
def State.sendRewind (s : State) (n : Nat) : State :=
  let s := s.sendCtl n ctlRewind 0 false []
  ((s.jnl.dedup.filter fun x => keyNode x.1 == n).map Prod.fst).foldl (fun s k => s.receiptNow k) s

/-- Members `ns` have become reachable: a cold node asks those it has still to hear from; a node that rejoins with its journal
sends REWIND. -/
def State.meet (s : State) (ns : List Nat) : State :=
  ns.foldl (init := s) fun s n =>
    let s := if s.jnl.unsynced.contains n then s.askSync n else s
    if s.jnl.rewindDue then s.sendRewind n else s

end Sys2Proof.Machine
end

