-- ==== Sys2Proof/Machine/RingOps.lean ====
section
/-! DEFINITION. Shared operations of the ring router (01): discovery runs, what completing one brings about, RING_HOLD, joins
and leaves. -/

namespace Sys2Proof.Machine

/-- A discovery check has failed (R23): the event reaches the fabric manager through the collector (14, cause 0x6010). -/
def State.discEvent (s : State) (pl : Plane) : State := s.reportNode (15 + Plane.code pl) 1 0x6010

/-- The pin of a plane follows `high` (R36). -/
def State.setHold (s : State) (pl : Plane) (high : Bool) : State :=
  (s.flag (fHold pl) high).emit (.ringHold pl high)

/-- What falls with the pin of a plane: the plane is Off for this node (Table 01.3, Table 01.5). -/
def State.dropHold (s : State) (pl : Plane) : State :=
  if !s.on (fHold pl) then s
  else
    let s := s.setHold pl false
    let s := ((s.set (fPlaneState pl) planeOff).set (fMembers pl) 0).set (fSegUp pl) 0
    let s := ((s.set (fCount pl) 0).setDisc pl none).stop (.disc pl)
    s.checkGroups

/-- A join ends or is abandoned: hardware clears JOIN (R41). -/
def State.endJoin (s : State) : State :=
  ({ s with ring.join := none }.flag RING_CTRL_JOIN false).stop .joinClean

/-- Clearing an enable during a step of its plane abandons the join (R41); the pin falls with its enable (R36). -/
def State.enableCleared (s : State) (pl : Plane) : State :=
  let s := match s.ring.join with
    | some j => if j.plane == pl then s.endJoin else s
    | none => s
  s.dropHold pl

/-- The conditions of R36 other than the join itself. -/
def State.holdAllowed (s : State) (pl : Plane) : Bool :=
  s.on (fHoldEn pl) && s.get FC_STATE_NODE_STATE != 3 && s.fabricMode (fabPort pl .east) && s.fabricMode (fabPort pl .west)

/-- Segments a run found up: the neighbours in the order of the records, going the way the message was launched, and the last
closing on the originator where the message was not turned. -/
def runSegs (own : Nat) (d : Dir) (x : List NodeRec × Bool) : List Nat :=
  let ns := x.1.map fun r => r.node
  let chain := if x.2 then ns else ns ++ [own]
  (chain.zip chain.tail).map fun ab => match d with | .east => ab.1 | .west => ab.2

/-- Two entries of a list are equal. -/
def hasDup : List Nat → Bool
  | [] => false
  | x :: xs => xs.contains x || hasDup xs

/-- The checks of R23 on what the two messages brought: a Node ID from two positions, two different nonzero RING_FITTED
values, more than 16 records. -/
def runFails (own : Nat) (e w : List NodeRec × Bool) : Bool :=
  let ne := e.1.map fun r => r.node
  let nw := w.1.map fun r => r.node
  let fit := ((e.1 ++ w.1).map fun r => r.fitted).filter fun f => f != 0
  hasDup ne || hasDup nw ||
    (e.2 && w.2 && (ne.drop 1).any fun n => (nw.drop 1).contains n) ||
    (ne.drop 1).contains own || (nw.drop 1).contains own ||
    (match fit with | f :: fs => fs.any fun g => g != f | [] => false) ||
    16 < e.1.length || 16 < w.1.length

/-- A node that is no longer a member of either plane is forgotten: its epochs and run numbers (R30). -/
def State.forget (s : State) : State :=
  let mem := s.get RING_MEMBER_A_MEMBERS ||| s.get RING_MEMBER_B_MEMBERS
  { s with ring.seen := s.ring.seen.filter fun x => bit mem x.reporter
           ring.runsSeen := s.ring.runsSeen.filter fun x => bit mem (x.1 % 16) }

/-- Ports of a plane are in training (Table 01.3, Joining). -/
def State.training (s : State) (pl : Plane) : Bool :=
  [Dir.east, .west].any fun d =>
    let st := s.linkState (fabPort pl d)
    lsDetect ≤ st && st ≤ lsInit || st == lsRetrain

/-- What a node does on joining, once (R83, R174, R511): its partitions' records go to every member; a journal kept through a
reset sends REWIND; the records of the other nodes come from the fabric manager's home. -/
def State.firstMet (s : State) (new : List Nat) : State :=
  if new.isEmpty then s
  else
    let mine := (List.range 16).filter fun k => s.on PART_CTRL_VALID k
    let s := if s.ring.met then s else mine.foldl (fun s k => s.distribute (s.get PART_CTRL_PART_ID k)) s
    let fmHere : Bool := s.fmHolder.any fun p => (s.slotOf p).isSome
    let s := if fmHere then
        ((List.range 64).filter fun q => (s.partRec q).present).foldl (init := s) fun s q =>
          let r := s.partRec q
          new.foldl (init := s) fun s n => s.sendFw q n (.other fwRecord
            [q, 1, r.home, r.state, r.upPort, r.homePlane, r.upBus, r.intBus])
      else if !s.ring.met && s.ring.fmHomes.any (fun n => n != s.nodeId) then { s with part.recordsDue := true } else s
    let s := s.meet new
    { s with ring.met := true, jnl.rewindDue := false }

/-- DISCOVERY_RUN_COMPLETE (R23): the member list is replaced and checked; the routes, the privilege and the join follow. -/
def State.completeRun (s : State) (pl : Plane) (d : DiscRun) : State :=
  let own := s.ownRec pl
  let e := d.east.getD ([own], true)
  let w := d.west.getD ([own], true)
  let s := (s.setDisc pl none).stop (.disc pl)
  let before := s.others
  let recs := e.1 ++ w.1
  let mask := recs.foldl (fun m r => setBit m r.node true) (2 ^ s.nodeId)
  let segs := (runSegs s.nodeId .east e ++ runSegs s.nodeId .west w).foldl (fun m n => setBit m n true) 0
  let s := (s.set (fMembers pl) mask).set (fCount pl) (pop16 mask)
  let s := match pl with
    | .a => { s with ring.pathA := segs }
    | .b => { s with ring.pathB := segs }
  let homes := (recs.filter fun r => r.fmHome && r.node != s.nodeId).map fun r => r.node
  let s := { s with ring.fmHomes := homes
                    ring.features := recs.foldl (fun t (r : NodeRec) => Tab.put 0 t r.node r.feature) s.ring.features }
  let s := s.forget
  let s :=
    if runFails s.nodeId e w then (s.set (fPlaneState pl) planeFailed).discEvent pl
    else if s.planeState pl == planeJoining && mask == 2 ^ s.nodeId && s.training pl then s
    else s.set (fPlaneState pl) planeLine
  let s := s.flag RING_STATUS_DISC_ERR (s.planeState .a == planeFailed || s.planeState .b == planeFailed)
  let s := (s.refreshPlane pl).checkGroups
  let s := (s.compareFm).checkFm
  let s := if s.planeOpen pl then s.firstMet (s.others.filter fun n => !before.contains n || !s.ring.met) else s
  -- step 3 of a join ends with the plane Ring or Line; step 4 begins (R41)
  let s := match s.ring.join with
    | some j =>
      if j.plane == pl && j.step == JoinStep.training && s.planeOpen pl then
        ({ s with ring.join := some { j with step := .clean } }).start .joinClean (s.get RING_TIMERS_RETURN_CLEAN * 1000000)
      else s
    | none => s
  if s.planeOpen .a && s.planeOpen .b && s.get MB_BOOT_STAGE == 6 then s.set MB_BOOT_STAGE 7 else s

/-- DISCOVERY_RUN_START (R21): one message East and one West with a new run number; the message toward a port that carries
nothing has ended at once with the node's own record. -/
def State.startRun (s : State) (pl : Plane) : State :=
  if !s.on (fHold pl) then s
  else
    let run := seqNext (s.runOf pl)
    let own := s.ownRec pl
    let s := match pl with
      | .a => { s with ring.runA := run }
      | .b => { s with ring.runB := run }
    let launch (s : State) (d : Dir) : State × Option (List NodeRec × Bool) :=
      let p := fabPort pl d
      if s.linkCarries p then
        (s.sendMsg p (.disc { plane := pl, launch := d, origin := s.nodeId, run := run, recs := [own] }), none)
      else (s, some ([own], true))
    let e := launch s .east
    let w := launch e.1 .west
    let r : DiscRun := { run := run, east := e.2, west := w.2 }
    let s := (w.1.setDisc pl (some r)).start (.disc pl) (s.get RING_TIMERS_DISC_TIMEOUT * 10000)
    if e.2.isSome && w.2.isSome && s.planeState pl != planeJoining then s.completeRun pl r else s

/-- A planned leave of a plane begins (R42): leaving is sent for both segments, the groups move, LEAVE_WAIT runs. A planned
retrain of the plane that has not reached QUIESCE is withdrawn (R77). -/
def State.startLeave (s : State) (pl : Plane) : State :=
  if !s.on (fHold pl) then s
  else
    let withdraw (s : State) (p : Nat) : State :=
      let s := (s.updLink p fun l => { l with sched := none, req := none }).stop (.req p)
      if s.linkState p == lsLeaving then ((s.set ML_STATUS_STATE lsActive p).setK p).stop (.rtMove p) else s
    let s := withdraw (withdraw s (fabPort pl .east)) (fabPort pl .west)
    let s := (s.reportSegment (fabPort pl .east) .leaving).reportSegment (fabPort pl .west) .leaving
    let s := match pl with
      | .a => { s with ring.leavingA := true }
      | .b => { s with ring.leavingB := true }
    s.start (.leaveWait pl) (s.get RING_TIMERS_LEAVE_WAIT * 1000)

/-- A join starts (R41) for each plane enabled whose pin is not high; one that has nothing to join has no effect. The write of JOIN
releases held RING_HOLD pads (R454). -/
def State.startJoin (s : State) : State :=
  if s.ring.join.isSome then s
  else
    let want (pl : Plane) : Bool := s.holdAllowed pl && !s.on (fHold pl)
    let run : Option JoinRun :=
      if want .a then some { plane := .a, step := .waitOther, thenB := want .b }
      else if want .b then some { plane := .b, step := .waitOther, thenB := false }
      else none
    match run with
    | some j =>
      let s := ({ s with ring.join := some j }.flag RING_CTRL_JOIN true).set PWR_PADHOLD_RING 0
      if s.get MB_BOOT_STAGE == 5 then s.set MB_BOOT_STAGE 6 else s
    | none => s.flag RING_CTRL_JOIN false

/-- No link-state message of the last 10 ms has reported a segment down on the plane (R41). -/
def State.quiet (s : State) (pl : Plane) : Bool :=
  match (match pl with | .a => s.ring.lastDownA | .b => s.ring.lastDownB) with
  | some t => t + 10000000 ≤ s.now
  | none => true

/-- The pin of a plane rises and its ports train (R41 steps 2 and 5). -/
def State.raiseHold (s : State) (pl : Plane) (thenB : Bool) : State :=
  let s := ({ s with ring.join := some { plane := pl, step := .training, thenB := thenB } }).setHold pl true
  let s := match pl with
    | .a => { s with ring.leavingA := false }
    | .b => { s with ring.leavingB := false }
  (s.set (fPlaneState pl) planeJoining).startRun pl

/-- A join of one plane, or of the second plane of two, ends after its step 4 or 3 (R41); the local clock finds it. -/
def State.joinTick (s : State) : State :=
  match s.ring.join with
  | some j =>
    if j.step == .clean && !j.thenB && s.quiet j.plane &&
        (s.timers.any fun x => x.1 == .joinClean && x.2 ≤ s.now) then s.endJoin
    else s
  | none => s

end Sys2Proof.Machine
end

