-- ==== Sys2Proof/Machine/TimeOps.lean ====
section
/-! DEFINITION. Shared operations of the Spindle (07): stepping and slewing, the election of a grandmaster, time states, Turns that
are suspended and resume, captures, stream reservations. -/

namespace Sys2Proof.Machine

/-! ## The counter (R192, R199) -/

/-- The counter read now is its new base: what follows may change its rate. -/
def State.rebase (s : State) : State :=
  let left := s.spn.slew - slewDone (s.get SPN_HOLD_SLEW_MAX) s.spn.slew (s.now - s.spn.at_)
  { s with spn.base := s.spindle, spn.at_ := s.now, spn.slew := left }

/-- Local time goes on until the Spindle has reached `t` ns; the rate differs from 1 by so little that a few goes reach it. -/
def State.spinTo (s : State) (t : Nat) : Nat → State
  | 0 => s
  | n + 1 => if s.spindleNs < t then { s with now := s.now + (t - s.spindleNs) }.spinTo t n else s

def State.until (s : State) (t : Nat) : State := s.spinTo t 8

/-- The state of time (Table 07.4), and whether it is VALID or HOLDOVER. -/
def State.timeState (s : State) : Nat := s.get SPN_STATUS_STATE
def State.timeGood (s : State) : Bool := s.timeState == spnValid || s.timeState == spnHoldover

/-! ## Turns as time changes (R209, R213, R214) -/

def State.turn (s : State) (i : Nat) : Turn := Tab.get {} s.spn.turns i
def State.setTurn (s : State) (i : Nat) (t : Turn) : State := { s with spn.turns := Tab.put {} s.spn.turns i t }

/-- Spindle time of the next launch. -/
def Turn.next (t : Turn) : Nat := t.start + t.n * t.period

/-- Reasons of a Turn report (R213). -/
abbrev trLate : Nat := 1
abbrev trSkipped : Nat := 2
abbrev trDropped : Nat := 3
abbrev trEnded : Nat := 4
abbrev trSuspended : Nat := 5
abbrev trResumed : Nat := 6

/-- A Turn report in the owner's event queue. -/
def State.turnReport (s : State) (i reason time : Nat) : State :=
  match (s.turn i).owner with
  | some p => s.raiseEvent p (.other 0x52 [reason, i, time, if s.timeState == spnHoldover then 1 else 0])
  | none => s

/-- The first occurrence number of a periodic Turn at `t` or later. -/
def Turn.firstAt (x : Turn) (t : Nat) : Nat := if t ≤ x.start then 0 else ceilDiv (t - x.start) x.period

/-- Occurrences of an armed Turn before `t` are skipped and counted; a single one whose time has passed disarms (R214). -/
def State.skipTurn (s : State) (i t : Nat) : State :=
  let x := s.turn i
  if !x.armed || t ≤ x.next then s
  else if x.period = 0 then
    (((s.setTurn i { x with armed := false }).bump SPN_CNT_TURN_SKIP_COUNT).evtNode 3 5).turnReport i trSkipped x.start
  else
    let m := x.firstAt t
    let s := ((s.setTurn i { x with n := m }).bump SPN_CNT_TURN_SKIP_COUNT 0 (m - x.n)).evtNode 3 5 (m - x.n)
    s.turnReport i trSkipped x.next

def State.armed (s : State) : List Nat := (s.spn.turns.filter fun x => x.2.armed).map Prod.fst

/-- Armed Turns are suspended, each reported once (R214). -/
def State.suspendTurns (s : State) : State :=
  s.armed.foldl (init := s) fun s i =>
    let x := s.turn i
    if x.suspended then s else (s.setTurn i { x with suspended := true }).turnReport i trSuspended x.next

/-- Suspended Turns resume at their first occurrence at least 2 µs ahead. -/
def State.resumeTurns (s : State) : State :=
  s.armed.foldl (init := s) fun s i =>
    if !(s.turn i).suspended then s
    else
      let s := (s.setTurn i { s.turn i with suspended := false }).skipTurn i (s.spindleNs + 2000)
      if (s.turn i).armed then s.turnReport i trResumed (s.turn i).next else s

/-! ## Time states (R203, R204, R217) -/

/-- The state of time changes: Turns are suspended or resume, a PPS_OUT pulse ends, HOLD_MAX runs in HOLDOVER only. -/
def State.setTime (s : State) (st : Nat) : State :=
  if st = s.timeState then s
  else
    let s := (s.set SPN_STATUS_STATE st).stop .holdover
    let s := if st = spnHoldover then s.start .holdover (s.get SPN_HOLD_HOLD_MAX * 1000000) else s
    if s.timeGood then s.resumeTurns
    else
      let s := if s.spn.ppsHigh then ({ s with spn.ppsHigh := false }.stop .ppsFall).emit (.ppsOut false) else s
      s.suspendTurns

/-- The counter changes by a whole difference: counted and reported (R199). -/
def State.stepBy (s : State) (d : Int) : State :=
  let s := s.bwBefore.rebase
  let v := ((s.spn.base : Int) + d) % (2 ^ 80 : Nat)
  (({ s with spn.base := v.toNat, spn.slew := 0 }.bump SPN_CNT_STEP_COUNT).evtNode 3 2).bwAfter.reportNode 26 0

/-- STEP_THR in units of 2^-16 ns. -/
def State.stepThr (s : State) : Nat := s.get SPN_SYNC_STEP_THR * 100 * 65536

/-- A difference above STEP_THR: VALID and HOLDOVER become ACQUIRING, and the node steps (R199). -/
def State.stepOver (s : State) (d : Int) : State :=
  (if s.timeGood then s.setTime spnAcquiring else s).stepBy d

/-- The Spindle moves toward its source by slewing, or by a step (R199). -/
def State.moveTo (s : State) (d : Int) : State :=
  if s.stepThr < d.natAbs then s.stepOver d
  else
    let s := s.rebase
    { s with spn.slew := d }

/-- The servo's rate for an offset (R201): a time constant of 16 × SYNC_INT, at most SLEW_MAX; in units of 2^-32. -/
def State.servoRate (s : State) (theta : Int) : Int :=
  let max : Int := (s.get SPN_HOLD_SLEW_MAX * 4294967296 / 1000000 : Nat)
  let r := theta * 65536 / (16 * s.get SPN_SYNC_SYNC_INT * 1000 : Nat)
  if r < -max then -max else if max < r then max else r

/-! ## The grandmaster (R195, R197) -/

/-- The criteria of R195 in order. -/
def Cand.better (a b : Cand) : Bool :=
  b.cls < a.cls || (a.cls == b.cls && (a.prio < b.prio || (a.prio == b.prio && a.node < b.node)))

/-- This node's own candidacy. -/
def State.ownCand (s : State) : Option Cand :=
  if s.get SPN_CTRL_GM_PRIO = 255 then none
  else some { node := s.nodeId, prio := s.get SPN_CTRL_GM_PRIO
              cls := if s.on SPN_CTRL_PPS_IN_EN && s.on SPN_PPS_PPS_LOCK then 2
                else if s.on SPN_CTRL_PTM_HOST_EN && s.spn.hostTime then 1 else 0 }

/-- The announcements that stand, by port: of ports in ACTIVE, from a sender that follows a grandmaster other than this node and
leaves a hop to count. -/
def State.heard (s : State) : List (Nat × AnnMsg) :=
  [45, 44, 47, 46].filterMap fun p =>
    match Tab.get none s.spn.seen p with
    | some a => if s.linkState p == lsActive && a.m.state != spnInvalid && a.m.gmId != s.nodeId && a.m.hops < 15
        then some (p, a.m) else none
    | none => none

def annCand (m : AnnMsg) : Cand := { node := m.gmId, cls := m.gmClass, prio := m.gmPrio }

def bestCand : List Cand → Option Cand
  | [] => none
  | c :: cs => some (cs.foldl (fun b x => if x.better b then x else b) c)

def State.isGm (s : State) : Bool := s.spn.gm.any fun g => g.node == s.nodeId

/-- PARENT, HOPS, the grandmaster and TRACEABLE as SPN_STATUS shows them. -/
def State.showTime (s : State) : State :=
  let m := (s.spn.parent.bind fun p => Tab.get none s.spn.seen p).map fun a => a.m
  let g := s.spn.gm.getD { node := 0, cls := 0, prio := 0 }
  let s := (s.set SPN_STATUS_GM_ID g.node).set SPN_STATUS_GM_CLASS g.cls
  let s := s.set SPN_STATUS_PARENT (match s.spn.parent with | some p => p - 40 | none => 0)
  let s := s.set SPN_STATUS_HOPS (match m with | some m => m.hops + 1 | none => 0)
  let s := s.flag SPN_STATUS_STEP_PEND s.spn.step.isSome
  s.flag SPN_STATUS_TRACEABLE (if s.isGm then s.on SPN_PPS_PPS_LOCK && s.spn.hostSet else m.any fun m => m.traceable)

/-- The parent of R197: fewest hops to the grandmaster, FA-W before FA-E before FB-W before FB-E, kept while nothing is better. -/
def State.bestParent (s : State) : Option Nat :=
  match s.spn.gm with
  | none => none
  | some g =>
    if g.node == s.nodeId then none
    else
      let xs := s.heard.filter fun x => x.2.gmId == g.node
      match (xs.map fun x => x.2.hops).min? with
      | none => none
      | some h =>
        match s.spn.parent with
        | some p => if xs.any fun x => x.1 == p && x.2.hops == h then some p else (xs.find? fun x => x.2.hops == h).map Prod.fst
        | none => (xs.find? fun x => x.2.hops == h).map Prod.fst

/-- A grandmaster is VALID once its time clock is judged; one that held over is VALID at once (Table 07.5). -/
def State.gmValid (s : State) : State :=
  if !s.isGm then s
  else if s.timeState == spnHoldover || (s.timeState == spnAcquiring && s.on CLK_STATUS_TIME_JUDGED) then s.setTime spnValid
  else s

/-- The parent is chosen (R197) and the state follows (Table 07.5): with a parent, or as grandmaster, INVALID becomes ACQUIRING;
without either, VALID holds over and ACQUIRING is INVALID. -/
def State.follow (s : State) : State :=
  let p := s.bestParent
  let s := if p == s.spn.parent then s else { s with spn.parent := p, spn.good := 0 }
  let s := if s.isGm || p.isSome then (if s.timeState == spnInvalid then s.setTime spnAcquiring else s)
    else if s.timeState == spnValid then s.setTime spnHoldover
    else if s.timeState == spnAcquiring then s.setTime spnInvalid
    else s
  s.gmValid.showTime

/-- A grandmaster is taken: a new one keeps its Spindle (R195). -/
def State.adopt (s : State) (c : Cand) : State :=
  let s := { s with spn.gm := some c, spn.rival := none }.stop .gmSettle
  (if c.node == s.nodeId then { s with spn.epoch := seqNext s.spn.epoch } else s).follow

/-- The grandmaster is still there: this node as a candidate, or one that an announcement names and R29 reaches. -/
def State.gmAlive (s : State) (g : Cand) : Bool :=
  if g.node == s.nodeId then s.ownCand.isSome
  else (s.heard.any fun x => x.2.gmId == g.node) && (s.reachable g.node || !(s.planeOpen .a || s.planeOpen .b))

/-- The ranking of R195: a lost grandmaster is replaced at once, a better candidate once its announcements have been unchanged
for 1 s. -/
def State.elect (s : State) : State :=
  let cands := s.ownCand.toList ++ s.heard.map fun x => annCand x.2
  match bestCand cands with
  | none => { s with spn.gm := none, spn.rival := none }.stop .gmSettle |>.follow
  | some b =>
    match s.spn.gm with
    | none => s.adopt b
    | some g =>
      if !s.gmAlive g then s.adopt b
      else
        let s := { s with spn.gm := bestCand (cands.filter fun c => c.node == g.node) }
        if b.node == g.node then ({ s with spn.rival := none }.stop .gmSettle).follow
        else if s.spn.rival == some b then s.follow
        else ({ s with spn.rival := some b }.start .gmSettle 1000000000).follow

/-- The parent of a node is gone: VALID holds over (Table 07.5), and a new parent is chosen at once (R228). -/
def State.parentLost (s : State) (p : Nat) : State :=
  let was : Bool := s.spn.parent == some p
  let s := { s with spn.seen := Tab.put none s.spn.seen p none }.stop (.absent p)
  let s := if was then (if s.timeState == spnValid then s.setTime spnHoldover else s) else s
  (if was then { s with spn.parent := none, spn.good := 0 } else s).elect

/-- The link of a port is declared down: its announcements and its exchange are gone. -/
def State.timeDown (s : State) (p : Nat) : State :=
  ({ s with spn.exch := Tab.put none s.spn.exch p none }.stop (.exch p)).parentLost p

/-- This node's announcement (Table 07.1), built from its own state. -/
def State.ownAnn (s : State) : AnnMsg :=
  let g := s.spn.gm.getD { node := 0, cls := 0, prio := 0 }
  { gmId := g.node, gmClass := g.cls, gmPrio := g.prio, gmEpoch := s.spn.epoch, hops := s.get SPN_STATUS_HOPS
    traceable := s.on SPN_STATUS_TRACEABLE, state := s.timeState, stepAnnounced := s.spn.step.isSome
    stepAt := (s.spn.step.map Prod.fst).getD 0, stepDelta := (s.spn.step.map Prod.snd).getD 0 }

/-- A coordinated step is announced by the grandmaster (R198): 2 ms ahead. -/
def State.announceStep (s : State) (d : Int) : State :=
  { s with spn.step := some (s.spindleNs + 2000000, d), spn.epoch := seqNext s.spn.epoch }.showTime

/-! ## Captures (R216) -/

/-- The queue of a partition takes one more event now: it is at another node, or its ring or store has room (R396). -/
def State.queueRoom (s : State) (part : Nat) : Bool :=
  match s.slotOf part with
  | some k => let q := s.queue k; (q.ring.length < 62 && q.store.isEmpty) || (q.store.length < 448 && q.held.isEmpty)
  | none => true

/-- A capture as an event (Table 07.9). -/
def captEv (pin : Nat) (c : Capt) (pps : Bool) : Ev :=
  .other 0x51 [pin + (if c.rising then 8 else 0) + (if c.holdover then 16 else 0) + (if c.invalid then 32 else 0) +
    (if c.lost then 64 else 0) + (if pps then 128 else 0), c.time / 65536, c.time % 65536]

/-- Who a pin's captures go to: its owner, and for PPS_IN, pin 8, the fabric manager. -/
def State.pinOwner (s : State) (n : Nat) : Option Nat :=
  if n = 8 then s.fmHolder else if s.on SPN_PIN_OWN_VALID n then some (s.get SPN_PIN_OWNER n) else none

/-- The FIFO of a pin drains into its owner's event queue while that has room. -/
def State.drainPin (s : State) (n : Nat) : Nat → State
  | 0 => s
  | fuel + 1 =>
    match Tab.get [] s.spn.fifo n, s.pinOwner n with
    | c :: cs, some p =>
      if s.queueRoom p then
        ({ s with spn.fifo := Tab.put [] s.spn.fifo n cs }.raiseEvent p (captEv (n % 8) c (n == 8))).drainPin n fuel
      else s
    | _, _ => s

def State.drainPins (s : State) : State := (List.range 9).foldl (fun s n => s.drainPin n 16) s

/-- An edge is captured: stored in the pin's FIFO of 16, or lost (R216). -/
def State.capture (s : State) (n : Nat) (rising : Bool) : State :=
  let q := Tab.get [] s.spn.fifo n
  if 16 ≤ q.length then
    { s with spn.capLost := if s.spn.capLost.contains n then s.spn.capLost else s.spn.capLost ++ [n] }.bump SPN_CNT_CAP_LOST_COUNT
  else
    let c : Capt := { rising := rising, time := s.stamp, holdover := s.timeState == spnHoldover, invalid := !s.timeGood
                      lost := s.spn.capLost.contains n }
    { s with spn.fifo := Tab.put [] s.spn.fifo n (q ++ [c]), spn.capLost := s.spn.capLost.filter fun m => m != n }.evtNode 3 7 |>.drainPin n 16

/-! ## Reservations (R220 to R222) -/

/-- The TT stream of a record: its route group with its source node. -/
def streamKey (r : Record) : Nat := (r.srcNode * 64 + r.srcPart) * 16 + r.dstNode
def streamSrc (k : Nat) : Nat := k / 1024
def streamPart (k : Nat) : Nat := k / 16 % 64
def streamDst (k : Nat) : Nat := k % 16

/-- A stream has a reservation at port `p` that is not degraded. -/
def State.reserved (s : State) (k p : Nat) : Bool := s.spn.resv.any fun x => x.stream == k && x.port == p && !x.degraded

/-- C of R222: flits in a Grain. -/
def State.grainFlits (s : State) (p : Nat) : Nat := 64 / s.flitNs p

/-- A reservation holds Grain `i` of the wheel. -/
def Resv.holds (x : Resv) (i : Nat) : Bool := (i + 1024 - x.phase % 1024) % x.period == 0

def sumAt (xs : List Resv) (f : Resv → Nat) (i : Nat) : Nat := ((xs.filter fun x => x.holds (i % 1024)).map f).sum

/-- Credits an occurrence admits (R222). -/
def Resv.credits (x : Resv) : Nat := ceilDiv (x.r * 236) 64

/-- R222 for a reservation `x` beside those a port keeps: the status that rejects it, if one does. -/
def State.resvStatus (s : State) (p : Nat) (kept : List Resv) (x : Resv) : Option Nat :=
  let grant := (s.link p).peerAdv.tt
  let xs := x :: kept
  if s.get SPN_PORT_K p = 0 || grant = 0 then some 5
  else if s.grainFlits p ≤ x.r || (List.range 1024).any (fun i => s.grainFlits p ≤ sumAt xs Resv.r i) then some 7
  else if s.get SPN_GRAIN_GRAIN_MAX p < ((List.range 1024).filter fun i => sumAt xs Resv.r i != 0).length then some 7
  else if (List.range 1024).any fun i => grant < ((List.range 8).map fun j => sumAt xs Resv.credits (i + j)).sum then some 7
  else none

/-- The reservations of a port that stand. -/
def State.resvOf (s : State) (p : Nat) : List Resv := s.spn.resv.filter fun x => x.port == p && !x.degraded

/-- USED of a port. -/
def State.countUsed (s : State) (p : Nat) : State :=
  s.set SPN_GRAIN_USED ((List.range 1024).filter fun i => sumAt (s.resvOf p) Resv.r i != 0).length p

def State.countAllUsed (s : State) : State := fabPorts.foldl (fun s p => s.countUsed p) s

/-- The event of R225 and R226 to the fabric manager and the source partition. -/
def State.grainEvent (s : State) (unreserved : Bool) (k : Nat) : State :=
  let e : Ev := .grains unreserved (streamSrc k) (streamPart k) (streamDst k)
  let s := s.raiseEvent (streamPart k) e
  if s.fmHolder == some (streamPart k) then s else s.raiseFm e

/-- Messages of firmware about reservations: install at the next hop, the answer to the source, release. -/
abbrev fwGrain : Nat := 0x20
abbrev fwGrainAns : Nat := 0x21
abbrev fwGrainRel : Nat := 0x22

/-- Remove a stream's reservations from this node. -/
def State.dropStream (s : State) (k : Nat) : State :=
  { s with spn.resv := s.spn.resv.filter fun x => x.stream != k }.countAllUsed

/-- The node is at PL2 or PL3 or moves to either (R446). -/
def State.slowLevel (s : State) : Bool := 2 ≤ s.get PWR_STATUS_PL || s.pw.move.any fun m => 2 ≤ m.dst

/-- Install a hop of a stream on candidate `path` and hand the next hop its phase (R220); the status at the end of the path, or
where a rule fails, is none while the next node has still to answer. -/
def State.installHop (s : State) (k path phase period r : Nat) (pl : Plane) (d : Dir) : Option Nat × State :=
  let p := fabPort pl d
  let x : Resv := { stream := k, path := path, port := p, phase := phase % 1024, period := period, r := r }
  if s.slowLevel then (some 5, s)
  else if 1024 ≤ s.spn.resv.length then (some 7, s)
  else match s.resvStatus p (s.resvOf p) x with
    | some st => (some st, s)
    | none =>
      let mask := s.get (fMembers pl)
      let nxt := match d with | .east => eastOf mask s.nodeId | .west => westOf mask s.nodeId
      let s := ({ s with spn.resv := s.spn.resv ++ [x] }).countUsed p
      if nxt == streamDst k then (some 0, s)
      else (none, s.sendFw (streamPart k) nxt (.other fwGrain
        [k, path, phase + s.get SPN_PORT_K p, period, r, Plane.code pl, match d with | .east => 0 | .west => 1]))

/-- A packet of the TT channel waits for its stream's Grain instead of leaving at order 7 (R223). -/
def State.ttWaits (s : State) (k : Packet) : Bool :=
  s.timeGood && !k.missed && !((k.entry.bind fun i => s.jnl.entries.find? fun e => e.id == i).any fun e => e.sent) &&
    s.spn.resv.any fun x => x.stream == streamKey k.record && x.port == k.egress && !x.degraded && ceilDiv k.record.len 236 ≤ x.r

end Sys2Proof.Machine
end

