-- ==== Sys2Proof/Machine/LinkOps.lean ====
section
/-! DEFINITION. Shared operations of the Maelryn Link ports (02, 12): lane sets, link-down, retrain, training, what a passing flit
brings, records arriving, the flit of a slot. -/

namespace Sys2Proof.Machine

/-! ## Lanes (R79, R326, R333) -/

/-- Key of a lane in the lane registers. -/
def laneKey (p lane : Nat) : Nat := p * 16 + lane

/-- The allowed lane sets, widest first and lowest first within a width, with their WIDTH code (R79). -/
def laneSets : List (Nat × Nat) :=
  [(0xFF, 0), (0x0F, 1), (0xF0, 1), (0x03, 2), (0x0C, 2), (0x30, 2), (0xC0, 2)]

/-- The largest allowed set within a mask, no wider than width code `w`; 0 where there is none. -/
def bestSet (mask w : Nat) : Nat := ((laneSets.find? fun x => w ≤ x.2 && x.1 &&& mask == x.1).getD (0, 0)).1

/-- WIDTH code of a set. -/
def widthCode (set : Nat) : Nat := ((laneSets.find? fun x => x.1 == set).getD (0, 0)).2

/-- Lanes of a port that are not marked unfit (R334). -/
def State.usable (s : State) (p : Nat) : Nat := 0xFF - s.get LN_PORT_STAT_UNFIT p % 256

/-- The set this end wants out of a mask of its lanes: the largest that WIDTH_REQ allows. -/
def State.wantedOf (s : State) (p mask : Nat) : Nat := bestSet (mask &&& s.usable p) (s.get ML_CTRL_WIDTH_REQ p)
def State.wanted (s : State) (p : Nat) : Nat := s.wantedOf p 0xFF

/-- The usable lanes this end offers in TS2: all that are fit, or those of the set it wants while firmware asks for less than
x8. -/
def State.offered (s : State) (p : Nat) : Nat := if s.get ML_CTRL_WIDTH_REQ p = 0 then s.usable p else s.wanted p

/-- Lanes of a mask that hold symbol lock. -/
def State.lockedLanes (s : State) (p : Nat) : Nat :=
  (List.range 8).foldl (fun m l => if s.on LN_LANE_STAT_LOCK (laneKey p l) then m + 2 ^ l else m) 0

def lanesOf (mask : Nat) : List Nat := (List.range 8).filter fun l => mask.testBit l

def laneOf (l : Link) (k : Nat) : LaneTrain := Tab.get {} l.lanes k
def State.updLane (s : State) (p k : Nat) (f : LaneTrain → LaneTrain) : State :=
  s.updLink p fun l => { l with lanes := Tab.put {} l.lanes k (f (laneOf l k)) }

/-! ## Reports of a fabric port (Table 14.1) -/

/-- Bits of ML_ERR_STATUS, as causes of kind 0x1. -/
def mlCause (bitNo : Nat) : Nat := 0x1000 + bitNo
def State.mlReport (s : State) (p cls bitNo : Nat) : State := s.reportPort (p - 35) cls p (mlCause bitNo)

/-- A protocol error that is counted only (R74). -/
def State.protoErr (s : State) (p : Nat) : State :=
  ((s.flag ML_ERR_STATUS_PROTOCOL true p).bump ML_CNT_PROTOCOL_COUNT p).mlReport p 0 4

/-! ## What is lost with the link state (R73, R74, R80) -/

/-- The record of packet `id` cannot be ended: its place in the line becomes an abort (R544). -/
def abortTx (id : Nat) (x : VC × TxRec) : VC × TxRec :=
  if x.2.pkt == some id then (x.1, { x.2 with abort := true, pkt := none }) else x

/-- A packet of the buffer that has no more bytes coming from port `p`: one that has started is aborted on a fabric egress and
ended as a nullified TLP on a PCI Express egress, and is handled as discarded (R148, R544). -/
def State.cutOff (s : State) (k : Packet) : State :=
  if !k.started then s.discard k
  else
    let s := if s.fabricMode k.egress then s.updLink k.egress fun l => { l with tx := l.tx.map (abortTx k.id) }
      else (s.updPx k.egress fun x => { x with sending := none }).emit (.nullify k.egress)
    s.discard k

/-- Records still arriving on port `p` end here. -/
def State.cutArrivals (s : State) (p : Nat) : State :=
  (s.sc.pkts.filter fun k => k.inPort == some p && !k.complete && !k.gone).foldl (fun s k => s.cutOff k) s

/-- Packets whose sending on fabric egress `p` has begun are gone: the source journal restores them. -/
def State.cutSending (s : State) (p : Nat) : State :=
  (s.sc.pkts.filter fun k => k.egress == p && k.started && !k.gone).foldl (fun s k => s.unbuffer k) s

/-- A fresh link state that keeps what outlives a retrain. -/
def Link.cleared (l : Link) : Link :=
  { trainNo := l.trainNo, flaps := l.flaps, eqPeer := l.eqPeer, peer := l.peer, peerAdv := l.peerAdv, up := l.up
    t := l.t, b := l.t, e := l.e, c := l.c, selfFacing := l.selfFacing, grain := l.grain
    descending := l.descending, mgRecs := [] }

/-- The timers of a port that end with its link or its retrain (R77). -/
def State.stopLink (s : State) (p : Nat) : State :=
  let s := ((((s.stop (.replay p)).stop (.req p)).stop (.rtMove p)).stop (.quiesce p)).stop (.retrain p)
  let s := s.stop (.equalise p)
  (List.range 8).foldl (fun s l => (s.stop (.adapt p l)).stop (.measure p l)) s

/-- Replay buffer, credit state and parsing state are discarded (R74, R80); the holds of the port end (R145). -/
def State.dropLinkState (s : State) (p : Nat) : State :=
  let s := (s.cutArrivals p).cutSending p
  let s := ((s.stopLink p).updLink p Link.cleared).set SPN_PORT_K 0 p
  let s := s.dropHolds fun h => h.port == p
  let s := allVcs.foldl (fun s v => (s.set ML_CREDIT_STAT_IN_USE 0 (creditKey p v)).set ML_CREDIT_STAT_HELD 0 (creditKey p v)) s
  s.takeReserve p (s.reserve p).size

/-- Transit packets for a port whose segment is down are discarded and counted (R32). -/
def State.dropTransit (s : State) (p : Nat) : State :=
  (s.sc.pkts.filter fun k => k.egress == p && k.src < 48 && 44 ≤ k.src && !k.started && !k.gone).foldl (init := s) fun s k =>
    ((s.unbuffer k).evtFab p 11).reportNode (15 + Plane.code (portPlane p)) 0

/-! ## Flap limit (R78) and link-down (R80) -/

/-- The port is held by the flap limit. -/
def State.flapHold (s : State) (p : Nat) : State :=
  let s := (s.stopLink p).set ML_STATUS_STATE lsHeld p
  (s.flag ML_ERR_STATUS_FLAP_HOLD true p).mlReport p 3 7

/-- The declaration itself: counted, reported unless firmware or a reset asked for it (`quiet`), told to the ring unless the node
stops all its ports at once (`silent`). -/
def State.declareDown (s : State) (p : Nat) (quiet silent : Bool) : State :=
  let s := (s.updLink p fun l => { l with up := false }).dropLinkState p
  let s := (s.bump ML_CNT_LINKDOWN_COUNT p).flag ML_ERR_STATUS_LINK_DOWN true p
  let s := ((s.bwChanged p).timeDown p).clearEgress p
  let s := if quiet then s else s.mlReport p 2 5
  let s := (s.set ML_STATUS_STATE lsDown p).dropTransit p
  if silent then s else s.reportSegment p .down

/-- One more retrain or link-down of the last second (R78): past RETRAIN_MAX the port is held. -/
def State.flap (s : State) (p : Nat) : State :=
  let fs := ((s.link p).flaps.filter fun t => s.now < t + 1000000000) ++ [s.now]
  let s := s.updLink p fun l => { l with flaps := fs }
  if fs.length ≤ s.get ML_LIMITS_RETRAIN_MAX p then s
  else
    let s := if (s.link p).up then s.declareDown p false false else s
    s.flapHold p

def State.isHeld (s : State) (p : Nat) : Bool := s.linkState p == lsHeld

/-- LINK_DOWN_DECLARE (R80) of a link that is up; the port is then in DOWN, or in HELD under the flap limit, and the caller names
the next state. -/
def State.linkDown (s : State) (p : Nat) (quiet silent : Bool) : State :=
  if !(s.link p).up then s
  else
    let s := s.declareDown p quiet silent
    if silent then s else s.flap p

/-! ## Training (R69 to R72) -/

/-- The port may train: ENABLE, no FORCE_DOWN, fabric mode. -/
def State.mayTrain (s : State) (p : Nat) : Bool :=
  s.on ML_CTRL_ENABLE p && !s.on ML_CTRL_FORCE_DOWN p && s.fabricMode p

/-- DETECT: a full training begins. -/
def State.enterDetect (s : State) (p : Nat) : State :=
  if !s.mayTrain p then s.set ML_STATUS_STATE lsDown p
  else
    let s := (s.stopLink p).set ML_STATUS_STATE lsDetect p
    let s := (List.range 8).foldl (fun s l => s.flag LN_LANE_STAT_FLIT_LOCK false (laneKey p l)) s
    s.updLink p fun l => { l with lanes := [], descending := false, trainNo := (l.trainNo + 1) % 0x100000000, ts2Sent := 0
                                  rateLeft := 0, lctl := [], peer := none, selfFacing := false
                                  initGot := false, initSent := false, doneSent := false, repeated := false }

/-- RETRAIN (R74, R75): the link state is dropped, the relock is bounded by 10 µs. -/
def State.enterRetrain (s : State) (p lanes : Nat) (leader : Bool) : State :=
  let s := s.dropLinkState p
  let s := (s.set ML_STATUS_STATE lsRetrain p).flag ML_STATUS_LEADER leader p
  let s := (s.bump ML_CNT_RETRAIN_COUNT p).evtPort p 12
  let s := s.updLink p fun l => { l with nextLanes := lanes, repeated := false, trainNo := (l.trainNo + 1) % 0x100000000 }
  let s := s.flap p
  if s.isHeld p then s else s.start (.retrain p) 10000

/-- The own INIT flit (Table 02.11): the grants of the ML_CREDIT_ADV registers (R63). -/
def State.advOf (s : State) (p : Nat) : PerVc :=
  { p := s.get ML_CREDIT_ADV_0_P p, np := s.get ML_CREDIT_ADV_0_NP p, cpl := s.get ML_CREDIT_ADV_1_CPL p
    tt := s.get ML_CREDIT_ADV_1_TT p, mg := s.get ML_CREDIT_ADV_2_MG p }
def advSum (a : PerVc) : Nat := a.p + a.np + a.cpl + a.tt + a.mg

/-- The reserve is whole, so INIT is sent (R137). -/
def State.sendInit (s : State) (p : Nat) : State :=
  if s.linkState p == lsInit && s.reserveWhole p then s.updLink p fun l => { l with initSent := true } else s

/-- INIT: credits and sequences start afresh from the values then in force, the reserve is recomputed (R54, R63, R137). -/
def State.enterInit (s : State) (p lanes : Nat) : State :=
  let adv := s.advOf p
  let s := s.updLink p fun l => { l with t := 0, e := 0, c := 0, b := 0, replay := [], adv := adv, consumed := {}, received := {}
                                         returned := {}, pendRet := {}, audits := 0, sinceAudit := 0, auditDue := false
                                         nextLanes := lanes, lctl := [], initGot := false, initSent := false, doneSent := false }
  let s := (((s.set ML_STATUS_STATE lsInit p).set ML_STATUS_LANES lanes p).set ML_STATUS_WIDTH (widthCode lanes) p).bwChanged p
  (s.takeReserve p (advSum adv)).sendInit p

/-- The cap of a rate for a peer (R39): an unexpected neighbour, or none fitted, makes a bypass link. -/
def State.bypass (s : State) (p peer : Nat) : Bool :=
  let fit := s.get RING_FITTED_FITTED
  let others := setBit fit s.nodeId true
  fit == 0 || peer != (match portDir p with | .east => eastOf others s.nodeId | .west => westOf others s.nodeId)

/-- Initial transmitter setting of a rate (LN_EQ: M6 and M7 act as M3 at 32 GT/s). -/
def initPreset (preset rate : Nat) : Nat := if rate = 0 && 6 ≤ preset then 3 else preset

/-- Table 12.1. -/
def presetCoefs : Nat → Coefs
  | 0 => ⟨0, 0, 48, 0⟩ | 1 => ⟨0, 0, 42, -6⟩ | 2 => ⟨0, 0, 38, -10⟩ | 3 => ⟨0, -4, 38, -6⟩
  | 4 => ⟨0, -6, 34, -8⟩ | 5 => ⟨0, -8, 30, -10⟩ | 6 => ⟨-2, -6, 32, -8⟩ | _ => ⟨-2, -8, 28, -10⟩

/-- A setting is valid (R329). -/
def coefsOk (c : Coefs) (rate : Nat) : Bool :=
  c.m2.natAbs + c.m1.natAbs + c.c0.natAbs + c.p1.natAbs == 48 && decide (24 ≤ c.c0) && (rate != 0 || c.m2 == 0)

/-- A signed byte as the register shows it. -/
def byteOf (x : Int) : Nat := (x % 256).toNat

/-- A lane's transmitter takes a setting. -/
def State.setCoefs (s : State) (p lane : Nat) (c : Coefs) : State :=
  let k := laneKey p lane
  (((s.set LN_LANE_EQ_C_M2 (byteOf c.m2) k).set LN_LANE_EQ_C_M1 (byteOf c.m1) k).set LN_LANE_EQ_C_0 (byteOf c.c0) k).set
    LN_LANE_EQ_C_P1 (byteOf c.p1) k

/-- EQUALISE (R331 step 1): the rate changes, the transmitters take the initial preset for 20 µs; 60 µs bound it. -/
def State.enterEqualise (s : State) (p rate : Nat) : State :=
  let s := ((s.set ML_STATUS_STATE lsEqualise p).set ML_STATUS_RATE rate p).bwChanged p
  let s := s.updLink p fun l => { l with lanes := [], targetRate := rate, rateLeft := 0, lctl := [] }
  let c := presetCoefs (initPreset (s.get LN_EQ_PRESET_INIT) rate)
  let s := (lanesOf (s.link p).nextLanes).foldl (fun s l => (s.setCoefs p l c).start (.adapt p l) 20000) s
  s.start (.equalise p) 60000

/-- Role check passed (R71): the leader, which has the lower Node ID, chooses lanes and rate and sends RATE_GO with 16 TS2
still to go. -/
def State.leadTraining (s : State) (p : Nat) (t : Ts2) : State :=
  let lead : Bool := s.nodeId < t.node
  let s := s.flag ML_STATUS_LEADER lead p
  let s := s.flag LN_PORT_STAT_REVERSED (!lead && (s.link p).descending) p
  if !lead then s
  else
    let lanes := bestSet (s.offered p &&& t.usable) 0
    let byp := s.bypass p t.node
    let cap := if byp then s.get RING_PORT_BYP_RATE_CAP p else s.get RING_PORT_RATE_CAP p
    let rate := min cap t.rateCap
    if lanes = 0 then s.enterDetect p
    else s.updLink p fun l => { l with nextLanes := lanes, targetRate := rate, rateLeft := 16
                                       lctl := l.lctl ++ [.rateGo rate lanes 16] }

/-- HELD under R18, and the cabling event through the collector. -/
def State.roleError (s : State) (p : Nat) : State :=
  let s := s.declareDown p false false
  let s := s.flap p
  if s.isHeld p then s
  else ((s.set ML_STATUS_STATE lsHeld p).flag ML_ERR_STATUS_ROLE_ERR true p).mlReport p 2 6

/-- The end of the TS2 exchange (R71): the role is checked and the training goes on; a port that faces its own node is held
under R510. -/
def State.configCheck (s : State) (p : Nat) : State :=
  let l := s.link p
  if s.linkState p != lsConfig || l.peer.isSome || l.ts2Sent < 16 then s
  else
    match (lanesOf (s.offered p)).findSome? fun k => (laneOf l k).ts2 with
    | none => s
    | some t0 =>
      let use := lanesOf (s.offered p &&& t0.usable)
      if use.isEmpty || !(use.all fun k => 8 ≤ (laneOf l k).ts2Run) then s
      else if t0.node == s.nodeId then
        let s := (s.set ML_STATUS_STATE lsHeld p).bump ML_CNT_LINKDOWN_COUNT p
        (s.updLink p fun l => { l with selfFacing := true }).start (.selfFacing p) 10000000
      else
        let s := s.updLink p fun l => { l with peer := some t0 }
        let s := ((s.flag RING_PORT_PEER_VALID true p).set RING_PORT_PEER_ID t0.node p).flag RING_PORT_BYPASSED (s.bypass p t0.node) p
        let west := portDir p == .west
        if t0.plane != portPlane p || t0.west == west then s.roleError p
        else s.leadTraining p t0

/-- ACTIVE from INIT (R69, R72): the equalisation is stored, link-state up and a discovery run follow (R21). -/
def State.enterActive (s : State) (p : Nat) : State :=
  let s := s.stop (.retrain p)
  let peer := match (s.link p).peer with | some t => some (t.node, s.get ML_STATUS_RATE p) | none => none
  let s := s.updLink p fun l => { l with up := true, repeated := false, eqPeer := peer }
  let s := ((s.flag ML_STATUS_EQ_STORED true p).set ML_STATUS_STATE lsActive p).setK p
  (s.reportSegment p .up).startRun (portPlane p)

/-! ## Retrains (R73 to R77) -/

/-- Reasons of RETRAIN_REQ (Table 02.11). -/
abbrev rrLeak : Nat := 1
abbrev rrReplay : Nat := 2
abbrev rrOverrun : Nat := 3
abbrev rrProtocol : Nat := 4
abbrev rrWidth : Nat := 5
abbrev rrFirmware : Nat := 6

/-- Step 2 of a planned retrain: RETRAIN_REQ goes out and is repeated every 0.2 µs. -/
def State.sendReq (s : State) (p : Nat) (r : Retrain) : State :=
  let s := s.updLink p fun l => { l with sched := none, req := some r
                                         lctl := l.lctl ++ [.retrainReq r.reason s.nodeId r.wanted r.forced] }
  s.start (.req p) 200

/-- Steps 1 and 2 (R73): a planned retrain is scheduled; it waits while the other plane has a segment down. -/
def State.schedule (s : State) (p reason : Nat) : State :=
  if s.linkState p != lsActive || (s.link p).req.isSome then s
  else
    let r : Retrain := { reason := reason, wanted := s.wanted p }
    if s.segmentDown (Plane.other (portPlane p)) then s.updLink p fun l => { l with sched := some r } else s.sendReq p r

/-- Step 3: LEAVING, with the lanes agreed. -/
def State.enterLeaving (s : State) (p lanes : Nat) (leader : Bool) : State :=
  let s := ((s.stop (.req p)).set ML_STATUS_STATE lsLeaving p).flag ML_STATUS_LEADER leader p
  let s := s.updLink p fun l => { l with nextLanes := lanes, sched := none, req := none, quiesceSent := false, quiesceGot := false }
  let s := s.start (.rtMove p) (s.get ML_TIMERS_RT_MOVE p * 1000)
  (s.setK p).reportSegment p .leaving

/-- QUIESCE_DONE is due once the replay buffer is empty (R73 step 4). -/
def State.checkQuiesce (s : State) (p : Nat) : State :=
  let l := s.link p
  if s.linkState p == lsQuiesce && l.replay.isEmpty && !l.quiesceSent && !l.lctl.contains .quiesceDone then
    s.updLink p fun l => { l with lctl := l.lctl ++ [.quiesceDone] }
  else s

/-- Step 5: both have sent and received QUIESCE_DONE. -/
def State.quiesced (s : State) (p : Nat) : State :=
  let l := s.link p
  if s.linkState p == lsQuiesce && l.quiesceSent && l.quiesceGot then
    s.enterRetrain p l.nextLanes (s.on ML_STATUS_LEADER p)
  else s

/-- FORCED_RETRAIN (R74): link-down, the forced RETRAIN_REQ three times, RETRAIN. The error is reported first. -/
def State.forcedRetrain (s : State) (p reason : Nat) : State :=
  let st := s.linkState p
  if !(st == lsActive || st == lsLeaving || st == lsQuiesce) then s
  else
    let s := match reason with
      | 2 => (s.flag ML_ERR_STATUS_REPLAY_LIMIT true p).mlReport p 2 1
      | 3 => (s.flag ML_ERR_STATUS_CREDIT_OVERRUN true p).mlReport p 2 2
      | _ => ((s.flag ML_ERR_STATUS_PROTOCOL true p).bump ML_CNT_PROTOCOL_COUNT p).mlReport p 2 4
    let s := s.linkDown p false false
    if s.isHeld p then s
    else
      let w := s.wanted p
      let s := s.enterRetrain p w true
      if s.isHeld p then s
      else
        let s := s.updLink p fun l => { l with reqLeft := 2, lctl := [.retrainReq reason s.nodeId w true]
                                               req := some { reason := reason, wanted := w, forced := true } }
        s.start (.req p) 200

/-- The follower of a forced retrain (R74): link-down, then RETRAIN. -/
def State.followForced (s : State) (p mask : Nat) : State :=
  let s := s.linkDown p false false
  if s.isHeld p then s else s.enterRetrain p (bestSet (s.wanted p &&& mask) 0) false

/-- A discard found no free hold (R145): its port is forced to retrain. -/
def State.settleHolds (s : State) : State :=
  fabPorts.foldl (init := s) fun s p =>
    if (s.link p).noHold then (s.updLink p fun l => { l with noHold := false }).forcedRetrain p rrProtocol else s

/-! ## A flit that arrives (R52 to R58) -/

/-- What the checks say of a flit. -/
inductive Verdict where
  | lost | duplicate | pass
  deriving DecidableEq, Repr

/-- RS decoding (R52), and the corrected bytes charged to their lanes in ACTIVE (R332). -/
def State.rsDecode (s : State) (p : Nat) (h : FlitHdr) : Bool × State :=
  if 4 < h.bad.length then
    (false, ((s.bump ML_CNT_UNCORR_COUNT p).flag ML_ERR_STATUS_UNCORR true p).mlReport p 0 0)
  else if h.bad.isEmpty then (true, s)
  else
    let s := (s.bump ML_CNT_RS_CORR_COUNT p).evtFab p 5
    let lanes := lanesOf (s.get ML_STATUS_LANES p)
    let s := if s.linkState p != lsActive || lanes.isEmpty then s
      else h.bad.foldl (init := s) fun s i =>
        let k := lanes.getD (i % lanes.length) 0
        (s.bump LN_LANE_CNT_CORR_COUNT (laneKey p k)).updLink p fun l => { l with winCorr := Tab.put 0 l.winCorr k (Tab.get 0 l.winCorr k + 1) }
    (true, s)

/-- A flit fails the CRC check. -/
def State.crcFail (s : State) (p : Nat) : State := (s.bump ML_CNT_CRC_COUNT p).evtFab p 6

/-- The states in which flits with the link's own sequence are taken. -/
def State.linkListens (s : State) (p : Nat) : Bool := s.linkCarries p || s.linkState p == lsQuiesce

/-- A flit of the peer that can only follow its INIT_DONE ends INIT at this end, if INIT_DONE itself was lost. -/
def State.wake (s : State) (p : Nat) : State :=
  let l := s.link p
  if s.linkState p == lsInit && l.initGot && l.initSent then s.enterActive p else s

/-- The checks of a flit whose check sequence is c (R53, R54, R58). -/
def State.rxCheck (s : State) (p : Nat) (h : FlitHdr) (sequenced : Bool) : Verdict × State :=
  let d := s.rsDecode p h
  let s := d.2
  if !d.1 then (.lost, s)
  else
    let l := s.link p
    if h.seq != l.c then (.lost, s.crcFail p)
    else
      let s := (s.wake p).evtFab p 1
      if !s.linkListens p then (.lost, s)
      else if sequenced && l.c != l.e then
        (.duplicate, ((s.bump ML_CNT_DUP_COUNT p).evtFab p 8).updLink p fun l => { l with c := (l.c + 1) % 4096 })
      else (.pass, s)

/-- A sequenced flit is accepted: e advances. -/
def State.accept (s : State) (p : Nat) : State :=
  s.updLink p fun l => { l with e := (l.e + 1) % 4096, c := (l.e + 1) % 4096 }

/-- ACK_PROCESS (R56). -/
def State.ackProcess (s : State) (p a : Nat) : State :=
  let l := s.link p
  let adv := subMod 4096 (a + 1) l.b
  if adv = 0 then s
  else if adv ≤ l.replay.length then
    let rest := l.replay.drop adv
    let s := s.updLink p fun l => { l with replay := rest, b := (l.b + adv) % 4096, consec := 0 }
    let s := if rest.isEmpty then s.stop (.replay p) else s.start (.replay p) (s.get ML_TIMERS_REPLAY_TMR p * 50)
    s.checkQuiesce p
  else s.bump ML_CNT_STALE_ACK_COUNT p

/-- CREDIT_RETURN_ACCEPT (R62); a return past the grant is an overrun (R64). -/
def State.takeReturn (s : State) (p : Nat) (h : FlitHdr) : State :=
  match h.crVc with
  | some v =>
    if h.crCount = 0 then s
    else
      let k := creditKey p v
      let held := s.get ML_CREDIT_STAT_HELD k + h.crCount
      if perVc (s.link p).peerAdv v < held then s.forcedRetrain p rrOverrun
      else (s.set ML_CREDIT_STAT_HELD held k).updLink p fun l => { l with received := perVcAdd l.received v h.crCount }
  | none => s

/-! ## Records arriving (R49, R51, R143 to R145) -/

def rxOf (l : Link) : VC → Option RxRec
  | .p => l.rxP | .np => l.rxNp | .cpl => l.rxCpl | .tt => l.rxTt | .mg => l.rxMg
def setRx (l : Link) (v : VC) (x : Option RxRec) : Link :=
  match v with
  | .p => { l with rxP := x } | .np => { l with rxNp := x } | .cpl => { l with rxCpl := x }
  | .tt => { l with rxTt := x } | .mg => { l with rxMg := x }

/-- LEN in range (R49, R51). -/
def lenOk (r : Record) : Bool := 20 ≤ r.len && r.len ≤ 1120

/-- Credits of the records that start in a flit, and whether they overrun what VC `v` was granted (R64). -/
def State.overrun (s : State) (p : Nat) (v : VC) (rs : List Record) : Bool :=
  let lim := perVc (s.link p).adv v
  (rs.foldl (fun (a : Nat × Bool) r => (a.1 + units r.len, a.2 || lim < a.1 + units r.len))
    (s.get ML_CREDIT_STAT_IN_USE (creditKey p v), false)).2

/-- The refusal wait of the record at the head of its VC's line on a fabric port (R144). -/
def State.armRefuse (s : State) (p : Nat) (v : VC) : State :=
  match s.sc.pkts.find? fun k => k.inPort == some p && k.record.vc == v && k.record.dstNode == s.nodeId &&
      k.charge == .reserve p && k.pass == .none && !k.gone with
  | some k => s.startIfNot (.refuse k.id) (s.get SC_FABRIC_REFUSE_WAIT * 100)
  | none => s

/-- A hold ends when the discarded P record comes again (R145). -/
def State.endHold (s : State) (p : Nat) (r : Record) : State :=
  if r.vc != .p then s
  else s.dropHolds fun h => h.port == p && h.srcNode == r.srcNode && h.srcPart == r.srcPart && h.dstNode == r.dstNode && h.seq == r.seq

/-- Where a record for this node leaves it: its DST_PORT, or for a completion the port of its requester. -/
def State.localEgress (s : State) (r : Record) : Nat :=
  match r.body with
  | .tlp t => if r.vc == .cpl && r.dstPort == dstFind then (s.reqPort r.srcPart t.reqId).getD r.dstPort else r.dstPort
  | _ => r.dstPort

/-- A record's first dword has been accepted: its credits are in use; it is discarded under R51 or R145, taken to be consumed
(MG, KIND 0x2), or put into its VOQ. The number of its packet, if it has one. -/
def State.recordStarts (s : State) (p : Nat) (flitVc : VC) (r : Record) : Option Nat × State :=
  let n := units r.len
  let s := s.set ML_CREDIT_STAT_IN_USE (s.get ML_CREDIT_STAT_IN_USE (creditKey p flitVc) + n) (creditKey p flitVc)
  let s := (s.rxEvents p r.vc r.len)
  let drop (s : State) : State := s.fabricCredits p flitVc n
  let s := s.endHold p r
  let own : Bool := r.dstNode == s.nodeId
  let reservedKind : Bool := match r.body with | .reserved _ => true | _ => false
  if r.vc != flitVc || reservedKind || (!own && r.hops ≤ 1) then
    (none, ((drop (s.protoErr p)).evtPort p 11).placeHold p r)
  else if (r.vc == .np || r.vc == .cpl) && s.held p r then
    (none, (((drop s).bump SC_CNT_HOLD_COUNT).evtNode 0 4).evtPort p 11)
  else if own && (r.vc == .mg || (match r.body with | .tlp _ => false | _ => true)) then (none, s)
  else
    let egress := if own then s.localEgress r else portOpp p
    let src := if own then 48 + r.srcPart else p
    let r := if own then { r with dstPort := egress } else r
    if !own && !(s.linkCarries egress || s.linkState egress == lsQuiesce) then
      (none, ((drop s).evtFab egress 11).reportNode (15 + Plane.code (portPlane p)) 0)
    else
      let id := s.sc.nextId
      let s := s.enqueue { id := 0, record := r, inPort := some p, src := src, egress := egress, charge := .reserve p
                           complete := false, bytes := r.len, inst := if own then r.inst else none, cutOk := true }
      (some id, if own then s.armRefuse p r.vc else s)

/-- The home node refuses a firmware message that brings a lossless event while the ring and the overflow store of its partition are
full, what waits before it counted (R396). -/
def State.fwRefused (s : State) (m : FwMsg) : Bool :=
  match m with
  | .event part _ e =>
    let before : Nat := s.inbox.countP fun x => match x with | .fw _ _ (.event q _ _) _ => q == part | _ => false
    evLossless e && (s.slotOf part).any fun k =>
      let q := s.queue k
      !q.held.isEmpty || 510 ≤ q.ring.length + q.store.length + before
  | .other _ _ => false

/-- A firmware message or control record has come to its end: taken by the node (R161, R168). A firmware message passes
de-duplication as any journalled record does; it is delivered when firmware takes it. -/
def State.mgEnds (s : State) (p : Nat) (r : Record) : State :=
  match r.body with
  | .ctl st last items =>
    if st = 0 || 8 < st then s.protoErr p
    else { s with inbox := s.inbox ++ [.ctl r.srcNode st r.seq last items] }
  | .fw m =>
    let k := dedupKey r.srcNode r.srcPart r.vc
    let d := s.dedup k
    if !s.flowSynced k then ((s.bump JNL_CNT_UNSYNC_COUNT).evtFab p 12).evtNode 2 5
    else
      let x := subMod 0x100000000 r.seq d.expected
      let i := subMod 0x100000000 r.seq d.delivered
      if x = 0 then
        if 512 ≤ i then ((s.bump JNL_CNT_WINDOW_COUNT).evtFab p 12).evtNode 2 4
        else if !d.done.contains i && s.fwRefused m then ((s.bump SC_CNT_REFUSED_COUNT).evtFab p 12).evtNode 0 5
        else
          let s := s.setDedup k { d with expected := seqNext r.seq }
          if d.done.contains i then ((s.bump JNL_CNT_DUP_COUNT).evtNode 2 2).receiptNow k
          else { s.owe k with inbox := s.inbox ++ [.fw r.srcNode r.srcPart m r.seq] }
      else if 0x80000000 ≤ x then ((s.bump JNL_CNT_DUP_COUNT).evtNode 2 2).receiptNow k
      else ((s.bump JNL_CNT_GAP_COUNT).evtNode 2 3).sendCtl (keyNode k) ctlGap 0 false [{ part := keyPart k, vc := keyVc k, seqA := d.expected }]
  | .tlp _ | .reserved _ => s

/-- `n` more dwords of the record in progress on a VC have come. -/
def State.recordGoesOn (s : State) (p : Nat) (v : VC) (x : RxRec) (n : Nat) : State :=
  if n < x.left then s.updLink p fun l => setRx l v (some { x with left := x.left - n })
  else
    let s := s.updLink p fun l => setRx l v none
    match x.pkt with
    | some id => s.completed id
    | none => if x.dropped then s else (s.mgEnds p x.record).fabricCredits p v (units x.record.len)

/-- The records that start in a flit, from dword `off` on. -/
def State.recordsStart (s : State) (p : Nat) (v : VC) : List Record → Nat → State
  | [], _ => s
  | r :: rs, off =>
    if 59 ≤ off then s
    else
      let dw := ceilDiv r.len 4
      let here := min dw (59 - off)
      let isCtl : Bool := r.dstNode == s.nodeId && (match r.body with | .ctl _ _ _ | .fw _ => true | _ => false)
      let a := s.recordStarts p v r
      let s := a.2.recordGoesOn p v { record := r, left := dw, pkt := a.1, dropped := a.1.isNone && !(isCtl && r.vc == v) } here
      s.recordsStart p v rs (off + here)

/-- RECORD_ABORT_RECEIVE (R544). -/
def State.recordAborted (s : State) (p : Nat) (v : VC) (x : RxRec) : State :=
  let s := (s.bump ML_CNT_ABORT_COUNT p).updLink p fun l => setRx l v none
  match x.pkt.bind s.pkt with
  | some k => s.cutOff k
  | none => if x.dropped then s else s.fabricCredits p v (units x.record.len)

/-- Records among the pieces of a flit. -/
def startsOf (ps : List Piece) : List Record := ps.filterMap fun x => match x with | .start r _ => some r | .cont _ => none

/-- The parse of an accepted DATA flit against FIRST (R49): true where FIRST agrees with it. -/
def firstOk (inProgress : Option Nat) (first : Nat) (starts : List Record) : Bool :=
  match inProgress with
  | some left => if left < 59 && !starts.isEmpty then first == left else first == 63
  | none => first ≤ 58 && !starts.isEmpty

/-- The payload of an accepted DATA flit is parsed (R49, R51, R544). -/
def State.parseData (s : State) (p : Nat) (v : VC) (first : Nat) (pieces : List Piece) : State :=
  let rx := rxOf (s.link p) v
  let starts := startsOf pieces
  if first = 62 then
    match rx with
    | some x => s.recordAborted p v x
    | none => s.forcedRetrain p rrProtocol
  else if !firstOk (rx.map fun x => x.left) first starts then s.forcedRetrain p rrProtocol
  else
    let s := match rx with
      | some x => s.recordGoesOn p v x (min x.left 59)
      | none => s
    let off := match rx with | some x => x.left | none => first
    if 59 ≤ off then s
    else
      let good := starts.takeWhile lenOk
      let s := s.recordsStart p v good off
      if good.length < starts.length then s.forcedRetrain p rrProtocol else s

/-! ## The flit of a slot (R67, Table 02.8) -/

/-- The credit return a sequenced flit carries (R62): TT, MG, CPL, NP, P. -/
def State.nextReturn (s : State) (p : Nat) : Option (VC × Nat) :=
  ([VC.tt, .mg, .cpl, .np, .p].find? fun v => perVc (s.link p).pendRet v != 0).map fun v => (v, min 31 (perVc (s.link p).pendRet v))

/-- The ACK field (R55). -/
def ackField (l : Link) : Nat := (l.e + 4095) % 4096

/-- Any flit goes out: it is counted toward the audit (R65). -/
def State.flitOut (s : State) (p : Nat) (f : Flit) : State :=
  (((s.emit (.flit p f)).evtFab p 0).updLink p fun l => { l with sinceAudit := l.sinceAudit + 1 })

/-- An unsequenced flit with check sequence `q`. -/
def State.sendUnseq (s : State) (p q : Nat) (b : FlitBody) : State :=
  s.flitOut p { hdr := { seq := q, ack := ackField (s.link p) }, body := b }

/-- A sequenced flit: sequence T, a pending credit return, a place in the replay buffer. -/
def State.sendSeq (s : State) (p : Nat) (b : FlitBody) : State :=
  let l := s.link p
  let ret := s.nextReturn p
  let f : Flit := { hdr := { seq := l.t, ack := ackField l, crVc := ret.map Prod.fst, crCount := (ret.map Prod.snd).getD 0 }, body := b }
  let s := s.updLink p fun l =>
    let l := { l with t := (l.t + 1) % 4096, replay := l.replay ++ [f] }
    match ret with
    | some (v, n) => { l with pendRet := perVcSet l.pendRet v (perVc l.pendRet v - n), returned := perVcAdd l.returned v n }
    | none => l
  (s.flitOut p f).startIfNot (.replay p) (s.get ML_TIMERS_REPLAY_TMR p * 50)

/-- Credits held on a VC, and their consumption (R61, R62). -/
def State.heldCr (s : State) (p : Nat) (v : VC) : Nat := s.get ML_CREDIT_STAT_HELD (creditKey p v)
def State.consume (s : State) (p : Nat) (v : VC) (n : Nat) : State :=
  (s.set ML_CREDIT_STAT_HELD (s.heldCr p v - n) (creditKey p v)).updLink p fun l => { l with consumed := perVcAdd l.consumed v n }

/-- Dwords of a record that this node can send at this moment: all, or those that have come so far (R68). -/
def State.dwordsHere (s : State) (x : TxRec) : Nat :=
  let total := ceilDiv x.record.len 4
  match x.pkt.bind s.pkt with
  | some k =>
    if k.complete then total
    else match k.inPort with
      | some q =>
        if s.fabricMode q then match rxOf (s.link q) k.record.vc with
          | some rx => if rx.pkt == some k.id then total - rx.left else total
          | none => total
        else total
      | none => total
  | none => total

/-- The next flit of a record can be filled: what is still to come would fill it, or the record ends in it. -/
def State.canFill (s : State) (x : TxRec) (room : Nat) : Bool :=
  let total := ceilDiv x.record.len 4
  min x.left room ≤ s.dwordsHere x - (total - x.left)

/-- The journal entry of a record whose first dword goes out has been sent, on this plane and with these hops (R170). -/
def State.entrySent (s : State) (k : Option Packet) (r : Record) : State :=
  match k.bind fun k => k.entry with
  | some id =>
    let s := s.updEntry id fun e => { e with sent := true, record := { e.record with hops := r.hops, plane := r.plane } }
    s.grpTimers (recGrp r) false
  | none => s

/-- The flit's worth of records of a VC from its line `xs`: the pieces, FIRST, what is left of the line, the packets that ended,
the records that began. -/
def State.fill (s : State) (p : Nat) (v : VC) : List TxRec → Nat → List Piece × Nat × List TxRec × List TxRec × State
  | [], _ => ([], 63, [], [], s)
  | x :: xs, off =>
    let room := 59 - off
    let n := units x.record.len
    if room = 0 || !s.canFill x room || (!x.begun && s.heldCr p v < n) then ([], 63, x :: xs, [], s)
    else
      let here := min x.left room
      let s := if x.begun then s
        else ((s.consume p v n).entrySent (x.pkt.bind s.pkt) x.record).evtPort p 1
      let s := if x.begun then s else s.txBytes p x.record.len
      let y : TxRec := { x with left := x.left - here, begun := true }
      let piece : Piece := if x.begun then .cont here else .start x.record here
      if y.left = 0 then
        let r := s.fill p v xs (off + here)
        (piece :: r.1, if x.begun then r.2.1 else off, r.2.2.1, y :: r.2.2.2.1, r.2.2.2.2)
      else ([piece], if x.begun then 63 else off, y :: xs, [], s)

/-- A record's last dword is out: its packet has left. -/
def State.txEnded (s : State) (x : TxRec) : State :=
  match x.pkt with
  | some id => (s.stage id 7).updPkt id fun k => { k with gone := true }
  | none => s

/-- The DATA flit of a VC, if its line has something to send now. -/
def State.dataFlit (s : State) (p : Nat) (v : VC) : Option State :=
  let line := ((s.link p).tx.filter fun x => x.1 == v).map Prod.snd
  match line with
  | [] => none
  | x :: rest =>
    let putBack (s : State) (ys : List TxRec) : State :=
      s.updLink p fun l => { l with tx := (l.tx.filter fun y => y.1 != v) ++ ys.map fun y => (v, y) }
    if x.abort then
      some (((putBack s rest).sendSeq p (.data v 62 [])).evtFab p 2)
    else
      let r := s.fill p v (x :: rest) 0
      if r.1.isEmpty then none
      else
        let s := putBack r.2.2.2.2 r.2.2.1
        let s := r.2.2.2.1.foldl (fun s y => s.txEnded y) s
        some ((s.sendSeq p (.data v r.2.1 r.1)).evtFab p 2)

/-- The path a record takes out of a fabric port: HOPS and PLANE of this sending (R50, R170), or one hop less in transit. -/
def State.onward (s : State) (p : Nat) (r : Record) (transit : Bool) : Record :=
  if transit then { r with hops := r.hops - 1 }
  else { r with hops := hopCount (s.get (fMembers (portPlane p))) s.nodeId r.dstNode (portDir p), plane := portPlane p }

/-- One more record of a stream leaves in the Grain in progress. -/
def useGrain (k n : Nat) (u : GrainUse) : GrainUse := if u.stream == k then { u with bytes := u.bytes + n } else u
def Link.tookGrain (l : Link) (bound : Option Nat) (n : Nat) : Link :=
  match bound with
  | some k => { l with grain := l.grain.map fun g => { g with uses := g.uses.map (useGrain k n) } }
  | none => l

/-- A packet begins to leave on a fabric egress; `bound` is its stream where it leaves in its Grain (R223). -/
def State.startTx (s : State) (p : Nat) (k : Packet) (bound : Option Nat) : State :=
  let transit : Bool := k.src < 48
  let r := s.onward p k.record transit
  let s := s.stage k.id 6
  let s := s.updPkt k.id fun x => { x with started := true, cut := !k.complete }
  let s := s.filterPass 1 p (pktSeen k ((recTlp k.record).getD {}).addr)
  let s := if transit then s.evtFab p (if k.complete then 10 else 9) else s
  let s := if k.record.vc == .tt && bound.isNone && (s.spn.resv.any fun x => x.stream == streamKey k.record)
    then s.bump SPN_CNT_TT_UNBOUND_COUNT else s
  s.updLink p fun l => { l.tookGrain bound r.len with
    tx := l.tx ++ [(k.record.vc, { record := r, left := ceilDiv r.len 4, pkt := some k.id, bound := bound })] }

/-- MG records of this node and in transit line up at order 6. -/
def State.lineMg (s : State) (p : Nat) : State :=
  if (s.link p).tx.any fun x => x.1 == .mg then s
  else match (s.link p).mgRecs with
    | r :: rs =>
      s.updLink p fun l => { l with mgRecs := rs, tx := l.tx ++ [(.mg, { record := r, left := ceilDiv r.len 4 })] }
    | [] =>
      match s.sc.pkts.find? fun k => k.egress == p && k.record.vc == .mg && !k.started && !k.gone &&
          !(k.entry.any fun i => (s.entry i).any fun e => e.seq.isNone) &&
          (48 > k.src || (let g := s.grp (recGrp k.record); !g.unreachable && (!g.draining || (k.entry.bind s.entry).any fun e => e.sent))) with
      | some k => s.startTx p k none
      | none => s

/-- A Grain reserved for TT is in progress at a port: it lasts 64 ns (R218). -/
def State.grainNow (s : State) (p : Nat) : Option GrainNow :=
  match (s.link p).grain with
  | some g => if s.spindleNs < g.began + 64 then some g else none
  | none => none

/-- A packet has been sent before: the journal sends it again (R223). -/
def State.resent (s : State) (k : Packet) : Bool := (k.entry.bind s.entry).any fun e => e.sent

/-- A TT record may leave in the Grain in progress (R223): it was ready 24 ns before the Grain began, it has not been resent,
and the flits of its stream hold it. -/
def State.fitsGrain (s : State) (g : GrainNow) (k : Packet) : Bool :=
  k.tIn + 24 + (s.spindleNs - g.began) ≤ s.now && !s.resent k &&
    g.uses.any fun u => u.stream == streamKey k.record && ceilDiv (u.bytes + k.record.len) 236 ≤ u.r

/-- A TT record of a stream whose Grain is in progress lines up at order 5. -/
def State.lineTt (s : State) (p : Nat) : State :=
  match s.grainNow p with
  | none => s
  | some g =>
    if (s.link p).tx.any fun x => x.1 == .tt then s
    else match s.sc.pkts.find? fun k => k.egress == p && k.record.vc == .tt && !k.started && !k.gone && s.fitsGrain g k &&
        units k.record.len ≤ s.heldCr p .tt with
      | some k => s.startTx p k (some (streamKey k.record))
      | none => s

/-- A link-delay flit goes out: T_TX is the Spindle as it leaves; a request begins its exchange, which 2 µs end (R200). -/
def State.sendDelay (s : State) (p : Nat) (b : FlitBody) : State :=
  let s := s.updLink p fun l => { l with delayDue := l.delayDue.tail }
  match b with
  | .delay rsp id _ t2 t1 st gm =>
    let s := if rsp then s
      else ({ s with spn.exch := Tab.put none s.spn.exch p (some (id, s.stamp)) }).start (.exch p) 2000
    s.sendUnseq p (s.link p).t (.delay rsp id s.stamp t2 t1 st gm)
  | _ => s

/-- The audit of this moment (Table 02.7). -/
def State.auditNow (s : State) (p : Nat) : Audit :=
  let l := s.link p
  { no := (l.audits + 1) % 0x100000000, consumed := l.consumed, received := l.received
    held := { p := s.heldCr p .p, np := s.heldCr p .np, cpl := s.heldCr p .cpl, tt := s.heldCr p .tt, mg := s.heldCr p .mg }
    advEcho := l.peerAdv }

/-- The first line of order 7 that can send, in the order in which the scheduler chose the records (R240). -/
def State.order7 (s : State) (p : Nat) : List VC → Option State
  | [] => none
  | v :: vs =>
    if v == .mg then s.order7 p vs
    else match s.dataFlit p v with
      | some s => some s
      | none => s.order7 p vs

/-- Orders 3 to 8 of Table 02.8, with a place in the replay buffer and no QUIESCE. -/
def State.newFlit (s : State) (p : Nat) : State :=
  let l := s.link p
  let grain : Bool := (s.grainNow p).isSome
  if l.auditDue && !grain then
    let s := s.sendSeq p (.audit (s.auditNow p))
    s.updLink p fun l => { l with audits := (l.audits + 1) % 0x100000000, auditDue := false, sinceAudit := 0 }
  else
    match (if grain then none else l.delayDue.head?) with
    | some d => s.sendDelay p d
    | none =>
      let s := s.lineTt p
      let bound : Bool := (s.link p).tx.any fun x => x.1 == .tt && x.2.bound.isSome
      match (if grain && bound then s.dataFlit p .tt else none) with
      | some s => s.evtFab p 4
      | none =>
        match s.link p with
        | l =>
          match (if 4 ≤ s.heldCr p .mg then l.msgs.head? else none) with
          | some m => ((s.updLink p fun l => { l with msgs := l.msgs.tail }).consume p .mg 4).sendSeq p (.msg m)
          | none =>
            let s := s.lineMg p
            match s.dataFlit p .mg with
            | some s => s
            | none =>
              match s.order7 p ((s.link p).tx.map Prod.fst) with
              | some s => s
              | none =>
                if (s.nextReturn p).isSome then (s.sendSeq p .idle).evtFab p 3
                else (s.sendUnseq p (s.link p).t .idle).evtFab p 3

/-- One TS1 or TS2 on each lane. -/
def State.perLane (s : State) (p : Nat) (lanes : List Nat) (f : Nat → Lctl) : State :=
  lanes.foldl (fun s k => s.flitOut p { body := .lctl (f k) }) s

/-- The TS2 of this end for a lane. -/
def State.ownTs2 (s : State) (p lane : Nat) : Ts2 :=
  { node := s.nodeId, plane := portPlane p, west := portDir p == .west, lane := lane, usable := s.offered p
    rateCap := s.get RING_PORT_RATE_CAP p, feature := s.fwFeature, eqValid := s.on ML_STATUS_EQ_STORED p }

/-- The check sequence of an LCTL flit (R54). -/
def lctlSeq (l : Link) : Lctl → Nat
  | .ts1 _ _ | .ts2 _ | .rateGo _ _ _ | .eq _ _ | .init _ _ _ | .initDone => 0
  | .retrainReq _ _ _ _ | .retrainAck _ _ | .quiesceDone | .reserved _ => l.t

/-- The first LCTL flit in line goes out. -/
def State.sendLctl (s : State) (p : Nat) (m : Lctl) : State :=
  let s := (s.updLink p fun l => { l with lctl := l.lctl.tail }).sendUnseq p (lctlSeq (s.link p) m) (.lctl m)
  match m with
  | .quiesceDone => (s.updLink p fun l => { l with quiesceSent := true }).quiesced p
  | _ => s

/-- The flit of a slot in the states that carry records, and in QUIESCE. -/
def State.slotUp (s : State) (p : Nat) : State :=
  let l := s.link p
  match l.lctl with
  | m :: _ => s.sendLctl p m
  | [] =>
    match l.replayStart with
    | some q => (s.updLink p fun l => { l with replayStart := none }).sendUnseq p q (.replay q)
    | none =>
      match l.replaying with
      | f :: fs =>
        let s := (s.updLink p fun l => { l with replaying := fs }).flitOut p f
        (match f.body with
          | .data .tt _ _ => s.bump ML_CNT_TT_REPLAY_COUNT p
          | _ => s)
      | [] =>
        if 1024 ≤ l.replay.length || s.linkState p == lsQuiesce then
          match (if (s.grainNow p).isSome then none else l.delayDue.head?) with
          | some d => s.sendDelay p d
          | none => (s.sendUnseq p l.t .idle).evtFab p 3
        else s.newFlit p

/-- FLIT_SLOT (R45, R67, R71): what a port sends in its next slot. Its quad PLL must be locked. -/
def State.slot (s : State) (p : Nat) : State :=
  let st := s.linkState p
  let l := s.link p
  if !s.on LN_PORT_STAT_PLL_LOCK p then s
  else if st == lsDetect || st == lsLock then s.perLane p (lanesOf (s.usable p)) fun k => .ts1 k l.trainNo
  else if st == lsRetrain then
    match l.lctl with
    | m :: _ => s.sendLctl p m
    | [] => s.perLane p (lanesOf l.nextLanes) fun k => .ts1 k l.trainNo
  else if st == lsConfig then
    match l.lctl with
    | m :: _ => (s.updLink p fun l => { l with lctl := l.lctl.tail }).perLane p (lanesOf l.nextLanes) fun _ => m
    | [] =>
      let s := s.perLane p (lanesOf (s.usable p)) fun k => .ts2 (s.ownTs2 p k)
      let s := s.updLink p fun l => { l with ts2Sent := l.ts2Sent + 1, rateLeft := l.rateLeft - 1 }
      if l.rateLeft = 1 then s.enterEqualise p l.targetRate else s.configCheck p
  else if st == lsEqualise then
    match l.lctl with
    | m :: _ => s.sendLctl p m
    | [] => s.sendUnseq p l.t .idle
  else if st == lsInit then
    match l.lctl with
    | m :: _ => s.sendLctl p m
    | [] => if l.initSent then s.sendUnseq p 0 (.lctl (.init l.adv 1024 l.nextLanes)) else s.sendUnseq p l.t .idle
  else if s.linkListens p then s.slotUp p
  else s

end Sys2Proof.Machine
end

