-- ==== Sys2Proof/Machine/LaneOps.lean ====
section
/-! DEFINITION. Shared operations of the lane complex (12) and of lane groups (10, R274 to R277): which port has which lanes, quad
PLLs, loss and return of symbol lock, unfit lanes. -/

namespace Sys2Proof.Machine

/-- Widths of the ports of a half, from its lowest lane (Table 10.2). -/
def halfPorts : Nat → List Nat
  | 1 => [8] | 2 => [4, 4] | 3 => [4, 2, 2] | 4 => [2, 2, 4] | 5 => [2, 2, 2, 2] | _ => []

/-- The ports a pair of codes forms in group `g`: first lane and width (R275). -/
def groupPorts (g h0 h1 : Nat) : List (Nat × Nat) :=
  let place (ws : List Nat) (from_ : Nat) : List (Nat × Nat) :=
    (ws.foldl (fun (a : List (Nat × Nat) × Nat) w => (a.1 ++ [(a.2, w)], a.2 + w)) ([], from_)).1
  if g = 8 then place (halfPorts h0) 128
  else if h0 = 0 && h1 = 0 then [(16 * g, 16)]
  else place (halfPorts h0) (16 * g) ++ place (halfPorts h1) (16 * g + 8)

/-- A combination is valid (R275). -/
def bifOk (g h0 h1 : Nat) : Bool :=
  if g = 8 then 1 ≤ h0 && h0 ≤ 5
  else h0 ≤ 5 && h1 ≤ 5 && ((h0 == 0 && h1 == 0) || (h0 != 0 && h1 != 0 && (groupPorts g h0 h1).length ≤ 5))

def pmapFld : Nat → Fld
  | 0 => PX_PMAP_PORT_0 | 1 => PX_PMAP_PORT_1 | 2 => PX_PMAP_PORT_2 | 3 => PX_PMAP_PORT_3 | _ => PX_PMAP_PORT_4

/-- The formed ports of a group: number, first lane, width (R276). -/
def State.formedOf (s : State) (g : Nat) : List (Nat × Nat × Nat) :=
  let ps := groupPorts g (s.get PX_BIF_H0 g) (s.get PX_BIF_H1 g)
  (ps.zip (List.range ps.length)).map fun x =>
    (if g = 8 then 40 + x.2 else s.get (pmapFld x.2) g, x.1.1, x.1.2)

/-- Every formed port of the node; the dual-mode ports are always formed x8 (R274). -/
def State.formed (s : State) : List (Nat × Nat × Nat) :=
  (List.range 9).flatMap (fun g => s.formedOf g) ++ (List.range 4).map fun n => (44 + n, 136 + 8 * n, 8)

/-- First lane and width of a port; none where it is absent. -/
def State.portLanes (s : State) (p : Nat) : Option (Nat × Nat) := (s.formed.find? fun x => x.1 == p).map fun x => x.2

/-- Formed width of a port, 0 where it is absent. -/
def State.formedWidth (s : State) (p : Nat) : Nat := ((s.portLanes p).map Prod.snd).getD 0

/-- Quads a port has lanes in. -/
def State.portQuads (s : State) (p : Nat) : List Nat :=
  match s.portLanes p with
  | some (f, w) => (List.range 42).filter fun q => f / 4 ≤ q && q * 4 < f + w
  | none => []

/-- The reporting unit of a PCI Express port (Table 14.1): its lane group, or 9 to 12 for ports 44 to 47. -/
def State.pxUnit (s : State) (p : Nat) : Nat :=
  if 44 ≤ p then p - 35 else ((List.range 9).find? fun g => (s.formedOf g).any fun x => x.1 == p).getD 0

/-- A port is enabled in the mode it is in. -/
def State.portEnabled (s : State) (p : Nat) : Bool := s.on PX_PORT_CFG_ENABLE p || (44 ≤ p && s.on ML_CTRL_ENABLE p)

/-- A lane test runs on a port (R338). -/
def State.testing (s : State) (p : Nat) : Bool := (List.range 16).any fun l => s.on LN_LANE_CTRL_TEST (laneKey p l)

/-- PLL setting and lock of every port after a change of what powers the quads (R320, R321). -/
def State.pllCheck (s : State) : State :=
  let fs := s.formed
  let powered := (List.range 42).filter fun q => fs.any fun x =>
    (s.portEnabled x.1 || s.testing x.1) && x.2.1 / 4 ≤ q && q * 4 < x.2.1 + x.2.2
  let s := { s with ln.quadLock := s.ln.quadLock.filter fun q => powered.contains q }
  fs.foldl (init := s) fun s x =>
    let qs := (List.range 42).filter fun q => x.2.1 / 4 ≤ q && q * 4 < x.2.1 + x.2.2
    let pow : Bool := qs.all fun q => powered.contains q
    let set := if !pow then 0 else if s.fabricMode x.1 then 2 else 1
    (s.set LN_PORT_STAT_PLL_SET set x.1).flag LN_PORT_STAT_PLL_LOCK (pow && qs.all fun q => s.ln.quadLock.contains q) x.1

/-- Setting ENABLE ends every test on the port's lanes (R338). -/
def State.endTests (s : State) (p : Nat) : State :=
  (List.range 16).foldl (fun s l => (s.set LN_LANE_CTRL_TEST 0 (laneKey p l)).set LN_LANE_CTRL_LOOP 0 (laneKey p l)) s

/-- Lane lock is reported to a port in DETECT: all its usable lanes locked take it to LOCK (R69). -/
def State.detectCheck (s : State) (p : Nat) : State :=
  let u := s.usable p
  if s.linkState p == lsDetect && u != 0 && s.lockedLanes p &&& u == u then
    (s.set ML_STATUS_STATE lsLock p).updLink p fun l => { l with lanes := [] }
  else s

/-- t_LOCKLOSS runs from the oldest loss of an active lane that lasts; in HELD from the moment every lane is lost (R18, R80). -/
def State.armLockLoss (s : State) (p : Nat) : State :=
  let lost := (List.range 8).filterMap fun l => Tab.get none s.ln.lostAt (laneKey p l)
  let t := s.get ML_TIMERS_LOCKLOSS p * 1000
  let at_ : Option Nat :=
    if s.isHeld p then (if lost.length = 8 then lost.max? else none)
    else ((lanesOf (s.get ML_STATUS_LANES p)).filterMap fun l => Tab.get none s.ln.lostAt (laneKey p l)).min?
  match at_ with
  | some x => s.start (.lockLoss p) (x + t - s.now)
  | none => s.stop (.lockLoss p)

/-- A lane loses symbol lock (R326). -/
def State.laneLost (s : State) (p lane : Nat) : State :=
  let k := laneKey p lane
  if !s.on LN_LANE_STAT_LOCK k then s
  else
    let s := ((s.flag LN_LANE_STAT_LOCK false k).flag LN_LANE_STAT_FLIT_LOCK false k).bump LN_LANE_CNT_LOCK_COUNT k
    let first : Bool := !(List.range 16).any fun l => (Tab.get none s.ln.lostAt (laneKey p l)).isSome
    let s := { s with ln.lostAt := Tab.put none s.ln.lostAt k (some s.now) }
    if s.fabricMode p then s.armLockLoss p
    else if s.dlActive p && first then ((s.bump PX_CNT_RECOV_COUNT p).evtPort p 12) else s

/-- The reporting unit of a port's lanes (Table 14.1). -/
def lnUnit (p : Nat) : Nat := if p < 44 then 13 else 14

/-- Lanes of the widest width of a PCI Express port that leaves its unfit lanes out, counted from its lowest lane or, reversed, from
its highest (R327, R334); 0 where there is none. -/
def fitWidth (width unfit : Nat) : Nat :=
  ([16, 8, 4, 2, 1].find? fun w => w ≤ width &&
    ((List.range w).all (fun l => !bit unfit l) || (List.range w).all fun l => !bit unfit (width - 1 - l))).getD 0

/-- WIDTH code of a number of lanes (Table 10.3). -/
def pxWidthCode (w : Nat) : Nat := if w = 0 then 0 else w.log2 + 1

/-- LANE_UNFIT_MARK (R333, R334): the mark and its report; a fabric port asks for a width change, a PCI Express port in L0 changes its
width through Recovery where PX_DEGRADE is 1. -/
def State.markUnfit (s : State) (p lane cause : Nat) : State :=
  let k := laneKey p lane
  let was : Bool := s.on LN_LANE_STAT_UNFIT k
  let s := (s.flag LN_LANE_STAT_UNFIT true k).set LN_LANE_STAT_CAUSE (s.get LN_LANE_STAT_CAUSE k ||| cause) k
  if was then s
  else
    let s := (s.set LN_PORT_STAT_UNFIT (setBit (s.get LN_PORT_STAT_UNFIT p) lane true) p).reportPort (lnUnit p) 0 p
    if s.fabricMode p then s.schedule p rrWidth
    else
      let w := fitWidth (s.formedWidth p) (s.get LN_PORT_STAT_UNFIT p)
      if s.on LN_FIT_PX_DEGRADE && s.dlActive p && 0 < w && pxWidthCode w < s.get PX_PORT_STAT_WIDTH p then
        (((s.set PX_PORT_STAT_WIDTH (pxWidthCode w) p).bump PX_CNT_RECOV_COUNT p).evtPort p 12).emit (.retrain p)
      else s

end Sys2Proof.Machine
end

