-- ==== Sys2Proof/Machine/OmiOps.lean ====
section
/-! DEFINITION. Shared operations of the mailboxes (15, 16): the command a mailbox runs, its parameters, its outcome, the nodes it
acts at. -/

namespace Sys2Proof.Machine

/-- Status codes (Table 16.3). -/
abbrev stSuccess : Nat := 0
abbrev stAccepted : Nat := 1
abbrev stBusy : Nat := 2
abbrev stPrivilege : Nat := 3
abbrev stParameter : Nat := 4
abbrev stState : Nat := 5
abbrev stLate : Nat := 6
abbrev stResource : Nat := 7
abbrev stUnreachable : Nat := 8
abbrev stVerify : Nat := 9
abbrev stFailed : Nat := 10
abbrev stAborted : Nat := 11
abbrev stRestarted : Nat := 12
abbrev stUnsupported : Nat := 13

/-- APPLIED of a status where the row says nothing else (Table 16.3). -/
def appliedOf (st : Nat) : Nat := if st = stSuccess then 1 else if st = stFailed || st = stAborted || st = stRestarted then 2 else 0

def rsp (st : Nat) (results : List Nat := []) : OmiRsp := { status := st, applied := appliedOf st, results := results }
def ok (results : List Nat := []) : OmiRsp := rsp stSuccess results

/-- A little-endian value of `n` bytes, and back (16: every field is little-endian). -/
def le : Nat → Nat → List Nat
  | 0, _ => []
  | n + 1, v => v % 256 :: le n (v / 256)
def unLe : List Nat → Nat
  | [] => 0
  | b :: bs => b % 256 + 256 * unLe bs

/-- Parameter of `n` bytes at an offset. -/
def OmiRun.arg (r : OmiRun) (off n : Nat) : Nat := unLe ((r.params.drop off).take n)

def State.mbox (s : State) (k : Nat) : Mbox := Tab.get {} s.mb.boxes k
def State.setMbox (s : State) (k : Nat) (m : Mbox) : State := { s with mb.boxes := Tab.put {} s.mb.boxes k m }
def State.updMbox (s : State) (k : Nat) (f : Mbox → Mbox) : State := s.setMbox k (f (s.mbox k))

/-- The command a mailbox runs and that has still to be started, if it has this opcode. -/
def State.taken (s : State) (k op : Nat) : Option OmiRun :=
  match (s.mbox k).running with
  | some w => if w.run.opcode == op && !w.started then some w.run else none
  | none => none

/-- Change the work of command `id`, running or deferred. -/
def mapWork (id : Nat) (f : OmiWork → OmiWork) (w : OmiWork) : OmiWork := if w.run.id == id then f w else w
def Mbox.updWork (m : Mbox) (id : Nat) (f : OmiWork → OmiWork) : Mbox :=
  { m with running := m.running.map (mapWork id f), deferred := m.deferred.map (mapWork id f), quiet := m.quiet.map (mapWork id f) }
def State.updWork (s : State) (id : Nat) (f : OmiWork → OmiWork) : State :=
  { s with mb.boxes := Tab.mapVals {} (fun _ (m : Mbox) => m.updWork id f) s.mb.boxes }

/-- A command in work at this node. -/
def State.work (s : State) (id : Nat) : Option OmiWork :=
  s.mb.boxes.findSome? fun x =>
    match (x.2.running.toList ++ x.2.deferred ++ x.2.quiet).find? fun w => w.run.id == id with
    | some w => some w
    | none => none

/-- The response of a command at several nodes (R411). -/
def combine (named : List Nat) (answers : List (Nat × OmiRsp)) : OmiRsp :=
  let st (n : Nat) : Nat := match answers.find? fun a => a.1 == n with | some a => a.2.status | none => stUnreachable
  let ap (n : Nat) : Nat := match answers.find? fun a => a.1 == n with | some a => a.2.applied | none => 2
  let table := (List.range 16).flatMap fun n => le 2 (if named.contains n then st n else 0xFFFF)
  let bad := (List.range 16).find? fun n => named.contains n && st n != stSuccess
  let applied := if named.all (fun n => ap n == 1) then 1 else if named.all (fun n => ap n == 0) then 0 else 2
  match bad with
  | some n => { status := st n, applied := applied, failNode := n, results := table }
  | none => { status := stSuccess, applied := applied, results := table }

/-- Command `id` has its outcome at node `n`; with the last of its nodes the whole outcome stands: for a command with
NODE_STATUS that of every node (R411), for another the first failure, or the outcome at the issuing node. -/
def State.answer (s : State) (id n : Nat) (r : OmiRsp) : State :=
  s.updWork id fun w =>
    let answers := w.answers ++ [(n, r)]
    let waiting := w.waiting.filter fun m => m != n
    let outcome := if !waiting.isEmpty then none
      else if w.multi then some (combine (answers.map Prod.fst) answers)
      else
        match answers.find? fun a => a.2.status != stSuccess && a.2.status != stAccepted with
        | some a => some { a.2 with failNode := a.1, applied := if answers.length = 1 then a.2.applied else 2 }
        | none => some { ((answers.find? fun a => a.1 == w.run.node).map Prod.snd).getD r with failNode := 0xFF }
    { w with answers := answers, waiting := waiting, outcome := outcome }

/-- Command `id` ends at this node. -/
def State.finish (s : State) (id : Nat) (r : OmiRsp) : State := s.answer id s.nodeId r

/-- The command that waits for an event, if one does, ends. -/
def State.finishOpt (s : State) (id : Option Nat) (r : OmiRsp) : State :=
  match id with
  | some i => s.finish i r
  | none => s

/-- Firmware message types of this chapter: a forwarded command and its answer (R387). -/
abbrev fwForward : Nat := 0x10
abbrev fwAnswer : Nat := 0x11

/-- Forward a command to mailbox 17 of another node (R387); a node that cannot be reached answers at once. -/
def State.forward (s : State) (r : OmiRun) (n : Nat) : State :=
  if !s.reachable n then s.answer r.id n { status := stUnreachable, applied := 0 }
  else s.sendFw r.part n (.other fwForward ([r.id, r.opcode, r.seq, r.token, r.priv, r.part, s.nodeId, if r.selfThaw then 1 else 0] ++ r.params))

/-- Start the command of mailbox `k` at the nodes `ns`: it runs here where this node is named, and is forwarded to the others. A
forwarded command runs here only (R411). `run` gives the outcome here, or none where it comes later. -/
def State.start_ (s : State) (r : OmiRun) (multi : Bool) (ns : List Nat) (run : State → State × Option OmiRsp) : State :=
  let here : Bool := r.mbox == 17 || ns.contains s.nodeId
  let far := if r.mbox == 17 then [] else ns.filter fun n => n != s.nodeId
  let named := (if here then [s.nodeId] else []) ++ far
  let s := s.updWork r.id fun w => { w with started := true, multi := multi && r.mbox != 17, waiting := named }
  let s := if here then
      let x := run s
      match x.2 with
      | some o => x.1.finish r.id o
      | none => x.1
    else s
  far.foldl (fun s n => s.forward r n) s

/-- An OMI command of mailbox `k` with opcode `op` that acts at the nodes `ns` of its parameters. -/
def State.omi (s : State) (k op : Nat) (multi : Bool) (ns : OmiRun → List Nat)
    (run : State → OmiRun → State × Option OmiRsp) : State :=
  match s.taken k op with
  | some r => s.start_ r multi (ns r) fun s => run s r
  | none => s

/-- Nodes of a NODES field at offset `off` (R411), and of a NODE byte. -/
def State.nodesArg (s : State) (off : Nat) (r : OmiRun) : List Nat :=
  let m := r.arg off 2
  if m = 0 then [s.nodeId] else members m
def nodeArg (off : Nat) (r : OmiRun) : List Nat := [r.arg off 1 % 16]

/-- The command acts at the node of its mailbox. -/
def State.hereArg (s : State) (_ : OmiRun) : List Nat := [s.nodeId]

/-- An outcome that changes nothing. -/
def State.says (s : State) (st : Nat) : State × Option OmiRsp := (s, some (rsp st))

/-- The issuer may act on what partition `p` owns: the fabric manager on anything, a host on its own (R410). -/
def OmiRun.mayOwn (r : OmiRun) (p : Nat) : Bool := r.priv == 1 || (r.priv == 0 && r.part == p)

end Sys2Proof.Machine
end

