-- ==== Sys2Proof/Machine/WinOps.lean ====
section
/-! DEFINITION. Shared operations of the address windows (04): acknowledgements between nodes, the view of a hierarchy that every
node keeps, banks and commits, the lookup of a request. -/

namespace Sys2Proof.Machine

/-! ## Acknowledgements of firmware -/

abbrev fwAck : Nat := 0x02
abbrev fwView : Nat := 0x03
abbrev fwBound : Nat := 0x04
abbrev fwGrant : Nat := 0x05

/-- Something has been handed to every other member, which each acknowledges; with no other member it has ended. Gives the
number the messages carry. -/
def State.awaitAll (s : State) (d : AckDone) : Nat × State :=
  (s.nextAck, { s with nextAck := s.nextAck + 1, acks := s.acks ++ [{ id := s.nextAck, waiting := s.others, done := d }] })

/-- Acknowledge to a node. -/
def State.sendAck (s : State) (part node id : Nat) : State :=
  if id = 0 then s else s.sendFw part node (.other fwAck [id])

/-- A node has acknowledged. What follows with the last of them comes in `State.settle`. -/
def State.ackNote (s : State) (id node : Nat) : State :=
  { s with acks := s.acks.map fun (j : AckJob) => if j.id == id then { j with waiting := j.waiting.filter fun n => n != node } else j }

/-- Acknowledge to a node, which may be this one. -/
def State.ackTo (s : State) (part node id : Nat) : State :=
  if node = s.nodeId then s.ackNote id node else s.sendAck part node id

/-- Wait for the acknowledgement of certain nodes. -/
def State.awaitThese (s : State) (ns : List Nat) (d : AckDone) : Nat × State :=
  (s.nextAck, { s with nextAck := s.nextAck + 1, acks := s.acks ++ [{ id := s.nextAck, waiting := ns, done := d }] })

/-! ## Views (R95, R117, R127, R281) -/

def viewKey (part n : Nat) : Nat := part * 32 + n
def State.view (s : State) (part n : Nat) : VView := Tab.get {} s.win.view (viewKey part n)
def State.setView (s : State) (part n : Nat) (v : VView) : State :=
  { s with win.view := Tab.put {} s.win.view (viewKey part n) v }

/-- MPS of a Device Control value: its bits [7:5], 128 to 1,024 bytes here. -/
def mpsOf (devctl : Nat) : Nat := 128 * 2 ^ min 3 (devctl / 32 % 8)

/-- The view of a vDSP at the home node, from its binding and its configuration space. -/
def State.viewOf (s : State) (k n : Nat) : VView :=
  match s.bind k n with
  | none => {}
  | some b =>
    let bus := s.cfg k n cfgBus
    let mem := s.cfg k n 0x20
    let pref := s.cfg k n 0x24
    { kind := b.kind, node := b.node, inst := b.inst, port := b.port
      mps := if b.kind = 2 then mpsOf (s.cfg k n cfgDevCtl) else 128 * 2 ^ b.mps
      acs := s.cfg k n cfgAcsCtl / 65536, acsVec := s.cfg k n cfgAcsVec
      memBase := mem / 16 % 4096 * 1048576, memLimit := mem / 1048576 * 1048576 + 0xFFFFF
      prefBase := s.cfg k n 0x28 * 4294967296 + pref / 16 % 4096 * 1048576
      prefLimit := s.cfg k n 0x2C * 4294967296 + pref / 1048576 * 1048576 + 0xFFFFF
      sec := bus / 256 % 256, sub := bus / 65536 % 256
      physSec := if b.kind = 2 then b.phys / 256 else 0, ide := b.ide, dpc := s.cfg k n cfgDpcCtl / 65536 % 4 }

/-- The vUSP's view: the host port and its MPS. -/
def State.hostView (s : State) (k : Nat) : VView :=
  { kind := 0, node := s.nodeId, port := s.get PART_CTRL_UP_PORT k, mps := mpsOf (s.cfg k fnVusp cfgDevCtl)
    ide := s.on PX_PORT_CFG_IDE_PASS (s.get PART_CTRL_UP_PORT k) }

def viewWords (v : VView) : List Nat :=
  [v.kind, v.node, v.inst, v.port, v.mps, v.acs, v.acsVec, v.memBase, v.memLimit, v.prefBase, v.prefLimit, v.sec, v.sub,
   v.physSec, if v.ide then 1 else 0, v.dpc]

def viewFrom (xs : List Nat) : VView :=
  let f (i : Nat) : Nat := xs.getD i 0
  { kind := f 0, node := f 1, inst := f 2, port := f 3, mps := f 4, acs := f 5, acsVec := f 6, memBase := f 7, memLimit := f 8
    prefBase := f 9, prefLimit := f 10, sec := f 11, sub := f 12, physSec := f 13, ide := f 14 == 1, dpc := f 15 }

/-- Install a view at this node; the function's node takes VIRT_BUS and the subordinate bus from it (R95). -/
def State.installView (s : State) (part n : Nat) (v : VView) : State :=
  let s := s.setView part n v
  if v.kind != 0 && v.node == s.nodeId && s.liveInst v.inst && s.get PART_FN_A_OWNER v.inst == part then
    let s := s.set PART_FN_B_VIRT_BUS v.sec v.inst
    { s with part.virtSub := Tab.put 0 s.part.virtSub v.inst v.sub }
  else s

/-- The home node's view of a function goes to every member; `d` follows when every one has it (R95, R117). -/
def State.spreadView (s : State) (k n : Nat) (d : AckDone) : State :=
  let part := s.get PART_CTRL_PART_ID k
  let v := if n = 0 then s.hostView k else s.viewOf k n
  let s := s.installView part n v
  let a := s.awaitAll d
  a.2.fwAll part (.other fwView ([part, n, a.1] ++ viewWords v))

/-- Settings of a port that the nodes with a map must know: the MPS code, IDE_PASS in bit 2 (R281, R284). -/
def State.cfgWord (s : State) (p : Nat) : Nat := s.get PX_PORT_CFG_MPS p % 4 + 4 * s.get PX_PORT_CFG_IDE_PASS p

/-- The home node takes an event of a port; a change of its settings goes into the view. -/
def State.vdspCame (s : State) (part n ev v : Nat) : State :=
  let s := s.vdspEvent part n ev v
  if ev != lnkCfg then s
  else match s.slotOf part with
    | some k => s.spreadView k n .none
    | none => s

/-- A port's settings have changed: the home nodes of its instances are told, or its host's view follows. -/
def State.tellCfg (s : State) (p : Nat) : State :=
  let s := match s.slotOfPort p with
    | some k => s.spreadView k 0 .none
    | none => s
  (s.instsOfPort p).foldl (init := s) fun s i =>
    let part := s.get PART_FN_A_OWNER i
    let n := s.get PART_FN_B_VDSP i
    if n = 0 then s
    else match s.homeOf part with
      | some h => if h = s.nodeId then s.vdspCame part n lnkCfg (s.cfgWord p)
        else s.sendFw part h (.other fwLink [part, n, lnkCfg, s.cfgWord p])
      | none => s

/-! ## Banks (R121) -/

def entKey (part bank idx : Nat) : Nat := (part * 2 + bank) * 256 + idx
def State.went (s : State) (part bank idx : Nat) : WEnt := Tab.get {} s.win.ents (entKey part bank idx)
def State.setWent (s : State) (part bank idx : Nat) (e : WEnt) : State :=
  { s with win.ents := Tab.put {} s.win.ents (entKey part bank idx) e }

/-- Active bank of the segment an index lies in. -/
def State.activeBank (s : State) (part idx : Nat) : Nat :=
  if idx < 128 then s.get WIN_PCTRL_ACT_BOUND part else s.get WIN_PCTRL_ACT_MANAGED part

def State.active (s : State) (part idx : Nat) : WEnt := s.went part (s.activeBank part idx) idx

/-- An entry from its eight dwords and back (Table 04.1). -/
def wentFrom (d : List Nat) : WEnt :=
  let w (i : Nat) : Nat := d.getD i 0
  { tgtPart := w 0 / 2 ^ 26 % 64, tgtNode := w 0 / 2 ^ 22 % 16, tgtCs := w 0 / 2 ^ 20 % 4, kind := w 0 / 2 ^ 16 % 16
    atOk := (w 0).testBit 14, prefetch := (w 0).testBit 13, fromInst := (w 0).testBit 12, fromHost := (w 0).testBit 11
    wrEn := (w 0).testBit 10, rdEn := (w 0).testBit 9, size := w 0 % 64, tgtInst := w 1 % 512
    base := w 2 / 4096 % 2 ^ 20 * 4096 + w 3 % 2 ^ 32 * 2 ^ 32, offset := w 4 / 4096 % 2 ^ 20 * 4096 + w 5 % 2 ^ 32 * 2 ^ 32 }

def wentWords (e : WEnt) : List Nat :=
  [e.tgtPart * 2 ^ 26 + e.tgtNode * 2 ^ 22 + e.tgtCs * 2 ^ 20 + e.kind * 2 ^ 16 + b2n e.atOk 14 + b2n e.prefetch 13 +
     b2n e.fromInst 12 + b2n e.fromHost 11 + b2n e.wrEn 10 + b2n e.rdEn 9 + e.size, e.tgtInst,
   e.base % 2 ^ 32, e.base / 2 ^ 32, e.offset % 2 ^ 32, e.offset / 2 ^ 32, 0, 0]

def wentValid (e : WEnt) : Bool := 12 ≤ e.size && e.size ≤ 52

/-- HELD (R113): the node has an ingress of the partition: its upstream port, an instance, a Turn. -/
def State.checkHeld (s : State) (part : Nat) : State :=
  s.flag WIN_PCTRL_HELD ((s.slotOf part).isSome || !(s.instsOf part).isEmpty || s.spn.turns.any fun x => x.2.owner == some part) part

/-! ## Commits (R120 to R123) -/

def State.winBusy (s : State) (part : Nat) : Bool := s.on WIN_PCTRL_COMMIT_BUSY part || s.on WIN_PCTRL_RELOAD_BUSY part

/-- A commit is accepted at this node: it swaps within 2 µs. -/
def State.beginCommit (s : State) (c : Commit) : State :=
  ({ s with win.commits := s.win.commits ++ [c] }.flag WIN_PCTRL_COMMIT_BUSY true c.part).start (.swap c.part) 2000

/-- The rule of R120 that a managed entry breaks, 1 to 5, if it breaks one. -/
def State.ruleBroken (s : State) (part : Nat) (e : WEnt) : Option Nat :=
  if !wentValid e then none
  else if e.base % 2 ^ e.size != 0 then some 1
  else if !([0, 3, 4, 5].contains e.kind) then some 2
  else if e.kind == 0 && e.fromHost then some 3
  else if e.kind == 3 && (e.tgtPart == part || s.partState e.tgtPart == partFree) then some 4
  else if e.kind == 4 && e.tgtNode == s.nodeId && !s.on LB_CTRL_EN then some 5
  else none

/-- The first managed shadow entry that breaks R120, and its rule. -/
def State.firstBroken (s : State) (part : Nat) : Option (Nat × Nat) :=
  ((List.range 128).map fun j => 128 + j).findSome? fun i =>
    (s.ruleBroken part (s.went part (1 - s.get WIN_PCTRL_ACT_MANAGED part) i)).map fun r => (i, r)

/-- Which segment a commit names holds an index. -/
def Commit.names (c : Commit) (idx : Nat) : Bool := if idx < 128 then c.bound else c.managed

/-- COMMIT_SWAP: the named banks swap in one cycle. -/
def State.swap (s : State) (c : Commit) : State :=
  let s := if c.bound then s.set WIN_PCTRL_ACT_BOUND (1 - s.get WIN_PCTRL_ACT_BOUND c.part) c.part else s
  let s := if c.managed then s.set WIN_PCTRL_ACT_MANAGED (1 - s.get WIN_PCTRL_ACT_MANAGED c.part) c.part else s
  s.flag WIN_PCTRL_STRICT_UP (Tab.get false s.win.strict (c.part * 2 + s.get WIN_PCTRL_ACT_MANAGED c.part)) c.part

/-- The copy of the new active bank into the new shadow (R123). -/
def State.reload (s : State) (c : Commit) : State :=
  let s := ((List.range 256).filter c.names).foldl (init := s) fun s i =>
    let b := s.activeBank c.part i
    s.setWent c.part (1 - b) i (s.went c.part b i)
  if c.managed then
    let b := s.get WIN_PCTRL_ACT_MANAGED c.part
    { s with win.strict := Tab.put false s.win.strict (c.part * 2 + (1 - b)) (Tab.get false s.win.strict (c.part * 2 + b)) }
  else s

/-- The bound segment of a partition at its home node (R116): BAR0 of the management endpoint, and the BARs of every
function-bound function whose Memory Space Enable is 1. -/
def State.boundEnts (s : State) (k : Nat) : List WEnt :=
  let ep := if (s.cfg k fnMgmt cfgCommand).testBit 1 then
      let a := s.cfg k fnMgmt 0x10 / 1048576 * 1048576 + s.cfg k fnMgmt 0x14 * 4294967296
      if a = 0 then [] else [({ kind := 2, fromHost := true, wrEn := true, rdEn := true, size := 20, base := a } : WEnt)]
    else []
  ep ++ ((List.range 32).flatMap fun n =>
    match s.bind k n with
    | some b =>
      if b.kind != 1 || !(s.cfg k (fnBehind n) cfgCommand).testBit 1 then []
      else (List.range 3).filterMap fun i =>
        let key := b.port * 65536 + b.phys
        let sz := Config.devBar key i
        let a := s.cfg k (fnBehind n) (0x10 + 8 * i) / 4096 * 4096 + s.cfg k (fnBehind n) (0x14 + 8 * i) * 4294967296
        if sz < 12 || a = 0 then none
        else some { kind := 1, tgtNode := b.node, tgtInst := b.inst, fromHost := true, fromInst := true, wrEn := true
                    rdEn := true, atOk := true, prefetch := Config.devBarPref key i, size := sz
                    base := a, offset := (Config.devBarAddr key i / 4096 * 4096 + (2 ^ 64 - a % 2 ^ 64)) % 2 ^ 64 }
    | none => [])

/-- Stage a bound segment in the shadow. -/
def State.stageBound (s : State) (part : Nat) (es : List WEnt) : State :=
  let b := 1 - s.get WIN_PCTRL_ACT_BOUND part
  (List.range 128).foldl (fun s i => s.setWent part b i (es.getD i {})) s

/-- A bound commit at this node: now, or after the commit in progress (Table 04.3). -/
def State.boundCommit (s : State) (es : List WEnt) (c : Commit) : State :=
  if s.winBusy c.part then { s with win.waiting := s.win.waiting ++ [(c, es)] }
  else (s.stageBound c.part es).beginCommit c

/-- The home node stages and commits the bound segment at every node; `d` follows when every one has swapped (R116). -/
def State.spreadBound (s : State) (k : Nat) (d : AckDone) : State :=
  let part := s.get PART_CTRL_PART_ID k
  let es := s.boundEnts k
  let a := s.awaitAll d
  let s := { a.2 with acks := a.2.acks.map fun (j : AckJob) => if j.id == a.1 then { j with waiting := j.waiting ++ [a.2.nodeId] } else j }
  let s := s.fwAll part (.other fwBound ([part, a.1] ++ es.flatMap wentWords))
  s.boundCommit es { part := part, bound := true, managed := false, ack := some (s.nodeId, a.1) }

/-! ## The lookup (R113 to R115, R119, R125, R127 to R129) -/

/-- Where a request goes. -/
inductive Tgt where
  | host (part : Nat)
  | inst (node idx vdsp : Nat)
  | mgmt
  | bus (node cs : Nat)
  deriving DecidableEq, Repr

/-- What a lookup finds: a target with the address after translation, the entry (none for a bridge range or a miss sent to the
host) and whether reads may be repeated; a denial or a violation with its cause and the entry. -/
inductive Look where
  | go (t : Tgt) (addr : Nat) (entry : Option Nat) (prefetch : Bool)
  | denied (cause : Nat)
  | violation (cause entry : Nat)
  deriving DecidableEq, Repr

/-- Writes and messages; reads; atomics are both. -/
def isWrite (t : Tlp) : Bool := match t.kind with | .memWrite | .msg | .atomic => true | _ => false
def isRead (t : Tlp) : Bool := match t.kind with | .memRead | .atomic => true | _ => false

/-- Bytes a request covers, at least one. -/
def span (t : Tlp) : Nat := max 1 t.bytes

/-- What a request hits (R113, R114): the entry that covers its first byte, or the port-bound vDSP whose range does. -/
inductive Hit where
  | ent (idx : Nat) (e : WEnt)
  | range (vdsp : Nat) (last : Nat) (pref : Bool)
  deriving DecidableEq, Repr

def WEnt.covers (e : WEnt) (a : Nat) : Bool := wentValid e && e.base ≤ a && a < e.base + 2 ^ e.size

def State.hitEnt (s : State) (part a : Nat) (is : List Nat) : Option Hit :=
  (is.find? fun i => (s.active part i).covers a).map fun i => .ent i (s.active part i)

def State.hitRange (s : State) (part a : Nat) : Option Hit :=
  (List.range 32).findSome? fun n =>
    let v := s.view part n
    if v.kind != 2 then none
    else if v.memBase ≤ a && a ≤ v.memLimit then some (.range n v.memLimit false)
    else if v.prefBase ≤ a && a ≤ v.prefLimit then some (.range n v.prefLimit true)
    else none

def State.hit (s : State) (part a : Nat) : Option Hit :=
  match s.hitEnt part a (List.range 128) with
  | some h => some h
  | none =>
    match s.hitRange part a with
    | some h => some h
    | none => s.hitEnt part a ((List.range 128).map fun j => 128 + j)

/-- The vDSP that presents an instance to its owner. -/
def State.vdspOf (s : State) (part node idx : Nat) : Nat :=
  ((List.range 32).find? fun n => let v := s.view part n; v.kind != 0 && v.node == node && v.inst == idx).getD 0

/-- ACS of an instance's vDSP on a request toward vDSP `m` of its partition (Table 04.4): go on, go to the host, or a violation. -/
inductive Acs where
  | pass | redirect | block (cause : Nat)
  deriving DecidableEq, Repr

def acsRule (v : VView) (own m : Nat) (t : Tlp) : Acs :=
  if own == m then .block 9
  else if v.acs.testBit 6 && t.at_ == .translated then .pass
  else if v.acs.testBit 5 && v.acsVec.testBit m then (if v.acs.testBit 2 then .redirect else .block 7)
  else if v.acs.testBit 2 then .redirect
  else .pass

/-- The lookup of a request of a partition's host (`own` none) or of the instance that its vDSP `own` presents. Redirections are
counted. -/
def State.lookup (s : State) (part : Nat) (own : Option Nat) (t : Tlp) : Look × State :=
  let fail (cause entry : Nat) : Look := if own.isSome then .violation cause entry else .denied cause
  let me := s.view part (own.getD 0)
  let home (s : State) : Look × State := (.go (.host part) t.addr none false, s)
  let acs (s : State) (m : Nat) (go : Look) (entry : Nat) : Look × State :=
    match own with
    | none => (go, s)
    | some n =>
      match acsRule me n m t with
      | .pass => (go, s)
      | .redirect => home (s.bump WIN_CNT_REDIRECT_COUNT)
      | .block c => (.violation c entry, s)
  let blocked : Bool := own.isSome && me.acs.testBit 1 && t.at_ != .untranslated
  match s.hit part t.addr with
  | none =>
    if own.isNone then (.denied 0, s)
    else if s.on WIN_PCTRL_STRICT_UP part then (.violation 8 0, s)
    else home s
  | some (.range n last pref) =>
    if blocked then (fail 6 0, s)
    else if last < t.addr + span t - 1 then (fail 4 0, s)
    else acs s n (.go (.inst (s.view part n).node (s.view part n).inst n) t.addr none pref) 0
  | some (.ent i e) =>
    if e.kind == 5 then (.denied 0xA, s)
    else if !(if own.isSome then e.fromInst else e.fromHost) then (fail 3 i, s)
    else if blocked || (t.at_ == .translated && !e.atOk) then (fail 6 i, s)
    else if isWrite t && !e.wrEn then (fail 1 i, s)
    else if isRead t && !e.rdEn then (fail 2 i, s)
    else if e.base + 2 ^ e.size < t.addr + span t then (fail 4 i, s)
    else
      let a := (t.addr + e.offset) % 2 ^ 64
      match e.kind with
      | 0 => (.go (.host part) a (some i) e.prefetch, s)
      | 1 =>
        let m := s.vdspOf part e.tgtNode e.tgtInst
        acs s m (.go (.inst e.tgtNode e.tgtInst m) a (some i) e.prefetch) i
      | 2 => (.go .mgmt a (some i) false, s)
      | 3 =>
        if (isWrite t && !bit (s.get WIN_GRANT_W_MASK part) e.tgtPart) || (isRead t && !bit (s.get WIN_GRANT_R_MASK part) e.tgtPart)
        then (.denied 5, s) else (.go (.host e.tgtPart) a (some i) e.prefetch, s)
      | _ => (.go (.bus e.tgtNode e.tgtCs) a (some i) e.prefetch, s)

end Sys2Proof.Machine
end

