-- ==== Sys2Proof/Machine/SchOps.lean ====
section
/-! DEFINITION. Shared operations of the scheduler (08) and of egress (05): values in force, meters, ordering rules, readiness,
deficit round robin, the start of a packet on a PCI Express egress. -/

namespace Sys2Proof.Machine

/-! ## Values in force (R231) -/

/-- The value of a SCH field in force: latched at the last refill. -/
def State.sch_ (s : State) (f : Fld) (i : Nat := 0) : Nat := Tab.get (fieldReset (f.key i)) s.sch.act (f.key i)
def State.schOn (s : State) (f : Fld) : Bool := s.sch_ f != 0

/-- Quantum in bytes of source `i` at egress `e` (R242). -/
def quantumReset (k : Nat) : Nat := if 44 ≤ k / 64 && k / 64 ≤ 47 && 44 ≤ k % 64 then 256 else 32
def State.quantum (s : State) (k : Nat) : Nat := 64 * Tab.get (quantumReset k) s.sch.quantaAct k

/-- Cost of a packet at a port (R230). -/
def State.cost (s : State) (p : Nat) (k : Packet) : Nat := k.bytes + s.sch_ SCH_PORT_OH p

/-- A meter's buckets: 32 bits signed for the peak bucket. -/
def s32 (n : Nat) : Int := if n < 0x80000000 then n else (n : Int) - 0x100000000
def u32 (x : Int) : Nat := (x % 0x100000000).toNat

/-! ## The two-bucket stage (R233, R234) -/

/-- A packet of cost `c` passes the meter of a partition: excess or not, its release time, the state after. -/
def State.meter (s : State) (part c : Nat) : Bool × Option Nat × State :=
  if !s.schOn SCH_CTRL_METER_EN then (false, none, s.evtPart part 0)
  else
    let pir := s.sch_ SCH_MTR_P_PIR part
    let cir := s.sch_ SCH_MTR_C_CIR part
    let tok := s32 (s.get SCH_MTR_PTOK_PTOK part)
    let rel : Option Nat := if pir = 0 || 0 ≤ tok then none
      else some (s.sch.lastRefill + 1024 * ceilDiv tok.natAbs (4 * pir))
    let s := if pir = 0 then s else s.set SCH_MTR_PTOK_PTOK (u32 (tok - c)) part
    let s := if rel.isSome then (s.bump SCH_CNT_HELD_COUNT).evtPart part 2 else s
    let ctok := s.get SCH_MTR_CTOK_CTOK part
    if cir = 0xFFFF then (false, rel, s.evtPart part 0)
    else if cir ≠ 0 ∧ c ≤ ctok then (false, rel, (s.set SCH_MTR_CTOK_CTOK (ctok - c) part).evtPart part 0)
    else (true, rel, (s.bump SCH_CNT_EXCESS_COUNT).evtPart part 1)

/-- Both buckets of a meter are full, its fields at their reset values (R237). -/
def State.resetMeter (s : State) (part : Nat) : State :=
  let s := ((s.unsetReg .SCH_MTR_C part).unsetReg .SCH_MTR_P part)
  let s := ((s.unset SCH_MTR_CTOK_CTOK part).unset SCH_MTR_PTOK_PTOK part)
  s.flag SCH_STATUS_PEND true

/-! ## Ordering (R149 to R152) -/

/-- Packets queued in the VOQs of source `i` at egress `e`. -/
def State.queued (s : State) (i e : Nat) : List Packet :=
  s.sc.pkts.filter fun k => k.src == i && k.egress == e && !k.started && !k.gone && k.record.vc != .mg

/-- Oldest of a list by number of arrival. -/
def oldest : List Packet → Option Packet
  | [] => none
  | k :: ks => match oldest ks with
    | some j => if j.arrival < k.arrival then some j else some k
    | none => some k

def headOf (ks : List Packet) (v : VC) : Option Packet := oldest (ks.filter fun k => k.record.vc == v)

def pktTlp (k : Packet) : Tlp := (recTlp k.record).getD {}

/-- Table 05.5: the later packet may leave before the earlier one. -/
def pcieTable (later earlier : Packet) : Bool :=
  let h := pktTlp later
  let g := pktTlp earlier
  match later.record.vc, earlier.record.vc with
  | .p, .np | .p, .cpl | .np, .cpl | .cpl, .np => true
  | .np, .p => h.ido && h.reqId != g.reqId
  | .cpl, .p => h.ro || (h.ido && h.cplId != g.reqId)
  | _, _ => false

/-- A head of an ordering stream is eligible against the other heads (R150, R151). -/
def eligible (pcie : Bool) (heads : List Packet) (h : Packet) : Bool :=
  heads.all fun g => g.id == h.id || h.arrival < g.arrival ||
    (if pcie then pcieTable h g else g.record.vc == .np && g.ctxWait && h.record.vc != .np)

/-- The link of egress `e` is no faster than the link of port `p` (R68, R147). -/
def State.noFaster (s : State) (e p : Nat) : Bool := s.rawRefill e ≤ s.rawRefill p

/-- The ingress link is in flit mode. -/
def State.flitIn (s : State) (p : Nat) : Bool := s.fabricMode p || s.on PX_PORT_STAT_FLIT p

/-- Credits of the link partner a TLP takes (R238): header and data places of `Px.partner`, data credits of 16 bytes. -/
def crPlace (t : Tlp) : Nat := match tlpVc t with | .np => 2 | .cpl => 4 | _ => 0
def crData (t : Tlp) : Nat :=
  match t.kind with
  | .memWrite | .ioWrite | .cfgWrite0 | .cfgWrite1 | .atomic | .msg | .cpl => ceilDiv t.bytes 16
  | _ => 0

def hasCr (xs : List (Option Nat)) (i n : Nat) : Bool := match xs.getD i (some 0) with | some c => n ≤ c | none => true
def takeCr (xs : List (Option Nat)) (i n : Nat) : List (Option Nat) :=
  (List.range xs.length).map fun j => if j = i then (xs.getD j none).map fun c => c - n else xs.getD j none

/-- Credits of a VC that records already chosen for a fabric egress will take. -/
def State.owedCr (s : State) (e : Nat) (v : VC) : Nat :=
  (((s.link e).tx.filter fun x => x.1 == v && !x.2.begun && !x.2.abort).map fun x => units x.2.record.len).sum

/-- What a packet wants before it can leave. -/
inductive Want where
  | nothing
  /-- credits of its type on the egress, or a charge at the next node -/
  | credits
  /-- an NPT context or tag -/
  | context
  /-- anything else: its release time, its end, its journal -/
  | other
  deriving DecidableEq, Repr

/-- The request goes to a completer that is an endpoint, so that its ID and tag are replaced (R96). -/
def State.proxied (s : State) (e : Nat) : Bool := s.role e != roleUp

/-- Generation and instance of a request that leaves on a PCI Express port (R98): an instance's own, or that of the function-bound
instance it goes to. -/
def State.genOf (s : State) (k : Packet) : Nat × Option Nat :=
  if k.record.gen != 0 then (k.record.gen, if k.record.srcNode == s.nodeId then k.inst else none)
  else match k.record.inst with
    | some i => if s.on PART_FN_A_BIND i then (0, none) else (s.get PART_FN_B_GEN i, some i)
    | none => (0, none)

/-- The function the requester sees as completer of a request that has come from another node or stands here (R102). -/
def State.seenAs (s : State) (k : Packet) : Nat :=
  if k.record.srcNode == s.nodeId then k.cplId
  else match k.record.inst with
    | some i => s.vdspId k.record.srcPart (s.vdspOf k.record.srcPart s.nodeId i)
    | none => s.vuspId k.record.srcPart

/-- A context for a packet that leaves on PCI Express port `e`. -/
def State.ctxFor (s : State) (e : Nat) (k : Packet) : Option (Nat × State) :=
  let g := s.genOf k
  s.takeCtx e k.record.srcPart k.record.srcNode (pktTlp k) g.1 g.2 k.record.inst (s.seenAs k) (s.proxied e && !(pktTlp k).ide) .cpl

/-- A context for a read at the local bus bridge (R304), without substitution: its index, and the state after. -/
def State.lbCtx (s : State) (k : Packet) : Option (Nat × State) :=
  let g := s.genOf k
  match s.takeCtx 48 k.record.srcPart k.record.srcNode (pktTlp k) g.1 g.2 none (s.seenAs k) false .cpl with
  | some (_, s) => s.part.ctxs.getLast?.map fun c => (c.idx, s)
  | none => none

/-- A record of this node's journal may go: it has a sequence, its group has a path and drains only what has been sent, its flow
is not being purged. -/
def State.journalLets (s : State) (k : Packet) : Bool :=
  match k.entry.bind s.entry with
  | some e =>
    let g := s.grp (recGrp k.record)
    e.seq.isSome && !g.unreachable && (!g.draining || e.sent) && (s.flow (entryFlow e)).purge.isEmpty
  | none => k.entry.isNone

/-- What an eligible packet wants at egress `e`. -/
def State.wants (s : State) (e : Nat) (k : Packet) : Want :=
  if k.release.any (fun t => s.now < t) || k.charge == .waiting || 2 ≤ s.get JNL_STATUS_PF_PHASE then .other
  else if s.fabricMode e then
    let line := (s.link e).tx.filter fun x => x.1 == k.record.vc
    if !s.linkCarries e || !s.journalLets k then .other
    else if 2 ≤ line.length || line.any (fun x => x.2.abort || (x.2.pkt.bind s.pkt).any fun q => !q.complete) then .other
    else if !k.complete && !(line.isEmpty && k.inPort.any (fun p => s.noFaster e p)) then .other
    else if s.heldCr e k.record.vc < units k.record.len + s.owedCr e k.record.vc then .credits
    else if k.record.vc == .tt && s.ttWaits k then .other
    else .nothing
  else if e = 48 then
    if (s.arrived k && k.pass == .none) || !k.complete then .other
    else if tlpNonPosted (pktTlp k) && (s.lbCtx k).isNone then .context
    else .nothing
  else
    let x := s.px e
    let t := pktTlp k
    if !s.dlActive e || s.on PX_PORT_STAT_DPC e || x.sending.isSome || s.get PX_PORT_STAT_PM e == 2 then .other
    else if s.arrived k && k.pass == .none then .other
    else if !k.complete && !(k.cutOk && k.inPort.any fun p => s.flitIn p && s.noFaster e p) then .other
    else if !(hasCr x.partner (crPlace t) 1 && hasCr x.partner (crPlace t + 1) (crData t)) then .credits
    else if tlpNonPosted t && (s.ctxFor e k).isNone then .context
    else .nothing

/-! ## Readiness (R238, R241, R244) -/

/-- The head `k` found to want something: context-waiting, stalled from this moment, or neither. -/
def State.markPkt (s : State) (k : Packet) (w : Want) : State :=
  let stall : Bool := w == .credits || w == .context
  let ctx : Bool := w == .context
  let s := if ctx && !k.ctxWait then s.evtPart k.record.srcPart 4 else s
  s.updPkt k.id fun q => { q with
    ctxWait := ctx
    stalled := if stall then some (q.stalled.getD (s.now + s.get SC_ORDER_STALL_THR * 1000)) else none }

/-- Judge a head: nothing more is said of one that the ordering rules hold back. -/
def State.judge (s : State) (i e : Nat) (v : VC) : State :=
  let ks := s.queued i e
  match headOf ks v with
  | none => s
  | some h =>
    let heads := [VC.p, .np, .cpl].filterMap (headOf ks)
    if eligible (s.pcieRules i e) heads h then s.markPkt h (s.wants e h)
    else s.markPkt h .other

/-- The heads of an ordering stream that can leave, with its TT head. -/
def State.leavers (s : State) (i e : Nat) : List Packet :=
  let ks := s.queued i e
  let heads := [VC.p, .np, .cpl].filterMap (headOf ks)
  (heads.filter fun h => eligible (s.pcieRules i e) heads h && s.wants e h == .nothing) ++
    ((headOf ks .tt).toList.filter fun h => s.wants e h == .nothing)

def State.candidate (s : State) (i e : Nat) : Option Packet := oldest (s.leavers i e)

def State.ss (s : State) (k : Nat) : StreamSt := Tab.get {} s.sch.streams k
def State.setSs (s : State) (k : Nat) (x : StreamSt) : State := { s with sch.streams := Tab.put {} s.sch.streams k x }

/-- The wait gathered by a stream up to now (R244). -/
def State.waited (s : State) (x : StreamSt) : Nat := x.wait + (match x.ready with | some t => s.now - t | none => 0)

def State.setLists (s : State) (e : Nat) (c x : List Nat) : State :=
  { s with sch.comm := Tab.put [] s.sch.comm e c, sch.exc := Tab.put [] s.sch.exc e x }

/-- Put a stream into the list its candidate asks for, at the tail where it is not there; take it out of the other (R241). -/
def State.enlist (s : State) (i e : Nat) (where_ : Option Bool) : State :=
  let c := Tab.get [] s.sch.comm e
  let x := Tab.get [] s.sch.exc e
  let k := pairKey i e
  let leave (s : State) : State := s.setSs k { s.ss k with visited := false }
  match where_ with
  | none => if c.contains i || x.contains i then leave (s.setLists e (c.erase i) (x.erase i)) else s
  | some false =>
    if c.contains i then s else leave (s.setLists e (c ++ [i]) (x.erase i))
  | some true =>
    if x.contains i then s else leave (s.setLists e (c.erase i) (x ++ [i]))

/-- A stream is looked at again: its heads are judged, its readiness, its wait and its list follow. -/
def State.refreshStream (s : State) (i e : Nat) : State :=
  let k := pairKey i e
  if (s.queued i e).isEmpty then
    let s := s.enlist i e none
    { s with sch.streams := Tab.put {} s.sch.streams k {} }
  else
    let s := ((s.judge i e .np).judge i e .p).judge i e .cpl
    let x := s.ss k
    match s.candidate i e with
    | none => (s.setSs k { x with wait := s.waited x, ready := none }).enlist i e none
    | some c =>
      let s := s.setSs k { x with ready := some (x.ready.getD s.now) }
      s.enlist i e (if s.quantum k = 0 then none else some (c.excess && c.record.vc != .tt))

/-- Source indices that have, or had, something queued at an egress. -/
def State.sourcesAt (s : State) (e : Nat) : List Nat :=
  (List.range 112).filter fun i =>
    (s.sc.pkts.any fun k => k.src == i && k.egress == e && !k.started && !k.gone) ||
      s.sch.streams.any fun x => x.1 == pairKey i e

/-- The streams of an egress are looked at again. -/
def State.refresh (s : State) (e : Nat) : State := (s.sourcesAt e).foldl (fun s i => s.refreshStream i e) s

/-! ## The start of a packet on a PCI Express egress -/

/-- A configuration request for the bus directly below an instance's port goes out as type 0 (R96). -/
def State.cfgDown (s : State) (i : Nat) (t : Tlp) : Tlp :=
  if t.target / 256 == s.get PART_FN_A_PHYS_RID i / 256 || !s.on PART_FN_A_BIND i then
    { t with kind := if t.kind == .cfgRead1 then .cfgRead0 else if t.kind == .cfgWrite1 then .cfgWrite0 else t.kind }
  else t

/-- What a completion or request becomes on its port: a request to an endpoint takes the port's requester ID and a proxy tag, a
completion to an instance its physical requester ID (R94, R96). -/
def State.outTlp (s : State) (e : Nat) (k : Packet) (tag : Nat) : Tlp :=
  let t := pktTlp k
  let t := match k.record.inst with
    | some i => match t.kind with
      | .cfgRead1 | .cfgWrite1 => s.cfgDown i { t with target := s.physRid i t.target }
      | .msg => if t.msgRoute = 2 then { t with target := s.physRid i t.target } else t
      | _ => t
    | none => t
  if tlpNonPosted t then (if s.proxied e && !t.ide then { t with reqId := Config.portRid e % 65536, tag := tag } else t)
  else if k.record.vc == .cpl then
    match s.instOfRid k.record.srcPart t.reqId with
    | some i => if s.get PART_FN_A_PORT i = e then { t with reqId := s.physRid i t.reqId } else t
    | none => t
  else t

/-- A completion is stale at its requester's port (R99). -/
def State.staleHere (s : State) (k : Packet) : Bool :=
  k.record.vc == .cpl && k.record.gen != 0 &&
    match s.instOfRid k.record.srcPart (pktTlp k).reqId with
    | some i => s.get PART_FN_B_GEN i != k.record.gen || s.inGenWait i
    | none => false

def isCfg (k : TlpKind) : Bool := match k with | .cfgRead0 | .cfgRead1 | .cfgWrite0 | .cfgWrite1 => true | _ => false

/-- A packet begins to leave on a PCI Express port (R96, R99, R147). A configuration request to a function in an FLR of the switch
is answered RRS (Table 03.6). -/
def State.startPcie (s : State) (e : Nat) (k : Packet) : State :=
  let t := pktTlp k
  if s.staleHere k then
    let s := (s.bump PART_CNT_STALE_COUNT).evtPart k.record.srcPart 6
    let s := if s.arrived k then s.markDone (pktKey k) k.record.seq else s
    s.unbuffer k
  else if isCfg t.kind && k.record.inst.any (fun i => s.part.inFlr.contains i) then
    let s := s.synth k.record.srcPart k.record.srcNode t.reqId t.tag (s.seenAs k) .rrs
    let s := if s.arrived k then s.markDone (pktKey k) k.record.seq else s
    s.unbuffer k
  else
    let c := if tlpNonPosted t then (s.ctxFor e k).getD (t.tag, s) else (t.tag, s)
    let s := c.2
    let whole : Bool := k.complete && !(k.cutOk && k.inPort.any (fun p => s.flitIn p && s.noFaster e p && k.tIn == s.now))
    let s := if whole then (s.bump SC_CNT_SF_COUNT).evtPort e 8 else (s.bump SC_CNT_CT_COUNT).evtPort e 7
    let s := (s.filterPass 1 e (pktSeen k t.addr)).stage k.id 6
    let s := s.updPkt k.id fun q => { q with started := true, cut := !whole }
    let s := s.set PX_PORT_STAT_PM 0 e
    let s := s.updPx e fun x => { x with sending := some k.id, lastTlp := s.now, partner := takeCr (takeCr x.partner (crPlace t) 1) (crPlace t + 1) (crData t) }
    let due : AckDue := { id := k.id, port := e, record := k.record, cplId := k.cplId
                          arrived := if s.arrived k then some (pktKey k) else none }
    let s := { s with sc.acksDue := s.sc.acksDue ++ [due] }
    ((s.evtPort e 1).txBytes e k.bytes).emit (.tlp e (s.outTlp e k c.1))

/-- A selected packet starts on its egress; its stream's wait begins anew (R244). -/
def State.send (s : State) (e : Nat) (k : Packet) : State :=
  let key := pairKey k.src e
  let s := s.stage k.id 5
  let s := if s.fabricMode e then s.startTx e k none else s.startPcie e k
  let x := s.ss key
  (s.setSs key { x with wait := 0, ready := x.ready.map fun _ => s.now }).refreshStream k.src e

/-! ## Selection (R239 to R245) -/

/-- Capacity and gain of an egress's TT bucket (R245). -/
def State.ttGain (s : State) (e : Nat) : Nat := s.sch_ SCH_PORT_TT_SHARE e * s.rawRefill e / 64
def State.ttCap (s : State) (e : Nat) : Nat := max (2 * s.ttGain e) 2368
def State.ttTok (s : State) (e : Nat) : Nat := (Tab.get none s.sch.tt e).getD (s.ttCap e)

/-- The oldest TT head that order 1 can serve, and what its bucket then holds. -/
def State.pickTt (s : State) (e : Nat) : Option Packet :=
  let share := s.sch_ SCH_PORT_TT_SHARE e
  if share = 0 then none
  else s.sc.pkts.find? fun k => k.egress == e && k.record.vc == .tt && !k.started && !k.gone &&
    ((headOf (s.queued k.src e) .tt).any fun h => h.id == k.id) && s.wants e k == .nothing &&
    (share == 64 || s.cost e k ≤ s.ttTok e)

/-- Urgent streams that are ready, longest wait first. -/
def State.pickUrgent (s : State) (e : Nat) : Option Nat :=
  let xs := (s.sourcesAt e).filter fun i => let x := s.ss (pairKey i e); x.urgent && x.ready.isSome
  xs.find? fun i => xs.all fun j => s.waited (s.ss (pairKey j e)) ≤ s.waited (s.ss (pairKey i e))

/-- Background streams that are ready, the longest ready first (R243). -/
def State.pickBg (s : State) (e : Nat) : Option Nat :=
  let xs := (s.sourcesAt e).filter fun i => s.quantum (pairKey i e) = 0 && (s.ss (pairKey i e)).ready.isSome
  let at_ (i : Nat) : Nat := ((s.ss (pairKey i e)).ready).getD 0
  xs.find? fun i => xs.all fun j => at_ i ≤ at_ j

/-- A candidate of a stream is sent by order 2 to 5; a TT packet among them is counted. -/
def State.sendStream (s : State) (e : Nat) (k : Packet) : State :=
  let s := if k.record.vc == .tt then (s.bump SCH_CNT_TT_DRR_COUNT).evtNode 1 5 else s
  s.send e k

/-- A DRR step on the committed list, or on the excess list (R241). -/
def State.drr (s : State) (e : Nat) (exc : Bool) : Nat → State
  | 0 => s
  | fuel + 1 =>
    match (if exc then Tab.get [] s.sch.exc e else Tab.get [] s.sch.comm e) with
    | [] => s
    | i :: rest =>
      let key := pairKey i e
      let put (s : State) (xs : List Nat) : State :=
        if exc then s.setLists e (Tab.get [] s.sch.comm e) xs else s.setLists e xs (Tab.get [] s.sch.exc e)
      let x := s.ss key
      let x := if x.visited then x else { x with deficit := x.deficit + s.quantum key, visited := true }
      match s.candidate i e with
      | some k =>
        if s.cost e k ≤ x.deficit then
          ((s.setSs key { x with deficit := x.deficit - s.cost e k }).evtNode 1 6).sendStream e k
        else (put (s.setSs key { x with visited := false }) (rest ++ [i])).drr e exc fuel
      | none => (put (s.setSs key { x with visited := false }) (rest ++ [i])).drr e exc fuel

/-- The urgent service of a stream ends (R244). -/
def State.endUrgent (s : State) (i e : Nat) : State :=
  let key := pairKey i e
  { s.setSs key { s.ss key with urgent := false } with sch.serving := Tab.put none s.sch.serving e none }

/-- The urgent service in progress goes on while its stream has a candidate within its deficit, and ends otherwise. -/
def State.urgentOn (s : State) (e : Nat) : Bool × State :=
  match Tab.get none s.sch.serving e with
  | some (i, _) =>
    let x := s.ss (pairKey i e)
    match s.candidate i e with
    | some k =>
      if s.cost e k ≤ x.deficit then
        (true, (s.setSs (pairKey i e) { x with deficit := x.deficit - s.cost e k }).sendStream e k)
      else (false, s.endUrgent i e)
    | none => (false, s.endUrgent i e)
  | none => (false, s)

/-- Order 2: the service in progress, or that of the stream that has waited longest; says whether a packet has gone. -/
def State.urgentStep (s : State) (e : Nat) : Bool × State :=
  let g := s.urgentOn e
  let s := g.2
  if g.1 then g
  else match s.pickUrgent e with
    | none => (false, s)
    | some i =>
      let key := pairKey i e
      let x := s.ss key
      match s.candidate i e with
      | none => (false, s)
      | some k =>
        let d := x.deficit + s.quantum key
        let s := s.evtNode 1 2
        if s.cost e k ≤ d then
          let s := s.setSs key { x with deficit := d - s.cost e k }
          (true, { s with sch.serving := Tab.put none s.sch.serving e (some (i, true)) }.sendStream e k)
        else (true, (s.setSs key { x with deficit := 0, urgent := false }).sendStream e k)

/-- EGRESS_SELECT (R239): the first row of Table 08.1 that has something to send. -/
def State.select (s : State) (e : Nat) : State :=
  let s := s.refresh e
  match s.pickTt e with
  | some k =>
    let s := (s.bump SCH_CNT_TT_PRI_COUNT).evtNode 1 4
    let left := s.ttTok e - s.cost e k
    let s := if s.sch_ SCH_PORT_TT_SHARE e = 64 then s else { s with sch.tt := Tab.put none s.sch.tt e (some left) }
    s.send e k
  | none =>
    let u := s.urgentStep e
    let s := u.2
    if u.1 then s
    else
      let c := Tab.get [] s.sch.comm e
      let x := Tab.get [] s.sch.exc e
      if !c.isEmpty then s.drr e false (20 * (c.length + 1))
      else if !x.isEmpty then s.drr e true (20 * (x.length + 1))
      else match s.pickBg e with
        | some i =>
          match s.candidate i e with
          | some k => ((s.bump SCH_CNT_BG_COUNT).evtNode 1 3).sendStream e k
          | none => s
        | none => s

end Sys2Proof.Machine
end

