-- ==== Sys2Proof/Machine/RouteOps.lean ====
section
/-! DEFINITION. Where a looked-up request goes and what becomes of one that is denied (04, 05): shared by the ingress of a port, the
data mover and the Turn engine. -/

namespace Sys2Proof.Machine

/-- Destination port of a record that stays with the management endpoint of its own node; the fabric never carries it. -/
abbrev dstMgmt : Nat := 49

/-- A destination: node, port, instance of that node, chip select, and the completer the requester sees (R102). -/
structure Dest where
  node : Nat
  port : Nat
  inst : Option Nat := none
  cs : Nat := 0
  cplId : Nat := 0
  deriving DecidableEq, Repr

/-- The host of a partition as a destination. -/
def State.hostDest (s : State) (part dst : Nat) : Option Dest :=
  (s.homeOf dst).map fun h => { node := h, port := (s.partRec dst).upPort, cplId := s.vuspId part }

/-- The destination of a lookup's target for a requester of partition `part`. -/
def State.dest (s : State) (part : Nat) : Tgt → Option Dest
  | .host q => s.hostDest part q
  | .inst node idx n => some { node := node, port := (s.view part n).port, inst := some idx, cplId := s.vdspId part n }
  | .mgmt => some { node := s.nodeId, port := dstMgmt, cplId := s.vuspId part }
  | .bus node cs => some { node := node, port := 48, cs := cs, cplId := s.vuspId part }

/-- A denial of Table 04.5 is counted, logged and reported: cause 5 and 0xA as they say, every other as a host miss.
`kind` is the kind of master (Table 14.2). -/
def State.denied (s : State) (part cause : Nat) (t : Tlp) (kind : Nat := 0) : State :=
  let r : Report := { unit := 22, cls := 1, scope := 4, scopeId := part, cause := 0x2000 + cause, addr := t.addr, master := t.reqId
                      masterPart := part + 64 * kind, access := tlpAccess16 t }
  let s := s.evtPart part 5
  if cause = 0xA then s.bump WIN_CNT_DENY_COUNT
  else if cause = 5 then (s.bump WIN_CNT_DENY_COUNT).report r
  else
    let s := (s.bump WIN_CNT_MISS_COUNT).report r
    match s.slotOf part with
    | some k => s.aer k fnVusp aerUr
    | none => s

/-- The record of a request to a destination. -/
def State.recFor (s : State) (part : Nat) (d : Dest) (vc : VC) (gen : Nat) (excess : Bool) (t : Tlp) : Record :=
  { srcPart := part, srcNode := s.nodeId, dstNode := d.node, len := tlpLen t, gen := gen, dstPort := d.port, excess := excess
    vc := vc, inst := d.inst, cs := d.cs, body := .tlp t }

/-- A request of a partition's host raised inside (R211, R255): without lookup to the host itself, or looked up; none where the
lookup denies it. -/
def State.hostRoute (s : State) (part : Nat) (t : Tlp) (map : Bool) : Option (Dest × Tlp) × State :=
  if !map then ((s.hostDest part part).map fun d => (d, t), s)
  else
    let l := s.lookup part none t
    match l.1 with
    | .go g a _ _ =>
      match s.dest part g with
      | some d => (some (d, { t with addr := a }), l.2)
      | none => (none, l.2.denied part 0 t)
    | .denied c => (none, l.2.denied part c t)
    | .violation c _ => (none, l.2.denied part c t)

/-- Put a record raised inside the switch on its way; one for a destination of this node that takes none is reported (R156): to the management endpoint, to a port of this node, or to the journal.
Gives the number of the buffer packet, if it got one at once. `pre` segments are already held for it (R260). -/
def State.raiseRec (s : State) (r : Record) (inst : Option Nat) (cplId : Nat) (release : Option Nat) (dmWr : Option Nat)
    (pre : Nat) : Option Nat × State :=
  let t := (recTlp r).getD {}
  if r.dstNode != s.nodeId then
    (none, s.raise { record := r, internalReserve := false, inst := inst, cplId := cplId, release := release, dmWr := dmWr
                     dmSegs := pre })
  else if r.dstPort = dstMgmt then (none, s.emit (.bar0 r.srcPart t))
  else
    let id := s.sc.nextId
    match s.undelivReason r with
    | some reason =>
      let s := s.set DM_GLOBAL_STAT_BUF_USED (s.get DM_GLOBAL_STAT_BUF_USED - pre)
      (some id, { s with sc.nextId := id + 1, dm.lost := s.dm.lost ++ dmWr.toList }.undeliverable r reason cplId)
    | none =>
      (some id, s.enqueueInternal { id := 0, record := r, egress := r.dstPort, origin := .internal, pass := .final, inst := inst
                                    cplId := cplId, release := release, excess := r.excess, bytes := tlpBytes t
                                    dmSegs := pre })

/-- Overhead of the two-bucket stage for a packet raised inside (R230): that of the owner's upstream port on this node. -/
def State.insideCost (s : State) (part l : Nat) : Nat :=
  match s.slotOf part with
  | some k => l + s.sch_ SCH_PORT_OH (s.get PART_CTRL_UP_PORT k)
  | none => l

/-- A request raised inside passes its owner's meter, or is marked committed. -/
def State.insideMeter (s : State) (part l : Nat) (metered : Bool) : Bool × Option Nat × State :=
  if metered then s.meter part (s.insideCost part l) else (false, none, s)

end Sys2Proof.Machine
end

