-- ==== Sys2Proof/Machine/DmOps.lean ====
section
/-! DEFINITION. Shared operations of the data mover (09): channels, tags, reads, writes, completion, starts, resets. -/

namespace Sys2Proof.Machine

/-! ## Channels -/

def State.ch (s : State) (c : Nat) : DmCh := Tab.get {} s.dm.chans c
def State.setCh (s : State) (c : Nat) (x : DmCh) : State := { s with dm.chans := Tab.put {} s.dm.chans c x }
def State.updCh (s : State) (c : Nat) (f : DmCh → DmCh) : State := s.setCh c (f (s.ch c))
def State.updDesc (s : State) (c idx : Nat) (f : Desc → Desc) : State :=
  s.updCh c fun x => { x with descs := x.descs.map fun d => if d.idx == idx then f d else d }

/-- Owner of a channel, and the local slot of the owner. -/
def State.dmOwner (s : State) (c : Nat) : Option Nat := if s.on DM_ASSIGN_VALID c then some (s.get DM_ASSIGN_OWNER c) else none
def State.dmSlot (s : State) (c : Nat) : Option Nat := (s.dmOwner c).bind s.slotOf
def State.dmPart (s : State) (c : Nat) : Nat := s.get DM_ASSIGN_OWNER c

/-- The channel behaves as paused: PAUSE, a frozen host (Table 09.6), Bus Master Enable 0 (R291). -/
def State.dmPaused (s : State) (c : Nat) : Bool :=
  s.on DM_CTRL_PAUSE c || match s.dmSlot c with
    | some k => s.on PART_CTRL_HOST_FROZEN k || !(s.cfg k fnMgmt cfgCommand).testBit 2
    | none => true

def State.dmResetting (s : State) (c : Nat) : Bool := s.runs (.dmReset c)

/-- Entries of the ring, and its base (R252). -/
def State.ringSize (s : State) (c : Nat) : Nat := 2 ^ s.get DM_CFG_RING_SIZE c
def State.slotAddr (s : State) (c idx : Nat) : Nat := (s.get DM_RING_BASE c * 4096 + 32 * idx) % 2 ^ 64

/-- The first descriptor that has still something to issue. -/
def DmCh.cur (x : DmCh) : Option Desc := x.descs.find? fun d => !(d.status == 0 && d.formed == d.length && (!d.tstart || d.started))

/-- A write waits for admission: the channel starts nothing after it (R166). -/
def DmCh.blocked (x : DmCh) : Bool := x.descs.any fun d => d.writes.any fun w => w.entry.isNone && w.pkt.isNone

/-- The descriptor waits for a start event (R265): everything before it has issued all its requests, and its fence has cleared. -/
def DmCh.waiting (x : DmCh) : Option Desc :=
  match x.cur with
  | some d => if d.status == 0 && d.tstart && !d.started && (!d.fence || (x.descs.head?.any fun h => h.idx == d.idx)) then some d else none
  | none => none

/-- DM_STATUS.STATE (Table 09.8). -/
def State.dmState (s : State) (c : Nat) : Nat :=
  if s.dmResetting c then 5
  else if !s.on DM_CTRL_ENABLE c then 0
  else if (s.ch c).halted then 4
  else if s.dmPaused c then 3
  else if (s.ch c).waiting.isSome then 2
  else 1

/-- The channel may issue new requests. -/
def State.dmRuns (s : State) (c : Nat) : Bool :=
  (s.dmState c == 1 || s.dmState c == 2) && (s.dmOwner c).isSome && !(s.ch c).blocked

/-! ## Tags (R258, R259) -/

/-- Tag total that the endpoint's tag size permits; none is no limit. The enable bits are those of PCI Express (PRESUMED). -/
def State.dmTagTotal (s : State) (k : Nat) : Nat :=
  if (s.cfg k fnMgmt 0x160).testBit 2 then 16384 else if (s.cfg k fnMgmt 0x88).testBit 12 then 768 else 256

def State.dmHeld (s : State) (part : Nat) : List DmTag := s.dm.tags.filter fun t => t.part == part && !t.retired

/-- Take a tag for `len` bytes from `addr`: a data tag, or the channel's own fetch tag. -/
def State.dmTake (s : State) (c idx addr off len : Nat) (fetch : Bool) : Option (DmTag × State) :=
  match s.dmSlot c with
  | none => none
  | some k =>
    let part := s.dmPart c
    let total := s.dmTagTotal k
    if total ≤ (s.dmHeld part).length then none
    else if !fetch && (s.get DM_CFG_MAX_TAGS c ≤ s.get DM_TAGS_IN_USE c || s.get DM_TAGQ_QUOTA part ≤ s.get DM_TAGQ_IN_USE part) then none
    else
      let f := s.fresh
      let s := f.2
      let free (t : Nat) : Bool := !(s.dm.tags.any fun x => x.tag == t)
      let wireFree (w : Nat) : Bool := !(s.dm.tags.any fun x => x.part == part && x.wire == w)
      let tag := if fetch then (if free (1984 + c) then some (1984 + c) else none) else pickFrom f.1 1984 free
      match tag, pickFrom f.1 total wireFree with
      | some tag, some wire =>
        let t : DmTag := { tag := tag, wire := wire, part := part, chan := c, gen := s.get DM_STATUS_GEN c, idx := idx, addr := addr
                           off := off, len := len }
        let s := { s with dm.tags := s.dm.tags ++ [t] }
        let s := if fetch then s
          else (s.set DM_TAGS_IN_USE (s.get DM_TAGS_IN_USE c + 1) c).set DM_TAGQ_IN_USE (s.get DM_TAGQ_IN_USE part + 1) part
        some (t, s)
      | _, _ => none

/-- Change a tag in use. -/
def State.updTag (s : State) (tag : Nat) (f : DmTag → DmTag) : State :=
  { s with dm.tags := s.dm.tags.map fun (x : DmTag) => if x.tag == tag then f x else x }

/-- A data tag no longer counts against its channel and its owner. -/
def State.dmUncount (s : State) (t : DmTag) : State :=
  if 1984 ≤ t.tag then s
  else (s.set DM_TAGS_IN_USE (s.get DM_TAGS_IN_USE t.chan - 1) t.chan).set DM_TAGQ_IN_USE (s.get DM_TAGQ_IN_USE t.part - 1) t.part

/-- A tag is free again. -/
def State.dmFreeTag (s : State) (t : DmTag) : State :=
  let s := if t.retired then s else s.dmUncount t
  { s with dm.tags := s.dm.tags.filter fun x => x.tag != t.tag }.stop (.dmRead t.tag)

/-- A tag retired by a failure or a reset enters quarantine (R259); the data mover's tags are those of port 64. -/
def State.dmRetire (s : State) (t : DmTag) : State :=
  if t.aside then s.dmFreeTag t
  else
    let s := (s.dmUncount t).updTag t.tag fun x => { x with retired := true }
    (s.stop (.dmRead t.tag)).start (.tagQuar 64 t.tag) (s.get PART_TIMERS_TAG_QUAR * 1000000)

/-! ## Segments (R260) -/

/-- Segments a read of `len` bytes at offset `off` of a descriptor reserves: its data, and one for every write header. -/
def readSegs (wr dst off len : Nat) : Nat :=
  let a := (dst + off) / wr
  let b := (dst + off + (len - 1)) / wr
  ceilDiv len 64 + (b - a + 1)

def State.bufUsed (s : State) : Nat := s.get DM_GLOBAL_STAT_BUF_USED
def State.dmReserve (s : State) (n : Nat) : Option State :=
  if s.bufUsed + n ≤ 4 * s.get DM_GLOBAL_BUF_MAX && n ≤ s.sharedFree
  then some ((s.takeFree n).set DM_GLOBAL_STAT_BUF_USED (s.bufUsed + n)) else none
def State.dmUnreserve (s : State) (n : Nat) : State :=
  if n = 0 then s else ((s.addFree n).set DM_GLOBAL_STAT_BUF_USED (s.bufUsed - n)).collect

/-! ## Requests -/

def State.rdSize (s : State) (c : Nat) : Nat := 512 * 2 ^ s.get DM_CFG_RD_SIZE c
def State.wrSize (s : State) (c : Nat) : Nat := 128 * 2 ^ s.get DM_CFG_WR_SIZE c

/-- Bytes of the next request at `addr` of `left` bytes still to go: to the next multiple of `size`, not across 4 KiB (R256). -/
def chunk (size addr left : Nat) : Nat := min left (min (size - addr % size) (4096 - addr % 4096))

/-- The channel's own descriptor fails (R269): the first status stays, its read data is discarded. -/
def State.dmFail (s : State) (c idx st addr : Nat) : State :=
  let d := ((s.ch c).descs.find? fun d => d.idx == idx).getD { idx := idx }
  let s := s.dmUnreserve d.held
  s.updDesc c idx fun d => if d.status != 0 then { d with data := [], held := 0 }
    else { d with status := st, errAddr := addr, data := [], held := 0 }

/-- Send a read whose tag has been taken (R255): false where the lookup denies it. -/
def State.dmSendRead (s : State) (t : DmTag) (map metered : Bool) : Bool × State :=
  let r : Tlp := { kind := .memRead, reqId := s.epId t.part, tag := t.wire, addr := t.addr, bytes := t.len, hdrBytes := 16 }
  let h := s.hostRoute t.part r map
  match h.1 with
  | none => (false, h.2)
  | some (d, r) =>
    let s := h.2.updTag t.tag fun x => { x with aside := false }
    let m := s.insideMeter t.part 16 metered
    let s := m.2.2
    let x := s.raiseRec (s.recFor t.part d .np 0 m.1 r) none d.cplId m.2.1 none 0
    (true, (x.2.start (.dmRead t.tag) (s.get PART_TIMERS_CPL_TMO * 1000000)))

/-- Take what the next read of a descriptor needs (R258, R260): its tag and its reservation. -/
def State.dmAcquire (s : State) (c : Nat) (d : Desc) (aside : Bool) : Option (DmTag × State) :=
  let a := d.src + d.issued
  let n := chunk (s.rdSize c) a (d.length - d.issued)
  let segs := readSegs (s.wrSize c) d.dst d.issued n
  match s.dmReserve segs with
  | none => none
  | some s =>
    match s.dmTake c d.idx a d.issued n false with
    | none => none
    | some (t, s) =>
      let s := s.updTag t.tag fun x => { x with aside := aside }
      some (t, s.updDesc c d.idx fun d => { d with held := d.held + segs, issued := d.issued + n })

/-- The read that has been set aside for the start of a descriptor. -/
def State.dmAside (s : State) (c idx : Nat) : Option DmTag :=
  s.dm.tags.find? fun t => t.chan == c && t.idx == idx && t.aside && !t.retired

/-- Send an acquired read; a denial fails its descriptor with STATUS 0x02. -/
def State.dmGo (s : State) (c : Nat) (d : Desc) (t : DmTag) : State :=
  let x := s.dmSendRead t d.srcMap (s.get DM_ASSIGN_CLASS c == 0)
  if x.1 then x.2.evtNode 4 2 else (x.2.dmFreeTag t).dmFail c d.idx 2 t.addr

/-- The descriptor whose next read may be issued: everything before it has issued its reads, its fence has cleared, its start has
come (R262, R263, R265). -/
def DmCh.nextRead (x : DmCh) : Option Desc :=
  match x.descs.find? fun d => !(d.status == 0 && (if d.op = 1 then d.issued == d.length else d.formed == d.length) && (!d.tstart || d.started)) with
  | some d =>
    if d.status == 0 && d.op == 1 && d.issued < d.length && (!d.tstart || d.started) &&
        (!d.fence || (x.descs.head?.any fun h => h.idx == d.idx)) then some d else none
  | none => none

/-- DM_READ_ISSUE: one read, where everything it needs is there. -/
def State.dmIssue (s : State) (c : Nat) : State :=
  if !s.dmRuns c then s
  else match (s.ch c).nextRead with
    | none => s
    | some d =>
      match s.dmAside c d.idx with
      | some t => s.dmGo c d t
      | none =>
        match s.dmAcquire c d false with
        | some (t, s) => s.dmGo c d t
        | none => if 4 * s.get DM_GLOBAL_BUF_MAX ≤ s.bufUsed then s.evtNode 4 7 else s

/-! ## Writes (R256, R257) -/

/-- A byte of read data. -/
def dataAt (ps : List (Nat × List (BitVec 8))) (o : Nat) : Option (BitVec 8) :=
  ps.findSome? fun p => if p.1 ≤ o then p.2[o - p.1]? else none

/-- Bytes `off` to `off + n - 1` of a descriptor's data, if all have come. -/
def takeData (ps : List (Nat × List (BitVec 8))) (off n : Nat) : Option (List (BitVec 8)) :=
  (List.range n).mapM fun i => dataAt ps (off + i)

/-- A pattern byte at an address (Table 09.3). -/
def fillByte (pattern a : Nat) : BitVec 8 := BitVec.ofNat 8 (pattern / 2 ^ (8 * (a % 8)))

/-- Send one write of a descriptor; a denial fails it with STATUS 0x03. -/
def State.dmWrite (s : State) (c : Nat) (d : Desc) (n : Nat) (bytes : List (BitVec 8)) : State :=
  let part := s.dmPart c
  let a := d.dst + d.formed
  let cls := s.get DM_ASSIGN_CLASS c
  let r : Tlp := { kind := .memWrite, reqId := s.epId part, addr := a, bytes := n, hdrBytes := 16, data := bytes }
  let h := s.hostRoute part r d.dstMap
  match h.1 with
  | none => h.2.dmFail c d.idx 3 a
  | some (g, r) =>
    let vc : VC := if cls = 2 then .tt else .p
    let m := h.2.insideMeter part (16 + n) (cls == 0)
    let rec_ := m.2.2.recFor part g vc 0 m.1 r
    let w := units rec_.len
    let give := min d.held (ceilDiv n 64 + 1)
    let s := m.2.2.addFree give
    let s := s.set DM_GLOBAL_STAT_BUF_USED (s.bufUsed - give + w)
    let id := s.dm.nextWr
    let s := { s with dm.nextWr := id + 1 }
    let x := s.raiseRec rec_ none g.cplId m.2.1 (some id) w
    let remote : Bool := rec_.dstNode != s.nodeId
    let s := if !remote && x.1.isNone then x.2.set DM_GLOBAL_STAT_BUF_USED (x.2.bufUsed - w) else x.2
    let wr : DmWr := { id := id, pkt := if remote then none else some (x.1.getD 0), bytes := n }
    let s := s.updDesc c d.idx fun d => { d with formed := d.formed + n, held := d.held - give, writes := d.writes ++ [wr] }
    (s.bump DM_CNT_BYTES_COUNT c n).evtNode 4 1 (n / 64)

/-- The writes of COPY descriptors whose data has come, in ring and address order (R256, R262). -/
def State.dmForm (s : State) (c : Nat) : Nat → State
  | 0 => s
  | fuel + 1 =>
    let x := s.ch c
    if x.blocked || s.dmResetting c then s
    else match x.descs.find? fun d => !(d.status == 0 && d.formed == d.length) with
      | none => s
      | some d =>
        if d.status != 0 || d.op != 1 then s
        else
          let n := chunk (s.wrSize c) (d.dst + d.formed) (d.length - d.formed)
          match takeData d.data d.formed n with
          | some bytes => (s.dmWrite c d n bytes).dmForm c fuel
          | none => s

/-- DM_FILL_WRITE_FORM: one write of a FILL descriptor, with its reservation at its formation. -/
def State.dmFill (s : State) (c : Nat) : State :=
  if !s.dmRuns c then s
  else match (s.ch c).cur with
    | none => s
    | some d =>
      if d.status != 0 || d.op != 2 || d.formed == d.length || (d.tstart && !d.started) ||
          (d.fence && !((s.ch c).descs.head?.any fun h => h.idx == d.idx)) then s
      else
        let n := chunk (s.wrSize c) (d.dst + d.formed) (d.length - d.formed)
        match s.dmReserve (ceilDiv n 64 + 1) with
        | none => s.evtNode 4 7
        | some s =>
          let d := { d with held := d.held + ceilDiv n 64 + 1 }
          let s := s.updDesc c d.idx fun _ => d
          s.dmWrite c d n ((List.range n).map fun i => fillByte d.src (d.dst + d.formed + i))

/-! ## Fetches (R252 to R254) -/

/-- A descriptor from its dwords, with the failures of R254. -/
def descFrom (idx : Nat) (d : List Nat) : Desc :=
  let w (i : Nat) : Nat := d.getD i 0
  let x : Desc :=
    { idx := idx, op := w 0 / 2 ^ 28, srcMap := (w 0).testBit 27, dstMap := (w 0).testBit 26, fence := (w 0).testBit 25
      tstart := (w 0).testBit 24, length := w 0 % 2 ^ 24, irq := (w 1).testBit 31, deliv := (w 1).testBit 30
      rsvd := w 1 / 2 ^ 16 % 2 ^ 14, user := w 1 % 2 ^ 16, src := w 2 + 2 ^ 32 * w 3, dst := w 4 + 2 ^ 32 * w 5 }
  let bad : Bool := x.op = 0 || 2 < x.op || x.rsvd != 0 || (x.op = 2 && x.srcMap) || (x.op = 1 && 2 ^ 64 < x.src + x.length) ||
    2 ^ 64 < x.dst + x.length
  if bad then { x with status := 1 } else x

/-- Start a fetch, where the channel may (R252). -/
def State.dmFetch (s : State) (c : Nat) : State :=
  let x := s.ch c
  let head := s.get DM_HEAD_HEAD c
  let size := s.ringSize c
  let tail := s.get DM_TAIL_TAIL c % size
  if !s.dmRuns c || x.fetching != 0 || x.fetchErr.isSome || 4 ≤ x.descs.length || head == tail || (x.descs.any fun d => d.status != 0) then s
  else
    let n := min (4 - x.descs.length) (min (if head < tail then tail - head else size - head) (128 - head % 128))
    match s.dmTake c head (s.slotAddr c head) 0 (32 * n) true with
    | none => s
    | some (t, s) =>
      let g := s.dmSendRead t false false
      (g.2.updCh c fun x => { x with fetching := n })

/-- A failed fetch (STATUS 0x08) halts its channel once every descriptor before it is complete: no write-back, HEAD stays (R268, R269). -/
def State.fetchHalt (s : State) (c : Nat) : State :=
  let x := s.ch c
  match x.fetchErr with
  | none => s
  | some a =>
    if !x.descs.isEmpty || x.halted then s
    else
      let s := s.setCh c { x with fetchErr := none, halted := true }
      let s := (s.set DM_STATUS_ERR 8 c).evtNode 4 5
      ((s.bump DM_CNT_HALT_COUNT).set DM_ERR_ADDR_LO_ADDR a c).set DM_ERR_ADDR_HI_ADDR (a / 2 ^ 32) c

/-- A channel is looked at again: its state, its next fetch, the read to set aside for a start. -/
def State.dmKick (s : State) (c : Nat) : State :=
  let s := (s.fetchHalt c).dmFetch c
  let s := match (s.ch c).waiting with
    | some d =>
      if d.op == 1 && d.issued == 0 && d.length != 0 && s.dmState c == 2 && (s.dmAside c d.idx).isNone then
        match s.dmAcquire c d true with
        | some (_, s) => s
        | none => s
      else s
    | none => s
  s.set DM_STATUS_STATE (s.dmState c) c

/-! ## Completion (R264, R269) -/

/-- Every read of a descriptor has ended, its writes are accepted, and, with DELIV, delivered. -/
def State.descDone (s : State) (d : Desc) : Bool :=
  d.formed == d.length && (!d.tstart || d.started) &&
  !(s.dm.tags.any fun t => t.idx == d.idx && t.tag < 1984 && !t.retired && t.aside) &&
  d.writes.all fun w => (w.entry.isSome || w.pkt.isSome) &&
    (!d.deliv || ((w.entry.all fun e => (s.entry e).isNone) &&
      (w.pkt.all fun p => (s.pkt p).isNone && !(s.sc.acksDue.any fun a => a.id == p))))

/-- The head descriptor is complete, or has failed and everything before it is complete: its write-back, its event (R264, R269). -/
def State.dmComplete (s : State) (c : Nat) : State :=
  match (s.ch c).descs with
  | [] => s
  | d :: rest =>
    if s.dmResetting c || (s.ch c).blocked || !(d.status != 0 || s.descDone d) then s
    else
      let part := s.dmPart c
      let lostW : Bool := d.deliv && d.writes.any fun w => s.dm.lost.contains w.id
      let st := if d.status != 0 then d.status else if lostW then 6 else 0
      let s := s.dmUnreserve d.held
      let s := { s with dm.lost := s.dm.lost.filter fun i => !(d.writes.any fun w => w.id == i) }
      let s := { s with dm.tags := s.dm.tags.filter fun t => !(t.chan == c && t.idx == d.idx && t.aside) }
      let ns := s.spindleNs % 2 ^ 32
      let wb : Tlp := { kind := .memWrite, reqId := s.epId part, addr := s.slotAddr c d.idx + 24, bytes := 8, hdrBytes := 16
                        data := (List.range 8).map fun i => BitVec.ofNat 8
                          ((2 ^ 31 + st * 2 ^ 16 + d.user + ns * 2 ^ 32) / 2 ^ (8 * i)) }
      let s := match s.hostDest part part with
        | some h => (s.raiseRec (s.recFor part h .p 0 false wb) none 0 none none 0).2
        | none => s
      let s := (s.updCh c fun x => { x with descs := rest }).set DM_DONE_DONE ((s.get DM_DONE_DONE c + 1) % s.ringSize c) c
      let s := if st = 0 then (s.bump DM_CNT_DESC_COUNT c).evtNode 4 0 else s
      let s := if d.irq then s.raiseEvent part (.other 0x61
          [st, c, (if st != 0 then 1 else 0) + (if s.localTime then 2 else 0), d.user, d.idx, s.spindleNs]) else s
      let s := if st = 0 then s
        else
          let s := ((s.updCh c fun x => { x with halted := true }).set DM_STATUS_ERR st c).evtNode 4 5
          ((s.bump DM_CNT_HALT_COUNT).set DM_ERR_ADDR_LO_ADDR d.errAddr c).set DM_ERR_ADDR_HI_ADDR (d.errAddr / 2 ^ 32) c
      s.dmKick c

/-! ## Starts (R265 to R267) -/

/-- A start reaches a channel: taken, with the first request of the descriptor at once, or missed. -/
def State.dmStart (s : State) (c : Nat) : Bool × State :=
  let miss : Bool × State := (false, (s.bump DM_CNT_START_MISS_COUNT).evtNode 4 4)
  if s.dmState c != 2 || (s.ch c).blocked then miss
  else match (s.ch c).waiting with
    | none => miss
    | some d =>
      if d.op == 1 && d.length != 0 && (s.dmAside c d.idx).isNone then miss
      else
        let s := (s.updDesc c d.idx fun d => { d with started := true }).evtNode 4 3
        let s := if d.length = 0 then s.dmComplete c
          else if d.op = 1 then
            match s.dmAside c d.idx with
            | some t => s.dmGo c { d with started := true } t
            | none => s
          else s.dmFill c
        (true, s.dmKick c)

/-! ## Reset (R271) -/

/-- A channel reset starts: everything up to its end within 2 µs. -/
def State.dmReset (s : State) (c : Nat) (cmd : Option Nat) (newOwner : Option (Option (Nat × Nat))) : State :=
  let x := s.ch c
  let ids := x.descs.flatMap fun d => d.writes.map fun w => w.id
  let dead := s.jnl.intWait.filter fun t => t.dmWr.any fun w => ids.contains w
  let s := { s with jnl.intWait := s.jnl.intWait.filter fun t => !(t.dmWr.any fun w => ids.contains w) }
  let s := dead.foldl (fun s t => s.set DM_GLOBAL_STAT_BUF_USED (s.bufUsed - t.dmSegs)) s
  let s := x.descs.foldl (fun s d => s.dmUnreserve d.held) s
  let s := (s.dm.tags.filter fun t => t.chan == c && !t.retired).foldl (fun s t => s.dmRetire t) s
  let g := s.get DM_STATUS_GEN c
  let s := s.set DM_STATUS_GEN (if g ≥ 255 then 1 else g + 1) c
  let s := s.setCh c { cmd := cmd.or x.cmd, newOwner := newOwner.or x.newOwner }
  let s := ((s.set DM_HEAD_HEAD 0 c).set DM_DONE_DONE 0 c).set DM_TAIL_TAIL 0 c
  let s := ((s.set DM_STATUS_ERR 0 c).set DM_CTRL_ENABLE 0 c).set DM_CTRL_PAUSE 0 c
  let s := ((s.set DM_ERR_ADDR_LO_ADDR 0 c).set DM_ERR_ADDR_HI_ADDR 0 c).set DM_TAGS_IN_USE 0 c
  let s := (s.set DM_CNT_DESC_COUNT 0 c).set DM_CNT_BYTES_COUNT 0 c
  (s.start (.dmReset c) 2000).set DM_STATUS_STATE 5 c

/-- The channels of a partition. -/
def State.chansOf (s : State) (part : Nat) : List Nat := (List.range 64).filter fun c => s.dmOwner c == some part

/-- The channels of a partition are looked at again: a freeze, a thaw, Bus Master Enable. -/
def State.dmHost (s : State) (part : Nat) : State := (s.chansOf part).foldl (fun s c => s.dmKick c) s

end Sys2Proof.Machine
end

