-- ==== Sys2Proof/Machine/LbOps.lean ====
section
/-! DEFINITION. Shared operations of the local bus bridge (11): logs, prefetch lines, the semaphore, the end of a request. -/

namespace Sys2Proof.Machine

def State.updReq (s : State) (id : Nat) (f : LbReq → LbReq) : State :=
  { s with lb.reqs := s.lb.reqs.map fun (r : LbReq) => if r.id == id then f r else r }

/-- LB_CLK periods in nanoseconds, rounded up: 400 MHz / CLK_DIV. -/
def State.lbClocks (s : State) (n : Nat) : Nat := ceilDiv (n * s.get LB_CTRL_CLK_DIV * 5) 2

/-! ## The error log (R316, R318) -/

/-- An error of a request is logged, counted, reported and, for a posted write, sent as an event. -/
def State.lbLog (s : State) (r : LbReq) (cause addr : Nat) : State :=
  let n := s.get LB_STATUS_ELOG_COUNT
  let part := r.record.srcPart
  let logged : Bool := n < 16
  let s := if logged then
      let s := (s.set LB_ELOG_ADDR_ADDR addr n).set LB_ELOG_INFO_VALID 1 n
      let s := ((s.set LB_ELOG_INFO_CAUSE cause n).set LB_ELOG_INFO_CS r.cs n).set LB_ELOG_INFO_PART part n
      let s := (s.flag LB_ELOG_INFO_WRITE r.write n).set LB_ELOG_INFO_BYTES (if 1024 < r.tlp.bytes then 0x7FF else r.tlp.bytes) n
      let s := (s.set LB_ELOG_REQ_RID r.tlp.reqId n).set LB_ELOG_REQ_NODE r.record.srcNode n
      (s.set LB_ELOG_TIME_TIME s.spindleNs n).set LB_STATUS_ELOG_COUNT (n + 1)
    else s.set LB_STATUS_ELOG_OVF 1
  let s := ((s.bump LB_CNT_ERR_COUNT).evtNode 5 3).set LB_INT_STATUS_ELOG_NEW 1
  let s := if (s.get LB_INT_EN_EN).testBit 0 then
      s.report { unit := 30, cls := 1, scope := 4, scopeId := part, cause := 0x2000 + cause, addr := addr, master := r.tlp.reqId
                 masterPart := part, access := tlpAccess16 r.tlp }
    else s
  if r.write then s.raiseEvent part (.other 0x71
    [cause, r.cs, if logged then n else 0x1F, addr, r.tlp.reqId, r.tlp.bytes, s.spindleNs % 2 ^ 32]) else s

/-! ## Prefetch lines (R311, R312) -/

/-- A line is discarded; one with bytes no read has received is counted and logged. -/
def State.dropLine (s : State) (l : LbLine) : State :=
  let s := { s with lb.lines := s.lb.lines.filter fun x => x.no != l.no }.stop (.lbLine l.no)
  let unused := (l.stop + 1 - l.start) - l.used.length
  if unused = 0 then s
  else
    let n := s.get LB_STATUS_PLOG_NEXT
    let s := (s.bump LB_CNT_PREF_DISC_COUNT).evtNode 5 5
    let s := ((s.set LB_PLOG_ADDR_ADDR l.block n).set LB_PLOG_INFO_VALID 1 n).set LB_PLOG_INFO_CS l.cs n
    let s := ((s.set LB_PLOG_INFO_PART l.part n).set LB_PLOG_INFO_UNUSED unused n).set LB_STATUS_PLOG_NEXT (n + 1)
    let s := s.set LB_INT_STATUS_PREF_DISC 1
    if (s.get LB_INT_EN_EN).testBit 1 then s.reportNode 30 0 0x1001 else s

/-- Discard the lines that `f` picks. -/
def State.dropLines (s : State) (f : LbLine → Bool) : State := (s.lb.lines.filter f).foldl (fun s l => s.dropLine l) s

/-- First and last bus address of a prefetch region, if it is valid. -/
def State.preg (s : State) (c n : Nat) : Option (Nat × Nat) :=
  let i := c * 4 + n
  let z := s.get LB_PREG_SIZE i
  if z < 12 then none else some (s.get LB_PREG_BASE i * 4096, s.get LB_PREG_BASE i * 4096 + 2 ^ z - 1)

/-- The last byte to which a read from `a` to `b` of chip select `c` is extended, if it is (R311). -/
def State.prefEnd (s : State) (c a b : Nat) : Option Nat :=
  let stop := b / 256 * 256 + 255
  if !s.on LB_CTRL_PREF_EN || stop == b then none
  else if (List.range 4).any fun n => (s.preg c n).any fun r => r.1 ≤ a && stop ≤ r.2 then some stop else none

/-! ## The semaphore (R313, R314) -/

def State.semHeld (s : State) : Bool := s.on LB_SEM_HELD

/-- The semaphore is free again. -/
def State.semFree (s : State) : State :=
  let s := ((s.unsetReg .LB_SEM).set LB_STATUS_SEM_HELD 0)
  s.stop .lbSem

/-- A partition's hold on the semaphore ends with a reset of it. -/
def State.semRelease (s : State) (part : Nat) : State :=
  if s.semHeld && s.get LB_SEM_OWNER == part then s.semFree else s

/-- The ACQUIRE dword as partition `part` reads it (Table 11.5). -/
def State.semWord (s : State) (part : Nat) : Nat :=
  if !s.semHeld then 0
  else (if s.get LB_SEM_OWNER == part then 2 ^ 31 else 0) + s.get LB_SEM_OWNER * 2 ^ 24 + s.get LB_SEM_NODE * 2 ^ 16 + s.get LB_SEM_RID

/-! ## The end of a request -/

/-- A completion of the bridge goes to its requester (R304): the completer is the requester's management endpoint. -/
def State.lbSend (s : State) (r : Record) (t : Tlp) : State :=
  let gen := r.gen
  if r.srcNode = s.nodeId then s.cplHere r.srcPart t .internal
  else s.raise { record := { srcPart := r.srcPart, srcNode := s.nodeId, dstNode := r.srcNode, vc := .cpl, gen := gen
                             len := tlpLen t, body := .tlp t }
                 internalReserve := false }

def lbCpl (s : State) (r : LbReq) (st : CplStatus) : Tlp :=
  { kind := .cpl, reqId := r.tlp.reqId, tag := r.tlp.tag, cplId := s.epId r.record.srcPart, status := st, hdrBytes := 12 }

/-- A request of the bridge no longer stands: its delivery is told (R305), a context it holds ends. Says whether its requester still
waits. -/
def State.lbClose (s : State) (r : LbReq) : Bool × State :=
  let mine : Bool := s.lb.cyc.any fun c => c.req == r.id
  let s := { s with lb.reqs := s.lb.reqs.filter fun (x : LbReq) => x.id != r.id
                    lb.cyc := if mine then none else s.lb.cyc }
  let s := s.stop (.lbGap r.id)
  let s := match s.sc.acksDue.find? fun a => a.id == r.id with
    | some a =>
      let s := { s with sc.acksDue := s.sc.acksDue.filter fun (x : AckDue) => x.id != r.id }
      match a.arrived with | some k => s.markDone k a.record.seq | none => s
    | none => s
  match r.ctx with
  | none => (false, s)
  | some i =>
    match s.part.ctxs.find? fun c => c.idx == i && c.port == 48 && c.tag0 == r.tlp.tag && c.reqId == r.tlp.reqId with
    | some c => (true, s.endCtx c false)
    | none => (false, s)

/-- End a request with a status and no data: a posted one just ends. -/
def State.lbEnd (s : State) (r : LbReq) (st : CplStatus) : State :=
  let x := s.lbClose r
  if x.1 && !r.write then x.2.lbSend r.record (lbCpl x.2 r st) else x.2

/-- A byte of a set of dwords. -/
def lbByte (ds : List (Nat × Nat)) (a : Nat) : BitVec 8 :=
  BitVec.ofNat 8 (((ds.find? fun d => d.1 == a / 4 * 4).map fun d => d.2 / 2 ^ (8 * (a % 4))).getD 0)

/-- The completions of a read (R309): at most 256 bytes each, ending at an aligned boundary or at the end. -/
def lbPieces (a left : Nat) : Nat → List (Nat × Nat)
  | 0 => []
  | fuel + 1 => if left = 0 then [] else
    let n := min left (256 - a % 256)
    (a, n) :: lbPieces (a + n) (left - n) fuel

/-- A read ends with its data. -/
def State.lbData (s : State) (r : LbReq) (ds : List (Nat × Nat)) : State :=
  let x := s.lbClose r
  let s := x.2
  if !x.1 then s
  else (lbPieces r.tlp.addr (span r.tlp) 20).foldl (init := s) fun s p =>
    s.lbSend r.record { lbCpl s r .sc with
      bytes := p.2, byteCount := r.tlp.addr + span r.tlp - p.1, lowerAddr := p.1 % 128
      data := (List.range p.2).map fun i => lbByte ds (p.1 + i) }

/-- Refuse or lose a request that reached the bridge (R305): undeliverable with reason 0x01. -/
def State.lbUndeliv (s : State) (r : LbReq) : State :=
  let rid : Nat := r.id
  let due := s.sc.acksDue.find? fun (x : AckDue) => x.id == rid
  let s : State := { s with sc.acksDue := s.sc.acksDue.filter fun (x : AckDue) => x.id != rid }
  let s := (s.lbClose r).2
  match due with
  | some a => match a.arrived with
    | some _ => s.undelivDest r.record 1
    | none => ((s.dmLose fun (w : DmWr) => w.pkt == some rid).undeliverable r.record 1 r.cplId)
  | none => s

/-! ## Reset (R315) -/

/-- A bridge reset starts; with EN set LB_RST_n stays low for 10 µs from its end. -/
def State.lbReset (s : State) : State :=
  let s := match s.lb.cyc with
    | some c => match s.lb.reqs.find? (fun (x : LbReq) => x.id == c.req) with
      | some r => s.lbLog r 5 r.tlp.addr
      | none => s
    | none => s
  let s := { s with lb.cyc := none }.stop .lbPhase
  let s := s.lb.reqs.foldl (fun (s : State) (r : LbReq) => s.lbUndeliv r) s
  let s := (s.dropLines fun (_ : LbLine) => true).semFree
  let s := (s.set LB_STATUS_RESETTING 1).emit (.lbRst true)
  if s.on LB_CTRL_EN then s.start .lbRst 10000 else s.stop .lbRst

end Sys2Proof.Machine
end

