-- ==== Sys2Proof/Machine/MbOps.lean ====
section
/-! DEFINITION. Shared operations of the mailboxes' transport and of the event queues (15): the reset of a mailbox, the emptying of
a queue, the placing of a response. -/

namespace Sys2Proof.Machine

/-- Deferred commands of a mailbox not yet finished, as MB_STATUS shows them. -/
def State.showDeferred (s : State) (k : Nat) : State := s.set MB_STATUS_DEFERRED (s.mbox k).deferred.length k

/-- MAILBOX_RESET (R389, Table 15.10): the registers of the page return to their reset values but LAST_SEQ, and but the fields that
show firmware's own state; a running command goes on with no response placed, and deferred commands go on. -/
def State.mbReset (s : State) (k : Nat) : State :=
  let s := s.updMbox k fun m => { m with quiet := m.quiet ++ m.running.toList, running := none, rsp := [] }
  let s := [MB_STATUS_CMD_DONE, MB_STATUS_STATE, MB_STATUS_WR_DROP, MB_STATUS_CMD_ERR, MB_CTRL_IRQ_EN, MB_RSP_LEN_LEN].foldl
    (fun s f => s.unset f k) s
  s.unset MB_ACC_ERR_COUNT k

/-- The event queue of a local slot is emptied (R396): ring and overflow store; its pointers and its status start anew. Events held
at their units are then placed. -/
def State.eqEmpty (s : State) (k : Nat) : State :=
  let q := s.queue k
  let s := [MB_EQ_HEAD_HEAD, MB_EQ_TAIL_TAIL, MB_EQ_STATUS_LOST].foldl (fun s f => s.unset f k) s
  let s := s.setQueue k { q with ring := [], store := [], held := [], lostNext := false }
  (q.held.foldl (fun s x => s.queuePlace k x.1 x.2) s).unpark

/-- Move what the overflow store and the units hold into the room that has come (R396). -/
def State.eqMove (s : State) (k : Nat) : Nat → State
  | 0 => s
  | fuel + 1 =>
    let q := s.queue k
    match q.store with
    | x :: rest =>
      if q.ring.length < 62 then ((s.setQueue k { q with store := rest }).ringPlace k x.1 x.2).eqMove k fuel
      else match q.held with
        | h :: hs => if q.store.length < 448 then (s.setQueue k { q with store := q.store ++ [h], held := hs }).eqMove k fuel else s
        | [] => s
    | [] =>
      match q.held with
      | h :: hs => (s.setQueue k { q with store := [h], held := hs }).eqMove k fuel
      | [] => s

/-- The response of a command as bytes (R406, R407). -/
def rspBytes (r : OmiRun) (o : OmiRsp) : List Nat :=
  let res := if o.status = stSuccess || o.status = stParameter || !o.results.isEmpty then o.results else []
  le 2 r.opcode ++ le 2 (1 + r.flags / 2 % 2 * 2) ++ le 2 (4 + res.length) ++ le 2 r.seq ++ le 4 r.token ++ le 4 0 ++
    le 2 o.status ++ le 1 (o.applied % 4) ++ le 1 (o.failNode % 256) ++ res

/-- Place a response (R390 step 4): LEN, STATE DONE, CMD_DONE, and MSI-X vector 0 where IRQ_EN asks for it. -/
def State.placeRsp (s : State) (k : Nat) (bytes : List Nat) : State :=
  let s := s.updMbox k fun m => { m with rsp := bytes, running := none }
  let s := ((s.set MB_RSP_LEN_LEN bytes.length k).set MB_STATUS_STATE 2 k).set MB_STATUS_CMD_DONE 1 k
  if k < 16 && s.on MB_CTRL_IRQ_EN k then s.signal k 0 else s

/-- Store a response under its sequence (R392): 0 is never stored. -/
def State.storeRsp (s : State) (k seq : Nat) (bytes : List Nat) : State :=
  if seq = 0 then s
  else (s.updMbox k fun m => { m with stored := some (seq, bytes) }).set MB_SEQ_LAST_SEQ seq k

/-- The command completion event of a deferred command (Table 15.5), to the partition that issued it. -/
def State.deferredEvent (s : State) (w : OmiRun) (o : OmiRsp) : State :=
  s.raiseEvent w.part (.other 0x91 [o.applied, w.opcode, w.seq, o.status, w.token, w.mbox, s.nodeId])

end Sys2Proof.Machine
end

