-- ==== Sys2Proof/Machine/SlotOps.lean ====
section
/-! DEFINITION. Shared operations of the slot power channels (13): turning on and off, trips, latches, feeds, early warning. -/

namespace Sys2Proof.Machine

/-! ## The channel -/

def State.spc (s : State) (c : Nat) : SpCh := Tab.get {} s.sp c
def State.setSpc (s : State) (c : Nat) (x : SpCh) : State := { s with sp := Tab.put {} s.sp c x }
def State.updSpc (s : State) (c : Nat) (f : SpCh → SpCh) : State := s.setSpc c (f (s.spc c))

/-- States of Table 13.3. -/
abbrev spOff : Nat := 0
abbrev spWaitFeed : Nat := 1
abbrev spRamp : Nat := 2
abbrev spOn : Nat := 3
abbrev spSwitch : Nat := 4
abbrev spStopping : Nat := 5
abbrev spRetryWait : Nat := 6
abbrev spFaultOff : Nat := 7
abbrev spLatched : Nat := 8
abbrev spCycleWait : Nat := 9

def State.spState (s : State) (c : Nat) : Nat := s.get SP_STATUS_STATE c
def State.setSpState (s : State) (c st : Nat) : State :=
  (s.set SP_STATUS_STATE st c).flag SP_STATUS_RAIL_VALID (st == spOn || st == spSwitch) c

/-- A setting as the channel latched it (R344 step 1). -/
def State.spv (s : State) (f : Fld) (c : Nat) : Nat := Tab.get (fieldReset (f.key c)) (s.spc c).latched (f.key c)

/-- The physical port a channel serves (R294). -/
def State.slotPort (s : State) (c : Nat) : Option Nat :=
  (List.range 48).find? fun p => s.on PX_SLOT_VALID p && s.get PX_SLOT_CHAN p == c

/-- The owner's vDSP of the port-bound instance on the port a channel serves. -/
def State.slotVdsp (s : State) (c : Nat) : Option (Nat × Nat) :=
  (s.slotPort c).bind fun p =>
    ((s.instsOfPort p).find? fun i => s.on PART_FN_A_BIND i && s.get PART_FN_B_VDSP i != 0).map fun i =>
      (s.get PART_FN_A_OWNER i, s.get PART_FN_B_VDSP i)

/-- The owner's vDSP of the port-bound instance hears of the channel. -/
def State.spTell (s : State) (c ev v : Nat) : State :=
  match s.slotVdsp c with
  | some x => s.tellVdsp x.1 x.2 ev v
  | none => s

/-- The channel reports on, off or a fault: the owner's command that waits is complete (R296). -/
def State.spDone (s : State) (c : Nat) : State :=
  match (s.spc c).cmd with
  | some x => (s.updSpc c fun y => { y with cmd := none }).tellVdsp x.1 x.2 lnkDone 0
  | none => s

/-- Report of the channel against the port it serves. -/
def State.spReport (s : State) (c cls cause : Nat) : State :=
  let unit := 31 + c / 4
  match s.slotPort c with
  | some p => s.reportPort unit cls p (0x2000 + cause)
  | none => s.reportNode unit cls (0x2000 + cause)

/-- Table 03.4: the power-off of a slot advances the generation of every instance on the port. -/
def State.spPowerOff (s : State) (c : Nat) : State :=
  match s.slotPort c with
  | some p => (s.instsOfPort p).foldl (fun s i => s.advanceGen i) s
  | none => s

/-! ## Pins -/

/-- A pad of a channel follows its driver, unless the slot pads are held (R454). -/
def State.pad (s : State) (e : Emit) : State := if s.on PWR_PADHOLD_SLOT then s else s.emit e

def State.spGates (s : State) (c : Nat) (on : Bool) : State :=
  let x := s.spc c
  if x.driven == on then s
  else (s.setSpc c { x with driven := on }).pad (.slotGate c x.feed on)

def State.spPerstSet (s : State) (c : Nat) (low : Bool) : State :=
  let s := if low then s.stop (.spPerst c) else s
  if s.on SP_STATUS_PERST c == low then s else (s.flag SP_STATUS_PERST low c).pad (.slotPerst c low)

/-- SLOT_PWRWARN_n follows its causes; LEAD runs from its assertion (R356). -/
def State.spWarnShow (s : State) (c : Nat) : State :=
  let x := s.spc c
  let w : Bool := x.warnPf || x.warnFeed || x.warnCycle || x.warnSleep
  if s.on SP_STATUS_PWRWARN c == w then s
  else
    let s := (s.flag SP_STATUS_PWRWARN w c).pad (.slotWarn c w)
    if w then ((s.updSpc c fun y => { y with warnAt := s.now }).start (.spWarn c) (s.get SP_WARN_LEAD * 1000000)).evtNode 6 6
    else s.stop (.spWarn c)

/-- The rail is off, tripped or lost: no cause of the warning stands but the power-fail sequence's own. -/
def State.spWarnEnd (s : State) (c : Nat) : State :=
  (s.updSpc c fun x => { x with warnPf := false, warnFeed := false, warnCycle := false, warnSleep := false }).spWarnShow c

/-- Timers of a turn-on or of a rail that ends. -/
def State.spStopTimers (s : State) (c : Nat) : State :=
  [TimerId.spGate c, .spPerst c, .spLead c, .spOffMax c, .spClean c, .spReturn c, .spBbm c].foldl (fun s t => s.stop t) s

/-! ## Feeds -/

def State.feedGood (s : State) (f : Nat) : Bool := if f = 0 then s.on PST_STATUS_FEED_A_GOOD else s.on PST_STATUS_FEED_B_GOOD
def State.feedFit (s : State) (c f : Nat) : Bool := s.spv (if f = 0 then SP_CFG_FEED_A else SP_CFG_FEED_B) c != 0
def State.feedOk (s : State) (c f : Nat) : Bool := s.feedFit c f && s.feedGood f

/-- Curve timers are 0 at every turn-on and feed change (R348). -/
def State.spCurveZero (s : State) (c : Nat) : State := s.updSpc c fun x => { x with curve := List.replicate 8 0 }

/-- Drive the gate of feed `f` and wait for the gate check (R344 step 5, R354 step 2). -/
def State.spDrive (s : State) (c f : Nat) : State :=
  let s := (s.updSpc c fun x => { x with feed := f }).spCurveZero c
  (s.spGates c true).start (.spGate c) (s.spv SP_TIMERS_T_GATE c * 1000000)

/-- Steps 4 and 5 of R344: the preferred feed, else the other, else WAIT_FEED. -/
def State.spFeedOn (s : State) (c : Nat) : State :=
  let p := s.spv SP_CFG_PRIO c
  let f := if s.feedOk c p then some p else if s.feedOk c (1 - p) then some (1 - p) else none
  match f with
  | some f => ((s.setSpState c spRamp).spDrive c f).set SP_STATUS_FEED_ACT f c
  | none => s.setSpState c spWaitFeed

/-- Step 4 on of R344, as a turn-on or a retry begins. -/
def State.spBegin (s : State) (c : Nat) : State := (s.evtNode 6 0).spFeedOn c

/-! ## Turning on (R344, R349) -/

/-- Units of a curve point's time in µs. -/
def curveUnit (u : Nat) : Nat := if u = 0 then 1 else if u = 1 then 100 else 10000

/-- The enabled points of a curve are in strict order of ISET and of non-increasing time, and there is one (R349). -/
def curveOk : List (Nat × Nat) → Bool
  | [] => false
  | [_] => true
  | a :: b :: rest => a.1 < b.1 && b.2 ≤ a.2 && curveOk (b :: rest)

/-- The curve the channel has latched: ISET and time in µs of each point. -/
def State.spCurve (s : State) (c : Nat) : List (Nat × Nat) :=
  (List.range 8).map fun k =>
    let v (f : Fld) : Nat := Tab.get (fieldReset (f.key (8 * c + k))) (s.spc c).latched (f.key (8 * c + k))
    (v SP_CURVE_ISET, v SP_CURVE_TIME * curveUnit (v SP_CURVE_UNIT))

/-- Latch the settings (R344 step 1). -/
def State.spLatchSettings (s : State) (c : Nat) : State :=
  let one := ([Reg.SP_CFG, .SP_TIMERS, .SP_FEED, .SP_FAST].flatMap Reg.fields).map fun f => (f, c)
  let crv := (List.range 8).flatMap fun k => (Reg.fields .SP_CURVE).map fun f => (f, 8 * c + k)
  let t := (one ++ crv).foldl (init := (s.spc c).latched) fun (t : Tab Nat) (x : Fld × Nat) =>
    Tab.put (fieldReset (x.1.key x.2)) t (x.1.key x.2) (s.get x.1 x.2)
  s.updSpc c fun x => { x with latched := t }

/-- The board record marks the channel unfitted (R342): it fits no feed to it. -/
def State.spFitted (s : State) (c : Nat) : Bool := s.on SP_CFG_FEED_A c || s.on SP_CFG_FEED_B c

/-- A turn-on from step 1 of R344. -/
def State.spStart (s : State) (c : Nat) : State :=
  if !s.spFitted c then (s.setSpState c spOff).spDone c
  else
    let s := s.spLatchSettings c
    if !curveOk ((s.spCurve c).filter fun x => x.1 != 0) then
      (((s.setSpState c spOff).set SP_STATUS_CAUSE 7 c).spReport c 0 7).spDone c
    else if !s.on SP_STATUS_PRESENT c then (s.setSpState c spOff).spDone c
    else (s.set SP_STATUS_RETRIES_LEFT (s.get SP_RETRY_COUNT c) c).spBegin c

/-- An enable command (R344, Table 10.11, Table 13.5). -/
def State.spEnable (s : State) (c : Nat) : State :=
  let s := s.set SP_STATUS_PF_OFF 0 c
  if s.get JNL_STATUS_PF_PHASE != 0 then s.spDone c
  else
    let st := s.spState c
    if st = spOff || st = spFaultOff || st = spWaitFeed then (s.stop (.spEmpty c)).spStart c
    else if st = spStopping then s.updSpc c fun x => { x with enPend := true }
    else if st = spRamp || st = spCycleWait then s
    else s.spDone c

/-! ## Turning off (R346) -/

/-- The gates go down, and OFF_MAX begins. -/
def State.spGatesDown (s : State) (c : Nat) : State :=
  ((s.spGates c false).stop (.spLead c)).start (.spOffMax c) (s.spv SP_TIMERS_OFF_MAX c * 10000000)

/-- A turn-off begins: SLOT_PERST_n, then the gates after PERST_LEAD, and not earlier than LEAD after a warning. -/
def State.spStop (s : State) (c : Nat) : State :=
  let ramp : Bool := s.spState c == spRamp
  let x := s.spc c
  let lead := if ramp then 0 else s.spv SP_TIMERS_PERST_LEAD c * 10000
  let warn := if s.on SP_STATUS_PWRWARN c then x.warnAt + s.get SP_WARN_LEAD * 1000000 - s.now else 0
  let s := ((s.spStopTimers c).setSpState c spStopping).spPerstSet c true
  if max lead warn = 0 then s.spGatesDown c else s.start (.spLead c) (max lead warn)

/-- The channel reports off (R346 step 3, R359). -/
def State.spIsOff (s : State) (c : Nat) : State :=
  let x := s.spc c
  let s := ((s.spStopTimers c).spGates c false).spWarnEnd c
  let s := s.setSpc c { s.spc c with enPend := false, cycling := false }
  let s := if x.cycling then (s.setSpState c spCycleWait).start (.spCycleOff c) (s.get SP_WARN_CYCLE_OFF * 1000000)
    else s.setSpState c spOff
  let s := (s.spPowerOff c).spDone c
  if x.enPend && !x.cycling then s.spStart c else s

/-- A disable command (R343, R346, R359). In RETRY_WAIT it cancels the retry: DEDUCED from the later command winning. -/
def State.spDisable (s : State) (c : Nat) : State :=
  let s := s.set SP_STATUS_PF_OFF 0 c
  if s.get JNL_STATUS_PF_PHASE != 0 then s.spDone c
  else
    let st := s.spState c
    let s := s.updSpc c fun x => { x with cycling := false, enPend := false }
    if st = spRamp || st = spOn || st = spSwitch then s.spStop c
    else if st = spStopping then s
    else if st = spWaitFeed || st = spCycleWait || st = spRetryWait then
      (((s.stop (.spCycleOff c)).stop (.spRetry c)).setSpState c spOff).spDone c
    else s.spDone c

/-! ## Latches and trips (R347, R351) -/

/-- A failed gate check latches the channel. -/
def State.spLatch (s : State) (c cause : Nat) : State :=
  let s := ((s.spStopTimers c).spGates c false).spPerstSet c true
  let s := ((s.setSpState c spLatched).set SP_STATUS_LATCHED 1 c).set SP_STATUS_CAUSE cause c
  let s := (s.spWarnEnd c).updSpc c fun x => { x with cycling := false, enPend := false }
  let s := ((s.spReport c 2 cause).evtNode 6 5).spPowerOff c
  ((s.spTell c lnkLatched 1).spTell c lnkFault 1).spDone c

/-- A trip (R351). A comparator and a curve point on the same sample are one trip with CAUSE 0x1 (R350). -/
def State.spTrip (s : State) (c cause point : Nat) : State :=
  let x := s.spc c
  if x.tripAt == some s.now && !x.driven then (if cause = 1 then s.set SP_STATUS_CAUSE 1 c else s)
  else if !x.driven then s
  else
    let s := ((s.spStopTimers c).spGates c false).spPerstSet c true
    let s := (s.spWarnEnd c).updSpc c fun y => { y with cycling := false, enPend := false, tripAt := some s.now }
    let s := ((s.bump SP_CNT_TRIP_COUNT c).set SP_STATUS_CAUSE cause c).set SP_STATUS_POINT point c
    let s := (((s.evtNode 6 1).spReport c 2 cause).spPowerOff c).spTell c lnkFault 1
    let left := s.get SP_STATUS_RETRIES_LEFT c
    let s := if left = 0 then (s.setSpState c spFaultOff).spTell c lnkFault 1
      else if s.get JNL_STATUS_PF_PHASE != 0 then s.setSpState c spOff
      else ((s.set SP_STATUS_RETRIES_LEFT (left - 1) c).setSpState c spRetryWait).start (.spRetry c)
        (s.get SP_RETRY_INTERVAL c * 100000000)
    let s := if !s.on SP_STATUS_PRESENT c then s.start (.spEmpty c) (s.get SP_RETRY_T_EMPTY c * 1000000) else s
    s.spDone c

/-- A retry begins (R351). -/
def State.spRetryNow (s : State) (c : Nat) : State :=
  (((s.updSpc c fun x => { x with retryHeld := false }).bump SP_CNT_RETRY_COUNT c).evtNode 6 2).spBegin c

/-! ## Feeds (R354, R355) -/

/-- The change to the other feed begins: the active gate goes down, t_BBM runs. -/
def State.spChange (s : State) (c : Nat) : State :=
  let s := (((s.spGates c false).setSpState c spSwitch).spCurveZero c).stop (.spReturn c)
  (s.updSpc c fun x => { x with feed := 1 - x.feed }).start (.spBbm c) (s.spv SP_FEED_T_BBM c * 1000)

/-- The feeds have changed, or the channel has come to ON: what a channel does (R344 step 4, R354, R355). -/
def State.spFeeds (s : State) (c : Nat) : State :=
  let st := s.spState c
  let x := s.spc c
  let any : Bool := s.feedOk c 0 || s.feedOk c 1
  let warn (s : State) (w : Bool) : State := (s.updSpc c fun y => { y with warnFeed := w }).spWarnShow c
  if st = spWaitFeed then (if any then s.spFeedOn c else s)
  else if st = spRamp then
    if x.driven && !s.feedOk c x.feed then
      let s := (s.spGates c false).stop (.spGate c)
      if any then (s.updSpc c fun y => { y with feed := 1 - y.feed }).start (.spBbm c) (s.spv SP_FEED_T_BBM c * 1000)
      else s.setSpState c spWaitFeed
    else s
  else if st = spSwitch then warn s (!any)
  else if st = spOn then
    if !any then warn s true
    else
      let s := warn s false
      if !s.feedOk c x.feed then s.spChange c
      else if s.spv SP_CFG_RETURN_EN c != 0 && x.feed != s.spv SP_CFG_PRIO c && s.feedOk c (1 - x.feed) then
        s.startIfNot (.spReturn c) (s.spv SP_FEED_RETURN c * 1000000)
      else s.stop (.spReturn c)
  else s

/-- The feeds have changed: every channel looks at them. -/
def State.feedsChanged (s : State) : State := (List.range 12).foldl (fun s c => s.spFeeds c) s

/-! ## Power cycle and power-fail sequence (R357 to R359) -/

/-- A containment power cycle is asked for: it starts in ON outside the power-fail sequence, else it is refused. -/
def State.spCycle (s : State) (c : Nat) : Bool × State :=
  if s.spState c = spOn && s.get JNL_STATUS_PF_PHASE = 0 && !(s.spc c).cycling then
    let s := (s.bump SP_CNT_CYCLE_COUNT c).evtNode 6 4
    (true, (s.updSpc c fun x => { x with cycling := true, warnCycle := true }).spWarnShow c)
  else (false, s)

/-- The power-fail sequence begins (R356, R357). -/
def State.spPfStart (s : State) : State :=
  (List.range 12).foldl (init := s) fun s c =>
    let s := (s.updSpc c fun x => { x with warnPf := true, warnCycle := false, cycling := false, pfDone := false }).spWarnShow c
    let st := s.spState c
    if st = spRetryWait || st = spCycleWait then ((s.stop (.spRetry c)).stop (.spCycleOff c)).setSpState c spOff
    else if st = spRamp then ((s.spStopTimers c).spGates c false).setSpState c spOff
    else s

/-- The persist step has ended: the channel turns off at once, or when LEAD has passed (R357). -/
def State.spPfOff (s : State) (c : Nat) : State :=
  if s.runs (.spWarn c) then s.updSpc c fun x => { x with pfDone := true }
  else
    let st := s.spState c
    let was : Bool := st == spOn || st == spSwitch
    let s := ((s.spStopTimers c).spPerstSet c true).spGates c false
    let s := s.updSpc c fun x => { x with pfDone := false }
    let s := if st = spLatched then s else s.setSpState c spOff
    let s := if was then (s.set SP_STATUS_PF_OFF 1 c).spPowerOff c else s
    s.spWarnEnd c
def State.spPersistOff (s : State) : State := (List.range 12).foldl (fun s c => s.spPfOff c) s

/-- The warning ends with no persist step (R183, R357). -/
def State.spPfEnd (s : State) : State :=
  (List.range 12).foldl (init := s) fun s c => (s.updSpc c fun x => { x with warnPf := false }).spWarnShow c

/-! ## Presence (R353) -/

/-- SP_STATUS_c.PRESENT: the debounced pin, or always with PRES_IGN. -/
def State.spPresence (s : State) (c : Nat) : State :=
  let now : Bool := s.on SP_CFG_PRES_IGN c || (s.spc c).pin
  if s.on SP_STATUS_PRESENT c == now then s
  else
    let s := (s.flag SP_STATUS_PRESENT now c).spTell c lnkPresent (if now then 1 else 0)
    let st := s.spState c
    if now then
      let s := s.stop (.spEmpty c)
      if st = spRetryWait && (s.spc c).retryHeld then s.spRetryNow c else s
    else if st = spRamp || st = spOn || st = spSwitch then (s.updSpc c fun x => { x with cycling := false }).spStop c
    else if st = spCycleWait then (s.stop (.spCycleOff c)).setSpState c spOff
    else if st = spRetryWait || st = spFaultOff then s.start (.spEmpty c) (s.get SP_RETRY_T_EMPTY c * 1000000)
    else s

end Sys2Proof.Machine
end

