-- ==== Sys2Proof/Machine/PcieOps.lean ====
section
/-! DEFINITION. Shared operations of the PCI Express ports and the partition manager (03, 10): reserves, links that come up and go
down, containment, the binding of vDSPs, partition resets, thaws, removals. -/

namespace Sys2Proof.Machine

/-! ## Firmware messages of partitions -/

/-- Owner's control of the port behind a vDSP; binding of a vDSP; resets and freezes of a partition; markers of a removal; purge of
a removal's flows; the privilege. -/
abbrev fwPort : Nat := 8
abbrev fwVdsp : Nat := 0x0A
abbrev fwPart : Nat := 0x0B
abbrev fwMark : Nat := 0x0C
abbrev fwMarkers : Nat := 0x0D
abbrev fwFm : Nat := 0x0F
abbrev fwPurge : Nat := 0x12

/-! ## Ports (R137, R138, R278) -/

/-- The ingress reserve of a port in segments: 3·HDR + ceil(DATA / 4) for each type, with the width defaults of Table 05.2. -/
def State.ingressSize (s : State) (p : Nat) : Nat :=
  let w := s.formedWidth p
  let n (h d h0 d0 : Nat) : Nat := 3 * (if h = 0 then h0 else h) + ceilDiv (if d = 0 then d0 else d) 4
  n (s.get SC_PIN_P_HDR p) (s.get SC_PIN_P_DATA p) (16 * w) (256 * w) +
    n (s.get SC_PIN_NP_HDR p) (s.get SC_PIN_NP_DATA p) (8 * w) (4 * w) +
    n (s.get SC_PIN_CPL_HDR p) (s.get SC_PIN_CPL_DATA p) (16 * w) (256 * w)

/-- A port that is formed and in PCI Express mode. -/
def State.pciePort (s : State) (p : Nat) : Bool := s.formedWidth p != 0 && !s.fabricMode p

/-- The port may train: enabled in a role, and held down by nothing. -/
def State.mayTrainPx (s : State) (p : Nat) : Bool :=
  let x := s.px p
  s.pciePort p && s.on PX_PORT_CFG_ENABLE p && s.role p != 0 && !x.disabled && !x.heldDown && !x.dpcHeld

def State.trainPort (s : State) (p : Nat) : State := if s.mayTrainPx p then s.emit (.train p true) else s

/-! ## Instances: generations and resets (Table 03.4) -/

/-- Instances of the virtual functions of an instance's function. -/
def State.vfsOf (s : State) (i : Nat) : List Nat :=
  let p := s.get PART_FN_A_PORT i
  (s.instsOfPort p).filter fun j =>
    j != i && !s.on PART_FN_A_BIND j && Config.devPf (p * 65536 + s.get PART_FN_A_PHYS_RID j) == some (s.get PART_FN_A_PHYS_RID i)

/-- An FLR of an instance's function advances it and, for a physical function, the instances of its VFs. -/
def State.flrAdvance (s : State) (i : Nat) : State := (s.vfsOf i).foldl (fun s j => s.advanceGen j) (s.advanceGen i)

/-- A port reset advances every instance on the port. -/
def State.portAdvance (s : State) (p : Nat) : State := (s.instsOfPort p).foldl (fun s i => s.advanceGen i) s

/-- The switch resets an instance: an FLR of its function, or a hot reset of its port; its wait of 100 ms begins (R103 step 6). -/
def State.issueReset (s : State) (i : Nat) : State :=
  let p := s.get PART_FN_A_PORT i
  let s := if s.on PART_FN_A_BIND i then s.emit (.hotReset p)
    else { s with part.inFlr := s.part.inFlr ++ [i] }.emit (.flr p (s.get PART_FN_A_PHYS_RID i))
  s.start (.remWait i) 100000000

/-! ## What a port's loss does to packets (R497) -/

/-- A packet that cannot leave on a port any more: reported by its destination where it came from the fabric, else by this node; a
completion for a host that takes none is discarded (R105). -/
def State.loseOut (s : State) (r : Record) (arrivedOn : Bool) (id cplId : Nat) (host : Bool) : State :=
  if host && r.vc == .cpl then
    let s := if arrivedOn then s.markDone (dedupKey r.srcNode r.srcPart r.vc) r.seq else s
    s.bump PART_CNT_STALE_COUNT
  else if arrivedOn then s.undelivDest r 1
  else (s.dmLose fun (w : DmWr) => w.pkt == some id).undeliverable r 1 cplId

/-- The context of a non-posted request whose link acknowledgement never comes ends with no completion of its own. -/
def State.dropCtxOf (s : State) (p : Nat) (r : Record) : State :=
  match recTlp r with
  | some t =>
    if !tlpNonPosted t then s
    else match s.part.ctxs.find? fun c => c.port == p && c.srcNode == r.srcNode && c.srcPart == r.srcPart && c.reqId == t.reqId && c.tag0 == t.tag with
      | some c => s.endCtx c true
      | none => s
  | none => s

/-- What stands at a PCI Express egress when its link is lost: packets sent and not acknowledged, and packets queued. -/
def State.loseEgress (s : State) (p : Nat) : State :=
  let host := s.role p == roleUp
  let due := s.sc.acksDue.filter fun a => a.port == p
  let s := { s with sc.acksDue := s.sc.acksDue.filter fun (a : AckDue) => a.port != p }
  let s := due.foldl (init := s) fun s a =>
    let s := (s.dropCtxOf p a.record).loseOut a.record a.arrived.isSome a.id a.cplId host
    match s.pkt a.id with
    | some k => if k.gone then s else s.unbuffer k
    | none => s
  (s.sc.pkts.filter fun k => k.egress == p && !k.started && !k.gone && (!s.arrived k || k.pass == .final)).foldl
    (fun s k => (s.loseOut k.record (s.arrived k) k.id k.cplId host).unbuffer k) s

/-- What a vDSP is told of its port's link: bit 0 up, rate, width. -/
def State.linkWord (s : State) (p : Nat) : Nat :=
  if s.dlActive p then 1 + 2 * s.get PX_PORT_STAT_RATE p + 16 * s.get PX_PORT_STAT_WIDTH p else 0

/-! ## vDSPs (R92) -/

/-- A vDSP is filled at the home node. A function-bound one shows its binding; a port-bound one its slot's or port's presence, and
its link follows the port. -/
def State.fillVdsp (s : State) (k n : Nat) (b : Bind) (present : Bool) (link : Nat) : State :=
  let s := s.setBind k n (some { b with rate := link / 2 % 8, width := link / 16 % 8 })
  (s.showPresence k n present).showLink k n (link % 2 == 1)

/-- A vDSP is emptied at the home node: the host sees a hot removal. -/
def State.emptyVdsp (s : State) (k n : Nat) : State :=
  let lo := cfgKey k (fnBehind n) 0
  let s := { s with pcie.cfg := s.pcie.cfg.filter fun x => x.1 < lo || lo + 1024 ≤ x.1 }
  let s := (s.setBind k n none).setCfg k n cfgDpcStat 0
  (s.showLink k n false).showPresence k n false

/-- The home node's part in filling (1) and emptying (2) a vDSP; it acknowledges when every node has the new view and, for a
removal, the bound segment without the function's ranges. -/
def State.vdspFw (s : State) (src : Nat) (f : List Nat) : State :=
  let g (i : Nat) : Nat := f.getD i 0
  match s.slotOf (g 1) with
  | none => s.ackTo (g 1) src (g 3)
  | some k =>
    if g 0 = 1 then
      let b : Bind := { node := g 4, inst := g 5, kind := g 6, port := g 7, phys := g 8, busSpan := g 9, gen := g 10
                        slotNo := g 13, mps := g 14 % 4, ide := g 14 / 4 % 2 == 1 }
      (s.fillVdsp k (g 2) b (g 11 == 1) (g 12)).spreadView k (g 2) (.ackTo (g 1) src (g 3))
    else
      let s := (s.emptyVdsp k (g 2)).spreadView k (g 2) .none
      s.spreadBound k (.ackTo (g 1) src (g 3))

/-- A message of an instance's node to the home node of its owner about its vDSP; `d` follows its acknowledgement. -/
def State.askVdsp (s : State) (part : Nat) (op vdsp : Nat) (rest : List Nat) (d : AckDone) : State :=
  match s.homeOf part with
  | some h =>
    let a := s.awaitThese [h] d
    let f := [op, part, vdsp, a.1] ++ rest
    if h = s.nodeId then a.2.vdspFw h f else a.2.sendFw part h (.other fwVdsp f)
  | none => (s.awaitThese [] d).2

/-- Presence of a physical port: that of its slot channel, else in-band (R295). -/
def State.portPresent (s : State) (p : Nat) : Bool :=
  if s.on PX_SLOT_VALID p then s.on SP_STATUS_PRESENT (s.get PX_SLOT_CHAN p) else s.dlActive p

/-- The vDSP of a live instance is to be filled. -/
def State.askFill (s : State) (i : Nat) (cmd : Option Nat) : State :=
  let p := s.get PART_FN_A_PORT i
  let bound := s.on PART_FN_A_BIND i
  let n01 (b : Bool) : Nat := if b then 1 else 0
  s.askVdsp (s.get PART_FN_A_OWNER i) 1 (s.get PART_FN_B_VDSP i)
    [s.nodeId, i, if bound then 2 else 1, p, s.get PART_FN_A_PHYS_RID i, s.get PART_FN_B_BUS_SPAN i, s.get PART_FN_B_GEN i,
     n01 (!bound || s.portPresent p), s.linkWord p,
     if bound && s.on PX_SLOT_VALID p then 16 * s.nodeId + s.get PX_SLOT_CHAN p + 1 else 0, s.cfgWord p] (.filled i cmd)

/-! ## Resets and deletions of a partition at this node (R105, Table 03.1) -/

/-- Jobs of `PartSt.resets`: the reset of a partition, and its deletion. -/
def jobReset (part : Nat) : Nat := part
def jobDelete (part : Nat) : Nat := 64 + part

def State.job (s : State) (j : Nat) : Option ResetJob := Tab.get none s.part.resets j
def State.setJob (s : State) (j : Nat) (x : Option ResetJob) : State := { s with part.resets := Tab.put none s.part.resets j x }

/-- A job with no instance left ends: its acknowledgement goes. -/
def State.jobCheck (s : State) (j : Nat) : State :=
  match s.job j with
  | some x =>
    if !x.left.isEmpty then s
    else
      let s := s.setJob j none
      match x.ack with
      | some a => s.ackTo (j % 64) a.1 a.2
      | none => s
  | none => s

/-- An instance is done with in a job. -/
def State.jobDone (s : State) (j i : Nat) : State :=
  match s.job j with
  | some x => (s.setJob j (some { x with left := x.left.filter fun n => n != i })).jobCheck j
  | none => s

/-- The Turns of a partition are disarmed at this node (R215). -/
def State.disarmTurns (s : State) (part : Nat) : State :=
  { s with spn.turns := Tab.mapVals {} (fun _ (t : Turn) =>
      if t.owner == some part then { t with armed := false, due := none, write := none, suspended := false } else t) s.spn.turns }

/-- An instance in a removal. -/
def State.removal (s : State) (i : Nat) : Option Removal := Tab.get none s.part.removals i
def State.setRemoval (s : State) (i : Nat) (r : Option Removal) : State := { s with part.removals := Tab.put none s.part.removals i r }

/-- Steps 1 to 3 of a partition reset at this node: the partition's instances that are in no removal are frozen, advanced and
reset, its Turns disarmed, its semaphore freed. -/
def State.resetHere (s : State) (part : Nat) (ack : Option (Nat × Nat)) : State :=
  let is := (s.instsOf part).filter fun i => (s.removal i).isNone
  let s := is.foldl (fun s i => s.freeze i frzFirmware) s
  let s := is.foldl (fun s i => s.flrAdvance i) s
  let s := is.foldl (fun s i => s.issueReset i) s
  let s := (s.disarmTurns part).semRelease part
  (s.setJob (jobReset part) (some { left := is, ack := ack })).jobCheck (jobReset part)

/-- A partition reset begins at the home node (R105). One that is in progress already takes a second cause with it. -/
def State.resetPart (s : State) (k : Nat) (cmd : Option Nat) : State :=
  let part := s.get PART_CTRL_PART_ID k
  let st := s.get PART_CTRL_STATE k
  let s := match cmd with
    | some c => { s with part.rstCmds := s.part.rstCmds ++ [(k, c)] }
    | none => s
  if st = partResetting || st = partDeleting || st = partFree then s
  else
    let s := (s.setPartState k partResetting).flag PART_CTRL_HOST_FROZEN true k
    let s := ((s.mbReset k).eqEmpty k)
    let s := (s.chansOf part).foldl (fun s c => s.dmReset c none none) s
    let s := { s with pcie.spdm := Tab.put 0 s.pcie.spdm k 0, pcie.pme := Tab.put none s.pcie.pme k none }.stop (.pme k)
    let a := s.awaitThese (s.nodeId :: s.others) (.partReset k)
    let s := a.2.fwAll part (.other fwPart [1, part, a.1])
    s.resetHere part (some (s.nodeId, a.1))

/-! ## Links (R84, R105, R372) -/

/-- The fabric manager's upstream link is down or up: FM_TAKEOVER (R87). -/
def State.fmLink (s : State) (k : Nat) (up : Bool) : State :=
  if s.fmHolder != some (s.get PART_CTRL_PART_ID k) then s
  else if up then s.stop .fmTakeover
  else s.startIfNot .fmTakeover (s.get PART_TIMERS_FM_TAKEOVER * 1000000)

/-- The link of a port is down: its state clears, what stood at its egress is reported, its instances advance, its vDSPs and its
partition follow. -/
def State.pcieDown (s : State) (p : Nat) : State :=
  let was := s.dlActive p
  let s := s.updPx p fun x => { x with waiting := false }
  let s := s.dropAdmit p
  if !was then s
  else
    let s := [PX_PORT_STAT_DL_ACTIVE, PX_PORT_STAT_FLIT, PX_PORT_STAT_RATE, PX_PORT_STAT_WIDTH, PX_PORT_STAT_L0P, PX_PORT_STAT_PM].foldl
      (fun s f => s.set f 0 p) s
    let s := ((s.bwChanged p).loseEgress p).clearEgress p
    let s := s.updPx p fun x => { x with partner := [], sending := none }
    let s := (s.portAdvance p).tellPort p lnkLink 0
    match s.slotOfPort p with
    | some k =>
      let s := if s.get SPN_CTRL_HOST_PORT = p then { s with spn.hostTime := false }.elect else s
      (s.fmLink k false).resetPart k none
    | none => s

/-- An uncorrectable error of a port's link is logged: in the vUSP of an upstream port, in every vDSP that presents something on
another (R300). -/
def State.linkAer (s : State) (p n : Nat) : State :=
  match s.slotOfPort p with
  | some k => s.aer k fnVusp n
  | none => s.tellPort p lnkAer n

/-- A link is up: its partition, its vDSPs and the commands that wait for it follow. -/
def State.pcieUp (s : State) (p : Nat) : State :=
  let s := (s.set PX_PORT_STAT_DL_ACTIVE 1 p).updPx p fun x => { x with waiting := false, lastTlp := s.now }
  let s := ((s.bwChanged p).stop (.fcRecover p)).tellPort p lnkLink (s.linkWord p)
  let s := match s.slotOfPort p with
    | some k =>
      let s := s.fmLink k true
      if s.get PART_CTRL_STATE k = partCreated then s.setPartState k partActive else s
    | none => s
  let done := s.part.mgJobs.filter fun x => x.1 == p
  done.foldl (fun s x => s.finish x.2 ok) { s with part.mgJobs := s.part.mgJobs.filter fun (x : Nat × Nat) => x.1 != p }

/-- Flow-control initialisation completes once the reserve is whole and the admission reserve established (R137, R163). -/
def State.initDone (s : State) (p : Nat) : State :=
  if (s.px p).waiting && s.reserveWhole p && (s.admitRes p).size ≤ (s.admitRes p).got then s.pcieUp p else s

/-- Flow-control initialisation begins: the reserves are taken anew from the values in force (R137, R138, R163). -/
def State.initFc (s : State) (p : Nat) : State :=
  let n := s.ingressSize p
  let s := (s.takeReserve p n).setAdmitRes p { size := n, got := 0 }
  ((s.updPx p fun x => { x with waiting := true }).establish).initDone p

/-- ENABLE of a port: the reserve is taken and the port trains in its role, or stops and returns it (R137). -/
def State.portOn (s : State) (p : Nat) : State :=
  if !s.pciePort p || s.on PX_PORT_CFG_ENABLE p then s
  else
    let s := ((s.set PX_PORT_CFG_ENABLE 1 p).endTests p).pllCheck
    (s.takeReserve p (s.ingressSize p)).trainPort p
def State.portOff (s : State) (p : Nat) : State :=
  if !s.on PX_PORT_CFG_ENABLE p then s
  else
    let s := (s.set PX_PORT_CFG_ENABLE 0 p).pcieDown p
    let s := (s.updPx p fun x => { x with disabled := false, heldDown := false, dpcHeld := false }).set PX_PORT_STAT_DPC 0 p
    ((s.giveReserve p).emit (.train p false)).pllCheck

/-! ## Containment (R298) -/

/-- A downstream port is contained: its link is held disabled. `reason` is the trigger reason of the Base Specification. -/
def State.contain (s : State) (p reason : Nat) : State :=
  if s.on PX_PORT_STAT_DPC p then s
  else
    let s := ((s.set PX_PORT_STAT_DPC 1 p).updPx p fun x => { x with dpcHeld := true }).pcieDown p
    (s.emit (.train p false)).tellPort p lnkContained (1 + reason)

/-- The containment ends and the link retrains, unless something else holds the port; RECOVER runs from here after a Port-fatal reaction
(R375). -/
def State.uncontain (s : State) (p : Nat) : State :=
  if !s.on PX_PORT_STAT_DPC p || (s.px p).heldDown then s
  else
    let s := (((s.set PX_PORT_STAT_DPC 0 p).updPx p fun x => { x with dpcHeld := false }).tellPort p lnkContained 0).trainPort p
    if s.fc.recover.contains p then { s with fc.recover := s.fc.recover.filter fun (q : Nat) => q != p }.start (.fcRecover p) (s.get FC_PORT_RECOVER p * 100000000)
    else s

/-! ## Thaws (R111) -/

/-- A thaw that has ended answers. -/
def State.thawEnd (s : State) (ack : Option (Nat × Nat)) (part : Nat) (cmd : Option Nat) : State :=
  let s := match ack with | some a => s.ackTo part a.1 a.2 | none => s
  s.finishOpt cmd ok

/-- Thaw instances, with ADVANCE after their generations have advanced; those in a generation wait thaw at its end. -/
def State.thawSome (s : State) (is : List Nat) (advance : Bool) (part : Nat) (ack : Option (Nat × Nat)) (cmd : Option Nat) : State :=
  let s := if advance then is.foldl (fun s i => s.advanceGen i) s else s
  let wait := if advance then is.filter fun i => s.inGenWait i else []
  let s := (is.filter fun i => !wait.contains i).foldl (fun s i => s.unfreeze i) s
  if wait.isEmpty then s.thawEnd ack part cmd
  else { s with part.thaws := s.part.thaws ++ [{ insts := wait, ack := ack, part := part, cmd := cmd }] }

/-- Frozen by the freeze of its partition and in no removal: what Thaw Partition and the end of a reset thaw. -/
def State.frozenWithPart (s : State) (part : Nat) : List Nat :=
  (s.instsOf part).filter fun i => s.on PART_FN_A_FROZEN i && s.get PART_FN_B_FREEZE_CAUSE i == frzFirmware && (s.removal i).isNone

/-! ## Removals (R103) -/

/-- Step 1 and 2: the instance is frozen, the owner's vDSP emptied and its ranges withdrawn. -/
def State.removeInst (s : State) (i : Nat) (then_ : Option Reassign) (cmd : Option Nat) : State :=
  let part := s.get PART_FN_A_OWNER i
  let s := (s.freeze i frzFirmware).setRemoval i (some { step := 2, owner := part, then_ := then_, cmd := cmd })
  s.askVdsp part 2 (s.get PART_FN_B_VDSP i) [] (.emptied i)

/-- Every instance of a partition at this node goes through its removal; one in a removal already is cleared by it and goes to no new
owner (Table 03.1). -/
def State.deleteHere (s : State) (part : Nat) (ack : Nat × Nat) : State :=
  let is := s.instsOf part
  let s := s.setJob (jobDelete part) (some { left := is, ack := some ack })
  let s := is.foldl (fun s i => if (s.removal i).isSome then s else s.removeInst i none none) s
  s.jobCheck (jobDelete part)

/-- The markers of a partition's P and NP flows toward a node (R103 step 4): VC code and last sequence admitted. -/
def State.markers (s : State) (part node : Nat) : List (VC × Nat) :=
  [VC.p, .np].filterMap fun v =>
    let k := flowKey part node v
    if (s.flow k).next = 0 && !(s.jnl.entries.any fun e => entryFlow e == k) then none else some (v, seqPrev (s.flow k).next)

/-- Step 4 begins: the nodes that hold the owner's map are asked for their markers; this node's local flows have none. -/
def State.removalDrain (s : State) (i : Nat) : State :=
  match s.removal i with
  | some r =>
    let ns := s.others
    let s := s.setRemoval i (some { r with step := 4, waiting := ns })
    let s := ns.foldl (fun s n => s.sendFw r.owner n (.other fwMark [r.owner, i])) s
    s.start (.remDrain i) 100000000
  | none => s

/-- A node's markers have come. -/
def State.markersGot (s : State) (src i : Nat) (ms : List (VC × Nat)) : State :=
  match s.removal i with
  | some r =>
    s.setRemoval i (some { r with waiting := r.waiting.filter fun n => n != src
                                  markers := r.markers ++ ms.map fun m => { srcNode := src, vc := m.1, seq := m.2 } })
  | none => s

/-- A marker is covered by DELIVERED (R169). -/
def State.covered (s : State) (owner : Nat) (m : Marker) : Bool :=
  upTo m.seq (s.dedup (dedupKey m.srcNode owner m.vc)).delivered

/-- Requests of the owner toward the instance that entered at this node and are still queued. -/
def State.queuedFor (s : State) (r : Removal) (i : Nat) : List Packet :=
  s.sc.pkts.filter fun k => k.record.srcPart == r.owner && k.record.inst == some i && k.record.srcNode == s.nodeId &&
    (k.record.vc == .p || k.record.vc == .np || k.record.vc == .tt) && !k.started && !k.gone

/-- The drain point is reached (R103 step 4). -/
def State.drained (s : State) (r : Removal) (i : Nat) : Bool :=
  r.step == 4 && r.waiting.isEmpty && r.markers.all (fun m => s.covered r.owner m) && (s.queuedFor r i).isEmpty

/-- An instance entry is cleared: every field but GEN. A port-bound port is unused again. -/
def State.clearInst (s : State) (i : Nat) : State :=
  let p := s.get PART_FN_A_PORT i
  let owner := s.get PART_FN_A_OWNER i
  let s := if s.on PART_FN_A_BIND i then (s.portOff p).set PX_PORT_CFG_ROLE 0 p else s
  let s := s.unsetReg .PART_FN_A i
  let s := [PART_FN_B_VIRT_BUS, PART_FN_B_FREEZE_CAUSE, PART_FN_B_VDSP, PART_FN_B_BUS_SPAN].foldl (fun s f => s.unset f i) s
  let s := { s with part.frzCpl := s.part.frzCpl.filter fun (n : Nat) => n != i, part.virtSub := Tab.put 0 s.part.virtSub i 0 }
  s.checkHeld owner

/-- Step 7: the entry is cleared, or written for its new owner, whose vDSP is then filled. -/
def State.removalEnd (s : State) (i : Nat) : State :=
  match s.removal i with
  | some r =>
    let s := { s with part.inFlr := s.part.inFlr.filter fun (n : Nat) => n != i }
    match r.then_ with
    | none =>
      let s := ((s.setRemoval i none).clearInst i).finishOpt r.cmd ok
      s.jobDone (jobDelete r.owner) i
    | some n =>
      let s := ((s.set PART_FN_A_OWNER n.owner i).set PART_FN_B_VDSP n.vdsp i).set PART_FN_B_VIRT_BUS 0 i
      let s := ((s.setRemoval i (some { r with step := 7 })).checkHeld r.owner).checkHeld n.owner
      (s.askFill i r.cmd).jobDone (jobDelete r.owner) i
  | none => s

/-- The function did not come back within 1 s: marked failed, the entry left cleared, the fabric manager told (R103). -/
def State.removalFail (s : State) (i : Nat) : State :=
  match s.removal i with
  | some r =>
    let f := (s.get PART_FN_A_PORT i, s.get PART_FN_A_PHYS_RID i)
    let s := { s with part.failed := if s.part.failed.contains f then s.part.failed else s.part.failed ++ [f]
                      part.inFlr := s.part.inFlr.filter fun (n : Nat) => n != i }
    let s := ((s.setRemoval i none).clearInst i).raiseFm (.functionFailed s.nodeId i)
    (s.finishOpt r.cmd (rsp stFailed)).jobDone (jobDelete r.owner) i
  | none => s

/-! ## What an owner does to the port behind its vDSP (Table 10.6, R296, R298, R299) -/

abbrev opDisable : Nat := 1
abbrev opRetrain : Nat := 2
abbrev opSbr : Nat := 3
abbrev opPower : Nat := 4
abbrev opDpcClear : Nat := 5
abbrev opDpcSoft : Nat := 6
abbrev opAspm : Nat := 7

/-- The live instance of this node that a partition's vDSP presents. -/
def State.instOfVdsp (s : State) (part n : Nat) : Option Nat := (s.instsOf part).find? fun i => s.get PART_FN_B_VDSP i == n

/-- The function's node does what the owner's write asks for. -/
def State.portFw (s : State) (part n op arg : Nat) : State :=
  match s.instOfVdsp part n with
  | none => s
  | some i =>
    let p := s.get PART_FN_A_PORT i
    let bound := s.on PART_FN_A_BIND i
    if op = opDisable && bound then
      let s := s.updPx p fun x => { x with disabled := arg == 1 }
      if arg = 1 then (s.pcieDown p).emit (.train p false) else s.trainPort p
    else if op = opRetrain && bound then
      (if s.dlActive p then ((s.bump PX_CNT_RECOV_COUNT p).evtPort p 12).emit (.retrain p) else s)
    else if op = opSbr then
      (if bound then (s.portAdvance p).emit (.hotReset p) else (s.flrAdvance i).issueReset i)
    else if op = opPower && bound && s.on PX_SLOT_VALID p then
      let c := s.get PX_SLOT_CHAN p
      let s := s.updSpc c fun x => { x with cmd := some (part, n) }
      if arg = 1 then s.spDisable c else s.spEnable c
    else if op = opDpcClear then
      if bound then s.uncontain p
      else if s.on PX_PORT_STAT_DPC p || !s.on PART_FN_A_FROZEN i || (s.removal i).isSome then s
      else s.thawSome [i] true part none none
    else if op = opDpcSoft then
      if bound then s.contain p 3
      else if s.on PART_FN_A_FROZEN i then s
      else (s.freeze i frzFirmware).flag PART_FN_A_FREEZE_CPL true i
    else if op = opAspm && bound then s.updPx p fun x => { x with l1Enabled := arg == 1 }
    else s

/-- The home node passes an owner's write on to the node of the port. -/
def State.askPort (s : State) (k n op arg : Nat) : State :=
  let part := s.get PART_CTRL_PART_ID k
  match s.bind k n with
  | none => s
  | some b => if b.node = s.nodeId then s.portFw part n op arg else s.sendFw part b.node (.other fwPort [op, part, n, arg])

end Sys2Proof.Machine
end

