-- ==== Sys2Proof/Machine/AckOps.lean ====
section
/-! DEFINITION. What follows when every node has acknowledged (R83, R95, R107, R122): the ends of commits, of partition resets, of
bindings and removals; the firmware messages about windows. -/

namespace Sys2Proof.Machine

/-- This node and every other member: the nodes at which a map is kept. -/
def State.allNodes (s : State) (_ : OmiRun) : List Nat := s.nodeId :: s.others

/-- A partition exists (Table 03.1). -/
def State.exists_ (s : State) (part : Nat) : Bool := part < 64 && s.partState part != partFree

/-- Messages of firmware that ask a node to check a commit, and refuse it. -/
abbrev fwCheck : Nat := 0x06
abbrev fwRefuse : Nat := 0x07

/-- What a node answers to a commit of the managed segment before any bank changes: nothing against it, or an outcome. -/
def State.commitCheck (s : State) (part : Nat) : Option OmiRsp :=
  if s.winBusy part then some (rsp stBusy)
  else (s.firstBroken part).map fun x => rsp stParameter [x.1, x.2]

/-- A checked commit is accepted at this node. -/
def State.acceptCommit (s : State) (r : OmiRun) : State :=
  let part := r.arg 0 1
  let b := 1 - s.get WIN_PCTRL_ACT_MANAGED part
  let s := { s with win.strict := Tab.put false s.win.strict (part * 2 + b) ((r.arg 1 1).testBit 0) }
  s.beginCommit { part := part, bound := false, managed := true, cmd := some r.id }

/-- Every node has checked the commit: it goes to all. -/
def State.goCommit (s : State) (id : Nat) : State :=
  match s.work id with
  | none => s
  | some w =>
    let s := s.updWork id fun w => { w with waiting := s.nodeId :: s.others }
    let s := s.acceptCommit w.run
    s.others.foldl (fun s n => s.forward w.run n) s

/-- A node refuses a commit: the command ends, nothing has changed. -/
def State.commitRefused (s : State) (id st idx rule : Nat) : State :=
  match s.acks.find? fun j => j.id == id with
  | some j =>
    match j.done with
    | .goCommit cmd =>
      { s with acks := s.acks.filter fun (x : AckJob) => x.id != id }.finish cmd
        (if st = stParameter then rsp st [idx, rule] else rsp st)
    | _ => s
  | none => s

/-- Every grant bit to and from a deleted partition clears (Table 04.3). -/
def State.clearGrants (s : State) (part : Nat) : State :=
  let s := (s.set WIN_GRANT_W_MASK 0 part).set WIN_GRANT_R_MASK 0 part
  (List.range 64).foldl (init := s) fun s p =>
    (s.set WIN_GRANT_W_MASK (setBit (s.get WIN_GRANT_W_MASK p) part false) p).set WIN_GRANT_R_MASK
      (setBit (s.get WIN_GRANT_R_MASK p) part false) p

/-! ## Ends -/

/-- Step 4 of R105: the configuration registers of the vUSP and the vDSPs, and those the switch holds of their functions, return to
their reset values; the bits that show presence and links stay. -/
def State.resetCfg (s : State) (k : Nat) : State :=
  let mine (x : Nat) : Bool := x / 1024 / 80 == k && x / 1024 % 80 != fnMgmt
  let keep (x : Nat × Nat) : Nat × Nat :=
    let off := x.1 % 1024 * 4
    if !mine x.1 then x
    else (x.1, if x.1 / 1024 % 80 ≥ fnBehind 0 then 0 else if off = cfgSlotCtl then x.2 &&& 2 ^ 22 else if off = cfgLinkCtl then x.2 &&& 2 ^ 29 else 0)
  { s with pcie.cfg := (s.pcie.cfg.map keep).filter fun x => x.2 != 0 }

/-- Steps 4 and 5 of R105 fall due when every node has ended the resets: PARTITION_RESET_COMPLETE. -/
def State.resetEnded (s : State) (k : Nat) : State := { s with part.resetDone := s.part.resetDone ++ [k] }

/-- Every instance of a partition being deleted is gone (Table 03.1): its channels and Turns are released, and every node clears its
record. -/
def State.clearPart (s : State) (k : Nat) (cmd : Option Nat) : State :=
  let part := s.get PART_CTRL_PART_ID k
  let s := (s.chansOf part).foldl (fun s c => s.dmReset c none (some none)) s
  let s := s.setRec part {}
  let a := s.awaitAll (.deleted k cmd)
  let r : PartRec := {}
  a.2.fwAll part (.other fwRecord [part, 0, r.home, r.state, r.upPort, r.homePlane, r.upBus, r.intBus, a.1])

/-- What a node forgets with a partition's record (R83, Table 04.3): its Turns and pins, its grants, its map, its view. -/
def State.forgetPart (s : State) (part : Nat) : State :=
  let s := s.disarmTurns part
  let s := { s with spn.turns := Tab.mapVals {} (fun _ (t : Turn) => if t.owner == some part then { t with owner := none } else t) s.spn.turns
                    win.ents := s.win.ents.filter fun x => x.1 / 512 != part
                    win.view := s.win.view.filter fun x => x.1 / 32 != part }
  (((s.clearGrants part).resetMeter part).checkHeld part)

/-- The partition is gone at its home node: the slot is free, its upstream port unused. -/
def State.freeSlot (s : State) (k : Nat) : State :=
  let part := s.get PART_CTRL_PART_ID k
  let p := s.get PART_CTRL_UP_PORT k
  let s := ((s.portOff p).set PX_PORT_CFG_ROLE 0 p).unsetReg .PART_CTRL k
  let s := { s with pcie.cfg := s.pcie.cfg.filter fun x => x.1 / 1024 / 80 != k, evq := Tab.put {} s.evq k {} }
  (((s.mbReset k).eqEmpty k).unsetReg .RING_HOME k).forgetPart part

/-- What follows when every node has acknowledged. -/
def State.runDone (s : State) : AckDone → State
  | .omi id => s.finish id ok
  | .cfg part reqId tag cplId =>
    s.cplHere part { kind := .cpl, reqId := reqId, tag := tag, cplId := cplId, status := .sc, hdrBytes := 12 } .internal
  | .commit part reqId tag cplId =>
    match s.slotOf part with
    | some k => s.spreadBound k (.cfg part reqId tag cplId)
    | none => s
  | .goCommit id => s.goCommit id
  | .ackTo part node id => s.ackTo part node id
  | .emptied i => s.removalDrain i
  | .filled i cmd =>
    match s.removal i with
    | some _ => ((s.setRemoval i none).unfreeze i).finishOpt cmd ok
    | none => s.finishOpt cmd (ok (le 2 i))
  | .partReset k => s.resetEnded k
  | .drained k cmd => s.clearPart k cmd
  | .deleted k cmd => (s.freeSlot k).finishOpt cmd ok
  | .none => s

/-- Waits whose last acknowledgement has come end, with what follows from them. -/
def State.settleN (s : State) : Nat → State
  | 0 => s
  | fuel + 1 =>
    match s.acks.find? fun j => j.waiting.isEmpty with
    | some j => (({ s with acks := s.acks.filter fun (x : AckJob) => x.id != j.id }).runDone j.done).settleN fuel
    | none => s
def State.settle (s : State) : State := s.settleN 64

/-- Messages of firmware about windows: acknowledgements, views, bound segments, checks of a commit. -/
def State.winFw (s : State) (src type : Nat) (fs : List Nat) : State :=
  let f (i : Nat) : Nat := fs.getD i 0
  if type = fwAck then s.ackNote (f 0) src
  else if type = fwView then (s.installView (f 0) (f 1) (viewFrom (fs.drop 3))).sendAck (f 0) src (f 2)
  else if type = fwBound then
    let ws := fs.drop 2
    let es := (List.range (ws.length / 8)).map fun i => wentFrom ((ws.drop (8 * i)).take 8)
    s.boundCommit es { part := f 0, bound := true, managed := false, ack := some (src, f 1) }
  else if type = fwCheck then
    match s.commitCheck (f 0) with
    | none => s.sendAck (f 0) src (f 1)
    | some o => s.sendFw (f 0) src (.other fwRefuse [f 1, o.status, o.results.getD 0 0, o.results.getD 1 0])
  else if type = fwRefuse then s.commitRefused (f 0) (f 1) (f 2) (f 3)
  else s


end Sys2Proof.Machine
end

