-- ==== Sys2Proof/Machine/CfgOps.lean ====
section
/-! DEFINITION. Configuration space of a partition's virtual hierarchy (R89, R287 to R291): what a read of each dword gives, and what
a host's write does. Bit places that the spec does not give are those of the PCI Express Base Specification (PRESUMED). -/

namespace Sys2Proof.Machine

/-! ## Headers and capability chains (Tables 10.4 and 10.5) -/

/-- Capabilities of a function in ascending order of their offsets: offset and ID. `m` says whether the margining capability of a
vDSP is there (port-bound only). -/
def capsOf (fn : Nat) (m : Bool) : List (Nat × Nat) :=
  if fn = fnMgmt then
    [(0x40, 1), (0x48, 0x11), (0x60, 0x10), (0x100, 1), (0x158, 0x2F), (0x300, 0x2E), (0x320, 0x23)]
  else if fn = fnVusp then
    [(0x40, 1), (0x60, 0x10), (0xA0, 0xD), (0x100, 1), (0x158, 0x2F), (0x168, 0x1F), (0x1B0, 0x25), (0x1C0, 0x19), (0x1F0, 0x26),
     (0x220, 0x2A), (0x250, 0x31), (0x270, 0x27)]
  else
    [(0x40, 1), (0x48, 5), (0x60, 0x10), (0xA0, 0xD), (0x100, 1), (0x148, 0xD), (0x158, 0x2F), (0x168, 0x1F), (0x178, 0x1D), (0x198, 0x23)]
      ++ if m then [(0x270, 0x27)] else []

/-- Next pointer of the capability at `off`: the next of its own chain, 0 at the end. -/
def capNext (cs : List (Nat × Nat)) (off : Nat) : Nat :=
  ((cs.find? fun c => off < c.1 && (c.1 < 0x100) == (off < 0x100)).map Prod.fst).getD 0

/-- First dword of a capability, without its upper fields. -/
def capHead (cs : List (Nat × Nat)) (off : Nat) : Option Nat :=
  (cs.find? fun c => c.1 == off).map fun c =>
    if off < 0x100 then c.2 + 256 * capNext cs off else c.2 + 65536 + 2 ^ 20 * capNext cs off

def laneCount (w : Nat) : Nat := if w = 0 then 0 else 2 ^ (w - 1)

/-- Link Capabilities of a port of this node, and speed and width of its link (R279, R292). -/
def linkCap (rateCap lanes num : Nat) (down : Bool) : Nat :=
  rateCap + 1 + lanes * 16 + 2 * 2 ^ 10 + 3 * 2 ^ 15 + b2n down 20 + num * 2 ^ 24

/-- Slot Capabilities (Table 10.10). -/
def slotCap (b : Bind) : Nat :=
  2 ^ 6 + if b.kind = 2 && b.slotNo != 0 then 2 + Config.slotPowerLimit b.slotNo % 256 * 2 ^ 7 + b.slotNo * 2 ^ 19 else 2 ^ 18

/-- Partition identity DVSEC (Table 10.7). -/
def State.identDvsec (s : State) (k off : Nat) : Nat :=
  let part := s.get PART_CTRL_PART_ID k
  if off = 0x324 then 0x1FD4 + 0x20 * 2 ^ 20
  else if off = 0x328 then 1
  else if off = 0x32C then
    s.get PART_CTRL_HOST_FROZEN k * 2 ^ 15 + s.get PART_CTRL_STANDBY k * 2 ^ 14 + s.get PART_CTRL_FM k * 2 ^ 13 +
      s.get PART_CTRL_STATE k * 2 ^ 10 + s.nodeId * 2 ^ 6 + part
  else if off = 0x330 then s.get SPN_STATUS_GM_ID * 16 + s.get SPN_STATUS_TRACEABLE * 8 + s.get SPN_STATUS_STATE
  else if off = 0x334 then s.img.slot * 2 ^ 24 + s.img.hdr.version % 2 ^ 24
  else if off = 0x338 then
    (s.spn.turns.filter fun t => t.2.owner == some part).length * 128 + (s.chansOf part).length
  else s.get JNL_STATUS_RESTORED * 4 + s.get JNL_STATUS_COLD * 2 + s.get JNL_STATUS_UNPROTECTED

/-- Binding DVSEC (Table 10.8). -/
def bindDvsec (b : Option Bind) (off : Nat) : Nat :=
  if off = 0x19C then 0x1FD4 + 0x14 * 2 ^ 20
  else if off = 0x1A0 then 2
  else match b with
    | none => 0
    | some b =>
      if off = 0x1A4 then
        b2n b.failed 30 + b2n b.frozen 29 + b.gen * 2 ^ 21 + b.inst * 2 ^ 12 + b.port * 64 + b.node * 4 + b.kind
      else b.phys + if b.kind = 2 then b.busSpan * 65536 else 0

/-- A dword of the vUSP, a vDSP or the management endpoint as a host reads it. -/
def State.cfgRead (s : State) (k fn off : Nat) : Nat :=
  let st := s.cfg k fn off
  let b := if 1 ≤ fn && fn ≤ 31 then s.bind k fn else none
  let up := s.get PART_CTRL_UP_PORT k
  let mgmt : Bool := fn == fnMgmt
  let vdsp : Bool := 1 ≤ fn && fn ≤ 31
  let cs := capsOf fn (b.any fun x => x.kind == 2)
  match capHead cs off with
  | some h =>
    if off = 0x60 then h + (2 + (if mgmt then 0 else if vdsp then 0x160 else 0x50)) * 65536
    else if off = 0x48 && mgmt then h + 65536 + (st &&& 0xC0000000)
    else if off = 0x48 then h + 0x1800000 / 65536 * 65536 + (st &&& 0x10000)
    else h
  | none =>
    if off = 0x00 then 0x1FD4 + (if mgmt then 0x516A else if vdsp then 0x5169 else 0x5168) * 65536
    else if off = 0x04 then st ||| 0x100000
    else if off = 0x08 then (if mgmt then 0x088000 else 0x060400) * 256
    else if off = 0x0C then st % 256 + if mgmt then 0 else 0x10000
    else if off = 0x10 && mgmt then st / 2 ^ 20 * 2 ^ 20 + 4
    else if off = 0x24 && !mgmt then (st &&& 0xFFF0FFF0) + 0x10001
    else if off = 0x2C && mgmt then s.pcie.subsys
    else if off = 0xA4 && !mgmt then s.pcie.subsys
    else if off = 0x34 then 0x40
    else if off = 0x64 then 3 + 2 ^ 5 + 2 ^ 15 + b2n mgmt 28
    else if off = 0x6C then
      if mgmt then 0
      else if !vdsp then linkCap (s.get PX_PORT_CFG_RATE_CAP up) (s.formedWidth up) up false
      else match b with
        | some x => linkCap (if x.kind = 2 then 5 else x.rate) (if x.kind = 2 then 16 else laneCount x.width) fn true
        | none => 0
    else if off = cfgLinkCtl then
      if mgmt then 0
      else if !vdsp then
        st % 65536 + ((s.get PX_PORT_STAT_RATE up + 1) + laneCount (s.get PX_PORT_STAT_WIDTH up) * 16) * 65536
      else match b with
        | some x => st % 65536 + (st &&& 2 ^ 29) + (if st.testBit 29 then x.rate + 1 + laneCount x.width * 16 else 0) * 65536
        | none => st % 65536
    else if off = 0x74 && vdsp then match b with | some x => slotCap x | none => 2 ^ 6 + 2 ^ 18
    else if off = cfgSlotCtl && vdsp then (if b.any fun x => x.latched then st ||| 2 ^ 17 else st)
    else if off = 0x16C && !mgmt then 0x100 + if vdsp then 6 else 1
    else if off = cfgDpcStat && vdsp then (if b.any fun x => x.kind == 1 && x.contained then st ||| 1 else st)
    else if vdsp && 0x198 ≤ off && off ≤ 0x1A8 then bindDvsec b off
    else if mgmt && 0x320 ≤ off && off ≤ 0x33C then s.identDvsec k off
    else st

/-! ## Host writes -/

/-- Bits of a dword that a host's write sets, and bits that a written 1 clears. -/
def cfgRw (fn off : Nat) : Nat × Nat :=
  let mgmt : Bool := fn == fnMgmt
  let vdsp : Bool := 1 ≤ fn && fn ≤ 31
  if off = 0x04 then (0x0547, 0xF9000000)
  else if off = 0x0C then (0xFF, 0)
  else if off = 0x10 && mgmt then (0xFFF00000, 0)
  else if off = 0x14 && mgmt then (0xFFFFFFFF, 0)
  else if off = 0x18 && !mgmt then (0xFFFFFF, 0)
  else if off = 0x1C && !mgmt then (0, 0xF9000000)
  else if off = 0x20 && !mgmt then (0xFFF0FFF0, 0)
  else if off = 0x24 && !mgmt then (0xFFF0FFF0, 0)
  else if (off = 0x28 || off = 0x2C) && !mgmt then (0xFFFFFFFF, 0)
  else if off = 0x3C then (if mgmt then 0xFF else 0x005300FF, 0)
  else if off = 0x44 then (0x0103, 0x8000)
  else if off = 0x48 && mgmt then (0xC0000000, 0)
  else if off = 0x48 && vdsp then (0x10000, 0)
  else if vdsp && (off = 0x4C || off = 0x50 || off = 0x54) then (0xFFFFFFFF, 0)
  else if off = 0x58 && vdsp then (1, 0)
  else if off = cfgDevCtl then (0x7FFF, 0xF0000)
  else if off = cfgLinkCtl && !mgmt then (0xFD3, 0xC0000000)
  else if off = cfgSlotCtl && vdsp then (0x1FFF, 0x11F0000)
  else if off = 0x88 then (0xFFFF, 0)
  else if off = cfgAerUnc || off = cfgAerCor then (0, 0xFFFFFFFF)
  else if off = 0x108 || off = 0x10C || off = 0x114 then (0xFFFFFFFF, 0)
  else if off = cfgAcsCtl && vdsp then (0xFFFF0000, 0)
  else if off = cfgAcsVec && vdsp then (0xFFFFFFFF, 0)
  else if off = 0x160 then (0xFFFF, 0)
  else if off = 0x170 && !mgmt then (0xFF03, 0)
  else if off = cfgDpcCtl && vdsp then (0x001F0000, 0)
  else if off = cfgDpcStat && vdsp then (0, 0x9)
  else (0, 0)

/-- A dword with a host's write merged into it. -/
def merged (old v rw w1c : Nat) : Nat :=
  let keep := old &&& (0xFFFFFFFF - rw)
  (keep - (keep &&& w1c &&& v)) ||| (v &&& rw)

def State.cfgStore (s : State) (k fn off v : Nat) : State :=
  let m := cfgRw fn off
  s.setCfg k fn off (merged (s.cfg k fn off) (v % 2 ^ 32) m.1 m.2)

/-- Completion of a configuration request, for the host of a local slot. -/
def State.cfgCpl (s : State) (k reqId tag cplId : Nat) (st : CplStatus) (data : List (BitVec 8)) : State :=
  s.cplHere (s.get PART_CTRL_PART_ID k)
    { kind := .cpl, reqId := reqId, tag := tag, cplId := cplId, status := st, hdrBytes := 12, bytes := data.length, data := data
      byteCount := 4 } .internal

/-- The function of a slot as its host names it. -/
def State.fnId (s : State) (k fn : Nat) : Nat :=
  let part := s.get PART_CTRL_PART_ID k
  if fn = fnVusp then s.vuspId part else if fn = fnMgmt then s.epId part else s.vdspId part fn

/-- The bus numbers of the hierarchy, which every node needs for completer IDs, follow the vUSP's registers. -/
def State.setBuses (s : State) (k up int : Nat) : State :=
  let part := s.get PART_CTRL_PART_ID k
  let r := s.partRec part
  if r.upBus = up && r.intBus = int then s else (s.setRec part { r with upBus := up, intBus := int }).distribute part

/-- The end of a host's write that must wait: its completion, from the function written. -/
def State.cfgAck (s : State) (k fn reqId tag : Nat) : AckDone := .cfg (s.get PART_CTRL_PART_ID k) reqId tag (s.fnId k fn)

/-- FLR of a management endpoint (R291): its channels, its event queue, MSI-X, its mailbox, its SPDM exchange; its registers. -/
def State.epFlr (s : State) (k : Nat) : State :=
  let part := s.get PART_CTRL_PART_ID k
  let s := (s.chansOf part).foldl (fun s c => s.dmReset c none none) s
  let s := (s.mbReset k).eqEmpty k
  let s := { s with pcie.msix := s.pcie.msix.filter fun x => x.1 / 8 != k
                    pcie.msixPending := s.pcie.msixPending.filter fun x => x.1 != k
                    pcie.spdm := Tab.put 0 s.pcie.spdm k 0 }
  let lo := cfgKey k fnMgmt 0
  let s := { s with pcie.cfg := s.pcie.cfg.filter fun x => x.1 < lo || lo + 1024 ≤ x.1 }
  s.spreadBound k .none

/-- Memory Space Enable of the management endpoint (R291). -/
def State.epMse (s : State) (k : Nat) (on : Bool) (d : AckDone) : State := (s.cfgSet k fnMgmt cfgCommand 1 on).spreadBound k d

/-- Bus Master Enable of the management endpoint (R291): the channels run or pause, pending MSI-X messages go. -/
def State.epBme (s : State) (k : Nat) (on : Bool) : State :=
  let s := s.cfgSet k fnMgmt cfgCommand 2 on
  (if on then s.flushMsix else s).dmHost (s.get PART_CTRL_PART_ID k)

/-- DPC Trigger Status of a vDSP is written 1 (R298, R299). -/
def State.dpcClear (s : State) (k n : Nat) : State := s.askPort k n opDpcClear 0

/-- DPC Software Trigger (R298, R299): with the trigger enabled. A function-bound vDSP shows it at once. -/
def State.dpcSoft (s : State) (k n : Nat) : State :=
  if s.cfg k n cfgDpcCtl / 65536 % 4 = 0 then s
  else
    let s := match s.bind k n with
      | some b => if b.kind = 1 && !s.dpcTriggered k n then (s.setCfg k n cfgDpcStat 0x67).showLink k n false else s
      | none => s
    s.askPort k n opDpcSoft 0

/-- Power Controller Control of a vDSP (R296): with Power Controller Present. -/
def State.pccWrite (s : State) (k n : Nat) (off : Bool) : State :=
  let s := s.cfgSet k n cfgSlotCtl 10 off
  match s.bind k n with
  | some b => if b.kind = 2 && b.slotNo != 0 then s.askPort k n opPower (if off then 1 else 0) else s
  | none => s

/-- A host's write of a dword of the virtual hierarchy. `d` is its completion; one that must wait for other nodes carries it along,
and the others give it at once. -/
def State.cfgWrite (s : State) (k fn off v reqId tag : Nat) : State :=
  let old := s.cfg k fn off
  let d := s.cfgAck k fn reqId tag
  let done (s : State) : State := s.cfgCpl k reqId tag (s.fnId k fn) .sc []
  let rose (s : State) (n : Nat) : Bool := !old.testBit n && (s.cfg k fn off).testBit n
  let vdsp : Bool := 1 ≤ fn && fn ≤ 31
  let s' := s.cfgStore k fn off v
  if fn = fnMgmt then
    if off = cfgCommand then
      let s := s'.epBme k ((s'.cfg k fn off).testBit 2)
      if (s.cfg k fn off).testBit 1 != old.testBit 1 then s.epMse k ((s.cfg k fn off).testBit 1) d else done s
    else if off = 0x10 || off = 0x14 then
      (if (s'.cfg k fn cfgCommand).testBit 1 then s'.spreadBound k d else done s')
    else if off = cfgDevCtl && v.testBit 15 then done ((s'.cfgSet k fn off 15 false).epFlr k)
    else if off = 0x48 then done s'.flushMsix
    else done s'
  else if fn = fnVusp then
    if off = cfgBus then done (s'.setBuses k (s'.partRec (s.get PART_CTRL_PART_ID k)).upBus (s'.cfg k fn off / 256 % 256))
    else if off = cfgDevCtl then s'.spreadView k 0 d
    else if off = cfgLinkCtl then
      done (s'.updPx (s.get PART_CTRL_UP_PORT k) fun x => { x with l1Enabled := (s'.cfg k fn off).testBit 1 })
    else done s'
  else if vdsp then
    if off = cfgBus || (0x20 ≤ off && off ≤ 0x2C) || off = cfgAcsCtl || off = cfgAcsVec then s'.spreadView k fn d
    else if off = cfgDevCtl then s'.spreadView k fn d
    else if off = cfgLinkCtl then
      let s := s'.setCfg k fn off ((s'.cfg k fn off &&& 0xFFFFFFDF))
      let s := if s.cfg k fn off / 16 % 2 != old / 16 % 2 then s.askPort k fn opDisable (s.cfg k fn off / 16 % 2) else s
      let s := if v.testBit 5 then s.askPort k fn opRetrain 0 else s
      done (if s.cfg k fn off / 2 % 2 != old / 2 % 2 then s.askPort k fn opAspm (s.cfg k fn off / 2 % 2) else s)
    else if off = 0x3C then done (if rose s' 22 then s'.askPort k fn opSbr 0 else s')
    else if off = cfgSlotCtl then
      let s := if s'.cfg k fn off / 1024 % 2 != old / 1024 % 2 then s'.pccWrite k fn ((s'.cfg k fn off).testBit 10) else s'
      done s
    else if off = cfgDpcCtl then
      let s := if v.testBit 22 then s'.dpcSoft k fn else s'
      s.spreadView k fn d
    else if off = cfgDpcStat then
      -- the trigger status falls when the containment or the freeze ends
      done (if v.testBit 0 then (s'.cfgSet k fn off 0 (old.testBit 0)).dpcClear k fn else s')
    else done s'
  else done s'

/-! ## Registers the switch holds of a function-bound function (R91, R116) -/

def State.behindKey (s : State) (k n : Nat) : Option Nat := (s.bind k n).bind fun b => if b.kind = 1 then some (b.port * 65536 + b.phys) else none

/-- A dword the switch answers for a function: its memory BARs as 64-bit pairs, the IDs of a virtual function, Memory Space Enable. -/
def State.behindRead (s : State) (k n off : Nat) : Option Nat :=
  match s.behindKey k n with
  | none => none
  | some key =>
    if off = 0 && (Config.devPf key).isSome then some (Config.vfIds key % 2 ^ 32)
    else if off = cfgCommand then some (s.cfg k (fnBehind n) off)
    else if 0x10 ≤ off && off ≤ 0x24 then
      let i := (off - 0x10) / 8
      let z := Config.devBar key i
      if z < 12 then some 0
      else if off % 8 = 0 then some (s.cfg k (fnBehind n) off + 4 + b2n (Config.devBarPref key i) 3)
      else some (s.cfg k (fnBehind n) off)
    else none

/-- A host's write of such a dword: it stages and commits the bound segment (R116). -/
def State.behindWrite (s : State) (k n off v : Nat) (d : AckDone) : State :=
  match s.behindKey k n with
  | none => s
  | some key =>
    let fn := fnBehind n
    let z := Config.devBar key ((off - 0x10) / 8)
    let v := v % 2 ^ 32
    let v := if off = cfgCommand then v % 65536
      else if z < 12 then 0
      else if off % 8 = 0 then (v / 2 ^ min z 32 * 2 ^ min z 32)
      else v / 2 ^ (z - 32) * 2 ^ (z - 32)
    (s.setCfg k fn off v).spreadBound k d

/-- Offsets the switch holds of a function-bound function. -/
def behindOff (off : Nat) : Bool := off == cfgCommand || (0x10 ≤ off && off ≤ 0x24)

end Sys2Proof.Machine
end

