-- ==== Sys2Proof/Machine/Codec.lean ====
section
/-! DEFINITION. The codes that protect flits and stored records: the Reed–Solomon parity of R52 and the CRC-64 of R53. -/

namespace Sys2Proof.Machine

/-! ## CRC-64 (R53) -/

/-- The ECMA-182 polynomial. -/
abbrev crcPoly : Nat := 0x42F0E1EBA9EA3693

/-- One bit, most significant first. -/
def crcBit (c : Nat) (b : Bool) : Nat :=
  let top := c.testBit 63 != b
  let c := c * 2 % 2 ^ 64
  if top then c ^^^ crcPoly else c

/-- One byte, most significant bit first. -/
def crcByte (c x : Nat) : Nat := [7, 6, 5, 4, 3, 2, 1, 0].foldl (fun c n => crcBit c (x.testBit n)) c

/-- The CRC of a list of bytes: initial value and final XOR all ones, no reflection. -/
def crc64 (xs : List Nat) : Nat := xs.foldl crcByte (2 ^ 64 - 1) ^^^ (2 ^ 64 - 1)

/-- The CRC of a flit: the check sequence in 12 bits of a 16-bit value, then bytes 0 to 239. -/
def flitCrc (seq : Nat) (xs : List Nat) : Nat := crc64 ([seq / 256 % 16, seq % 256] ++ xs)

/-! ## Reed–Solomon (R52) -/

/-- Multiplication by α = 0x02 in GF(2^8), field polynomial 0x11D. -/
def gfTwice (a : Nat) : Nat := if a.testBit 7 then (a * 2) ^^^ 0x11D else a * 2

/-- Product in GF(2^8): the bits of `b`, from bit 0 up. -/
def gfMul (a b : Nat) : Nat :=
  ((List.range 8).foldl (fun (x : Nat × Nat) n => (gfTwice x.1, if b.testBit n then x.2 ^^^ x.1 else x.2)) (a, 0)).2

/-- α to the `n`. -/
def gfPow : Nat → Nat
  | 0 => 1
  | n + 1 => gfTwice (gfPow n)

/-- A polynomial, highest degree first, times (x − αⁱ). -/
def timesRoot (p : List Nat) (i : Nat) : List Nat :=
  ((p ++ [0]).zip (0 :: p)).map fun (x : Nat × Nat) => x.1 ^^^ gfMul (gfPow i) x.2

/-- The generator: the product of (x − αⁱ) for i = 0 to 7, highest degree first. -/
def rsGen : List Nat := (List.range 8).foldl timesRoot [1]

/-- The 8 parity bytes of the 248 bytes before them: the remainder of their polynomial times x^8 by the generator. -/
def rsParity (xs : List Nat) : List Nat :=
  xs.foldl (init := List.replicate 8 0) fun r x =>
    let f := x ^^^ r.headD 0
    ((r.drop 1 ++ [0]).zip (rsGen.drop 1)).map fun (y : Nat × Nat) => y.1 ^^^ gfMul f y.2

/-- Value of a received word at αⁱ. -/
def rsSyndrome (xs : List Nat) (i : Nat) : Nat := xs.foldl (fun a x => gfMul a (gfPow i) ^^^ x) 0

/-- A word is a code word: every syndrome is 0. -/
def rsOk (xs : List Nat) : Bool := (List.range 8).all fun i => rsSyndrome xs i == 0

/-- The 256 bytes of a flit from its first 240 and its check sequence (R52, R53): the CRC's bit 63 stands in bit 7 of byte 240. -/
def flitBytes (seq : Nat) (xs : List Nat) : List Nat :=
  let c := flitCrc seq xs
  let ys := xs ++ (List.range 8).map fun i => c / 256 ^ (7 - i) % 256
  ys ++ rsParity ys

/-! ## Little-endian fields of stored records -/

/-- The number that bytes spell, least significant first. -/
def leNat : List Nat → Nat
  | [] => 0
  | b :: bs => b % 256 + 256 * leNat bs

/-- Bytes `off` to `off + n - 1` of a list as a number. -/
def leAt (xs : List Nat) (off n : Nat) : Nat := leNat ((xs.drop off).take n)

end Sys2Proof.Machine
end

