-- ==== Sys2Proof/Machine/FlashOps.lean ====
section
/-! DEFINITION. The boot flash (15, 21): images, the boot selector, the board configuration record, the owner chain. -/

namespace Sys2Proof.Machine

/-- Bytes of the flash; erased ones read 0xFF. -/
def State.flashByte (s : State) (a : Nat) : Nat := Tab.get 0xFF s.img.flash a
def State.flashBytes (s : State) (a n : Nat) : List Nat := (List.range n).map fun i => s.flashByte (a + i)

/-- Write bytes to the flash. -/
def State.flashWrite (s : State) (a : Nat) (xs : List Nat) : State :=
  { s with img.flash := ((xs.zip (List.range xs.length)).foldl (fun f x => Tab.put 0xFF f (a + x.2) (x.1 % 256)) s.img.flash) }

/-- Erase a range. -/
def State.flashErase (s : State) (a n : Nat) : State :=
  { s with img.flash := s.img.flash.filter fun x => x.1 < a || a + n ≤ x.1 }

/-! ## Images (R399) -/

/-- Flash offset of a slot: 0 A, 1 B (Table 15.7). -/
def slotBase (slot : Nat) : Nat := 0x100000 * (slot + 1)

/-- The header's fields (Table 15.8). VERSION is patch, minor, major. -/
def imgHdr (xs : List Nat) : ImgHdr :=
  { version := leAt xs 4 3, feature := leAt xs 8 2, minPeer := leAt xs 10 2, secVer := leAt xs 12 2 }

/-- Bytes of an image: header and body, where BODY_BYTES is one an image can have. -/
def State.imageBytes (s : State) (slot : Nat) : List Nat :=
  let h := s.flashBytes (slotBase slot) 512
  s.flashBytes (slotBase slot) (512 + min 917504 (leAt h 16 4))

/-- An image is valid (R399): `fuse` is the minimum security version. -/
def imageOk (fuse : Nat) (xs : List Nat) : Bool :=
  let n := leAt xs 16 4
  leAt xs 0 4 == 0x4F4D4946 && 4 ≤ n && n ≤ 917504 && xs.length == 512 + n &&
    Config.sha384 (xs.drop 512) == (xs.drop 20).take 48 &&
    Config.signed (xs.take 256) ((xs.drop 256).take 96) && fuse ≤ (imgHdr xs).secVer

def State.slotOk (s : State) (slot : Nat) : Bool := imageOk s.img.fuse (s.imageBytes slot)

/-! ## The boot selector (R401) -/

/-- A copy, if it is valid. -/
def State.selector (s : State) (c : Nat) : Option Selector :=
  let xs := s.flashBytes (0x1000 * c) 0x1000
  if leAt xs 0 4 == 0x4253454C && leAt xs 0xFF0 4 == 0x434D4954 && leAt xs 4 4 == leAt xs 0xFF4 4 &&
      leAt xs 0xFF8 8 == crc64 (xs.take 0xFF0)
  then some { epoch := leAt xs 4 4, active := leAt xs 8 1, version := leAt xs 9 3 } else none

/-- The valid copy with the higher EPOCH, with its number. -/
def State.newestSelector (s : State) : Option (Nat × Selector) :=
  match s.selector 0, s.selector 1 with
  | some a, some b => if a.epoch < b.epoch then some (1, b) else some (0, a)
  | some a, none => some (0, a)
  | none, some b => some (1, b)
  | none, none => none

/-- Write the selector for a slot (R402): the copy with the lower EPOCH, or copy 0 where none is valid. -/
def State.writeSelector (s : State) (slot version : Nat) : State :=
  let old := s.newestSelector
  let c := match old with | some (n, _) => 1 - n | none => 0
  let e := match old with | some (_, x) => (x.epoch + 1) % 2 ^ 32 | none => 1
  let le (n v : Nat) : List Nat := (List.range n).map fun i => v / 256 ^ i % 256
  let xs := le 4 0x4253454C ++ le 4 e ++ le 1 slot ++ le 3 version ++ List.replicate (0xFF0 - 12) 0
  (s.flashErase (0x1000 * c) 0x1000).flashWrite (0x1000 * c) (xs ++ le 4 0x434D4954 ++ le 4 e ++ le 8 (crc64 xs))

/-! ## The board configuration record (R501) -/

abbrev recordBase : Nat := 0x10000

/-- The items of a record: TYPE and body. None where one runs past the end. -/
def items : Nat → List Nat → Option (List (Nat × List Nat))
  | 0, _ => some []
  | n + 1, xs =>
    let len := leAt xs 2 2
    if xs.length < 4 + len || len % 4 != 0 then none
    else (items n (xs.drop (4 + len))).map fun r => (leAt xs 0 2, (xs.drop 4).take len) :: r

/-- The items of the record in the flash, where its header and CRCs hold and it is for this node (Table 21.4). -/
def State.recordItems (s : State) : Option (List (Nat × List Nat)) :=
  let h := s.flashBytes recordBase 64
  let n := leAt h 8 4
  let node := leAt h 12 1
  if leAt h 0 4 == 0x42434647 && leAt h 4 2 == 1 && n ≤ 0xDEC0 && leAt h 24 8 == crc64 (h.take 24) &&
      (node.testBit 7 || node % 16 == s.nodeId) then
    let xs := s.flashBytes (recordBase + 0x40) n
    if leAt h 16 8 == crc64 xs then items (leAt h 6 2) xs else none
  else none

/-- Bodies of the items of a type, in record order. -/
def bodies (xs : List (Nat × List Nat)) (type : Nat) : List (List Nat) := (xs.filter fun x => x.1 == type).map Prod.snd

/-! ## The owner chain (R503) -/

/-- The owner chain in the record; empty where its area does not hold. -/
def State.ownerChain (s : State) : List Nat :=
  let h := s.flashBytes (recordBase + 0xDF00) 16
  let n := leAt h 4 4
  if leAt h 0 4 == 0x4F574E43 && 1 ≤ n && n ≤ 8192 then
    let xs := s.flashBytes (recordBase + 0xDF10) n
    if leAt h 8 8 == crc64 xs then xs else []
  else []

/-- Write the chain, the MAGIC last, or empty the area. -/
def State.writeChain (s : State) (xs : List Nat) : State :=
  let le (n v : Nat) : List Nat := (List.range n).map fun i => v / 256 ^ i % 256
  let s := s.flashErase (recordBase + 0xDF00) 0x2100
  if xs.isEmpty then s
  else
    let s := (s.flashWrite (recordBase + 0xDF04) (le 4 xs.length ++ le 8 (crc64 xs))).flashWrite (recordBase + 0xDF10) xs
    s.flashWrite (recordBase + 0xDF00) (le 4 0x4F574E43)

end Sys2Proof.Machine
end

