-- ==== Sys2Proof/Machine/NodeOps.lean ====
section
/-! DEFINITION. Shared operations of the node's resets (21, R498, R507, R508): what a node reset stops, loses and keeps. -/

namespace Sys2Proof.Machine

/-! ## Work of flows within the node that is lost (R159) -/

/-- An accepted transaction within the node, as a flow and with its identity. -/
def State.localOf (s : State) (k : Packet) : Option (Nat × Record) :=
  match k.record.body with
  | .tlp _ =>
    if k.record.srcNode == s.nodeId && k.record.dstNode == s.nodeId && k.entry.isNone && !k.gone then
      let inp := k.inPort.getD 0x3F
      some (((k.record.srcPart * 64 + inp) * 64 + k.egress) * 8 + k.record.vc.code,
        { k.record with seq := k.egress * 256 + inp, dstPort := k.egress, admitTs := k.tIn % 2 ^ 32 })
    else none
  | _ => none

/-- A lost transaction joins its flow's summary. -/
def addLoss (ls : List Loss) (x : Nat × Record) : List Loss :=
  if ls.any fun l => l.flow == x.1 then ls.map fun l => if l.flow == x.1 then { l with count := l.count + 1 } else l
  else ls ++ [{ flow := x.1, count := 1, oldest := x.2 }]

/-- The summaries of what would be lost now. -/
def State.lossesNow (s : State) : List Loss := (s.sc.pkts.filterMap fun k => s.localOf k).foldl addLoss s.jnl.losses

/-- The summary events (R159): reason 0x08, the count, the oldest transaction; the fabric manager has a copy. -/
def State.raiseLosses (s : State) : State :=
  s.jnl.losses.foldl (init := { s with jnl.losses := [] }) fun s l =>
    let ev := { s.jEvent l.oldest 8 with summary := true, count := l.count, srcNode := s.nodeId, dstNode := s.nodeId }
    let s := (s.evtNode 2 6).raiseEvent l.oldest.srcPart (.undeliverable ev)
    let s := if s.fmHolder != some l.oldest.srcPart then s.raiseFm (.undeliverable ev) else s
    match s.slotOf l.oldest.srcPart with
    | some k => s.aer k fnMgmt aerInternal
    | none => s

/-! ## The journal through a node reset (R174) -/

/-- An incoming flow: what has passed and has not been delivered is discarded; DONE stays. -/
def Dedup.rewound (d : Dedup) : Dedup := { d with expected := seqNext d.delivered, provisional := none, owed := false }

/-- An entry has to be sent again. -/
def Entry.rewound (e : Entry) : Entry := { e with sent := false, resend := false, copy := false }

/-- What the journal holds unfreed, what waits only for its event among it: that is reported again (R396). -/
def JnlSt.allEntries (j : JnlSt) : List Entry := (j.parked.map fun e => { e with reported := false }) ++ j.entries

/-- The journal keeps entries, flows and de-duplication; the reserves and what waited for admission are gone. -/
def JnlSt.rewound (j : JnlSt) (losses : List Loss) : JnlSt :=
  { j with admRes := [], intRes := 0, intWait := [], syncAsked := [], purgeCmds := [], kept := j.kept, writing := none
           outputsHeld := false, rewindDue := true, losses := losses
           entries := j.allEntries.map Entry.rewound, parked := [], dedup := Tab.mapVals {} (fun _ (d : Dedup) => d.rewound) j.dedup }

/-! ## What a node reset keeps (Table 21.2) -/

/-- Fields of tables and assignments, rebuilt from the configuration store. -/
def storedReg : Reg → Nat → Bool
  | .PART_CTRL, _ | .PART_GLOBAL, _ | .PART_FN_A, _ | .PART_FN_B, _ | .WIN_PCTRL, _ | .WIN_GRANT_W, _ | .WIN_GRANT_R, _ => true
  | .DM_ASSIGN, _ | .RING_HOME, _ => true
  | .PART_NPQ, l => l == PART_NPQ_QUOTA.lsb
  | .DM_TAGQ, l => l == DM_TAGQ_QUOTA.lsb
  | .DM_STATUS, l => l == DM_STATUS_CLASS.lsb
  | .SPN_PIN, l => l == SPN_PIN_OWN_VALID.lsb || l == SPN_PIN_OWNER.lsb
  | .SPN_GRAIN, l => l == SPN_GRAIN_USED.lsb
  | .PX_PORT_CFG, l => l != PX_PORT_CFG_ENABLE.lsb
  | _, _ => false

/-- Fields outside the reset: the fault collector (R383), the journal (R191), the persistence controller (R495), the clocks (R478), the
slot channels (R362), the always-on domain (R460, R513), the thermal reading (R542), the unfit marks (R340). -/
def outsideReg (r : Reg) (l : Nat) : Bool :=
  let b := r.place.block
  b == 0xE || b == 0x9 || b == 0xA || b == 0x12 || b == 0xD ||
  match r with
  | .MB_STRAP | .MB_RESET_CAUSE | .PWR_WAKE_EN | .PWR_WAKE_STAT | .PWR_PADHOLD | .PWR_WAKE_TMR | .PWR_THERM => true
  | .PWR_STATUS => l == PWR_STATUS_LAST_SL.lsb || l == PWR_STATUS_LAST_WAKE.lsb
  | .LN_LANE_STAT => l == LN_LANE_STAT_UNFIT.lsb || l == LN_LANE_STAT_CAUSE.lsb
  | .LN_PORT_STAT => l == LN_PORT_STAT_UNFIT.lsb
  | _ => false

def keptField (k : Nat) : Bool := storedReg (Reg.ofNat (k % 512)) (k / 512 % 128) || outsideReg (Reg.ofNat (k % 512)) (k / 512 % 128)

/-- Timers that run through a node reset: slot channels, collector, supplies, generation waits, aged completions. -/
def keptTimer : TimerId → Bool
  | .spGate _ | .spPerst _ | .spLead _ | .spOffMax _ | .spRetry _ | .spClean _ | .spEmpty _ | .spReturn _ | .spBbm _ | .spWarn _
  | .spCycleOff _ | .fcRecover _ | .fcCycle _ | .fcDpc _ | .genWait _ | .feedGood _ | .feedPf | .cplAge _ | .wakeTmr | .strap
  | .receipt _ => true
  | _ => false

/-- The configuration space of the hierarchies; the management endpoints' own registers are reset. -/
def keptCfg (x : Nat × Nat) : Bool := x.1 / 1024 % 80 != fnMgmt

/-- What the pins do as the node stops: RING_HOLD low, electrical idle on every port, TIME_OUT and PPS_OUT low, LB_RST_n low (R36, R216,
R315, R508). -/
def State.stopPins (s : State) : State :=
  if s.jnl.outputsHeld then s else
  let s := [Plane.a, .b].foldl (fun s pl => if s.on (fHold pl) then s.emit (.ringHold pl false) else s) s
  let s := ((List.range 48).filter fun p => s.on PX_PORT_CFG_ENABLE p).foldl (fun s p => s.emit (.train p false)) s
  let s := ((List.range 8).filter fun n => s.on SPN_PIN_OUT_LEVEL n).foldl (fun s n => s.emit (.timeOut n false)) s
  let s := if s.spn.ppsHigh then s.emit (.ppsOut false) else s
  if s.on LB_CTRL_EN then s.emit (.lbRst true) else s

/-- What stands after steps 1 and 2 of R508. -/
def State.afterReset (s : State) : State :=
  { State.reset with
    fields := s.fields.filter fun x => keptField x.1
    ring := { runA := s.ring.runA, runB := s.ring.runB, epochs := s.ring.epochs, abortedReturns := s.ring.abortedReturns }
    sc := { nextId := s.sc.nextId, pairQuota := s.sc.pairQuota }
    jnl := s.jnl.rewound s.lossesNow
    spn := { base := s.spn.base, at_ := s.spn.at_, slew := s.spn.slew, rate := s.spn.rate, chan := s.spn.chan, resv := s.spn.resv
             streams := s.spn.streams, nextTw := s.spn.nextTw
             turns := Tab.mapVals {} (fun _ (t : Turn) => { t with due := none, write := none }) s.spn.turns }
    win := { ents := s.win.ents, strict := s.win.strict, view := s.win.view }
    nextAck := s.nextAck
    part := { records := s.part.records, failed := s.part.failed, virtSub := s.part.virtSub, frzCpl := s.part.frzCpl
              lastAdv := s.part.lastAdv }
    pcie := { cfg := s.pcie.cfg.filter keptCfg, binds := s.pcie.binds, subsys := s.pcie.subsys
              ports := Tab.mapVals {} (fun _ (x : Px) => { secBus := x.secBus, heldDown := x.heldDown }) s.pcie.ports }
    mb := { nextCmd := s.mb.nextCmd }
    img := { flash := s.img.flash, fuse := s.img.fuse
             verified := match s.img.session with
               | some x => if x.kind = 1 then s.img.verified.filter (fun n => n != x.slot) else s.img.verified
               | none => s.img.verified }
    fc := s.fc, pst := s.pst, ck := s.ck, sp := s.sp
    boot := { main := true, rom := true, store := s.boot.store }
    pw := { freq := 3200 }
    sch := { quanta := s.sch.quanta, quantaAct := s.sch.quanta }
    dm := { nextWr := s.dm.nextWr }
    timers := s.timers.filter fun x => keptTimer x.1
    reports := s.reports, out := s.out, now := s.now, free := s.free, pending := s.pending }

/-- Groups with entries in the journal are unreachable until the node has rejoined (R29, R171). -/
def State.loseGroups (s : State) : State :=
  ((s.jnl.entries.map entryGrp).eraseDups).foldl (fun s g => s.loseGrp g) s

/-- Steps 1 and 2 of R508: the node stops. -/
def State.nodeReset (s : State) : State :=
  let s := s.stopPins.afterReset
  let s := ((s.set FC_STATE_NODE_STATE 2).set SPN_STATUS_STATE spnAcquiring).setResv 0
  (s.start .nodeReset 100000000).loseGroups

/-- A node reset that the fault collector starts (R377): counted, and NODE_RESETS with it. -/
def State.faultReset (s : State) : State :=
  let s := { s with fc.resets := s.fc.resets ++ [s.now] }.bump FC_CNT_NODE_RESET_COUNT
  (s.set MB_RESET_CAUSE_FAULT 1).nodeReset

/-- Fault-driven resets within NODE_WINDOW, as FC_STATE.NODE_RESETS shows them (R377). -/
def State.recentResets (s : State) : List Nat := s.fc.resets.filter fun t => s.now < t + s.get FC_POLICY_NODE_WINDOW * 1000000000

end Sys2Proof.Machine
end

