-- ==== Sys2Proof/Machine/FwOps.lean ====
section
/-! DEFINITION. Shared operations of the management firmware (15): readiness, what ends a command that cannot go on, activations
that are abandoned, the management restart. -/

namespace Sys2Proof.Machine

/-- The mailboxes of a node. -/
def boxes : List Nat := List.range 18

/-- FW_READY of every mailbox. -/
def State.fwReady (s : State) (on : Bool) : State := boxes.foldl (fun s k => s.flag MB_STATUS_FW_READY on k) s

/-- MB_BUSY of every mailbox. -/
def State.showBusy (s : State) (activating restarting : Bool) (ms : Nat) : State :=
  boxes.foldl (fun s k => ((s.flag MB_BUSY_ACTIVATING activating k).flag MB_BUSY_RESTARTING restarting k).set MB_BUSY_RETRY_MS ms k) s

/-- Firmware serves the mailboxes. -/
def State.serving (s : State) : Bool := s.on MB_STATUS_FW_READY 0 && !s.on MB_BUSY_ACTIVATING 0 && !s.on MB_BUSY_RESTARTING 0

/-- The answer to a forwarded command (R387). -/
def State.answerTo (s : State) (r : OmiRun) (o : OmiRsp) : State :=
  s.sendFw r.part r.node (.other fwAnswer ([r.fwdId, s.nodeId, o.status, o.applied, o.failNode] ++ o.results))

/-- The outcome of a deferred command goes to its issuer (R391). -/
def State.tellOutcome (s : State) (r : OmiRun) (o : OmiRsp) : State :=
  if r.mbox = 17 then s.answerTo r o else s.deferredEvent r o

/-- A mailbox at a management restart (Table 15.10): nothing is stored. -/
def State.restartBox (s : State) (k : Nat) : State :=
  let m := s.mbox k
  let dead := rsp stRestarted
  let s := match m.running with
    | some w => if k = 17 then s.answerTo w.run dead else s.placeRsp k (rspBytes w.run dead)
    | none => s
  let s := m.deferred.foldl (fun s w => s.tellOutcome w.run dead) s
  let s := s.updMbox k fun m => { m with running := none, deferred := [], quiet := [], stored := none }
  (s.set MB_SEQ_LAST_SEQ 0 k).showDeferred k

/-- An activation is abandoned (Table 15.10): its command ends, the mailboxes are free again. -/
def State.abandonAct (s : State) : State :=
  match s.img.act with
  | some a => ((({ s with img.act := none }).stop .quiesce15).showBusy false false 0).finishOpt a.cmd (rsp stAborted)
  | none => s

/-- The power-fail sequence begins while an activation is in phase 1 or 2 (Table 15.10). -/
def State.actPowerFail (s : State) : State := if s.img.act.any fun a => a.phase ≤ 2 then s.abandonAct else s

/-- A management restart begins (R376, R404): sessions, activations and the commands in work are gone. -/
def State.mgmtRestart (s : State) : State :=
  let s := boxes.foldl (fun s k => s.restartBox k) s
  let s := { s with mb.waits := [], mb.retry := [], img.session := none, img.act := none }
  let s := ((s.stop .session).stop .quiesce15).set FC_STATE_NODE_STATE 1
  ((s.fwReady false).showBusy false true 200).evtNode 7 7

end Sys2Proof.Machine
end

