-- ==== Sys2Proof/Machine/SleepOps.lean ====
section
/-! DEFINITION. Shared operations of the sleep levels (18, R450 to R459). -/

namespace Sys2Proof.Machine

/-- Values of PWR_STATUS.STATE. -/
abbrev pwRun : Nat := 0
abbrev pwEntering : Nat := 1
abbrev pwAsleep : Nat := 2
abbrev pwWaking : Nat := 3
def State.pwState (s : State) : Nat := s.get PWR_STATUS_STATE

/-- The sleep level the node is in, 0 for none. -/
def State.asleep (s : State) : Nat := if s.pwState == pwAsleep then (s.pw.sleep.map Sleep.level).getD 0 else 0

/-- A sleep entry has committed and has not ended (R452 step 4). -/
def State.committed (s : State) : Bool := s.pwState == pwEntering && s.pw.sleep.any fun x => 4 ≤ x.step

/-- A sleep entry before its step 4 is abandoned (Table 18.6): its command ends with `st`, restorations re-open. -/
def State.sleepAbandon (s : State) (st : Nat) : State :=
  match s.pw.sleep with
  | some x =>
    if s.pwState != pwEntering || 4 ≤ x.step then s
    else
      let s := ((s.stop .sleepPme).stop .sleepDrain).set PWR_STATUS_STATE pwRun
      ({ s with pw.sleep := none }.establish).finishOpt x.cmd (rsp st)
  | none => s

/-- The source that woke the node (PWR_STATUS.LAST_WAKE). -/
def State.showWake (s : State) (b : Nat) : State := s.set PWR_STATUS_LAST_WAKE (min b 16)

/-- Wake from SL1 (R457): the gates reopen, the Spindle is ACQUIRING, firmware joins with AUTO_JOIN. -/
def State.wakeIdle (s : State) (b : Nat) : State :=
  let s := ({ s with pw.sleep := none }.stop .wakeTmr).set PWR_STATUS_STATE pwRun
  let s := (s.showWake b).setTime spnAcquiring
  let s := s.establish
  if s.on PWR_CTRL_AUTO_JOIN then s.startJoin else s

/-- Fields that SL2 keeps (Table 18.2): what a node reset keeps, the tables, the firmware's own state, the always-on and time domains, and
the settings firmware restores from the configuration store and the board record. -/
def drowseField (k : Nat) : Bool :=
  let r := Reg.ofNat (k % 512)
  let l := k / 512 % 128
  let b := r.place.block
  keptField k || b == 1 || b == 5 || b == 6 || b == 0xB || b == 0x11 || b == 0x100 || b == 0x101 || b == 0x103 ||
    r.fields.any fun f => f.lsb == l && (f.acc == .rw)

/-- Timers that run on in SL2. -/
def drowseTimer : TimerId → Bool
  | .session | .wakeTmr | .fmTakeover => true
  | t => keptTimer t

/-- What the node loses on going into SL2 (Table 18.2): ports, buffer, counters. Downstream ports have lost their links, with what follows
from it; upstream links are remembered for the wake. -/
def State.drowse (s : State) : State :=
  let act := (List.range 48).filter fun p => s.dlActive p
  let down := act.filter fun p => s.role p != roleUp
  let s := down.foldl (fun s p => s.pcieDown p) s
  let s := ((List.range 48).filter fun p => s.on PX_PORT_CFG_ENABLE p).foldl (fun s p => s.emit (.train p false)) s
  let losses := s.lossesNow
  { s with
    fields := s.fields.filter fun x => drowseField x.1
    links := [], ln := {}, sc := { nextId := s.sc.nextId, pairQuota := s.sc.pairQuota }
    jnl := { s.jnl.rewound losses with
             entries := s.jnl.entries.map Entry.rewound, parked := s.jnl.parked
             intWait := s.jnl.intWait.filter fun t => match t.record.body with | .fw _ => true | _ => false }
    inbox := []
    part.ctxs := [], part.quar := []
    sch := { quanta := s.sch.quanta, quantaAct := s.sch.quantaAct }
    dm := { nextWr := s.dm.nextWr }, lb := {}, pmon := {}
    pcie.ports := Tab.mapVals {} (fun _ (x : Px) => { secBus := x.secBus, heldDown := x.heldDown, disabled := x.disabled, dpcHeld := x.dpcHeld
                                                      l1Enabled := x.l1Enabled }) s.pcie.ports
    timers := s.timers.filter fun x => drowseTimer x.1
    pw.freq := 0, pw.upDown := act.filter fun p => s.role p == roleUp }.setResv 0

end Sys2Proof.Machine
end

