-- ==== Sys2Proof/Machine/PersistOps.lean ====
section
/-! DEFINITION. Shared operations of the hold-up energy, the power-fail sequence and the persist store (06 R177 to R186, 20 R484 to
R495). -/

namespace Sys2Proof.Machine

/-! ## Energy (R178, R181, R488) -/

/-- Phases of JNL_STATUS.PF_PHASE. -/
abbrev pfNormal : Nat := 0
abbrev pfDrain : Nat := 1
abbrev pfPersist : Nat := 2
abbrev pfDone : Nat := 3
def State.pfPhase (s : State) : Nat := s.get JNL_STATUS_PF_PHASE

/-- NODE_STATE of FC_STATE: 0 normal, 1 management restart, 2 node reset, 3 Grave. -/
def State.nodeState (s : State) : Nat := s.get FC_STATE_NODE_STATE

/-- E_avail in units of 1/51,200,000 mJ: C_bank in 0.1 mF, voltages in 10 mV, share in 1/256 (R178, R488). -/
def State.energy (s : State) : Nat :=
  let v := s.get PST_HUV_MEAS_VHUV
  let m := s.get PST_VLIM_V_MIN * 10
  if s.on PST_STATUS_HUV_ERR || v < m then 0 else s.get PST_BANK_C_BANK * (v * v - m * m) * s.get PST_BANK_SHARE
def energyUnit : Nat := 51200000

/-- Channels in use: how many of PST_FITTED's two bits are set. -/
def State.channels (s : State) : Nat := pop16 (s.get JNL_STATUS_PST_FITTED)

/-- V_max in units of 64 bytes: (E_avail − E_DRAIN) · S / P_persist, S being 400 MB/s for each channel and P_persist 9 W. -/
def State.vmax (s : State) : Nat :=
  min 0x7FFFFFF ((s.energy - s.get JNL_PF_E_DRAIN * energyUnit) * s.channels / 73728)

/-- E_avail has fallen to 1.1 times the energy of the persist step (R181). -/
def State.energyLow (s : State) : Bool :=
  s.channels != 0 && 10 * s.energy * s.channels ≤ 811008 * (8384 + s.get JNL_OCC_USED)

/-- Admission is not limited by energy (R179). -/
def State.ungated (s : State) : Bool := !s.on JNL_CTRL_E_GATE || s.get JNL_STATUS_PST_FITTED == 0

/-- JNL_VMAX and JNL_STATUS.UNPROTECTED are computed afresh; a fall of V_max below the committed volume is reported (R178, R179). -/
def State.computeVmax (s : State) : State :=
  let old := s.get JNL_VMAX_VMAX
  let new := s.vmax
  let s := (s.set JNL_VMAX_VMAX new).flag JNL_STATUS_UNPROTECTED s.ungated
  let s := if !s.ungated && s.pfPhase == pfNormal && new < s.get JNL_VCOMMIT_VCOMMIT && s.get JNL_VCOMMIT_VCOMMIT ≤ old
    then s.reportNode 23 0 else s
  s.establish

/-! ## The persist store (R184, R185) -/

abbrev stCommitted : Nat := 0xA5
abbrev stConsumed : Nat := 0x5A

/-- The two areas that hold a record whose STATE is committed or consumed: area number and content. -/
def State.known (s : State) : List (Bool × Area) :=
  (s.jnl.area0.toList.map fun a => (false, a)).append (s.jnl.area1.toList.map fun a => (true, a)) |>.filter fun x =>
    x.2.state == stCommitted || x.2.state == stConsumed

/-- The one of them with the higher EPOCH. -/
def State.newest (s : State) : Option (Bool × Area) :=
  s.known.foldl (init := none) fun (b : Option (Bool × Area)) x =>
    match b with
    | some y => if y.2.epoch < x.2.epoch then some x else b
    | none => some x

def State.area (s : State) (one : Bool) : Option Area := if one then s.jnl.area1 else s.jnl.area0
def State.setArea (s : State) (one : Bool) (a : Option Area) : State :=
  if one then { s with jnl.area1 := a } else { s with jnl.area0 := a }

/-- A record's STATE byte is written. -/
def State.markArea (s : State) (one : Bool) (st : Nat) : State :=
  s.setArea one ((s.area one).map fun a => { a with state := st })

/-- The generations of the instances, by index (Table 06.6). -/
def State.gens (s : State) : Tab Nat :=
  ((List.range 512).filter fun i => s.get PART_FN_B_GEN i != fieldReset (PART_FN_B_GEN.key i)).map fun i => (i, s.get PART_FN_B_GEN i)

/-- The content of a record written now (R182, Tables 06.6 and 06.7). -/
def State.persistContent (s : State) (epoch : Nat) (limited : Bool) : Area :=
  let ls := s.lossesNow
  { epoch := epoch, state := stCommitted, node := s.nodeId, ok := true, limited := limited, chans := s.get JNL_STATUS_PST_FITTED
    flows := s.jnl.flows, dedup := Tab.mapVals {} (fun _ (d : Dedup) => d.rewound) s.jnl.dedup, unsynced := s.jnl.unsynced
    gens := s.gens, entries := s.jnl.allEntries.map Entry.rewound, losses := ls.take 1024
    lost := ((ls.drop 1024).map Loss.count).sum, pfwTime := s.pst.pfwAt }

/-- EPOCH of the last record restored or written. -/
def State.showEpoch (s : State) (e : Nat) : State := (s.set JNL_EPOCH_EPOCH e).set JNL_STATUS_EPOCH_LO (e % 65536)

/-! ## The ports stop (R182, R378) -/

/-- Every port stops with nothing said to the ring: fabric ports declare link-down with no message, PCI Express ports go to
electrical idle. -/
def State.portsStop (s : State) : State :=
  let s := fabPorts.foldl (fun s p => if s.fabricMode p then (s.linkDown p true true).set ML_STATUS_STATE lsDown p else s) s
  ((List.range 48).filter fun p => s.on PX_PORT_CFG_ENABLE p).foldl (init := s) fun s p =>
    [PX_PORT_STAT_DL_ACTIVE, PX_PORT_STAT_FLIT, PX_PORT_STAT_RATE, PX_PORT_STAT_WIDTH, PX_PORT_STAT_L0P, PX_PORT_STAT_PM].foldl
      (fun s f => s.set f 0 p) (s.emit (.train p false))

/-! ## The power-fail sequence (R180 to R183, R486, R487) -/

/-- A Grave cause in the journal or the persistence controller: nothing is persisted (R177). -/
def State.coldGrave (s : State) : Bool :=
  s.nodeState == 3 && (s.get FC_STATE_GRAVE_UNIT == 25 || s.get FC_STATE_GRAVE_UNIT == 42)

/-- The warning stands: PFW_n is low, or a cause of internal detection holds (R486). -/
def State.warned (s : State) : Bool := s.on PST_STATUS_PFW || s.pst.feedCause || s.pst.bankCause

/-- A record of what stands now begins to be written to the area that does not hold the newest one, whose content is lost from now on
(R182, R184). -/
def State.persistWrite (s : State) (limited : Bool) : State :=
  if s.channels = 0 || s.coldGrave then { s with jnl.writing := none }
  else
    let n := s.newest
    let one : Bool := match n with | some x => !x.1 | none => false
    let e := match n with | some x => (x.2.epoch + 1) % 2 ^ 32 | none => 1
    let s := s.setArea one ((s.area one).map fun a => { a with ok := false })
    { s with jnl.writing := some (one, s.persistContent e limited) }

/-- The commit record of what is being written. -/
def State.persistCommit (s : State) : State :=
  match s.jnl.writing with
  | some x => ({ s with jnl.writing := none }.setArea x.1 (some x.2)).showEpoch x.2.epoch
  | none => s

/-- The persist step begins (R182): fabric ports declare link-down, egresses stop, the record is written. -/
def State.persistStart (s : State) (limited : Bool) : State :=
  let s := (s.stop .drainMax).stop .nodeReset
  let s := fabPorts.foldl (fun s p => if s.fabricMode p then s.linkDown p true true else s) s
  (s.set JNL_STATUS_PF_PHASE pfPersist).persistWrite limited

/-- The drain is empty: USED is 0 and no flow within the node has a packet queued. -/
def State.drainEmpty (s : State) : Bool :=
  s.get JNL_OCC_USED == 0 && !(s.sc.pkts.any fun k => (s.localOf k).isSome)

/-- The drain ends by emptying or by energy (R181, R488). -/
def State.drainCheck (s : State) : State :=
  if s.pfPhase != pfDrain then s
  else if s.drainEmpty then s.persistStart false
  else if s.energyLow || s.on PST_STATUS_HUV_ERR then s.persistStart true
  else s

/-- The power-fail sequence begins with source `src` (R180, R486). A node in a reset or in Grave runs it with no drain (R177,
Table 21.9). A sleep entry is abandoned, or, from its step 4, goes first; SL1 wakes and has nobody to drain to, SL2 persists where it
stands, SL3 does nothing (R458, Table 18.6). -/
def State.pfBegin (s : State) (src : Nat) : State :=
  if s.pfPhase != pfNormal || !s.on JNL_CTRL_ADMIT_EN || !s.jnl.recovered || s.on PST_STATUS_PF_HOLD || s.asleep == 3 then s
  else if s.committed then { s with pw.sleep := s.pw.sleep.map fun x => { x with pfw := true } }
  else
    let lvl := s.asleep
    let s := s.sleepAbandon stAborted
    let s := if lvl = 0 then s else s.flag PWR_WAKE_STAT_PFW true
    let s := if lvl = 1 then s.wakeIdle 5 else s
    let s := ((s.set PST_STATUS_PF_SRC src).bump PST_CNT_PFW_COUNT).set JNL_STATUS_PF_PHASE pfDrain
    let s := { s with pst.pfwAt := s.spindleNs }
    if lvl = 2 then s.persistStart true
    else
      let s := s.spPfStart.actPowerFail
      if lvl = 1 then s.persistStart (!s.drainEmpty)
      else if 2 ≤ s.nodeState || s.get JNL_PF_DRAIN_MAX = 0 then s.persistStart true
      else (s.start .drainMax (s.get JNL_PF_DRAIN_MAX * 10000)).drainCheck

/-- The power-fail sequence is over after its persist step, the warning having ended while power remained (R183): the record is
consumed, and a node reset follows; in Grave, which only power-on reset ends, and in SL2 (R458) none does. -/
def State.pfFinish (s : State) : State :=
  let s := [false, true].foldl (init := s) fun s one =>
    if (s.area one).any fun a => a.state == stCommitted && a.epoch == s.get JNL_EPOCH_EPOCH then s.markArea one stConsumed else s
  let s := s.set JNL_STATUS_PF_PHASE pfNormal
  if s.nodeState = 3 || s.asleep = 2 then s
  else
    let s := s.set MB_RESET_CAUSE_PF_RESET 1
    if s.fc.resetWaits then { s with fc.resetWaits := false }.faultReset else s.nodeReset

/-- A cause of the warning has gone (R183, R487). -/
def State.pfCheckEnd (s : State) : State :=
  if s.warned then s
  else
    let s := (s.set PST_STATUS_PF_HOLD 0).establish
    if s.pfPhase = pfDrain then
      ((((s.stop .drainMax).set JNL_STATUS_PF_PHASE pfNormal).unwithhold).spPfEnd).establish
    else if s.pfPhase = pfDone then s.pfFinish
    else s

/-- ADMIT_EN is set (R186, R487): a warning that stands holds the reserves back. -/
def State.admitEn (s : State) : State :=
  let s := s.set JNL_CTRL_ADMIT_EN 1
  (if s.warned then s.set PST_STATUS_PF_HOLD 1 else s).establish

/-! ## Persist channels (R492, R493) -/

/-- A channel fails: treated as not fitted until power-on reset. -/
def State.channelFails (s : State) (n : Nat) : State :=
  let s := s.set (if n = 0 then PST_STATUS_CH0_FAIL else PST_STATUS_CH1_FAIL) 1
  let s := s.set JNL_STATUS_PST_FITTED (setBit (s.get JNL_STATUS_PST_FITTED) n false)
  (s.bump PST_CNT_CH_ERR_COUNT).reportNode (43 + n) 1 0x600F

/-! ## Feeds (R484, R486) -/

/-- A feed is fitted. -/
def State.feedFitted (s : State) (b : Bool) : Bool := s.on (if b then PST_CTRL_FEED_B_FIT else PST_CTRL_FEED_A_FIT)
def fGood (b : Bool) : Fld := if b then PST_STATUS_FEED_B_GOOD else PST_STATUS_FEED_A_GOOD

/-- A fitted feed is good. -/
def State.anyFeed (s : State) : Bool := (s.feedFitted false && s.on (fGood false)) || (s.feedFitted true && s.on (fGood true))

/-- The feeds case of internal detection begins to count, or ends. -/
def State.feedDetect (s : State) : State :=
  let want : Bool := s.on PST_CTRL_FEED_PF_EN && (s.feedFitted false || s.feedFitted true) && !s.anyFeed
  if !want then ({ s with pst.feedCause := false }.stop .feedPf).pfCheckEnd
  else if s.pst.feedCause then s
  else if s.get PST_FEED_CFG_FEED_PF_T = 0 then ({ s with pst.feedCause := true }).pfBegin 2
  else s.startIfNot .feedPf (s.get PST_FEED_CFG_FEED_PF_T * 10000)

/-- A feed becomes good or stops being good: reported, counted, and every slot channel and the detection of R486 look at it. -/
def State.setFeed (s : State) (b good : Bool) : State :=
  if s.on (fGood b) == good then s
  else
    let s := ((s.flag (fGood b) good).bump (if b then PST_CNT_FEED_B_COUNT else PST_CNT_FEED_A_COUNT)).reportNode 45 0
    s.feedsChanged.feedDetect

/-- A sample of a feed, in millivolts (R484). -/
def State.feedRead (s : State) (b : Bool) (mv : Nat) : State :=
  let s := s.set (if b then PST_FEED_MEAS_FEED_B else PST_FEED_MEAS_FEED_A) (min 65535 mv)
  let on := s.get PST_FEED_CFG_V_ON * 100
  let off := s.get PST_FEED_CFG_V_OFF * 100
  let ov := s.get PST_FEED_CFG_V_OV * 100
  let bads := if mv < off || ov < mv then (if b then s.pst.badB else s.pst.badA) + 1 else 0
  let s := if b then { s with pst.badB := bads } else { s with pst.badA := bads }
  if s.on (fGood b) then (if 2 ≤ bads then s.setFeed b false else s)
  else if on ≤ mv && mv ≤ ov then s.startIfNot (.feedGood b) (s.get PST_TIMERS_FEED_GOOD_T * 1000000)
  else s.stop (.feedGood b)

end Sys2Proof.Machine
end

