-- ==== Sys2Proof/Machine/FaultOps.lean ====
section
/-! DEFINITION. Shared operations of the fault collector (14): capture and merge, the reactions of each class and scope, a port's
ladder, Grave. -/

namespace Sys2Proof.Machine

/-! ## Capture records (R366 to R370) -/

/-- The 32 bytes of a capture record (Table 14.2). -/
def capBytes (c : Capture) : List Nat :=
  [c.unit % 64, c.cls % 8 + 8 * (c.high % 8) + b2n c.escalated 6 + b2n c.mixed 7] ++ le 2 c.cause ++
  [c.scope % 8 + b2n c.inst.isSome 3 + b2n c.timeLocal 4 + b2n c.timeHoldover 5 + b2n c.injected 6, c.scopeId % 256] ++
  le 2 (c.inst.getD 0 % 512) ++ le 8 c.addr ++ le 2 c.master ++ [c.masterPart % 256, c.access % 32] ++ le 2 c.merges ++
  le 2 c.lastDelta ++ le 8 c.time

/-- Its eight dwords (R368). -/
def capWords (c : Capture) : List Nat := (List.range 8).map fun d => unLe (((capBytes c).drop (4 * d)).take 4)

def State.cap (s : State) (u : Nat) : Option Capture := Tab.get none s.fc.caps u

/-- The capture record of a unit, its bit in FC_STATUS, and FC_CAP_u (R366). -/
def State.setCap (s : State) (u : Nat) (c : Option Capture) : State :=
  let s := { s with fc.caps := Tab.put none s.fc.caps u c }
  let f := if u < 32 then FC_STATUS_LO_UNIT else FC_STATUS_HI_UNIT
  let s := s.set f (setBit (s.get f) (u % 32) c.isSome)
  let ws := match c with | some c => capWords c | none => []
  (List.range 8).foldl (fun s d => s.set FC_CAP_WORD (ws.getD d 0) (u * 8 + d)) s

/-- The unit is masked: no event 0x81 (R366). -/
def State.masked (s : State) (u : Nat) : Bool := bit (s.get (if u < 32 then FC_MASK_LO_MASK else FC_MASK_HI_MASK)) (u % 32)

/-- Event 0x81 (R366, R367). -/
def State.faultEvent (s : State) (reason : Nat) (c : Capture) : State :=
  if s.masked c.unit then s else s.raiseFm (.fault reason c)

/-- The present time as records carry it, in local time or Spindle nanoseconds. -/
def State.capTime (s : State) (local_ : Bool) : Nat := (if local_ then s.now else s.spindleNs) % 2 ^ 64

/-- A record filled from a report (R366, R370). -/
def State.capOf (s : State) (r : Report) : Capture :=
  { unit := r.unit, cls := r.cls, high := r.cls, cause := r.cause, scope := r.scope, scopeId := r.scopeId, inst := r.inst
    timeLocal := s.localTime, timeHoldover := s.get SPN_STATUS_STATE == spnHoldover, injected := r.injected, addr := r.addr
    master := r.master, masterPart := r.masterPart, access := r.access, time := s.capTime s.localTime }

/-- A report is captured, or merged into the unit's record (R366, R367). -/
def State.captureReport (s : State) (r : Report) : State :=
  match s.cap r.unit with
  | none =>
    let c := s.capOf r
    let s := (s.setCap r.unit (some c)).faultEvent 1 c
    if s.on FC_FIRST_VALID then s else (s.set FC_FIRST_UNIT r.unit).set FC_FIRST_VALID 1
  | some c =>
    let up : Bool := c.high < r.cls
    let c := { c with merges := min 0xFFFF (c.merges + 1)
                      lastDelta := min 0xFFFF (subMod (2 ^ 64) (s.capTime c.timeLocal) c.time / 1000)
                      mixed := c.mixed || r.cause != c.cause || r.scope != c.scope || r.scopeId != c.scopeId || r.inst != c.inst
                      high := max c.high r.cls, escalated := c.escalated || up }
    let s := s.setCap r.unit (some c)
    if up then s.faultEvent 2 c else s

/-! ## Notices (R380) -/

abbrev noFrozen : Nat := 1
abbrev noContained : Nat := 2
abbrev noHeld : Nat := 3
abbrev noCycle : Nat := 4
abbrev noOff : Nat := 5
abbrev noPartReset : Nat := 6
abbrev noNodeReset : Nat := 7
abbrev noReleased : Nat := 8

/-- Event 0x82 to a partition. -/
def State.notice (s : State) (part action cls unit vdsp inst : Nat) : State :=
  s.raiseEvent part (.other 0x82 [action, cls, unit, vdsp, s.nodeId, inst, s.spindleNs])

/-- Notices to whom a port belongs: the partition of an upstream port, the owners of the instances on another. -/
def State.portNotices (s : State) (p action cls unit : Nat) : State :=
  match s.slotOfPort p with
  | some k => s.notice (s.get PART_CTRL_PART_ID k) action cls unit 0 0
  | none => (s.instsOfPort p).foldl (fun s i => s.notice (s.get PART_FN_A_OWNER i) action cls unit (s.get PART_FN_B_VDSP i) i) s

/-- The notices of a node reset go when the node has rejoined, to every partition whose map it holds. -/
def State.resetNotices (s : State) : State :=
  match s.fc.noticeDue with
  | some x =>
    if s.nodeState != 0 || s.others.isEmpty then s
    else ((List.range 64).filter fun q => s.on WIN_PCTRL_HELD q).foldl (fun s q => s.notice q noNodeReset x.1 x.2 0 0) { s with fc.noticeDue := none }
  | none => s

/-! ## Instances (Table 14.3, R109) -/

/-- An instance is frozen by hardware; its owner has a notice of a freeze that took place. -/
def State.faultFreeze (s : State) (r : Report) (i : Nat) : State :=
  let was := s.on PART_FN_A_FROZEN i && !r.froze
  let s := if r.froze then s else s.freeze i frzFault
  if was || !s.liveInst i then s
  else s.notice (s.get PART_FN_A_OWNER i) noFrozen r.cls r.unit (s.get PART_FN_B_VDSP i) i

/-! ## Ports (R372 to R375) -/

/-- RECOVER is to run after the link-down of a port with a card, from the end of its containment where there is one (R375). -/
def State.armRecover (s : State) (p : Nat) (was : Bool) : State :=
  let card : Bool := if s.on PX_SLOT_VALID p then s.on SP_STATUS_PRESENT (s.get PX_SLOT_CHAN p) else was
  if !card then s
  else if s.on PX_PORT_STAT_DPC p then
    (if s.fc.recover.contains p then s else { s with fc.recover := s.fc.recover ++ [p] })
  else s.start (.fcRecover p) (s.get FC_PORT_RECOVER p * 100000000)

/-- Cause of a Surprise Down, whose link is down when its report comes. -/
abbrev causeSurprise : Nat := 0x3000 + aerSurprise

/-- The owner of a port-bound port has enabled DPC (R298). -/
def State.ownerDpc (s : State) (p : Nat) : Bool :=
  (s.instsOfPort p).any fun i =>
    s.on PART_FN_A_BIND i && (s.view (s.get PART_FN_A_OWNER i) (s.get PART_FN_B_VDSP i)).dpc != 0

/-- The link of a PCI Express port is taken down and trains again. -/
def State.bounce (s : State) (p : Nat) : State :=
  if s.dlActive p then ((s.pcieDown p).emit (.train p false)).trainPort p else s

/-- The reaction to a Port-fatal report against a port (R372). -/
def State.portFatal (s : State) (p : Nat) (r : Report) : State :=
  if s.fabricMode p then
    if r.cause == mlCause 5 || !(s.link p).up then s
    else
      let s := s.linkDown p false false
      if s.linkState p == lsDown then s.enterDetect p else s
  else
    let was : Bool := s.dlActive p || r.cause == causeSurprise
    if !was || s.on PX_PORT_STAT_DPC p || (s.px p).heldDown then s
    else if s.role p = roleUp then (s.bounce p).portNotices p noPartReset r.cls r.unit
    else if s.role p = roleManaged then
      ((((s.contain p 0).armRecover p was).start (.fcDpc p) 100000000)).portNotices p noContained r.cls r.unit
    else if s.role p = roleBound then
      if s.ownerDpc p then ((s.contain p 0).armRecover p was).portNotices p noContained r.cls r.unit
      else (s.bounce p).armRecover p was
    else s

/-- Port-fatal reports of a port are remembered; ESC_COUNT of them within ESC_WINDOW escalate (R374). In a node reset the history is
kept and nothing more is done. -/
def State.countPort (s : State) (p : Nat) : State :=
  if s.fabricMode p then s
  else
    let n := s.get FC_PORT_ESC_COUNT p
    let h := Tab.get [] s.fc.hist p ++ [s.now]
    let h := h.drop (h.length - n)
    if n ≤ h.length && s.now ≤ h.headD 0 + s.get FC_PORT_ESC_WINDOW p * 1000000000 then
      { s with fc.hist := Tab.put [] s.fc.hist p [] }.reportPort (s.pxUnit p) 3 p 0x6001
    else { s with fc.hist := Tab.put [] s.fc.hist p h }

/-- A downstream port is held in containment (R373). -/
def State.holdPort (s : State) (p rung action : Nat) (r : Report) : State :=
  let s := ((s.contain p 0).stop (.fcRecover p)).stop (.fcDpc p)
  let s := { s with fc.recover := s.fc.recover.filter fun (q : Nat) => q != p }
  ((s.updPx p fun x => { x with heldDown := true }).set FC_PORT_RUNG rung p).portNotices p action r.cls r.unit

/-- The reaction to a Node-fatal report against a port (R373, R359, Table 14.5). -/
def State.portLadder (s : State) (p : Nat) (r : Report) : State :=
  if s.fabricMode p then
    if s.on ML_ERR_STATUS_FLAP_HOLD p then s
    else
      let s := (s.linkDown p true false).stopLink p
      (s.set ML_STATUS_STATE lsHeld p).flag ML_ERR_STATUS_FLAP_HOLD true p
  else
    let rung := s.get FC_PORT_RUNG p
    if rung = 1 || rung = 3 || s.role p = 0 then s
    else if s.role p = roleUp then
      let s := ((s.updPx p fun x => { x with heldDown := true }).pcieDown p).emit (.train p false)
      (s.set FC_PORT_RUNG 1 p).portNotices p noHeld r.cls r.unit
    else
      let c := s.get PX_SLOT_CHAN p
      if s.on PX_SLOT_VALID p && s.on FC_PORT_CYCLE_EN p && rung = 0 then
        let s := s.bump FC_CNT_CYCLE_COUNT
        match s.spCycle c with
        | (true, s) =>
          let s := (s.set FC_PORT_RUNG 2 p).start (.fcCycle p) (s.get FC_PORT_CYCLE_HOLD p * 1000000000)
          s.portNotices p noCycle r.cls r.unit
        | (false, s) => if s.pfPhase != pfNormal then s else s.holdPort p 1 noHeld r
      else if rung = 2 then ((s.stop (.fcCycle p)).holdPort p 3 noOff r).spDisable c
      else s.holdPort p 1 noHeld r

/-- A held port is released (R373). -/
def State.releasePort (s : State) (p : Nat) : State :=
  let rung := s.get FC_PORT_RUNG p
  let s := ((s.updPx p fun x => { x with heldDown := false }).set FC_PORT_RUNG 0 p).stop (.fcCycle p)
  if rung = 2 then s
  else
    let s := if rung = 3 && s.on PX_SLOT_VALID p then s.spEnable (s.get PX_SLOT_CHAN p) else s
    let s := if s.on PX_PORT_STAT_DPC p then s.uncontain p else s.trainPort p
    s.portNotices p noReleased 0 0

/-! ## The node (R376 to R378) -/

/-- A Node-fatal report against the node (R377, Table 14.5). -/
def State.nodeFatal (s : State) (r : Report) : State :=
  let s := { s with fc.noticeDue := some (r.cls, r.unit) }
  if s.pfPhase = pfDrain then { s with fc.resetWaits := true }.persistStart true
  else if s.pfPhase != pfNormal then { s with fc.resetWaits := true }
  else if s.get FC_POLICY_NODE_MAX < s.recentResets.length + 1 then s.reportNode 54 4 0x6002
  else s.faultReset

/-- Grave (R378, R177): the node stops at once; what the slots, feeds and generations wait for runs on. -/
def State.enterGrave (s : State) (u : Nat) : State :=
  let s := ((s.set FC_STATE_NODE_STATE 3).set FC_STATE_GRAVE_VALID 1).set FC_STATE_GRAVE_UNIT u
  let ws := match s.cap u with | some c => capWords c | none => []
  let s := (List.range 8).foldl (fun s d => s.set FC_GRAVE_WORD (ws.getD d 0) d) s
  let s := [Plane.a, .b].foldl (fun s pl => s.setHold pl false) s
  let s := s.portsStop
  let s := (List.range 12).foldl (fun s c => s.spPerstSet c true) s
  let s := { s with img.act := none, timers := s.timers.filter fun x => keptTimer x.1 || x.1 == TimerId.drainMax }.stop .nodeReset
  let s := s.loseGroups
  if s.coldGrave then { s with jnl.writing := none } else if s.pfPhase = pfDrain then s.persistStart true else s

/-- The reaction that a Contained report without an instance starts of its own (Table 14.1, R376). -/
def State.unitReaction (s : State) (r : Report) : State :=
  if r.unit = 35 || r.unit = 37 then s.mgmtRestart
  else if r.unit = 50 then s.startLeave (if r.addr = 0 then .a else .b)
  else if r.unit = 29 then (if r.addr < 64 then s.dmReset r.addr none none else s)
  else if r.unit = 27 then
    let t := s.turn r.addr
    if t.armed then s.setTurn r.addr { t with armed := false, due := none, write := none, suspended := false } else s
  else s

/-- A second management error within 1 s is Node-fatal (R376). -/
def State.classOf (s : State) (r : Report) : Nat :=
  if (r.unit = 35 || r.unit = 37) && r.cls = 1 && s.fc.restartAt.any (fun t => s.now ≤ t + 1000000000) then 3 else r.cls

/-- The reaction to a report (Table 14.3). Nothing reacts in Grave; in a node reset only Grave does. -/
def State.react (s : State) (r : Report) : State :=
  let st := s.nodeState
  if st = 3 then s
  else if r.cls = 4 then (if r.scope = 5 then s.enterGrave r.unit else s)
  else if st = 2 then s
  else if r.cls = 1 then
    match r.inst with
    | some i => s.faultFreeze r i
    | none => s.unitReaction r
  else if r.cls = 2 then
    match r.inst with
    | some i => s.faultFreeze r i
    | none => if r.scope = 3 then (s.portFatal r.scopeId r).countPort r.scopeId else s
  else if r.cls = 3 then
    if r.scope = 3 then s.portLadder r.scopeId r else if r.scope = 5 then s.nodeFatal r else s
  else s

/-- The collector takes a report (R366, R367, R371). -/
def State.collectReport (s : State) (r : Report) : State :=
  if 56 ≤ r.unit || 4 < r.cls || (r.scope = 3 && 48 ≤ r.scopeId) || r.inst.any (fun i => 512 ≤ i) then s
  else
    let c := s.classOf r
    let s := if r.unit = 35 || r.unit = 37 then { s with fc.restartAt := some s.now } else s
    let r := { r with cls := c }
    let s := ((s.bump FC_CNT_CLASS_COUNT c).evtNode 7 6).captureReport r
    s.react r

/-- The report that FC_INJECT asks for (R381). Class Grave and above is a reserved encoding. -/
def State.inject (s : State) (v : Nat) : State :=
  let cls := v / 2 ^ 29 % 8
  if 4 ≤ cls then s
  else s.collectReport { unit := 55, cls := cls, scope := v / 2 ^ 26 % 8, scopeId := v / 2 ^ 20 % 64
                         inst := if v.testBit 10 then some (v / 2 ^ 11 % 512) else none, cause := 0x7000 + v % 1024, injected := true }

end Sys2Proof.Machine
end

