-- ==== Sys2Proof/Machine/PowerOps.lean ====
section
/-! DEFINITION. Shared operations of the power levels (18, R445 to R449), of sleep entry and wake (R450 to R459), and of the power-on
resets (21, R496 to R498). -/

namespace Sys2Proof.Machine

/-! ## Power levels -/

/-- Core clock of a level in units of 0.5 MHz, and VDD_CORE target in mV (Table 18.1). -/
def plFreq (l : Nat) : Nat := if l = 0 then 3200 else if l = 1 then 2400 else if l = 2 then 1600 else 800
def plVolt (l : Nat) : Nat := if l = 0 then 800 else if l = 1 then 720 else if l = 2 then 650 else 600

/-- Set Power Level commands for a level that has been reached end; with the sequencer at rest at its target the others have failed. -/
def State.plDone (s : State) (rest : Bool) : State :=
  let pl := s.get PWR_STATUS_PL
  let past := s.pw.cmds.filter fun x => rest || x.2 == pl
  let s := { s with pw.cmds := s.pw.cmds.filter fun (x : Nat × Nat) => !past.contains x }
  past.foldl (fun s x => s.finish x.1 (rsp (if x.2 = pl then stSuccess else stFailed))) s

/-- VDD_CORE gets a new target over AVSBus; the window check waits for its confirmation (R448). -/
def State.writeVolt (s : State) (mv : Nat) : State :=
  { s with pw.volt := mv, pw.unconfirmed := true, pw.outside := none }.start .vTmo (s.get PWR_DVFS_V_TMO * 10000)

/-- The sequencer starts toward PL_TARGET, unless it moves already (R447, R448). -/
def State.plMove (s : State) : State :=
  let src := s.get PWR_STATUS_PL
  let dst := s.get PWR_CTRL_PL_TARGET
  if s.pw.move.isSome then s
  else if src = dst then s.plDone true
  else
    let up : Bool := dst < src
    let s := { s with pw.move := some { src := src, dst := dst, old := s.pw.volt, ramp := !up } }.set PWR_STATUS_MOVING 1
    if up then s.writeVolt (plVolt dst) else s

/-- A move ends at a level (R447); the latest target is next. -/
def State.plEnd (s : State) (pl : Nat) : State :=
  ((({ s with pw.move := none }.set PWR_STATUS_MOVING 0).set PWR_STATUS_PL pl).plDone false)

/-- A new target (R447). -/
def State.plTarget (s : State) (v : Nat) : State := (s.set PWR_CTRL_PL_TARGET v).plMove

/-- A Grain reservation is held as source or transit node (R446). -/
def State.holdsGrains (s : State) : Bool := !s.spn.resv.isEmpty

/-! ## Sleep entry (R451, R452) -/

/-- The conditions under which a node accepts a sleep level (R451). -/
def State.maySleep (s : State) (level : Nat) : Bool :=
  s.pwState == pwRun && s.pfPhase == pfNormal && s.img.act.isNone && s.nodeState == 0 && s.armed.isEmpty &&
    ((List.range 64).all fun c => s.dmState c != 1 && s.dmState c != 2) &&
    (level == 1 || (List.range 48).all fun p => s.role p != roleUp || !s.dlActive p || s.get PX_PORT_STAT_PM p == 2) &&
    (level != 3 || s.channels != 0 || s.on PWR_CTRL_SL3_COLD_OK)

/-- Step 4: the node commits; the completion of Request Sleep goes, and is waited for where its issuer is another node. -/
def State.sleepCommits (s : State) (x : Sleep) : State :=
  let s := (s.stop .sleepDrain).stop .sleepPme
  let s := { s with pw.sleep := some { x with step := 4 } }
  match x.cmd with
  | some c => (s.finish c ok).start .sleepCommit 2000000
  | none => s.start .sleepCommit 0

/-- Step 3: the node drains (R181). -/
def State.sleepDrains (s : State) (x : Sleep) : State :=
  let s := { s with pw.sleep := some { x with step := 3 } }
  if s.get PWR_SLEEP_DRAIN = 0 || s.get JNL_OCC_USED = 0 then s.sleepCommits x
  else s.start .sleepDrain (s.get PWR_SLEEP_DRAIN * 1000000)

/-- Every slot channel in ON turns off, after its warning (R452 step 2). -/
def State.sleepSlots (s : State) : State :=
  let on := (List.range 12).filter fun c => s.spState c == spOn
  let s := s.set PWR_SLOT_WAS_ON_CHAN ((on.map fun c => 2 ^ c).sum)
  on.foldl (fun s c => (((s.updSpc c fun y => { y with warnSleep := true }).spWarnShow c)).spStop c) s

/-- The end of step 2: the links go to L2/L3 Ready, the slot channels turn off. -/
def State.sleepLinks (s : State) (x : Sleep) : State :=
  let ps := (List.range 48).filter fun p => s.dlActive p && (s.role p == roleBound || s.role p == roleManaged)
  let s := ps.foldl (fun s p => s.set PX_PORT_STAT_PM 2 p) s
  s.sleepSlots.sleepDrains x

/-- Steps 1 and 2 of an entry that a command asks for. -/
def State.sleepEnter (s : State) (level : Nat) (cmd : Option Nat) : State :=
  let s := s.set PWR_STATUS_STATE pwEntering
  let x : Sleep := { level := level, step := 2, cmd := cmd }
  if level = 1 then s.sleepDrains x
  else
    let ps := (List.range 48).filter fun p => s.dlActive p && (s.role p == roleBound || s.role p == roleManaged)
    let s := ps.foldl (fun s p => s.emit (.message p 0x19)) s
    let x := { x with pme := ps }
    if ps.isEmpty then s.sleepLinks x else { s with pw.sleep := some x }.start .sleepPme 10000000

/-- A port has acknowledged PME_Turn_Off of a sleep entry. -/
def State.sleepAck (s : State) (p : Nat) : State :=
  { s with pw.sleep := s.pw.sleep.map fun x => { x with pme := x.pme.filter fun q => q != p } }

/-- A move of the DVFS sequencer has ended with a sleep entry waiting (Table 18.6): its step is 0 until then. -/
def State.sleepWaits (s : State) : State :=
  match s.pw.sleep with
  | some x => if x.step = 0 && s.pw.move.isNone then { s with pw.sleep := none }.sleepEnter x.level x.cmd else s
  | none => s

/-- Request Sleep: the entry starts, or waits for the end of a DVFS move. -/
def State.sleepAsk (s : State) (level : Nat) (cmd : Option Nat) : State :=
  if s.pw.move.isSome then { s with pw.sleep := some { level := level, step := 0, cmd := cmd } }.set PWR_STATUS_STATE pwEntering
  else s.sleepEnter level cmd

/-! ## Wake (R455 to R457) -/

/-- Inputs' states that a wake held in the first second of SL3 has found (Table 19.6). -/
def ckInputs : List Fld := [CLK_STATUS_XTAL, CLK_STATUS_REF_A, CLK_STATUS_REF_B, CLK_STATUS_LF]

/-- Commands Request Sleep with LEVEL 0 that wait end. -/
def State.wakersEnd (s : State) : State :=
  s.pw.wakers.foldl (fun s id => s.finish id ok) { s with pw.wakers := [] }

/-! ## Power-on resets (Table 21.2) -/

/-- Fields of the always-on domain (R379, R460, R513). -/
def alwaysOn (k : Nat) : Bool :=
  let l := k / 512 % 128
  match Reg.ofNat (k % 512) with
  | .MB_STRAP | .MB_RESET_CAUSE | .PWR_WAKE_EN | .PWR_WAKE_STAT | .PWR_PADHOLD | .PWR_WAKE_TMR | .FC_GRAVE => true
  | .PWR_STATUS => l == PWR_STATUS_LAST_SL.lsb || l == PWR_STATUS_LAST_WAKE.lsb
  | .FC_STATE => l == FC_STATE_GRAVE_VALID.lsb
  | _ => false

/-- What no power-on reset touches: the flash and the fuses, the persist devices; and the model's own record. -/
def State.powerless (s : State) : State :=
  { State.reset with
    jnl := { area0 := s.jnl.area0, area1 := s.jnl.area1 }, img := { flash := s.img.flash, fuse := s.img.fuse }
    timers := [], out := s.out, now := s.now, free := s.free, pending := s.pending }

/-- Every output goes to its reset state. -/
def State.pinsOff (s : State) : State :=
  let s := s.stopPins
  ((List.range 12).filter fun c => (s.spc c).driven).foldl (fun s c => s.pad (.slotGate c (s.spc c).feed false)) s

/-- Power-on reset of the main domains, by a rail or by a wake from SL3 (R481, R450). After SL3 the Spindle resumes from its value at
entry and the time the always-on domain has counted, as local time (R457, R475). -/
def State.mainReset (s : State) (sl3 : Bool) : State :=
  let s := s.pinsOff
  let lf : Bool := s.get CLK_STATUS_LF != 3
  let base := s.pw.spnAt + (if lf then (s.now - s.pw.asleepAt) * 65536 else 0)
  let r := { s.powerless with fields := s.fields.filter fun x => alwaysOn x.1 }
  let r := if sl3 then { r with spn.base := base % 2 ^ 80, spn.at_ := s.now, boot.sl3 := true } else { r with spn.at_ := s.now }
  let r := if sl3 && s.pw.pendWake.isSome then ckInputs.foldl (fun (r : State) f => r.set f (s.get f)) r else r
  r.set (if sl3 then MB_RESET_CAUSE_SL3_WAKE else MB_RESET_CAUSE_RAIL) 1

/-- Full power-on reset (R481, R496): the straps latch after 1 ms. -/
def State.fullReset (s : State) : State :=
  { s.pinsOff.powerless with spn.at_ := s.now }.start .strap 1000000

/-! ## The wake itself -/

/-- The node wakes from the level it is in, by source `b` (R457). In SL3 a source within the first second is held, and the inputs are
judged afresh meanwhile (R456, Table 19.6); in SL2 it waits for the end of a persist step. -/
def State.wakeFrom (s : State) (b : Nat) : State :=
  if s.asleep = 1 then (s.wakeIdle b).wakersEnd
  else if s.asleep = 2 then
    if s.pfPhase != pfNormal then { s with pw.pendWake := some b }
    else { (s.stop .wakeTmr).set PWR_STATUS_STATE pwWaking with pw.pendWake := none, pst.serEn := true }.showWake b
  else if s.asleep = 3 then
    if !s.runs .sl3Hold then (s.mainReset true).showWake b
    else if s.pw.pendWake.isSome then s
    else ckInputs.foldl (fun s f => s.set f 0) { s with pw.pendWake := some b }
  else s

/-- A wake that waited for a persist step of SL2. -/
def State.wakeDue (s : State) : State :=
  match s.pw.pendWake with
  | some b => if s.asleep = 2 && s.pfPhase = pfNormal then s.wakeFrom b else s
  | none => s

/-! ## The end of a sleep entry (R452 steps 5 to 7) -/

/-- PF_SRC of the warning that stands. -/
def State.warnSource (s : State) : Nat := if s.on PST_STATUS_PFW then 1 else if s.pst.feedCause then 2 else 3

/-- Step 7: the node is asleep. A warning or a wake source that came from step 4 on acts now (Table 18.6). -/
def State.sleepDown (s : State) (x : Sleep) : State :=
  let s := ((s.set PWR_STATUS_STATE pwAsleep).set PWR_STATUS_LAST_SL x.level).bump PWR_CNT_SLEEP_COUNT
  let s := { s with pw.sleep := some { x with step := 7, cmd := none, pfw := false, woken := none }, pw.asleepAt := s.now, pw.spnAt := s.spindle }
  let secs := s.get PWR_WAKE_TMR_SECONDS
  let s := if secs != 0 && s.get CLK_STATUS_LF != 3 then s.start .wakeTmr (secs * 1000000000) else s
  let s :=
    if x.level = 2 then { (s.drowse.fwReady false).set CLK_STATUS_CPLL_LOCK 0 with pst.serEn := false }
    else if x.level = 3 then { s.pinsOff with jnl.outputsHeld := true, pst.mainEn := false, pst.serEn := false }.start .sl3Hold 1000000000
    else s
  let s := if x.pfw then s.pfBegin s.warnSource else s
  match x.woken with
  | some b => s.wakeFrom b
  | none => s

/-- Steps 5 and 6: the pads latch; for SL3 a record is written. -/
def State.sleepLatch (s : State) (x : Sleep) : State :=
  let s := ((s.set PWR_PADHOLD_RING 1).set PWR_PADHOLD_GPIO 1).flag PWR_PADHOLD_SLOT (x.level == 3 || s.on PWR_PADHOLD_SLOT)
  if x.level = 3 && s.channels != 0 then { s.persistWrite false with pw.sleep := some { x with step := 6 } }
  else s.sleepDown x

/-- The pins of both planes are low and the leave is over: the entry goes on. -/
def State.sleepOn (s : State) : State :=
  match s.pw.sleep with
  | some x =>
    if x.step = 5 && !s.on (fHold .a) && !s.on (fHold .b) && !s.runs .sleepPlaneB then { s with ring.sleepLeave := false }.sleepLatch x
    else s
  | none => s

/-- The node leaves plane A and then plane B (R452 step 4, R42). -/
def State.sleepLeaves (s : State) (x : Sleep) : State :=
  let s := { s.stop .sleepCommit with pw.sleep := some { x with step := 5 } }
  let s := if s.on (fHold .a) then { s with ring.sleepLeave := true }.startLeave .a else s.startLeave .b
  s.sleepOn

/-- The conditions of R453. -/
def State.idleNode (s : State) : Bool :=
  s.on PWR_CTRL_AUTO_SL1 && s.planeState .a == planeOff && s.planeState .b == planeOff && s.sc.pkts.isEmpty && s.maySleep 1 &&
    ((List.range 48).all fun p => !s.on PX_PORT_CFG_ENABLE p || !s.dlActive p || s.get PX_PORT_STAT_PM p == 1) &&
    (List.range 12).all fun c => ! [spRamp, spSwitch, spStopping, spRetryWait].contains (s.spState c)

/-- The time for which they have held runs, or is given up. -/
def State.idleWatch (s : State) : State :=
  if s.idleNode then s.startIfNot .sl1Idle (s.get PWR_IDLE_SL1_IDLE * 1000000) else s.stop .sl1Idle

/-! ## Wake sources (Table 18.4) -/

/-- A source counts in the level that the node is in, or enters. TLPs and mailboxes are no wake sources before SL1 is reached. -/
def State.wakeSeen (s : State) (b : Nat) : Bool :=
  let lvl := (s.pw.sleep.map Sleep.level).getD 0
  if b = 0 || b = 3 then s.asleep == 1
  else if b = 1 then lvl == 2
  else if b = 2 then lvl != 0
  else if b = 4 then s.asleep != 0 && s.get PWR_WAKE_TMR_SECONDS != 0
  else 16 ≤ b && b < 32 && lvl != 0 && bit (s.get PWR_WAKE_EN_GPIO) (b - 16)

/-- It is enabled. -/
def State.wakeEnabled (s : State) (b : Nat) : Bool :=
  if b = 0 then s.on PWR_WAKE_EN_TLP else if b = 1 then s.on PWR_WAKE_EN_UP else if b = 2 then s.on PWR_WAKE_EN_SMBUS else true

/-- PWR_WAKE_STAT records a source. -/
def State.wakeRecord (s : State) (b : Nat) : State :=
  if b = 0 then s.set PWR_WAKE_STAT_TLP 1
  else if b = 1 then s.set PWR_WAKE_STAT_UP 1
  else if b = 2 then s.set PWR_WAKE_STAT_SMBUS 1
  else if b = 3 then s.set PWR_WAKE_STAT_MAILBOX 1
  else if b = 4 then s.set PWR_WAKE_STAT_TIMER 1
  else s.set PWR_WAKE_STAT_GPIO (setBit (s.get PWR_WAKE_STAT_GPIO) (b - 16) true)

/-- Sources arrive (R455, Table 18.6), a mask as in PWR_WAKE_STAT: all are recorded, and the first enabled one wakes the node, ends an
entry before step 4, or waits for the end of an entry. -/
def State.wakeSources (s : State) (m : Nat) : State :=
  if s.pwState != pwAsleep && s.pwState != pwEntering then s
  else
    let seen := (List.range 32).filter fun b => bit m b && s.wakeSeen b
    let s := seen.foldl (fun s b => s.wakeRecord b) s
    match seen.find? fun b => s.wakeEnabled b with
    | none => s
    | some b =>
      if s.asleep != 0 then s.wakeFrom b
      else if s.committed then
        { s with pw.sleep := s.pw.sleep.map fun (x : Sleep) => { x with woken := some (x.woken.getD b) } }
      else s.sleepAbandon stFailed

/-- Writing 1 to bits of PWR_PADHOLD (R454): pads that are released follow their drivers. -/
def State.padRelease (s : State) (v : Nat) : State :=
  let slot : Bool := v.testBit 2 && s.on PWR_PADHOLD_SLOT
  let s := if v.testBit 0 then s.set PWR_PADHOLD_RING 0 else s
  let s := if v.testBit 1 then s.set PWR_PADHOLD_GPIO 0 else s
  if !slot then s
  else (List.range 12).foldl (init := s.set PWR_PADHOLD_SLOT 0) fun s c =>
    let x := s.spc c
    ((s.emit (.slotGate c x.feed x.driven)).emit (.slotPerst c (s.on SP_STATUS_PERST c))).emit (.slotWarn c (s.on SP_STATUS_PWRWARN c))

end Sys2Proof.Machine
end

