-- ==== Sys2Proof/Machine/ClockOps.lean ====
section
/-! DEFINITION. Shared operations of the clock manager (19): the states of the inputs, the choice of sources. -/

namespace Sys2Proof.Machine

/-- States of an input (CLK_STATUS). -/
abbrev ckUnknown : Nat := 0
abbrev ckCoarse : Nat := 1
abbrev ckGood : Nat := 2
abbrev ckRejected : Nat := 3

/-- Field that shows the state of an input: 0 the 25 MHz input, 1 REFCLK_A, 2 REFCLK_B, 3 the 32.768 kHz crystal. -/
def ckFld (i : Nat) : Fld := if i = 0 then CLK_STATUS_XTAL else if i = 1 then CLK_STATUS_REF_A else if i = 2 then CLK_STATUS_REF_B else CLK_STATUS_LF
def State.ckState (s : State) (i : Nat) : Nat := s.get (ckFld i)

/-- An input is fitted (R461). -/
def State.ckFitted (s : State) (i : Nat) : Bool :=
  if i = 1 then s.on CLK_CTRL_REF_A_EN else if i = 2 then s.on CLK_CTRL_REF_B_EN else true

/-- An input can be a source: COARSE or GOOD, and fitted. -/
def State.ckUsable (s : State) (i : Nat) : Bool := s.ckFitted i && (s.ckState i == ckCoarse || s.ckState i == ckGood)

/-- The preferred reference clock and the other one. -/
def State.refPri (s : State) : Nat := 1 + s.get CLK_CTRL_REF_PRI % 2

/-- Sources of the PLLs in order of preference (R468). -/
def State.pllOrder (s : State) : List Nat := [0, s.refPri, 3 - s.refPri]
def State.pllChoice (s : State) : Option Nat := s.pllOrder.find? fun i => s.ckUsable i

/-- A reference clock that REFDIST can take. -/
def State.distUsable (s : State) (i : Nat) : Bool :=
  s.ckFitted i && (s.ckState i == ckGood || (s.ckState 0 == ckRejected && s.ckState i == ckCoarse))

/-- What REFDIST takes: 0 REFCLK_A, 1 REFCLK_B, 2 the SPLL. -/
def State.distChoice (s : State) : Nat :=
  match [s.refPri, 3 - s.refPri].find? fun i => s.distUsable i with
  | some i => i - 1
  | none => 2

def pllSrc (n : Nat) : Fld := if n = 0 then CLK_STATUS_CPLL_SRC else if n = 1 then CLK_STATUS_TPLL_SRC else CLK_STATUS_SPLL_SRC
def pllLock (n : Nat) : Fld := if n = 0 then CLK_STATUS_CPLL_LOCK else if n = 1 then CLK_STATUS_TPLL_LOCK else CLK_STATUS_SPLL_LOCK

/-- The time clock counts as judged (R468). -/
def State.showJudged (s : State) : State :=
  let t := s.get CLK_STATUS_TPLL_SRC
  let j : Bool := t < 3 && (s.ckState t == ckGood || (t != 0 && s.ckState t == ckCoarse && s.ckState 0 == ckRejected))
  s.flag CLK_STATUS_TIME_JUDGED j

/-- Returns wait for the end of a DVFS move and of the persist step (R468, Table 19.6). -/
def State.mayReturn (s : State) (toXtal : Bool) : Bool :=
  s.on CLK_CTRL_AUTO_RETURN && s.pfPhase != pfPersist && !(toXtal && s.pw.move.isSome)

/-- Where a source stands in the order of preference; a reference that is none of them is last. -/
def rankOf (xs : List Nat) (i : Nat) : Nat := (xs.findIdx? fun x => x == i).getD xs.length

/-- One PLL takes a new reference where its own no longer serves, or goes back to a better one that is GOOD (R468). -/
def State.choosePll (s : State) (n : Nat) : State :=
  let cur := match s.ck.holding.find? fun x => x.1 == n with | some x => x.2.1 | none => s.get (pllSrc n)
  let hold (s : State) (i : Nat) (forced : Bool) : State :=
    { s with ck.holding := (s.ck.holding.filter fun (x : Nat × Nat × Bool) => x.1 != n) ++ [(n, i, forced)] }
  if cur = 3 then s
  else if !s.ckUsable cur then
    match s.pllChoice with
    | some i => (hold s i true).reportNode 41 0
    | none => s
  else
    match s.pllOrder.find? fun i => s.ckState i == ckGood && s.ckFitted i with
    | some i => if rankOf s.pllOrder i < rankOf s.pllOrder cur && s.mayReturn (i == 0) then hold s i false else s
    | none => s

/-- REFDIST changes at once (R470). -/
def State.chooseDist (s : State) : State :=
  let cur := s.get CLK_STATUS_REFDIST_SRC
  let new := s.distChoice
  if cur = 3 || cur = new then s
  else if cur = 2 || s.distUsable (cur + 1) then
    (if s.mayReturn false then (s.set CLK_STATUS_REFDIST_SRC new).bump CLK_CNT_RETURN_COUNT else s)
  else ((s.set CLK_STATUS_REFDIST_SRC new).bump CLK_CNT_SWITCH_COUNT).reportNode 41 0

/-- The clock manager chooses (R468). With no source for the PLLs once they run, Grave. -/
def State.chooseClocks (s : State) : State :=
  let s := ([0, 1, 2].foldl (fun s n => s.choosePll n) s).chooseDist
  let s := if !s.on CLK_STATUS_EARLY && s.pllChoice.isNone && s.nodeState != 3 then s.reportNode 41 4 0x600C else s
  s.showJudged

/-- An input is REJECTED (R467). Without its crystal the wake timer stops counting (R475). -/
def State.reject (s : State) (i : Nat) : State :=
  if s.ckState i = ckRejected then s
  else
    let s := (s.set (ckFld i) ckRejected).bump CLK_CNT_REJECT_COUNT
    let s := { s with ck.back := if s.ck.back.contains i then s.ck.back else s.ck.back ++ [i], ck.passes := Tab.put 0 s.ck.passes i 0 }
    let s := if i = 3 then s.stop .wakeTmr else s
    s.reportNode 41 0

/-- A coarse window of an input ends with a count (R465, R467). -/
def State.coarse (s : State) (i count : Nat) : State :=
  let e := if i = 0 then 81920 else if i = 3 then 107 else 327680
  let diff := (count - e) + (e - count)
  if !s.ckFitted i then s
  else if e < 10 * diff then s.reject i
  else if s.ckState i = ckUnknown || s.ckState i = ckRejected then s.set (ckFld i) ckCoarse
  else s

/-- An input has passed a fine window: GOOD at once, or after RETURN_WIN of them where it has been rejected. -/
def State.finePass (s : State) (i : Nat) : State :=
  if s.ckState i = ckGood then s
  else if !s.ck.back.contains i then s.set (ckFld i) ckGood
  else
    let n := Tab.get 0 s.ck.passes i + 1
    if n < s.get CLK_SR_RETURN_WIN then { s with ck.passes := Tab.put 0 s.ck.passes i n }
    else { s with ck.passes := Tab.put 0 s.ck.passes i 0, ck.back := s.ck.back.filter fun (j : Nat) => j != i }.set (ckFld i) ckGood

/-- Expected count of a fine window, and whether a count passes (R466). -/
def State.fineExp (s : State) : Nat := 4 * 2 ^ s.get CLK_SR_WIN
def State.fineOk (s : State) (n : Nat) : Bool :=
  let e := s.fineExp
  (n - e) + (e - n) ≤ e * s.get CLK_SR_TOL / 1000000

/-- The offset of a pair over its last windows, signed, in quarters of a ppm. -/
def measOf (xs : List Int) : Nat :=
  if xs.isEmpty then 0 else ((xs.sum * 4000000).tdiv (xs.length * 262144) % 65536).toNat

/-- A pair's count joins the last 256 (R466). -/
def State.fineCount (s : State) (b : Bool) (n : Nat) : State :=
  let off : Int := ((n : Int) - s.fineExp) * 2 ^ (16 - s.get CLK_SR_WIN)
  let s := if b then { s with ck.offsB := (off :: s.ck.offsB).take 256 } else { s with ck.offsA := (off :: s.ck.offsA).take 256 }
  (s.set CLK_MEAS_MEAS_A (measOf s.ck.offsA)).set CLK_MEAS_MEAS_B (measOf s.ck.offsB)

/-- A fine window ends (R466, Table 19.4): `na` and `nb` are the counts of the pairs that are checked. -/
def State.fine (s : State) (na nb : Option Nat) : State :=
  let pass (n : Option Nat) : Bool := n.any fun n => s.fineOk n
  let pa := pass na
  let pb := pass nb
  let fa := na.isSome && !pa
  let fb := nb.isSome && !pb
  let s := match na with | some n => s.fineCount false n | none => s
  let s := match nb with | some n => s.fineCount true n | none => s
  if fa && fb then s.reject 0
  else
    let s := if fa then s.reject 1 else if pa then s.finePass 1 else s
    let s := if fb then s.reject 2 else if pb then s.finePass 2 else s
    if pa || pb then s.finePass 0 else s

/-- The choice after a change of the inputs, and what follows for a grandmaster (Table 07.5). -/
def State.clocksChanged (s : State) : State := s.chooseClocks.gmValid.showTime

/-! ## AVSBus (R472) -/

/-- A frame has failed: the third time in a row is a failed transaction. -/
def State.avsFail (s : State) : State :=
  if s.ck.avsFails < 2 then { s with ck.avsFails := s.ck.avsFails + 1 }
  else ({ s with ck.avsFails := 0 }.bump CLK_CNT_AVS_ERR_COUNT).reportNode 40 0

/-- A voltage has been read, in mV. -/
def State.avsRead (s : State) (mv : Nat) : State := { s with ck.avsFails := 0 }.set CLK_AVS_READBACK mv

/-- A DVFS move is over: what waited for its end goes on (R447, Tables 18.6 and 19.6). -/
def State.moveOver (s : State) : State := s.plMove.sleepWaits.clocksChanged

/-- A move ends at its level. -/
def State.moveDone (s : State) (m : Move) : State := ((s.plEnd m.dst).bump PWR_CNT_PL_COUNT).moveOver

/-- The core, buffer and journal clocks' next target (R448, R471): that of a move which ramps or has ramped down, else that of the present
level. -/
def State.rampTarget (s : State) : Nat :=
  match s.pw.move with
  | some m => plFreq (if m.ramp || m.src < m.dst then m.dst else m.src)
  | none => plFreq (s.get PWR_STATUS_PL)

end Sys2Proof.Machine
end

