-- ==== Sys2Proof/Machine/Clocks.lean ====
section
/-! DEFINITION. The commands of the clock manager (19). -/

namespace Sys2Proof.Machine

/-- Inputs that the coarse check judges now (R476): all of them; in SL2 the 25 MHz input; in SL3 the 32.768 kHz crystal, and all of them
once a wake is held (Table 19.6). -/
def State.judges (s : State) (i : Nat) : Bool :=
  if s.asleep = 2 then i == 0 else if s.asleep = 3 then i == 3 || s.pw.pendWake.isSome else true

/-- COARSE_WINDOW_END (R465, R467). -/
def execCoarseWindowEnd (x a b l : Nat) (s : State) : Res :=
  let s := [(0, x), (1, a), (2, b), (3, l)].foldl (fun s y => if s.judges y.1 then s.coarse y.1 y.2 else s) s
  .next (if s.asleep = 3 then s else s.clocksChanged)

/-- MISSING_EDGE (R465, R467). -/
def execMissingEdge (i : Nat) (s : State) : Res :=
  if 3 < i || !s.ckFitted i || !s.judges i then .next s
  else
    let s := s.reject i
    .next (if s.asleep = 3 then s else s.clocksChanged)

/-- A pair that the fine check judges (R466). -/
def State.pairChecked (s : State) (i : Nat) : Bool := s.ckFitted i && s.ckState i != ckRejected

/-- FINE_WINDOW_END (R466, Table 19.4): after early boot, not in SL2 or SL3. -/
def execFineWindowEnd (a b : Nat) (s : State) : Res :=
  if s.ckState 0 = ckRejected || s.on CLK_STATUS_EARLY || 2 ≤ s.asleep then .next s
  else .next (s.fine (if s.pairChecked 1 then some a else none) (if s.pairChecked 2 then some b else none)).clocksChanged

/-- PLL_REFERENCE_SWITCH_END (R469): the change is counted. -/
def execPllReferenceSwitchEnd (pll : Nat) (s : State) : Res :=
  match s.ck.holding.find? fun x => x.1 == pll with
  | none => .next s
  | some x =>
    let s := { s with ck.holding := s.ck.holding.filter fun (y : Nat × Nat × Bool) => y.1 != pll }.set (pllSrc pll) x.2.1
    let s := s.bump (if x.2.2 then CLK_CNT_SWITCH_COUNT else CLK_CNT_RETURN_COUNT)
    .next s.clocksChanged

/-- PLL_LOCK_LOSS (R475). -/
def execPllLockLoss (pll : Nat) (s : State) : Res :=
  if 2 < pll || !s.on (pllLock pll) then .next s
  else .next ((s.set (pllLock pll) 0).reportNode 41 4 0x600C)

/-- EARLY_BOOT_SOURCE_TIMEOUT (R474): Grave, and the node stays in early boot. -/
def execEarlyBootSourceTimeout (s : State) : Res :=
  match s.expire .earlyBoot with
  | some s => .next (if s.on CLK_STATUS_EARLY && s.pllChoice.isNone then s.reportNode 41 4 0x600C else s)
  | none => .next s

/-- PLLS_LOCKED (R462, R471, R474): the end of early boot, or of the CPLL's start at a wake from SL2. The core clocks ramp from 50 MHz. -/
def execPllsLocked (s : State) : Res :=
  if s.pwState = pwWaking then .next (if s.pw.freq = 0 then { s with pw.freq := 100 }.set CLK_STATUS_CPLL_LOCK 1 else s)
  else if !s.on CLK_STATUS_EARLY || !s.boot.main || s.nodeState = 3 then .next s
  else
    match s.pllChoice with
    | none => .next s
    | some i =>
      let s := [0, 1, 2].foldl (fun s n => (s.set (pllSrc n) i).set (pllLock n) 1) s
      let s := (s.set CLK_STATUS_EARLY 0).set CLK_STATUS_REFDIST_SRC s.distChoice
      .next { s.stop .earlyBoot with pw.freq := 100 }.clocksChanged

end Sys2Proof.Machine
end

