-- ==== Sys2Proof/Machine/DataMover.lean ====
section
/-! DEFINITION. The commands of the data mover (09). -/

namespace Sys2Proof.Machine

/-- ASSIGN_CHANNEL (R250, Table 16.11): the owner, the class and the allowance; a change takes effect at the end of a reset of the
channel. -/
def execAssignChannel (k : Nat) (s : State) : Res :=
  .next (s.omi k 0x0702 false (nodeArg 0) fun s r =>
    let c := r.arg 1 1
    let p := r.arg 2 1
    let cls := r.arg 3 1
    let al := r.arg 4 2
    if 64 ≤ c || 2 < cls || (1984 < al && al != 0xFFFF) || s.homeOf p != some s.nodeId then s.says stParameter
    else
      let s := if al = 0xFFFF then s else s.set DM_TAGQ_QUOTA al p
      if s.dmOwner c == some p && s.get DM_ASSIGN_CLASS c == cls then (s, some ok)
      else (s.dmReset c (some r.id) (some (some (p, cls))), none))

/-- RELEASE_CHANNEL (R250, Table 16.11). -/
def execReleaseChannel (k : Nat) (s : State) : Res :=
  .next (s.omi k 0x0703 false (nodeArg 0) fun s r =>
    let c := r.arg 1 1
    if 64 ≤ c then s.says stParameter
    else
      let s := { s with spn.chan := Tab.put none s.spn.chan c none }
      (s.dmReset c (some r.id) (some none), none))

/-- DM_TAIL_WRITE (R252, Table 09.6): new descriptors join the work at once; TAIL lies within the ring (R8). -/
def execDmTailWrite (c v : Nat) (s : State) : Res :=
  .next ((s.set DM_TAIL_TAIL (min v (s.ringSize c - 1)) c).dmKick c)

/-- DM_START (R265, R267): a host start. -/
def execDmStart (c : Nat) (s : State) : Res := .next (s.dmStart c).2

/-- DM_RESET (R271). -/
def execDmReset (c : Nat) (s : State) : Res := .next (s.dmReset c none none)

/-- DM_RESUME (R269): the channel leaves HALTED; the next descriptor goes on. -/
def execDmResume (c : Nat) (s : State) : Res :=
  if s.dmState c != 4 then .next s
  else .next (((s.updCh c fun x => { x with halted := false }).dmForm c 64).dmKick c)

/-- DM_PAUSE (Table 09.6). -/
def execDmPause (c : Nat) (on : Bool) (s : State) : Res := .next ((s.flag DM_CTRL_PAUSE on c).dmKick c)

/-- DM_ENABLE (Table 09.8, R271): set, the channel runs, unless it has no owner or is resetting; cleared, it is reset. -/
def execDmEnable (c : Nat) (on : Bool) (s : State) : Res :=
  if on then
    if (s.dmOwner c).isNone || s.dmResetting c then .next s
    else .next ((s.set DM_CTRL_ENABLE 1 c).dmKick c)
  else if s.on DM_CTRL_ENABLE c then .next (s.dmReset c none none) else .next s

/-- A little-endian dword of a completion's data. -/
def dwordOf (d : List (BitVec 8)) (i : Nat) : Nat := unLe (((d.drop (4 * i)).take 4).map fun b => b.toNat)

/-- A fetch has failed (STATUS 0x08): the channel fetches nothing more, and halts when the descriptors before it are complete (R269). -/
def State.fetchFailed (s : State) (c : Nat) (t : DmTag) : State :=
  (s.updCh c fun x => { x with fetching := 0, fetchErr := some t.addr }).dmKick c

/-- A completion that the data mover holds for a tag: the first one that carries its value. -/
def State.cplFor (s : State) (t : DmTag) : Option (Nat × Tlp) :=
  s.dm.cpls.find? fun x => x.1 == t.part && x.2.tag == t.wire

/-- A completion on a quarantined tag, or of another life of the channel, is discarded and counted (R259). -/
def State.dmStale (s : State) (t : DmTag) : Bool := t.retired || t.gen != s.get DM_STATUS_GEN t.chan

/-- DESCRIPTOR_FETCH_COMPLETE (R252 to R254): the fetched descriptors stand in the channel. -/
def execDescriptorFetchComplete (c : Nat) (s : State) : Res :=
  match s.dm.tags.find? fun t => t.tag == 1984 + c with
  | none => .next s
  | some t =>
    match s.cplFor t with
    | none => .next s
    | some x =>
      let s := { s with dm.cpls := s.dm.cpls.erase x }
      if s.dmStale t then .next ((s.bump DM_CNT_STALE_COUNT).evtNode 4 6)
      else
        if x.2.status != .sc || x.2.poisoned then .next ((s.dmRetire t).fetchFailed c t)
        else
          let s := s.dmFreeTag t
          let n := (s.ch c).fetching
          let ds := (List.range n).map fun i =>
            descFrom ((t.idx + i) % s.ringSize c) ((List.range 8).map fun j => dwordOf x.2.data (8 * i + j))
          let s := s.updCh c fun x => { x with fetching := 0, descs := x.descs ++ ds }
          let s := s.set DM_HEAD_HEAD ((t.idx + n) % s.ringSize c) c
          .next (s.dmKick c)

/-- DM_READ_ISSUE (R256, R258, R260). -/
def execDmReadIssue (c : Nat) (s : State) : Res := .next ((s.dmIssue c).dmKick c)

/-- DM_FILL_WRITE_FORM (R257, R260). -/
def execDmFillWriteForm (c : Nat) (s : State) : Res := .next ((s.dmFill c).dmKick c)

/-- Data of a read is written only where its descriptor has not failed (R261, R269). -/
def State.dmTake_ (s : State) (t : DmTag) (x : Tlp) : State :=
  s.updDesc t.chan t.idx fun d =>
    if d.status != 0 then d else { d with data := d.data ++ [(t.off + t.got, x.data.take x.bytes)] }

/-- DM_READ_COMPLETION (R257, R259, R261): a completion to read tag `tag`. -/
def execDmReadCompletion (tag : Nat) (t : Tlp) (s : State) : Res :=
  match s.dm.tags.find? fun x => x.tag == tag with
  | none => .next s
  | some g =>
    if !s.dm.cpls.contains (g.part, t) || t.tag != g.wire || 1984 ≤ tag then .next s
    else
      let s := { s with dm.cpls := s.dm.cpls.erase (g.part, t) }
      if s.dmStale g then .next ((s.bump DM_CNT_STALE_COUNT).evtNode 4 6)
      else
        let c := g.chan
        if t.status != .sc || t.poisoned then
          let s := s.dmFail c g.idx (if t.status != .sc then 4 else 7) g.addr
          .next ((s.dmRetire g).dmKick c)
        else
          let s := s.dmTake_ g t
          let s := if g.len ≤ g.got + t.bytes then s.dmFreeTag g
            else s.updTag tag fun x => { x with got := x.got + t.bytes }
          .next ((s.dmForm c 64).dmKick c)

/-- DM_READ_TIMEOUT (R261): no completion within CPL_TMO of the issue. -/
def execDmReadTimeout (tag : Nat) (s : State) : Res :=
  match s.expire (.dmRead tag), s.dm.tags.find? fun x => x.tag == tag with
  | some s, some g =>
    let s := s.dmRetire g
    if 1984 ≤ tag then .next (s.fetchFailed g.chan g)
    else .next ((s.dmFail g.chan g.idx 5 g.addr).dmKick g.chan)
  | _, _ => .next s

/-- DESCRIPTOR_COMPLETE (R264, R269). -/
def execDescriptorComplete (c : Nat) (s : State) : Res := .next (s.dmComplete c)

/-- CHANNEL_RESET_COMPLETE (R250, R271): the new owner and class stand, the state is IDLE. -/
def execChannelResetComplete (c : Nat) (s : State) : Res :=
  match s.expire (.dmReset c) with
  | none => .next s
  | some s =>
    let x := s.ch c
    let s := match x.newOwner with
      | some (some (p, cls)) =>
        ((s.set DM_ASSIGN_VALID 1 c).set DM_ASSIGN_OWNER p c).set DM_ASSIGN_CLASS cls c |>.set DM_STATUS_CLASS cls c
      | some none => ((s.set DM_ASSIGN_VALID 0 c).set DM_ASSIGN_OWNER 0 c).set DM_ASSIGN_CLASS 0 c |>.set DM_STATUS_CLASS 0 c
      | none => s
    let s := (s.setCh c {}).finishOpt x.cmd ok
    .next (s.set DM_STATUS_STATE (s.dmState c) c)

end Sys2Proof.Machine
end

