-- ==== Sys2Proof/Machine/Faults.lean ====
section
/-! DEFINITION. The commands of the fault collector (14). -/

namespace Sys2Proof.Machine

/-- FAULT_REPORT (R363 to R374): a report of a unit of the model, or of one whose errors only the environment sees. -/
def execFaultReport (r : Report) (s : State) : Res := .next (({ s with reports := s.reports.erase r }.collectReport r).settle)

/-- MANAGEMENT_RESTART_END (R376). -/
def execManagementRestartEnd (s : State) : Res :=
  if s.nodeState != 1 then .next s else .next (((s.set FC_STATE_NODE_STATE 0).showBusy false false 0).fwReady true)

/-- NODE_RESET_TIMEOUT (R377). -/
def execNodeResetTimeout (s : State) : Res :=
  match s.expire .nodeReset with
  | some s => .next (if s.nodeState = 2 then s.reportNode 54 4 0x6003 else s)
  | none => .next s

/-- PORT_RECOVER_TIMEOUT (R375): an empty port is never escalated. -/
def execPortRecoverTimeout (p : Nat) (s : State) : Res :=
  match s.expire (.fcRecover p) with
  | some s =>
    let card : Bool := !s.on PX_SLOT_VALID p || s.on SP_STATUS_PRESENT (s.get PX_SLOT_CHAN p)
    .next (if s.dlActive p || !card then s else s.reportPort (s.pxUnit p) 3 p 0x600E)
  | none => .next s

/-- CYCLE_HOLD_EXPIRY (R373). -/
def execCycleHoldExpiry (p : Nat) (s : State) : Res :=
  match s.expire (.fcCycle p) with
  | some s => .next (if s.get FC_PORT_RUNG p = 2 then s.set FC_PORT_RUNG 0 p else s)
  | none => .next s

/-- MANAGED_DPC_RELEASE (R372). -/
def execManagedDpcRelease (p : Nat) (s : State) : Res :=
  match s.expire (.fcDpc p) with
  | some s => .next (s.uncontain p)
  | none => .next s

/-- RELEASE_PORT (R373, R424). -/
def execReleasePort (k : Nat) (s : State) : Res :=
  .next (s.omi k 0x0A02 false (nodeArg 0) fun s r =>
    let p := r.arg 1 1
    if 15 < r.arg 0 1 || 47 < p then s.says stParameter
    else if s.get FC_PORT_RUNG p = 0 then s.says stState
    else (s.releasePort p, some ok))

/-- FC_PORT_REL (R373). -/
def execFcPortRel (p : Nat) (s : State) : Res :=
  if 48 ≤ p || s.get FC_PORT_RUNG p = 0 then .next s else .next (s.releasePort p)

/-- INJECT_FAULT (R381, R424). -/
def execInjectFault (k : Nat) (s : State) : Res :=
  .next (s.omi k 0x0A03 false (nodeArg 0) fun s r =>
    if 15 < r.arg 0 1 || 4 ≤ r.arg 4 4 / 2 ^ 29 then s.says stParameter else (s.inject (r.arg 4 4), some ok))

/-- FC_INJECT_WRITE (R381). -/
def execFcInjectWrite (v : Nat) (s : State) : Res := .next (s.inject v).settle

/-- FC_STATUS_CLEAR (R366): a 1 discards the unit's record and re-arms the unit. -/
def execFcStatusClear (hi : Bool) (v : Nat) (s : State) : Res :=
  .next ((List.range (if hi then 24 else 32)).foldl (fun s n => if bit v n then s.setCap (if hi then 32 + n else n) none else s) s)

end Sys2Proof.Machine
end

