-- ==== Sys2Proof/Machine/Lanes.lean ====
section
/-! DEFINITION. The commands of the lane complex (12): quad PLLs, symbol lock, windows of corrected bytes, lane tests. -/

namespace Sys2Proof.Machine

/-- Logical lanes of a port that a quad carries (R327). -/
def State.lanesInQuad (s : State) (p q : Nat) : List Nat :=
  match s.portLanes p with
  | none => []
  | some (f, w) => (List.range w).filter fun l =>
      let phys := if s.on LN_PORT_STAT_REVERSED p then w - 1 - l else l
      (f + phys) / 4 == q

/-- A lane test stops; its count is kept (Table 12.3). -/
def State.stopTest (s : State) (p l : Nat) : State := (s.set LN_LANE_CTRL_TEST 0 (laneKey p l)).set LN_LANE_CTRL_LOOP 0 (laneKey p l)

/-- QUAD_PLL_LOCK (R321): a powered PLL locks. -/
def execQuadPllLock (q : Nat) (s : State) : Res :=
  if 42 ≤ q || s.ln.quadLock.contains q then .next s
  else .next { s with ln.quadLock := s.ln.quadLock ++ [q] }.pllCheck

/-- A port's lanes in a quad that has lost its lock stop, with the tests on them, and the port is reported (R322). -/
def State.quadLost (s : State) (q p : Nat) : State :=
  ((s.lanesInQuad p q).foldl (fun s l => (s.stopTest p l).laneLost p l) s).reportPort (lnUnit p) 2 p

/-- QUAD_PLL_LOCK_LOSS (R322): the quad's lanes stop, tests on it stop, and each of its ports is reported. -/
def execQuadPllLockLoss (q : Nat) (s : State) : Res :=
  if !s.ln.quadLock.contains q then .next s
  else
    let s := { s with ln.quadLock := s.ln.quadLock.filter fun n => n != q }
    .next (((s.formed.filter fun x => (s.portQuads x.1).contains q).foldl (fun s x => s.quadLost q x.1) s).pllCheck)

/-- LANE_LOCK_LOSS (R326). -/
def execLaneLockLoss (p lane : Nat) (s : State) : Res :=
  if lane < s.formedWidth p then .next (s.laneLost p lane) else .next s

/-- t_LOCKLOSS of a port in ns: its own, or the register's reset value for a port in PCI Express mode. -/
def State.lockLossNs (s : State) (p : Nat) : Nat :=
  (if s.fabricMode p then s.get ML_TIMERS_LOCKLOSS p else fieldReset (ML_TIMERS_LOCKLOSS.key 44)) * 1000

/-- LANE_LOCK_REGAIN (R326, R333): one that comes within t_LOCKLOSS is a short loss; more than LOCK_MAX of them in 1 s mark the lane
unfit. -/
def execLaneLockRegain (p lane : Nat) (s : State) : Res :=
  let k := laneKey p lane
  if s.formedWidth p ≤ lane || s.on LN_LANE_STAT_LOCK k then .next s
  else
    let lost := Tab.get none s.ln.lostAt k
    let s := { s.flag LN_LANE_STAT_LOCK true k with ln.lostAt := Tab.put none s.ln.lostAt k none }
    let short : Bool := lost.any fun t => s.now ≤ t + s.lockLossNs p
    let ts := if short then s.now :: (Tab.get [] s.ln.short k).filter fun t => s.now < t + 1000000000 else Tab.get [] s.ln.short k
    let s := { s with ln.short := Tab.put [] s.ln.short k ts }
    let s := if short && s.get LN_FIT_LOCK_MAX < ts.length then s.markUnfit p lane 2 else s
    if s.fabricMode p then
      let s := if s.linkState p == lsActive then s.flag LN_LANE_STAT_FLIT_LOCK true k else s
      .next ((s.armLockLoss p).detectCheck p)
    else .next s

/-- FEC_WINDOW_END (R332, R333): a window of 2^24 bytes ends in ACTIVE or L0. -/
def execFecWindowEnd (p lane corr : Nat) (s : State) : Res :=
  if s.formedWidth p ≤ lane then .next s
  else if s.fabricMode p then
    if s.linkState p != lsActive then .next s
    else
      let n := Tab.get 0 (s.link p).winCorr lane
      let s := s.updLink p fun l => { l with winCorr := Tab.put 0 l.winCorr lane 0 }
      .next (if s.get LN_FIT_CORR_MAX < n then s.markUnfit p lane 1 else s)
  else if !s.dlActive p then .next s
  else
    let s := s.bump LN_LANE_CNT_CORR_COUNT (laneKey p lane) corr
    .next (if s.get LN_FIT_CORR_MAX < corr then s.markUnfit p lane 1 else s)

/-- CLR_UNFIT (R334, R335): the mark takes no more effect from the next training or retrain on. -/
def execClrUnfit (p lane : Nat) (s : State) : Res :=
  let k := laneKey p lane
  .next (((s.flag LN_LANE_STAT_UNFIT false k).set LN_LANE_STAT_CAUSE 0 k).set LN_PORT_STAT_UNFIT
    (setBit (s.get LN_PORT_STAT_UNFIT p) lane false) p)

/-- LANE_TEST (R338): a test runs only on a disabled port; its transmitter takes M0 or P4, which are C₀ = 48 alone. -/
def execLaneTest (p lane test : Nat) (loop : Bool) (errors : Nat) (s : State) : Res :=
  let k := laneKey p lane
  if s.formedWidth p ≤ lane || s.portEnabled p then .next s
  else
    let s := if s.on LN_LANE_CTRL_TEST k then s.bump LN_LANE_CNT_TEST_COUNT k errors else s
    let s := (s.set LN_LANE_CTRL_TEST test k).flag LN_LANE_CTRL_LOOP loop k
    let s := if s.on LN_LANE_CTRL_TEST k then
        (((s.set LN_LANE_EQ_C_M2 0 k).set LN_LANE_EQ_C_M1 0 k).set LN_LANE_EQ_C_0 48 k).set LN_LANE_EQ_C_P1 0 k
      else s
    .next s.pllCheck

end Sys2Proof.Machine
end

