-- ==== Sys2Proof/Machine/LocalBus.lean ====
section
/-! DEFINITION. The commands of the local bus bridge (11). -/

namespace Sys2Proof.Machine

/-! ## Intake (R303, R309, R313, Table 11.4) -/

/-- Byte enables of a dword of a request: those of the first and the last dword where they are given, by its length elsewhere. -/
def beOf (t : Tlp) (a : Nat) : Nat :=
  let first := t.addr / 4 * 4
  let last := (t.addr + span t - 1) / 4 * 4
  let range := ((List.range 4).filter fun i => t.addr ≤ a + i && a + i < t.addr + span t).foldl (fun m i => m + 2 ^ i) 0
  if a = first && first = last then range &&& t.firstBe
  else if a = first then range &&& t.firstBe
  else if a = last then range &&& t.lastBe
  else range

/-- The dwords of a request that have a byte enabled, in ascending order (R309). -/
def dwordsOf (t : Tlp) : List (Nat × Nat) :=
  let first := t.addr / 4
  let last := (t.addr + span t - 1) / 4
  ((List.range (last + 1 - first)).map fun i => ((first + i) * 4, beOf t ((first + i) * 4))).filter fun d => d.2 != 0

/-- A read is extended to the end of its block (R311). -/
def State.withPref (s : State) (r : LbReq) : LbReq :=
  let stop := r.tlp.addr + span r.tlp - 1
  match s.prefEnd r.cs r.tlp.addr stop with
  | some e =>
    let extra := (List.range ((e - stop / 4 * 4) / 4)).map fun i => (stop / 4 * 4 + 4 * (i + 1), 0xF)
    let todo := (r.todo.map fun d => if d.1 == stop / 4 * 4 then (d.1, 0xF) else d) ++ extra
    { r with todo := todo, pref := some (stop + 1) }
  | none => r

/-- The bridge takes a request (R303): what Table 11.4 and Table 11.5 do with it. -/
def State.lbTake (s : State) (k : Packet) : State :=
  let t := pktTlp k
  let write : Bool := !tlpNonPosted t
  let r : LbReq := { id := k.id, write := write, record := k.record, tlp := t, cs := k.record.cs, cplId := k.cplId, taken := s.now }
  let due : AckDue := { id := k.id, port := 48, record := k.record, cplId := k.cplId
                        arrived := if s.arrived k then some (pktKey k) else none }
  let off : Bool := !s.on LB_CTRL_EN || !s.on LB_CS_EN r.cs
  let c := if tlpNonPosted t && !off then s.lbCtx k else none
  let s := (c.map Prod.snd).getD s
  let r := { r with ctx := c.map Prod.fst }
  let s := ((s.filterPass 1 48 (pktSeen k t.addr)).stage k.id 6).stage k.id 7
  let s := { s with sc.acksDue := s.sc.acksDue ++ [due], lb.rr := k.src }.unbuffer { k with started := true }
  let s := { s with lb.reqs := s.lb.reqs ++ [r] }
  if off then s.lbUndeliv r
  else if t.kind == .msg then (s.lbLog r 4 (t.addr % 2 ^ 32)).lbEnd r .ur
  else if t.kind != .memRead && t.kind != .memWrite then s.lbEnd r .ur
  else if 2 ^ 32 < t.addr + span t then (s.lbLog r 4 (t.addr % 2 ^ 32)).lbEnd r .ca
  else if s.on LB_CTRL_SEM_EN && t.addr / 4096 == s.get LB_SEM_CFG_PAGE then
    let part := k.record.srcPart
    let o := t.addr % 4096
    if write then
      if o = 4 && t.bytes = 4 then
        (if s.semHeld && s.get LB_SEM_OWNER == part then s.semFree else s.bump LB_CNT_SEM_BAD_COUNT).lbEnd r .sc
      else s.lbEnd r .sc
    else if t.bytes != 4 || (o != 0 && o != 4) then s.lbEnd r .ca
    else
      let s := if o = 0 && !s.semHeld then
          let s := ((s.set LB_SEM_HELD 1).set LB_SEM_OWNER part).set LB_SEM_NODE k.record.srcNode
          ((s.set LB_SEM_RID t.reqId).set LB_STATUS_SEM_HELD 1).evtNode 5 6 |>.start .lbSem (s.get LB_SEM_HOLD_HOLD_MAX * 1000)
        else s
      s.lbData r [(t.addr, s.semWord part)]
  else
    let todo := dwordsOf t
    let s := if write then s.dropLines fun l => l.cs == r.cs && l.start < t.addr + span t && t.addr ≤ l.stop else s
    if todo.isEmpty then (if write then s.lbEnd r .sc else s.lbData r [(t.addr / 4 * 4, 0)])
    else
      let r := { r with todo := todo }
      let r := if write then r else s.withPref r
      s.updReq r.id fun _ => r

/-- LB_INTAKE (R303, R314): one request, in round robin over the source indices; while the semaphore is held, of its owner only. -/
def execLbIntake (s : State) : Res :=
  let s := s.refresh 48
  let writes := (s.lb.reqs.filter fun r => r.write).length
  let reads := (s.lb.reqs.filter fun r => !r.write).length
  if 16 ≤ writes || 4 ≤ reads then .next s
  else
    let order := (List.range 112).map fun j => (s.lb.rr + 1 + j) % 112
    let pick := order.findSome? fun i => (s.candidate i 48).bind fun k =>
      if s.semHeld && s.get LB_SEM_OWNER != k.record.srcPart then none else some k
    match pick with
    | some k => .next ((s.lbTake k).refresh 48)
    | none => .next s

/-! ## Cycles (R307 to R310) -/

/-- The request whose next cycle is due (R310). -/
def State.lbNext (s : State) : Option LbReq :=
  let w := (s.lb.reqs.find? fun r => r.write)
  let r := (s.lb.reqs.find? fun r => !r.write)
  let readOk : Bool := r.any fun r => !r.gap && !((s.lb.reqs.takeWhile fun x => x.id != r.id).any fun x => x.write)
  if readOk then r else match w with
    | some w => if w.gap then none else some w
    | none => none

/-- The dwords that follow address `a` without a gap, up to a burst boundary. -/
def phaseRun (burst : Nat) : Nat → List (Nat × Nat) → List (Nat × Nat)
  | _, [] => []
  | a, e :: es => if e.1 = a + 4 && e.1 % (4 * burst) != 0 then e :: phaseRun burst e.1 es else []

/-- Phases of the next cycle of a request: consecutive dwords, at most 2^BURST_MAX, not across their boundary (R309). -/
def phases (burst : Nat) : List (Nat × Nat) → List (Nat × Nat)
  | [] => []
  | d :: ds => d :: phaseRun burst d.1 ds

/-- A line that serves a read without a cycle (R311). -/
def State.lineFor (s : State) (r : LbReq) : Option LbLine :=
  s.lb.lines.find? fun l => l.cs == r.cs && l.part == r.record.srcPart && l.filled ≤ r.taken &&
    l.start ≤ r.tlp.addr && r.tlp.addr + span r.tlp ≤ l.stop + 1 && s.runs (.lbLine l.no)

/-- Start the timer of the present data phase (R308). -/
def State.lbPhase (s : State) (c : Nat) : State := s.start .lbPhase (s.lbClocks (16 * s.get LB_CS_TMO c))

/-- LB_CYCLE_START (R307, R309, R310): the next cycle, or a read served from a prefetch line. -/
def execLbCycleStart (s : State) : Res :=
  if s.lb.cyc.isSome || !s.on LB_CTRL_EN || s.on LB_STATUS_RESETTING then .next s
  else match s.lbNext with
    | none => .next s
    | some r =>
      match if r.write || r.retries != 0 || !r.got.isEmpty then none else s.lineFor r with
      | some l =>
        let bytes := (List.range (span r.tlp)).map fun i => r.tlp.addr + i
        let l' := { l with used := l.used ++ bytes.filter fun b => !l.used.contains b }
        let s := { s with lb.lines := (s.lb.lines.filter fun (x : LbLine) => x.no != l.no) ++ [l'] }
        .next (((s.bump LB_CNT_PREF_HIT_COUNT).evtNode 5 4).lbData r l.data)
      | none =>
        let ph := phases (2 ^ s.get LB_CS_BURST_MAX r.cs) r.todo
        let word (a : Nat) : Nat := (List.range 4).foldl (fun v i =>
          v + ((r.tlp.data[a + i - r.tlp.addr]?).map fun b => b.toNat).getD 0 * (if r.tlp.addr ≤ a + i then 2 ^ (8 * i) else 0)) 0
        let s := s.emit (.lbCycle r.cs r.write ((ph.headD (0, 0)).1) (ph.map fun d => (d.2, if r.write then word d.1 else 0)))
        .next ({ s with lb.cyc := some { req := r.id, left := ph } }.lbPhase r.cs)

/-- A cycle has ended, by whatever termination. -/
def State.cycleEnds (s : State) (r : LbReq) : State :=
  let s := { s with lb.cyc := none }.stop .lbPhase
  if r.write then (s.bump LB_CNT_WR_COUNT).evtNode 5 0 else (s.bump LB_CNT_RD_COUNT).evtNode 5 1

/-- A request ends in an error (R308): logged, and CA for a read. -/
def State.lbError (s : State) (r : LbReq) (cause addr : Nat) : State := ((s.cycleEnds r).lbLog r cause addr).lbEnd r .ca

/-- The prefetched bytes of a read that has ended go into a line, the least recently used making room (R311, R312). -/
def State.keepLine (s : State) (r : LbReq) : State :=
  match r.pref with
  | none => s
  | some a =>
    let s := if 8 ≤ s.lb.lines.length then match s.lb.lines.head? with | some l => s.dropLine l | none => s else s
    let l : LbLine := { no := s.lb.nextLine, cs := r.cs, part := r.record.srcPart, block := a / 256 * 256, start := a
                        stop := a / 256 * 256 + 255, data := r.got, filled := s.now }
    { s with lb.lines := s.lb.lines ++ [l], lb.nextLine := s.lb.nextLine + 1 }.start (.lbLine l.no) (s.get LB_TIMING_LIFE * 100)

/-- A data phase is complete: a read takes its data; the last phase ends the cycle, the last cycle the request. -/
def State.phaseDone (s : State) (r : LbReq) (c : LbCyc) (data : Nat) : State :=
  match c.left with
  | [] => s
  | d :: rest =>
    let r := { r with todo := r.todo.filter fun x => x.1 != d.1, got := if r.write then [] else r.got ++ [(d.1, data % 2 ^ 32)]
                      retries := 0 }
    let s := s.updReq r.id fun _ => r
    if !rest.isEmpty then { s with lb.cyc := some { c with left := rest, first := false } }.lbPhase r.cs
    else
      let s := s.cycleEnds r
      if !r.todo.isEmpty then s
      else if r.write then s.lbEnd r .sc
      else (s.lbData r r.got).keepLine r

/-- LB_PHASE_TERMINATION (R308, Table 11.3). -/
def execLbPhaseTermination (rdy wait : Bool) (data : Nat) (s : State) : Res :=
  match s.lb.cyc with
  | none => .next s
  | some c =>
    match s.lb.reqs.find? fun r => r.id == c.req with
    | none => .next s
    | some r =>
      let addr := (c.left.headD (r.tlp.addr, 0)).1
      if rdy && !wait then .next (s.phaseDone r c data)
      else if rdy then .next (s.lbError r 1 addr)
      else if wait && c.first then
        let s := (s.bump LB_CNT_RETRY_COUNT).evtNode 5 2
        if s.get LB_CS_RETRY_MAX r.cs < r.retries + 1 then .next (s.lbError r 3 addr)
        else
          let s := (s.cycleEnds r).updReq r.id fun x => { x with retries := x.retries + 1, gap := true }
          .next (s.start (.lbGap r.id) (s.get LB_TIMING_RETRY_GAP * 100))
      else .next s

/-- LB_RETRY_GAP_EXPIRY (R308): the retried cycle may be performed again. -/
def execLbRetryGapExpiry (id : Nat) (s : State) : Res :=
  match s.expire (.lbGap id) with
  | some s => .next (s.updReq id fun r => { r with gap := false })
  | none => .next s

/-- LB_PHASE_TIMEOUT (R308). -/
def execLbPhaseTimeout (s : State) : Res :=
  match s.expire .lbPhase, s.lb.cyc with
  | some s, some c =>
    match s.lb.reqs.find? fun r => r.id == c.req with
    | some r => .next (s.lbError r 2 (c.left.headD (r.tlp.addr, 0)).1)
    | none => .next s
  | _, _ => .next s

/-- PREFETCH_LINE_EXPIRY (R312). -/
def execPrefetchLineExpiry (no : Nat) (s : State) : Res :=
  match s.expire (.lbLine no), s.lb.lines.find? fun l => l.no == no with
  | some s, some l => .next (s.dropLine l)
  | _, _ => .next s

/-- SEMAPHORE_FORCED_RELEASE (R314): HOLD_MAX has passed. -/
def execSemaphoreForcedRelease (s : State) : Res :=
  match s.expire .lbSem with
  | none => .next s
  | some s =>
    let part := s.get LB_SEM_OWNER
    let rid := s.get LB_SEM_RID
    let s := ((s.semFree.set LB_INT_STATUS_SEM_FORCED 1).bump LB_CNT_SEM_FORCED_COUNT).evtNode 5 7
    let s := if (s.get LB_INT_EN_EN).testBit 2 then s.report { unit := 30, cls := 1, scope := 4, scopeId := part, cause := 0x1002 } else s
    .next (s.raiseEvent part (.other 0x71 [6, 0, 0x1F, s.get LB_SEM_CFG_PAGE * 4096, rid, 0, s.spindleNs % 2 ^ 32]))

/-- BRIDGE_RESET (R315): a write of 1 to LB_CTRL.RESET. -/
def execBridgeReset (s : State) : Res := .next s.lbReset

/-- LB_ENABLE (R315): set, LB_RST_n rises after 10 µs; cleared, the bridge is reset. -/
def execLbEnable (on : Bool) (s : State) : Res :=
  if on == s.on LB_CTRL_EN then .next s
  else if on then .next (((s.set LB_CTRL_EN 1).set LB_STATUS_RESETTING 1).start .lbRst 10000)
  else .next (s.set LB_CTRL_EN 0).lbReset

/-- LB_RESET_RELEASE (R315). -/
def execLbResetRelease (s : State) : Res :=
  match s.expire .lbRst with
  | some s => .next ((s.set LB_STATUS_RESETTING 0).emit (.lbRst false))
  | none => .next s

/-- ELOG_CLR (R318). -/
def execElogClr (s : State) : Res :=
  let s := (List.range 16).foldl (fun s n => (((s.unsetReg .LB_ELOG_ADDR n).unsetReg .LB_ELOG_INFO n).unsetReg .LB_ELOG_REQ n).unsetReg .LB_ELOG_TIME n) s
  .next ((s.set LB_STATUS_ELOG_COUNT 0).set LB_STATUS_ELOG_OVF 0)

/-- LB_PREG_WRITE (R312): a region changes; the lines that lay in it are discarded. -/
def execLbPregWrite (c n v : Nat) (s : State) : Res :=
  let old := s.preg c n
  let s := s.dropLines fun l => l.cs == c && old.any fun r => r.1 ≤ l.start && l.stop ≤ r.2
  .next ((s.write LB_PREG_BASE (v / 4096) (c * 4 + n)).write LB_PREG_SIZE v (c * 4 + n))

end Sys2Proof.Machine
end

