-- ==== Sys2Proof/Machine/CmdTable.lean ====
section
/-! DEFINITION. The OMI commands by opcode (16): their privileges, kinds, lengths, reserved bytes, node fields (Tables 16.5 to 16.18), the
checks of Table 16.2 that need no more than these, and the objects they name (R412). -/

namespace Sys2Proof.Machine

/-- One command. `len`: bytes of its parameters, or of their fixed part. `host`, `gate`: a host, the gateway may issue it, besides the
fabric manager. `zero`: reserved bytes with a mask of their reserved bits. `nodes`, `node`: offset of its NODES field (`one`: of one
node only) or of its NODE byte. -/
structure CmdRow where
  op : Nat
  len : Nat
  host : Bool := false
  gate : Bool := false
  defer : Bool := false
  read : Bool := false
  zero : List (Nat × Nat) := []
  nodes : Option Nat := none
  one : Bool := false
  node : Option Nat := none
  deriving DecidableEq, Repr

def cmdTab0 : List CmdRow :=
  [ { op := 0x0200, len := 8, zero := [(3, 0xFF)], nodes := some 0, one := true, read := true },
    { op := 0x0201, len := 4, nodes := some 0 },
    { op := 0x0300, len := 8, zero := [(3, 0xFF)], nodes := some 0, one := true, read := true },
    { op := 0x0301, len := 4, nodes := some 0 },
    { op := 0x0500, len := 8, zero := [(3, 0xFF)], nodes := some 0, one := true, read := true },
    { op := 0x0501, len := 4, nodes := some 0 },
    { op := 0x0600, len := 8, gate := true, zero := [(3, 0xFF)], nodes := some 0, one := true, read := true },
    { op := 0x0601, len := 4, nodes := some 0 },
    { op := 0x0700, len := 8, zero := [(3, 0xFF)], nodes := some 0, one := true, read := true },
    { op := 0x0701, len := 4, nodes := some 0 },
    { op := 0x0800, len := 8, zero := [(3, 0xFF)], nodes := some 0, one := true, read := true },
    { op := 0x0801, len := 4, nodes := some 0 },
    { op := 0x0900, len := 8, zero := [(3, 0xFF)], nodes := some 0, one := true, read := true },
    { op := 0x0901, len := 4, nodes := some 0 },
    { op := 0x0A00, len := 8, gate := true, zero := [(3, 0xFF)], nodes := some 0, one := true, read := true },
    { op := 0x0A01, len := 4, nodes := some 0 },
    { op := 0x0B00, len := 8, zero := [(3, 0xFF)], nodes := some 0, one := true, read := true },
    { op := 0x0B01, len := 4, nodes := some 0 },
    { op := 0x0C00, len := 8, gate := true, zero := [(3, 0xFF)], nodes := some 0, one := true, read := true },
    { op := 0x0C01, len := 4, nodes := some 0 },
    { op := 0x0E00, len := 8, zero := [(3, 0xFF)], nodes := some 0, one := true, read := true },
    { op := 0x0E01, len := 4, nodes := some 0 },
    { op := 0x0101, len := 2, host := true, gate := true, nodes := some 0, one := true, read := true },
    { op := 0x0102, len := 8, host := true, gate := true, zero := [(3, 0xFF)], nodes := some 0, one := true, read := true },
    { op := 0x0103, len := 8, zero := [(2, 0xFC), (3, 0xFF)], nodes := some 0, one := true },
    { op := 0x0202, len := 5, defer := true, zero := [(4, 0xFE)], node := some 1 },
    { op := 0x0203, len := 1, defer := true },
    { op := 0x0204, len := 1, host := true, defer := true } ]

def cmdTab1 : List CmdRow :=
  [ { op := 0x0205, len := 1 },
    { op := 0x0206, len := 2, zero := [(1, 0xFE)] },
    { op := 0x0207, len := 2, zero := [(1, 0xFE)] },
    { op := 0x0208, len := 2, zero := [(1, 0xFE)] },
    { op := 0x0209, len := 1, host := true, read := true },
    { op := 0x0302, len := 36, zero := [(2, 0xFF), (3, 0xFF)] },
    { op := 0x0303, len := 6, zero := [(3, 0xFF)], nodes := some 4, one := true, read := true },
    { op := 0x0304, len := 2, zero := [(1, 0xFE)] },
    { op := 0x0305, len := 20, zero := [(2, 0xFF), (3, 0xFF)] },
    { op := 0x0402, len := 10, zero := [(7, 0xFE)], node := some 2 },
    { op := 0x0403, len := 6, defer := true, zero := [(1, 0xFE)], node := some 0 },
    { op := 0x0404, len := 4, zero := [(1, 0xFE)], node := some 0 },
    { op := 0x0405, len := 4, host := true, zero := [(1, 0xFE)], node := some 0 },
    { op := 0x0406, len := 4, node := some 0 },
    { op := 0x0407, len := 6, defer := true, node := some 0 },
    { op := 0x0408, len := 3, defer := true, zero := [(2, 0xFE)], node := some 0 },
    { op := 0x0409, len := 4, host := true, zero := [(1, 0xFF)], node := some 0, read := true },
    { op := 0x0502, len := 8, zero := [(6, 0xFF), (7, 0xFF)], nodes := some 0 },
    { op := 0x0503, len := 6, nodes := some 0, one := true, read := true },
    { op := 0x0602, len := 14, zero := [(1, 0xFF), (2, 0xFF), (3, 0xFF)] },
    { op := 0x0603, len := 8, zero := [(2, 0x40), (3, 0xFF)], nodes := some 0, one := true },
    { op := 0x0604, len := 36, host := true, nodes := some 0, one := true },
    { op := 0x0605, len := 4, host := true, nodes := some 0, one := true },
    { op := 0x0606, len := 4, host := true, nodes := some 0, one := true },
    { op := 0x0607, len := 4, host := true, gate := true, nodes := some 0, one := true, read := true },
    { op := 0x0608, len := 5, zero := [(4, 0x40)], nodes := some 0, one := true },
    { op := 0x0609, len := 8, defer := true, node := some 0 },
    { op := 0x060A, len := 3, node := some 0 } ]

def cmdTab2 : List CmdRow :=
  [ { op := 0x0702, len := 6, node := some 0 },
    { op := 0x0703, len := 2, node := some 0 },
    { op := 0x0802, len := 8, zero := [(3, 0xFF)], nodes := some 0 },
    { op := 0x0803, len := 4, defer := true, zero := [(3, 0xE0)], node := some 0 },
    { op := 0x0804, len := 5, node := some 0, read := true },
    { op := 0x0902, len := 2, node := some 0 },
    { op := 0x0903, len := 2, node := some 0 },
    { op := 0x0904, len := 2, node := some 0 },
    { op := 0x0A02, len := 2, node := some 0 },
    { op := 0x0A03, len := 8, zero := [(1, 0xFF), (2, 0xFF), (3, 0xFF)], node := some 0 },
    { op := 0x0B02, len := 6, nodes := some 0, one := true, read := true },
    { op := 0x0B03, len := 4, zero := [(3, 0xFF)], nodes := some 0, one := true, read := true },
    { op := 0x0C02, len := 3, nodes := some 0 },
    { op := 0x0C03, len := 3, zero := [(2, 0xFE)], node := some 0 },
    { op := 0x0C04, len := 3, gate := true, defer := true, nodes := some 0 },
    { op := 0x0D01, len := 2, node := some 0 },
    { op := 0x0D02, len := 8, zero := [(1, 0xFF), (2, 0xFF), (3, 0xFF)], node := some 0 },
    { op := 0x0D03, len := 2, defer := true, zero := [(1, 0xFE)], node := some 0 },
    { op := 0x0D04, len := 2, defer := true, node := some 0 },
    { op := 0x0D05, len := 2, defer := true, node := some 0 },
    { op := 0x0D06, len := 1, defer := true, node := some 0 },
    { op := 0x0D07, len := 1, node := some 0, read := true },
    { op := 0x0E02, len := 1, defer := true, node := some 0 },
    { op := 0x0E03, len := 2, defer := true, zero := [(1, 0xFC)], node := some 0 },
    { op := 0x0E04, len := 2, node := some 0 },
    { op := 0x0E05, len := 8, zero := [(6, 0xFF), (7, 0xFF)], node := some 0 } ]

def cmdTab : List CmdRow := cmdTab0 ++ cmdTab1 ++ cmdTab2

def cmdRow (op : Nat) : Option CmdRow := cmdTab.find? fun r => r.op == op

/-- A deferred command (R391). Install Owner Chain is deferred with LAST. -/
def OmiRun.defers (r : OmiRun) : Bool := (r.opcode == 0x0103 && (r.arg 2 1).testBit 0) || (cmdRow r.opcode).any fun x => x.defer

/-- The LENGTH that the parameters imply (R408): Write Registers, Write Table and Install Owner Chain end in a counted run, Write Stage in
one of up to 2,016 bytes. -/
def OmiRun.lenOk (r : OmiRun) (x : CmdRow) : Bool :=
  let n := r.params.length
  if r.opcode = 0x0103 then n == 8 + r.arg 6 2
  else if r.opcode = 0x0502 then n == 8 + 2 * r.arg 5 1
  else if r.opcode = 0x0D02 then 8 ≤ n && n ≤ 2024
  else if r.opcode % 256 = 1 && r.opcode != 0x0101 && r.opcode != 0x0D01 then n == 4 + 12 * r.arg 3 1
  else n == x.len

/-- Reserved bytes and bits are 0 (R408); each item of Write Registers has two reserved bytes. -/
def OmiRun.zeroOk (r : OmiRun) (x : CmdRow) : Bool :=
  (x.zero.all fun z => r.arg z.1 1 &&& z.2 == 0) &&
    (r.opcode % 256 != 1 || r.opcode == 0x0101 || r.opcode == 0x0D01 || (List.range (r.arg 3 1)).all fun j => r.arg (6 + 12 * j) 2 == 0)

/-- The nodes named exist: one only where the row says so, a NODE byte of 0 to 15 (R411). -/
def OmiRun.nodesOk (r : OmiRun) (x : CmdRow) : Bool :=
  (match x.nodes with | some o => !x.one || pop16 (r.arg o 2) ≤ 1 | none => true) &&
    match x.node with | some o => r.arg o 1 ≤ 15 | none => true

/-- The privilege of a command's row (R386, R410), the object apart. -/
def OmiRun.mayIssue (r : OmiRun) (x : CmdRow) : Bool := r.priv == 1 || (r.priv == 0 && x.host) || (r.priv == 2 && x.gate)

/-- What a host names is its own (R410): its partition, an instance it owns, a Turn entry assigned to it. An object of another node is
checked there. -/
def State.ownsObject (s : State) (r : OmiRun) : Bool :=
  let here (n : Nat) : Bool := n == s.nodeId
  match r.opcode with
  | 0x0204 | 0x0209 => r.arg 0 1 == r.part
  | 0x0405 | 0x0409 => !here (r.arg 0 1) || 512 ≤ r.arg 2 2 || (s.liveInst (r.arg 2 2) && s.get PART_FN_A_OWNER (r.arg 2 2) == r.part)
  | 0x0604 | 0x0605 | 0x0606 | 0x0607 =>
    !(r.arg 0 2 == 0 || r.arg 0 2 == 2 ^ s.nodeId) || 1024 ≤ r.arg 2 2 || (s.turn (r.arg 2 2)).owner == some r.part
  | _ => true

/-- Kinds of objects that deferred commands name: partitions, instances, ports, streams. -/
def objPart (p : Nat) : Nat := p
def objInst (n i : Nat) : Nat := 0x100000 + n * 512 + i
def objPort (n p : Nat) : Nat := 0x200000 + n * 64 + p
def objStream (n p d : Nat) : Nat := 0x300000 + (n * 256 + p) * 16 + d

/-- The objects of those kinds that a command names (R412). -/
def OmiRun.objects (r : OmiRun) : List Nat :=
  let a (n : Nat) : Nat := r.arg n 1
  match r.opcode with
  | 0x0202 => [objPart (a 0), objPort (a 1) (a 2)]
  | 0x0203 | 0x0204 | 0x0205 | 0x0206 | 0x0207 | 0x0208 | 0x0302 | 0x0304 | 0x0305 => [objPart (a 0)]
  | 0x0402 => [objPart (a 0), objPort (a 2) (a 3)]
  | 0x0403 => if (a 1).testBit 0 then [objInst (a 0) (r.arg 2 2), objPart (a 4)] else [objInst (a 0) (r.arg 2 2)]
  | 0x0404 | 0x0405 | 0x0406 => [objInst (a 0) (r.arg 2 2)]
  | 0x0407 | 0x0408 | 0x0A02 | 0x0C03 | 0x0E04 | 0x0E05 => [objPort (a 0) (a 1)]
  | 0x0609 => [objStream (a 0) (a 1) (a 2), objPart (a 1)]
  | 0x060A => [objStream (a 0) (a 1) (a 2), objPart (a 1)]
  | 0x0803 => if a 2 = 255 then [] else [objPart (a 2)]
  | _ => []

/-- A deferred command still runs here on an object that this one names. -/
def State.objectBusy (s : State) (r : OmiRun) : Bool :=
  let live := s.mb.boxes.flatMap fun x => x.2.deferred ++ (x.2.running.toList.filter fun w => w.run.defers)
  let held := (live.filter fun w => w.outcome.isNone && w.run.id != r.id).flatMap fun w => w.run.objects
  !((cmdRow r.opcode).any fun x => x.read) && r.objects.any fun o => held.contains o

end Sys2Proof.Machine
end

