-- ==== Sys2Proof/Machine/Images.lean ====
section
/-! DEFINITION. The commands of groups 0x01 and 0x0D and the activation of a firmware image (15; 16, R415, R427). -/

namespace Sys2Proof.Machine

/-! ## Sessions (R393) -/

/-- The session is closed, its work is discarded. -/
def State.closeSession (s : State) : State := { s with img.session := none }.stop .session

/-- A session is opened, or goes on: 60 s run from its last command. -/
def State.setSession (s : State) (x : Session) : State := { s with img.session := some x }.start .session 60000000000

/-- A staging session that a command belongs to: none open is a state that refuses it, another one is busy. -/
def State.staging (s : State) (r : OmiRun) : Except Nat Session :=
  match s.img.session with
  | none => .error stState
  | some x => if x.kind = 1 && x.token = r.token && x.part = r.part then .ok x else .error stBusy

/-- A staging session is open. -/
def State.stagingOpen (s : State) : Bool := s.img.session.any fun x => x.kind == 1

/-- SESSION_TIMEOUT (R393). -/
def execSessionTimeout (s : State) : Res :=
  match s.expire .session with
  | some s => .next { s with img.session := none }
  | none => .next s

/-! ## Staging (R400) -/

/-- A slot is no longer verified. -/
def State.unverify (s : State) (slot : Nat) : State := { s with img.verified := s.img.verified.filter fun (n : Nat) => n != slot }

/-- BEGIN_STAGE (R400, R427). -/
def execBeginStage (k : Nat) (s : State) : Res :=
  .next <| s.omi k 0x0D01 false (nodeArg 0) fun s r =>
    let slot := r.arg 1 1
    if s.img.session.isSome then s.says stBusy
    else if r.token = 0 || 1 < slot then s.says stParameter
    else if slot = s.img.slot then s.says stState
    else (s.setSession { kind := 1, token := r.token, part := r.part, slot := slot }, some ok)

/-- WRITE_STAGE (R400, R427). -/
def execWriteStage (k : Nat) (s : State) : Res :=
  .next <| s.omi k 0x0D02 false (nodeArg 0) fun s r =>
    let off := r.arg 4 4
    let data := r.params.drop 8
    match s.staging r with
    | .error e => s.says (if e = stState && 0x100000 < off + data.length then stParameter else e)
    | .ok x =>
      if 0x100000 < off + data.length then s.says stParameter
      else (((s.flashWrite (slotBase x.slot + off) data).unverify x.slot).setSession x, some ok)

/-- END_STAGE (R400, R427). -/
def execEndStage (k : Nat) (s : State) : Res :=
  .next <| s.omi k 0x0D03 false (nodeArg 0) fun s r =>
    match s.staging r with
    | .error e => s.says e
    | .ok x =>
      let s := s.closeSession
      if (r.arg 1 1).testBit 0 then (s, some ok)
      else if s.slotOk x.slot then
        let s := s.unverify x.slot
        ({ s with img.verified := s.img.verified ++ [x.slot] }, some ok)
      else s.says stVerify

/-! ## Activation (R403) -/

/-- The header in a slot. -/
def State.slotHdr (s : State) (slot : Nat) : ImgHdr := imgHdr (s.flashBytes (slotBase slot) 512)

/-- A firmware notice to every partition whose management endpoint lies on the node (Table 15.6). -/
def State.notice92 (s : State) (reason : Nat) : State :=
  let ev : Ev := .other 0x92 [reason, s.img.hdr.version, s.img.slot, s.spindleNs]
  ((List.range 16).filter fun k => s.on PART_CTRL_VALID k).foldl (fun s k => s.queuePlace k s.nodeId ev) s

/-- The conditions under which an activation is refused (R403). -/
def State.mayActivate (s : State) (slot : Nat) : Bool :=
  let h := s.slotHdr slot
  let others := (members (s.get RING_MEMBER_A_MEMBERS ||| s.get RING_MEMBER_B_MEMBERS)).filter fun n => n != s.nodeId
  s.img.verified.contains slot && s.img.fuse ≤ h.secVer && s.img.act.isNone && s.nodeState == 0 &&
    others.all fun n => h.minPeer ≤ Tab.get 0 s.ring.features n && Tab.get 0 s.img.minPeers n ≤ h.feature

/-- ACTIVATE_IMAGE (R403, R427): phase 1 begins. -/
def execActivateImage (k : Nat) (s : State) : Res :=
  .next <| s.omi k 0x0D04 false (nodeArg 0) fun s r =>
    let slot := r.arg 1 1
    if s.stagingOpen then s.says stBusy
    else if 1 < slot then s.says stParameter
    else if !s.mayActivate slot then s.says stState
    else
      let s := { s with img.act := some { phase := 1, slot := slot, cmd := some r.id } }
      ((s.showBusy true false 200).start .quiesce15 50000000, none)

/-- A command that still runs at the end of the quiesce ends (R403). -/
def State.abortBox (s : State) (k : Nat) : State :=
  match (s.mbox k).running with
  | some w =>
    if w.outcome.isSome || w.run.defers then s
    else
      let o := rsp stAborted
      if k = 17 then (s.updMbox k fun m => { m with running := none }).answerTo w.run o
      else (s.placeRsp k (rspBytes w.run o)).storeRsp k w.run.seq (rspBytes w.run o)
  | none => s

/-- A command runs that phase 1 waits for. -/
def State.boxWaits (s : State) (k : Nat) : Bool := (s.mbox k).running.any fun w => w.outcome.isNone && !w.run.defers

/-- ACTIVATION_QUIESCE_END (R403): no command runs any more, or 50 ms have passed. -/
def execActivationQuiesceEnd (s : State) : Res :=
  match s.img.act with
  | none => .next s
  | some a =>
    let go (s : State) : State := { boxes.foldl (fun s k => s.abortBox k) s with img.act := some { a with phase := 2 } }
    if a.phase != 1 then .next s
    else if !boxes.any fun k => s.boxWaits k then .next (go (s.stop .quiesce15))
    else
      match s.expire .quiesce15 with
      | some s => .next (go s)
      | none => .next s

/-- An activation ends: the mailboxes take commands again. -/
def State.endAct (s : State) (a : Activation) (good : Bool) : State :=
  let s := ({ s with img.act := none }.fwReady true).showBusy false false 0
  (s.notice92 (if good then 1 else 2)).finishOpt a.cmd (rsp (if good then stSuccess else stFailed))

/-- The hash of a slot's body. -/
def State.slotHash (s : State) (slot : Nat) : List Nat := Config.sha384 ((s.imageBytes slot).drop 512)

/-- ACTIVATION_CHECK_DONE (R403): a slot that checks bad leaves the old image running. -/
def execActivationCheckDone (s : State) : Res :=
  match s.img.act with
  | none => .next s
  | some a =>
    if a.phase != 2 then .next s
    else if !s.slotOk a.slot then .next (s.endAct a false)
    else .next ({ s with img.act := some { a with phase := 3, hash := s.slotHash a.slot } }.fwReady false)

/-- An image of a slot runs. -/
def State.runImage (s : State) (slot : Nat) : State :=
  let h := s.slotHdr slot
  { s with img.slot := slot, img.hdr := h, img.committed := false, fwFeature := h.feature }.set MB_BOOT_SLOT slot

/-- Firmware message of this model with which a node tells the MIN_PEER_LEVEL of its image. -/
abbrev fwPeer : Nat := 0x13
def State.tellPeers (s : State) : State :=
  ((List.range 16).filter fun n => n != s.nodeId && s.reachable n).foldl (fun s n => s.sendFw 0 n (.other fwPeer [s.img.hdr.minPeer])) s

/-- ACTIVATION_SWITCHOVER_END (R403): the new image runs where its hash is the one checked, else the old one again. -/
def execActivationSwitchoverEnd (s : State) : Res :=
  match s.img.act with
  | none => .next s
  | some a =>
    if a.phase != 3 then .next s
    else
      let good : Bool := s.slotHash a.slot == a.hash
      .next ((if good then (s.runImage a.slot).tellPeers else s).endAct a good)

/-! ## Commit (R402) -/

/-- COMMIT_IMAGE (R402, R427). -/
def execCommitImage (k : Nat) (s : State) : Res :=
  .next <| s.omi k 0x0D05 false (nodeArg 0) fun s r =>
    let slot := r.arg 1 1
    if s.stagingOpen then s.says stBusy
    else if 1 < slot then s.says stParameter
    else if slot != s.img.slot then s.says stState
    else ({ s.writeSelector slot s.img.hdr.version with img.committed := true }.notice92 3, some ok)

/-- ADVANCE_SECURITY_VERSION (R402, R427). -/
def execAdvanceSecurityVersion (k : Nat) (s : State) : Res :=
  .next <| s.omi k 0x0D06 false (nodeArg 0) fun s _ =>
    if !s.img.committed then s.says stState
    else ({ s with img.fuse := max s.img.fuse s.img.hdr.secVer }, some ok)

/-- READ_FIRMWARE_STATUS (R427). -/
def execReadFirmwareStatus (k : Nat) (s : State) : Res :=
  .next <| s.omi k 0x0D07 false (nodeArg 0) fun s _ =>
    let sel := s.newestSelector.map Prod.snd
    let flags := b2n (s.img.verified.contains 0) 0 + b2n (s.img.verified.contains 1) 1 + b2n s.img.session.isSome 2
    let token := match s.img.session with | some x => x.token | none => 0
    (s, some (ok ([s.img.slot, flags] ++ le 3 (s.slotHdr 0).version ++ le 3 (s.slotHdr 1).version ++
      le 4 ((sel.map Selector.epoch).getD 0) ++ [(sel.map Selector.active).getD 0, 0] ++ le 2 s.img.fuse ++ le 4 token)))

/-! ## Identity (R415) -/

/-- GET_IDENTITY (R415): silicon stepping A0 reads Revision ID 0x00 (Table 10.4). -/
def execGetIdentity (k : Nat) (s : State) : Res :=
  .next <| s.omi k 0x0101 false (s.nodesArg 0) fun s _ =>
    let fm := if s.on PART_GLOBAL_FM_VALID then s.get PART_GLOBAL_FM_PART + 128 else 0
    (s, some (ok (le 2 0x1FD4 ++ le 2 0x5168 ++ [0, s.nodeId] ++ le 3 s.img.hdr.version ++ [s.img.slot] ++ le 2 s.fwFeature ++
      le 2 s.img.fuse ++ [0, 0] ++ le 8 Config.serial ++ le 2 (s.get RING_MEMBER_A_MEMBERS) ++ le 2 (s.get RING_MEMBER_B_MEMBERS) ++
      [fm, 0, 0, 0])))

/-- READ_CERTIFICATE (R415). -/
def execReadCertificate (k : Nat) (s : State) : Res :=
  .next <| s.omi k 0x0102 false (s.nodesArg 0) fun s r =>
    let slot := r.arg 2 1
    let n := r.arg 6 2
    if 1 < slot || 2000 < n then s.says stParameter
    else
      let chain := if slot = 0 then Config.deviceChain else s.ownerChain
      let part := (chain.drop (r.arg 4 2)).take n
      (s, some (ok (le 2 chain.length ++ le 2 part.length ++ part)))

/-- Bytes laid over others at an offset. -/
def overlay (xs : List Nat) (off : Nat) (ys : List Nat) : List Nat :=
  (xs ++ List.replicate (off - xs.length) 0).take off ++ ys ++ xs.drop (off + ys.length)

/-- INSTALL_OWNER_CHAIN (R415): the first fragment opens the session. -/
def execInstallOwnerChain (k : Nat) (s : State) : Res :=
  .next <| s.omi k 0x0103 false (s.nodesArg 0) fun s r =>
    let off := r.arg 4 2
    let n := r.arg 6 2
    let own : Bool := s.img.session.all fun x => x.kind == 2 && x.token == r.token && x.part == r.part
    if !own then s.says stBusy
    else if r.token = 0 || 2016 < n || 8192 < off + n then s.says stParameter
    else if (r.arg 2 1).testBit 1 then ((s.writeChain []).closeSession, some ok)
    else
      let x := s.img.session.getD { kind := 2, token := r.token, part := r.part }
      let data := overlay x.data off (r.params.drop 8)
      if !(r.arg 2 1).testBit 0 then (s.setSession { x with data := data }, some ok)
      else if Config.chainOk data then ((s.writeChain data).closeSession, some ok)
      else s.closeSession.says stVerify

end Sys2Proof.Machine
end

