-- ==== Sys2Proof/Machine/Partitions.lean ====
section
/-! DEFINITION. The commands of OMI group 0x02 and the events of partitions and of the fabric-management privilege (03, R416). -/

namespace Sys2Proof.Machine

/-! ## Creation and deletion (R82 to R84, R416) -/

/-- A PCI Express port with no role that is not enabled. -/
def State.unusedPort (s : State) (p : Nat) : Bool := s.pciePort p && s.role p == 0 && !s.on PX_PORT_CFG_ENABLE p

/-- A partition comes into being at its home node (R82, R83): the slot, the port's role, the record, the map of its host. -/
def State.createPart (s : State) (part p j thaw : Nat) : State :=
  let s := ((s.set PART_CTRL_VALID 1 j).set PART_CTRL_PART_ID part j).set PART_CTRL_UP_PORT p j
  let s := (s.set PART_CTRL_SELF_THAW thaw j).set PART_CTRL_STATE partCreated j
  let s := s.setRec part { present := true, home := s.nodeId, state := partCreated, upPort := p, homePlane := s.get RING_HOME_PLANE_B j }
  ((s.set PX_PORT_CFG_ROLE roleUp p).checkHeld part).installView part 0 (s.hostView j)

/-- CREATE_PARTITION (R82, R83, R416), at the home node: the slot, the port's role, the record at every member. -/
def execCreatePartition (k : Nat) (s : State) : Res :=
  .next (s.omi k 0x0202 false (nodeArg 1) fun s r =>
    let part := r.arg 0 1
    let p := r.arg 2 1
    let j := r.arg 3 1
    if 64 ≤ part || 16 ≤ r.arg 1 1 || 48 ≤ p || 16 ≤ j then s.says stParameter
    else if (s.partRec part).present || s.on PART_CTRL_VALID j || !s.unusedPort p then s.says stState
    else
      let s := s.createPart part p j (r.arg 4 1 % 2)
      let a := s.awaitAll (.omi r.id)
      let x := a.2.partRec part
      let s := a.2.fwAll part (.other fwRecord [part, 1, x.home, x.state, x.upPort, x.homePlane, x.upBus, x.intBus, a.1])
      ((s.portOn p).settle, none))

/-- Where a partition's own commands act: at its home node. -/
def State.homeArg (s : State) (r : OmiRun) : List Nat := [(s.homeOf (r.arg 0 1)).getD s.nodeId]

/-- DELETE_PARTITION (R84, R103, R416): DELETING at the home node, then every instance goes through its removal at its node. -/
def execDeletePartition (k : Nat) (s : State) : Res :=
  .next (s.omi k 0x0203 false s.homeArg fun s r =>
    let part := r.arg 0 1
    if 64 ≤ part then s.says stParameter
    else match s.slotOf part with
      | none => s.says stState
      | some j =>
        if s.get PART_CTRL_STATE j = partDeleting then s.says stState
        else
          let s := s.setPartState j partDeleting
          let s := if s.fmHolder == some part then s.vacateFm else s
          let s := if s.on PART_GLOBAL_STBY_VALID && s.get PART_GLOBAL_STBY_PART = part then s.setStandbyPart none else s
          let a := s.awaitThese (s.nodeId :: s.others) (.drained j (some r.id))
          let s := a.2.fwAll part (.other fwPart [4, part, a.1])
          ((s.deleteHere part (s.nodeId, a.1)).settle, none))

/-- RESET_PARTITION (R105, R416). -/
def execResetPartition (k : Nat) (s : State) : Res :=
  .next (s.omi k 0x0204 false s.homeArg fun s r =>
    let part := r.arg 0 1
    if 64 ≤ part then s.says stParameter
    else if !r.mayOwn part then s.says stPrivilege
    else match s.slotOf part with
      | none => s.says stState
      | some j =>
        if s.get PART_CTRL_STATE j = partDeleting || s.get PART_CTRL_STATE j = partFree then s.says stState
        else ((s.resetPart j (some r.id)).settle, none))

/-- What the end of a partition reset restores: the configuration of slot `k`, its views, its frozen instances, its state. -/
def State.resetRestores (s : State) (k : Nat) : State :=
  let part := s.get PART_CTRL_PART_ID k
  let s := { s with part.resetDone := s.part.resetDone.erase k }
  let s := (s.resetCfg k).setBuses k 0 0
  let s := (List.range 32).foldl (fun s n => if n = 0 || (s.bind k n).isSome then s.spreadView k n .none else s) s
  let s := s.spreadBound k .none
  let s := s.set PART_CTRL_HOST_FROZEN 0 k
  let s := (s.fwAll part (.other fwPart [3, part, 0, 0])).thawSome (s.frozenWithPart part) false part none none
  let s := if s.get PART_CTRL_STATE k = partResetting
    then s.setPartState k (if s.dlActive (s.get PART_CTRL_UP_PORT k) then partActive else partCreated) else s
  s.dmHost part

/-- PARTITION_RESET_COMPLETE (R105 steps 4 and 5) of local slot `k`: the resets of its instances have ended at every node. -/
def execPartitionResetComplete (k : Nat) (s : State) : Res :=
  if !s.part.resetDone.contains k then .next s
  else
    let s := s.resetRestores k
    let cmds := s.part.rstCmds.filter fun x => x.1 == k
    let s := { s with part.rstCmds := s.part.rstCmds.filter fun (x : Nat × Nat) => x.1 != k }
    .next ((cmds.foldl (fun s x => s.finish x.2 ok) s).settle)

/-- PARTITION_RECORD_INSTALL (R83): a member installs a change of a partition's record, and acknowledges where it is asked to. A
record that is gone takes what the node keeps of the partition with it. A record that gives a partition another home node than it has
here is installed only from the set of the fabric manager's home node: a partition of this node with that ID is deleted, and an event
tells the fabric manager (R511; the spec gives the event no TYPE byte). -/
def execPartitionRecordInstall (src : Nat) (f : List Nat) (s : State) : Res :=
  let g (i : Nat) : Nat := f.getD i 0
  let part := g 0
  match s.takeFw src part (.other fwRecord f) with
  | none => .next s
  | some s =>
    let other : Bool := g 1 = 1 && (s.partRec part).present && (s.partRec part).home != g 2
    if other && !s.ring.fmHomes.contains src then .next (s.sendAck part src (g 8)) else
    let s := match s.slotOf part with
      | some j => if other then (s.freeSlot j).raiseFm (.other 0 [part, s.nodeId]) else s
      | none => s
    let s := if g 1 = 1 then
        s.setRec part { present := true, home := g 2, state := g 3, upPort := g 4, homePlane := g 5, upBus := g 6, intBus := g 7 }
      else (s.setRec part {}).forgetPart part
    .next (s.sendAck part src (g 8))

/-! ## The privilege (R85 to R87, R416) -/

/-- The new holder's home node confirms a transfer (R86): from this moment it holds the privilege, and every member follows. -/
def State.confirmFm (s : State) (new old : Nat) : State :=
  let s := s.setFm (some new)
  let s := match s.slotOf new with
    | some k => s.fmNotice k 3 new old s.nodeId
    | none => s
  s.fwAll new (.other fwFm [2, new, old, s.nodeId])

/-- A member follows a transfer; the old holder's home node gives it the notice. -/
def State.fmMoved (s : State) (new old home : Nat) : State :=
  let s := s.setFm (some new)
  match s.slotOf old with
  | some k => s.fmNotice k 4 new old home
  | none => s

/-- TRANSFER_FABRIC_MANAGEMENT (R86, R416). -/
def execTransferFabricManagement (k : Nat) (s : State) : Res :=
  .next (s.omi k 0x0205 false s.hereArg fun s r =>
    let new := r.arg 0 1
    if 64 ≤ new then s.says stParameter
    else if s.partState new != partActive then s.says stState
    else
      let old := s.fmHolder.getD r.part
      match s.homeOf new with
      | none => s.says stState
      | some h =>
        if h = s.nodeId then
          let s := (s.confirmFm new old).fmMoved new old h
          (s, some ok)
        else
          let a := s.awaitThese [h] (.omi r.id)
          (a.2.sendFw new h (.other fwFm [1, new, old, a.1]), none))

/-- SET_STANDBY (R87, R416): at every member. -/
def execSetStandby (k : Nat) (s : State) : Res :=
  .next (s.omi k 0x0206 false s.hereArg fun s r =>
    let p := r.arg 0 1
    let clear : Bool := r.arg 1 1 % 2 == 1
    if 64 ≤ p then s.says stParameter
    else if !clear && s.partState p != partActive then s.says stState
    else
      let s := s.setStandbyPart (if clear then none else some p)
      let a := s.awaitAll (.omi r.id)
      let s := a.2.fwAll p (.other fwFm [3, if clear then 64 else p, 0, a.1])
      (s.settle, none))

/-- FM_TAKEOVER_EXPIRY (R87): the holder's upstream link has stayed down for FM_TAKEOVER. The other members follow. -/
def execFmTakeoverExpiry (s : State) : Res :=
  match s.expire .fmTakeover with
  | none => .next s
  | some s =>
    let old := fmByte s.fmHolder
    let s := s.vacateFm
    .next (s.fwAll 0 (.other fwFm [4, (s.fmHolder.getD 64), old, s.nodeId]))

/-! ## Freezes (R110, R111, R416) -/

/-- Freeze Partition at a node: the host at its home, and every instance the node holds. -/
def State.freezePartHere (s : State) (part : Nat) (cpl : Bool) : State :=
  let s := match s.slotOf part with
    | some k => s.set PART_CTRL_HOST_FROZEN 1 k
    | none => s
  (s.instsOf part).foldl (fun s i => let s := s.freeze i frzFirmware; if cpl then s.flag PART_FN_A_FREEZE_CPL true i else s) s

/-- Thaw Partition at a node. A reset of the partition in progress keeps its own freeze. -/
def State.thawPartHere (s : State) (part : Nat) (advance : Bool) (ack : Option (Nat × Nat)) : State :=
  let s := match s.slotOf part with
    | some k => if s.get PART_CTRL_STATE k = partResetting then s else (s.set PART_CTRL_HOST_FROZEN 0 k).dmHost part
    | none => s
  s.thawSome (s.frozenWithPart part) advance part ack none

/-- FREEZE_PARTITION (R110, R416): when every node has frozen what it holds. -/
def execFreezePartition (k : Nat) (s : State) : Res :=
  .next (s.omi k 0x0207 false s.hereArg fun s r =>
    let part := r.arg 0 1
    let cpl := r.arg 1 1 % 2
    if 64 ≤ part then s.says stParameter
    else if s.partState part = partFree then s.says stState
    else
      let a := s.awaitAll (.omi r.id)
      let s := a.2.fwAll part (.other fwPart [2, part, a.1, cpl])
      ((s.freezePartHere part (cpl == 1)).settle, none))

/-- THAW_PARTITION (R111, R416): after any generation wait at every node. -/
def execThawPartition (k : Nat) (s : State) : Res :=
  .next (s.omi k 0x0208 false s.hereArg fun s r =>
    let part := r.arg 0 1
    let adv := r.arg 1 1 % 2
    if 64 ≤ part then s.says stParameter
    else if s.partState part = partFree then s.says stState
    else
      let a := s.awaitThese (s.nodeId :: s.others) (.omi r.id)
      let s := a.2.fwAll part (.other fwPart [3, part, a.1, adv])
      ((s.thawPartHere part (adv == 1) (some (s.nodeId, a.1))).settle, none))

/-- READ_PARTITION (R416, Table 16.6): the record and the instances as their vDSPs show them at the home node. -/
def execReadPartition (k : Nat) (s : State) : Res :=
  .next (s.omi k 0x0209 false s.homeArg fun s r =>
    let part := r.arg 0 1
    if 64 ≤ part then s.says stParameter
    else if !r.mayOwn part then s.says stPrivilege
    else match s.slotOf part with
      | none => s.says stState
      | some j =>
        let bs := (List.range 32).filterMap fun n => (s.bind j n).map fun b => (n, b)
        let inst (x : Nat × Bind) : List Nat :=
          let b := x.2
          [b.node, x.1] ++ le 2 b.inst ++ [b.kind, b.gen, (if b.frozen then 1 else 0) + (if b.failed then 2 else 0), b.cause]
        (s, some (ok ([part, s.nodeId, s.get PART_CTRL_UP_PORT j, j, s.get PART_CTRL_STATE j,
          s.get PART_CTRL_FM j + 2 * s.get PART_CTRL_STANDBY j + 4 * s.get PART_CTRL_HOST_FROZEN j + 8 * s.get PART_CTRL_SELF_THAW j]
          ++ le 2 bs.length ++ bs.flatMap inst))))

/-! ## Messages of firmware about partitions -/

/-- Resets, freezes, thaws and deletions asked for by a home node. -/
def State.partFw (s : State) (src : Nat) (f : List Nat) : State :=
  let g (i : Nat) : Nat := f.getD i 0
  if g 0 = 1 then s.resetHere (g 1) (some (src, g 2))
  else if g 0 = 2 then (s.freezePartHere (g 1) (g 3 == 1)).sendAck (g 1) src (g 2)
  else if g 0 = 3 then s.thawPartHere (g 1) (g 3 == 1) (some (src, g 2))
  else s.deleteHere (g 1) (src, g 2)

/-- The privilege: a transfer to confirm, one confirmed, the standby, a takeover. -/
def State.fmFw (s : State) (src : Nat) (f : List Nat) : State :=
  let g (i : Nat) : Nat := f.getD i 0
  let who (n : Nat) : Option Nat := if n < 64 then some n else none
  if g 0 = 1 then (s.confirmFm (g 1) (g 2)).sendAck (g 1) src (g 3)
  else if g 0 = 2 then s.fmMoved (g 1) (g 2) (g 3)
  else if g 0 = 3 then (s.setStandbyPart (who (g 1))).sendAck 0 src (g 3)
  else
    let s := (s.setFm (who (g 1))).setStandbyPart none
    match (who (g 1)).bind s.slotOf with
    | some k => s.fmNotice k 2 (g 1) (g 2) s.nodeId
    | none => s

end Sys2Proof.Machine
end

