-- ==== Sys2Proof/Machine/Instances.lean ====
section
/-! DEFINITION. The commands of OMI group 0x04, the steps of a removal, generations and contexts (03, R418). -/

namespace Sys2Proof.Machine

/-! ## Assignment (R93, R418) -/

/-- The function, or the port, is held by a live instance (R93). -/
def State.fnHeld (s : State) (p rid : Nat) : Bool :=
  (s.instsOfPort p).any fun i => s.on PART_FN_A_BIND i || s.get PART_FN_A_PHYS_RID i == rid

/-- The vDSP of an owner presents nothing, and no instance of this node is on its way there. -/
def State.vdspFree (s : State) (owner v : Nat) : Bool :=
  (s.view owner v).kind == 0 && !(s.instsOf owner).any fun i => s.get PART_FN_B_VDSP i == v

/-- Write an instance entry. -/
def State.writeInst (s : State) (i owner v p rid : Nat) (bound cpl : Bool) : State :=
  let s := (((s.set PART_FN_A_VALID 1 i).set PART_FN_A_OWNER owner i).set PART_FN_A_PORT p i).set PART_FN_A_PHYS_RID rid i
  let s := ((s.flag PART_FN_A_BIND bound i).flag PART_FN_A_FREEZE_CPL cpl i).set PART_FN_B_VDSP v i
  let s := { s with part.frzCpl := if cpl then s.part.frzCpl ++ [i] else s.part.frzCpl.filter fun (n : Nat) => n != i }
  s.checkHeld owner

/-- A bus span parameter: 0 means 16. -/
def spanArg (n : Nat) : Nat := if n = 0 then 16 else n

/-- ASSIGN_FUNCTION (R93, R418): at the port's node. The instance's vDSP is then filled. -/
def execAssignFunction (k : Nat) (s : State) : Res :=
  .next (s.omi k 0x0402 false (nodeArg 2) fun s r =>
    let owner := r.arg 0 1
    let v := r.arg 1 1
    let p := r.arg 3 1
    let bound : Bool := r.arg 4 1 == 1
    let rid := r.arg 8 2
    if 64 ≤ owner || v = 0 || 32 ≤ v || 16 ≤ r.arg 2 1 || 48 ≤ p || 2 ≤ r.arg 4 1 || 64 ≤ r.arg 5 1 || 3 ≤ r.arg 6 1 ||
        (bound && rid != 0) then s.says stParameter
    else if s.partState owner = partFree || s.partState owner = partDeleting || !s.vdspFree owner v then s.says stState
    else if s.fnHeld p rid || (if bound then !s.unusedPort p else s.role p != roleManaged) then s.says stState
    else match allInst.find? fun i => !s.liveInst i with
      | none => s.says stResource
      | some i =>
        let cpl : Bool := r.arg 7 1 % 2 == 1
        if bound then
          let f := s.fresh
          let sec := f.1 % 256
          let s := (f.2.updPx p fun x => { x with secBus := sec }).set PX_PORT_CFG_ROLE roleBound p
          let s := s.set PX_PORT_CFG_TAG_SIZE (r.arg 6 1) p
          let s := (s.writeInst i owner v p (sec * 256) true cpl).set PART_FN_B_BUS_SPAN (spanArg (r.arg 5 1)) i
          (((s.portOn p).askFill i (some r.id)).settle, none)
        else (((s.writeInst i owner v p rid false cpl).askFill i (some r.id)).settle, none))

/-- REMOVE_FUNCTION (R103, R418): steps 1 to 3 begin. A removal in progress answers BUSY (Table 03.7). -/
def execRemoveFunction (k : Nat) (s : State) : Res :=
  .next (s.omi k 0x0403 false (nodeArg 0) fun s r =>
    let i := r.arg 2 2
    let re : Bool := r.arg 1 1 % 2 == 1
    let owner := r.arg 4 1
    let v := r.arg 5 1
    if 16 ≤ r.arg 0 1 || 512 ≤ i || (if re then 64 ≤ owner || v = 0 || 32 ≤ v else owner != 0 || v != 0) then s.says stParameter
    else if (s.removal i).isSome then s.says stBusy
    else if !s.liveInst i then s.says stState
    else if re && (s.partState owner = partFree || s.partState owner = partDeleting || !s.vdspFree owner v) then s.says stState
    else ((s.removeInst i (if re then some { owner := owner, vdsp := v } else none) (some r.id)).settle, none))

/-! ## The steps of a removal (R103) -/

/-- REMOVAL_DRAIN_POINT (R103 steps 4 to 6) of instance `i`: the generation advances once, the contexts of requests to the instance
are retired, the function is reset. -/
def execRemovalDrainPoint (i : Nat) (s : State) : Res :=
  match s.removal i with
  | some r =>
    if !s.drained r i then .next s
    else
      let s := (s.stop (.remDrain i)).setRemoval i (some { r with step := 6 })
      .next ((s.advanceGen i).issueReset i)
  | none => .next s

/-- REMOVAL_DRAIN_TIMEOUT (R103): what remains is purged at its sources and reported with reason 0x06. -/
def execRemovalDrainTimeout (i : Nat) (s : State) : Res :=
  match s.expire (.remDrain i), s.removal i with
  | some s, some r =>
    let s := (r.markers.filter fun m => !s.covered r.owner m).foldl (init := s) fun s m =>
      s.sendFw r.owner m.srcNode (.other fwPurge [r.owner, s.nodeId, m.vc.code, m.seq])
    let s := (s.queuedFor r i).foldl (fun s k => (s.undeliverable k.record 6 k.cplId).unbuffer k) s
    .next s
  | _, _ => .next s

/-- REMOVAL_RESET_WAIT_END (R103 step 6): 100 ms after the reset the switch reads the function's configuration space, for at most
1 s. -/
def execRemovalResetWaitEnd (i : Nat) (s : State) : Res :=
  match s.expire (.remWait i) with
  | some s =>
    let s := s.start (.remFunc i) 1000000000
    .next (s.emit (.cfgPoll (s.get PART_FN_A_PORT i) (s.get PART_FN_A_PHYS_RID i)))
  | none => .next s

/-- REMOVAL_FUNCTION_READY (R103 step 7, R105 step 3): a read has completed with a status other than RRS; behind a port-bound port
only once its link is up. -/
def execRemovalFunctionReady (i : Nat) (s : State) : Res :=
  if !s.runs (.remFunc i) || (s.on PART_FN_A_BIND i && !s.dlActive (s.get PART_FN_A_PORT i)) then .next s
  else
    let part := s.get PART_FN_A_OWNER i
    let s := s.stop (.remFunc i)
    let s := { s with part.inFlr := s.part.inFlr.filter fun (n : Nat) => n != i }
    let s := if (s.removal i).any fun r => r.step == 6 then s.removalEnd i else s
    .next ((s.jobDone (jobReset part) i).settle)

/-- REMOVAL_FUNCTION_TIMEOUT (R103): marked failed. In a partition reset the wait ends and the entry stays (DEDUCED). -/
def execRemovalFunctionTimeout (i : Nat) (s : State) : Res :=
  match s.expire (.remFunc i) with
  | none => .next s
  | some s =>
    let part := s.get PART_FN_A_OWNER i
    let s := { s with part.inFlr := s.part.inFlr.filter fun (n : Nat) => n != i }
    let s := if (s.removal i).any fun r => r.step == 6 then s.removalFail i
      else
        let f := (s.get PART_FN_A_PORT i, s.get PART_FN_A_PHYS_RID i)
        let s := { s with part.failed := if s.part.failed.contains f then s.part.failed else s.part.failed ++ [f] }
        (s.tellInst i).raiseFm (.functionFailed s.nodeId i)
    .next ((s.jobDone (jobReset part) i).settle)

/-! ## Freezes, spans, VFs, managed ports (R418) -/

/-- FREEZE_FUNCTION (R109, R111, R418). -/
def execFreezeFunction (k : Nat) (s : State) : Res :=
  .next (s.omi k 0x0404 false (nodeArg 0) fun s r =>
    let i := r.arg 2 2
    if 16 ≤ r.arg 0 1 || 512 ≤ i then s.says stParameter
    else if !s.liveInst i then s.says stState
    else
      let s := s.freeze i frzCommand
      (if r.arg 1 1 % 2 = 1 then s.flag PART_FN_A_FREEZE_CPL true i else s, some ok))

/-- THAW_FUNCTION (R111, R418): the fabric manager, or the owner whose slot has SELF_THAW. Its removal answers BUSY (Table 03.7). -/
def execThawFunction (k : Nat) (s : State) : Res :=
  .next (s.omi k 0x0405 false (nodeArg 0) fun s r =>
    let i := r.arg 2 2
    let adv : Bool := r.arg 1 1 % 2 == 1
    if 16 ≤ r.arg 0 1 || 512 ≤ i then s.says stParameter
    else if r.priv != 1 && !(r.part == s.get PART_FN_A_OWNER i && s.liveInst i && r.selfThaw) then s.says stPrivilege
    else if (s.removal i).isSome then s.says stBusy
    else if !s.liveInst i then s.says stState
    else (s.thawSome [i] adv (s.get PART_FN_A_OWNER i) none (some r.id), none))

/-- SET_BUS_SPAN (R107, R418): a port-bound instance whose vDSP is empty. -/
def execSetBusSpan (k : Nat) (s : State) : Res :=
  .next (s.omi k 0x0406 false (nodeArg 0) fun s r =>
    let i := r.arg 2 2
    if 16 ≤ r.arg 0 1 || 512 ≤ i || 64 ≤ r.arg 1 1 then s.says stParameter
    else if !s.liveInst i || !s.on PART_FN_A_BIND i ||
        (s.view (s.get PART_FN_A_OWNER i) (s.get PART_FN_B_VDSP i)).kind != 0 then s.says stState
    else (s.set PART_FN_B_BUS_SPAN (spanArg (r.arg 1 1)) i, some ok))

/-- ENABLE_VFS (R91, R418). -/
def execEnableVfs (k : Nat) (s : State) : Res :=
  .next (s.omi k 0x0407 false (nodeArg 0) fun s r =>
    let p := r.arg 1 1
    let pf := r.arg 2 2
    let n := r.arg 4 2
    let live : Bool := (s.instsOfPort p).any fun i => Config.devPf (p * 65536 + s.get PART_FN_A_PHYS_RID i) == some pf
    if 16 ≤ r.arg 0 1 || 48 ≤ p then s.says stParameter
    else if s.role p != roleManaged then s.says stState
    else if (s.part.vfJobs.any fun j => j.port == p) then s.says stBusy
    else if (n = 0 && live) || Config.devTotalVfs (p * 65536 + pf) < n then s.says stState
    else
      let s := s.emit (.vfEnable p pf n)
      if n = 0 then (s, some ok)
      else ({ s with part.vfJobs := s.part.vfJobs ++ [({ port := p, pf := pf, n := n, cmd := r.id } : VfJob)] } |>.start (.vfs p) 1000000000, none))

/-- ENABLE_VFS_TIMEOUT (R418): the VFs have not answered within 1 s. -/
def execEnableVfsTimeout (port : Nat) (s : State) : Res :=
  match s.expire (.vfs port) with
  | none => .next s
  | some s =>
    let js := s.part.vfJobs.filter fun j => j.port == port
    let s := { s with part.vfJobs := s.part.vfJobs.filter fun (j : VfJob) => j.port != port }
    .next (js.foldl (fun s j => s.finish j.cmd (rsp stFailed)) s)

/-- SET_MANAGED_PORT (R278, R418): the designation ends with the link, the removal at once. -/
def execSetManagedPort (k : Nat) (s : State) : Res :=
  .next (s.omi k 0x0408 false (nodeArg 0) fun s r =>
    let p := r.arg 1 1
    if 16 ≤ r.arg 0 1 || 48 ≤ p then s.says stParameter
    else if r.arg 2 1 % 2 = 1 then
      if !s.unusedPort p then s.says stState
      else
        let s := { s.set PX_PORT_CFG_ROLE roleManaged p with part.mgJobs := s.part.mgJobs ++ [(p, r.id)] }
        (s.portOn p, none)
    else if s.role p != roleManaged || !(s.instsOfPort p).isEmpty then s.says stState
    else ((s.portOff p).set PX_PORT_CFG_ROLE 0 p, some ok))

/-- READ_INSTANCE (R418). -/
def execReadInstance (k : Nat) (s : State) : Res :=
  .next (s.omi k 0x0409 false (nodeArg 0) fun s r =>
    let i := r.arg 2 2
    if 16 ≤ r.arg 0 1 || 512 ≤ i then s.says stParameter
    else if !r.mayOwn (s.get PART_FN_A_OWNER i) then s.says stPrivilege
    else
      let word (rg : Reg) : Nat := (rg.fields.map fun f => s.get f i * 2 ^ f.lsb).sum
      let failed := s.part.failed.contains (s.get PART_FN_A_PORT i, s.get PART_FN_A_PHYS_RID i)
      (s, some (ok (le 4 (word .PART_FN_A) ++ le 4 (word .PART_FN_B) ++ [if failed then 1 else 0]))))

/-! ## Generations and contexts (R100, R101) -/

/-- GENERATION_WAIT_END (R100): the generation advances once, and thaws with ADVANCE take effect (R111). -/
def execGenerationWaitEnd (i : Nat) (s : State) : Res :=
  match s.expire (.genWait i) with
  | none => .next s
  | some s =>
    let s := s.advanceNow i
    let hit := s.part.thaws.filter fun t => t.insts.contains i
    let s := if hit.isEmpty then s else s.unfreeze i
    let s := { s with part.thaws := s.part.thaws.map fun (t : Thaw) => { t with insts := t.insts.filter fun n => n != i } }
    let ended := s.part.thaws.filter fun t => t.insts.isEmpty
    let s := { s with part.thaws := s.part.thaws.filter fun (t : Thaw) => !t.insts.isEmpty }
    .next ((ended.foldl (fun s t => s.thawEnd t.ack t.part t.cmd) s).settle)

/-- COMPLETION_TIMEOUT (R101) of context `idx`. -/
def execCompletionTimeout (idx : Nat) (s : State) : Res :=
  match s.expire (.ctx idx), s.part.ctxs.find? fun c => c.idx == idx with
  | some s, some c => .next ((s.bump PART_CNT_TMO_COUNT).retireCtx c)
  | _, _ => .next s

/-- TAG_QUARANTINE_END (R101): the tag is free again. Port 64 names the data mover's own tags (R258). -/
def execTagQuarantineEnd (port tag : Nat) (s : State) : Res :=
  match s.expire (.tagQuar port tag) with
  | none => .next s
  | some s =>
    if port = 64 then
      let s := { s with dm.tags := s.dm.tags.filter fun (t : DmTag) => !(t.retired && t.tag == tag) }
      .next (if 1984 ≤ tag then s.dmKick (tag - 1984) else s)
    else .next { s with part.quar := s.part.quar.erase (port, tag) }

/-! ## The privilege notice, markers and purges that firmware carries -/

/-- Markers asked for and sent (R103 step 4), and the purge of a removal's flow (R103). -/
def State.removalFw (s : State) (src type : Nat) (f : List Nat) : State :=
  let g (i : Nat) : Nat := f.getD i 0
  if type = fwMark then
    s.sendFw (g 0) src (.other fwMarkers (g 1 :: (s.markers (g 0) src).flatMap fun m => [m.1.code, m.2]))
  else if type = fwMarkers then
    let ms := (List.range ((f.length - 1) / 2)).map fun j => (vcOf (g (1 + 2 * j)), g (2 + 2 * j))
    s.markersGot src (g 0) ms
  else s.purge (flowKey (g 0) (g 1) (vcOf (g 2))) (g 3) 6 false

end Sys2Proof.Machine
end

