-- ==== Sys2Proof/Machine/Link.lean ====
section
/-! DEFINITION. The commands of the Maelryn Link ports (02). -/

namespace Sys2Proof.Machine

/-- A fabric port in fabric mode. -/
def State.isFab (s : State) (p : Nat) : Bool := s.fabricMode p

/-- AUDIT_DUE (R65): 65,535 flits have gone since the last audit. -/
def execAuditDue (p : Nat) (s : State) : Res :=
  if s.isFab p && s.linkCarries p && 65535 ≤ (s.link p).sinceAudit then .next (s.updLink p fun l => { l with auditDue := true })
  else .next s

/-- DATA_FLIT_RECEIVE (R49 to R51, R56, R58, R62, R64, R544). -/
def execDataFlitReceive (p : Nat) (h : FlitHdr) (vc : VC) (first : Nat) (pieces : List Piece) (s : State) : Res :=
  if !s.isFab p then .next s
  else
    let v := s.rxCheck p h true
    let s := v.2
    match v.1 with
    | .lost => .next s
    | .duplicate => .next s
    | .pass =>
      if s.overrun p vc ((startsOf pieces).takeWhile lenOk) then .next (s.forcedRetrain p rrOverrun)
      else
        let s := (s.accept p).ackProcess p h.ack
        let s := s.takeReturn p h
        if !s.linkListens p then .next s else .next (s.parseData p vc first pieces).settleHolds

/-- IDLE_FLIT_RECEIVE (R47, R56, R62): sequenced when it returns credits. -/
def execIdleFlitReceive (p : Nat) (h : FlitHdr) (s : State) : Res :=
  if !s.isFab p then .next s
  else
    let sequenced := h.crCount != 0
    let v := s.rxCheck p h sequenced
    let s := v.2
    match v.1 with
    | .lost => .next s
    | .duplicate => .next s
    | .pass =>
      let s := if sequenced then s.accept p else s
      .next ((s.ackProcess p h.ack).takeReturn p h)

/-- MSG_FLIT_RECEIVE (R47, R62): the message is taken by its own step; its 4 credits are in use until then and free at once. -/
def execMsgFlitReceive (p : Nat) (h : FlitHdr) (m : MgMsg) (s : State) : Res :=
  if !s.isFab p then .next s
  else
    let v := s.rxCheck p h true
    let s := v.2
    match v.1 with
    | .lost => .next s
    | .duplicate => .next s
    | .pass =>
      let s := ((s.accept p).ackProcess p h.ack).takeReturn p h
      let k := creditKey p .mg
      let s := (s.set ML_CREDIT_STAT_IN_USE (s.get ML_CREDIT_STAT_IN_USE k + 4) k).fabricCredits p .mg 4
      .next { s with inbox := s.inbox ++ [.mg p m] }

/-- Signed difference modulo 2^32, as a size. -/
def size32 (x : Int) : Nat := ((x + 0x80000000) % 0x100000000 - 0x80000000).natAbs

/-- The leak of R66 on a VC. -/
def State.leak (s : State) (p : Nat) (a : Audit) (v : VC) : Nat :=
  let l := s.link p
  let consumed : Int := perVc a.consumed v
  let rx := consumed - perVc l.returned v - s.get ML_CREDIT_STAT_IN_USE (creditKey p v)
  let tx := (perVc l.adv v : Int) - perVc a.held v - (consumed - perVc a.received v)
  size32 rx + size32 tx

/-- AUDIT_FLIT_RECEIVE (R65, R66). -/
def execAuditFlitReceive (p : Nat) (h : FlitHdr) (a : Audit) (s : State) : Res :=
  if !s.isFab p then .next s
  else
    let v := s.rxCheck p h true
    let s := v.2
    match v.1 with
    | .lost => .next s
    | .duplicate => .next s
    | .pass =>
      let s := (s.accept p).ackProcess p h.ack
      let leaks := allVcs.map fun v => s.leak p a v
      let echoBad : Bool := allVcs.any fun v => perVc a.advEcho v != perVc (s.link p).adv v
      let s := s.takeReturn p h
      if !s.linkListens p then .next s
      else
        let s := if echoBad then s.protoErr p else s
        let s := if leaks.any fun n => n != 0 then (s.bump ML_CNT_LEAK_COUNT p).evtFab p 15 else s
        if leaks.any fun n => s.get ML_LIMITS_LEAK_LIMIT p < n then
          .next (((s.flag ML_ERR_STATUS_LEAK_RETRAIN true p).mlReport p 0 3).schedule p rrLeak)
        else .next s

/-- REPLAY_FLIT_RECEIVE (R58): both ends check it with its start. -/
def execReplayFlitReceive (p : Nat) (h : FlitHdr) (start : Nat) (s : State) : Res :=
  if !s.isFab p then .next s
  else
    let d := s.rsDecode p h
    let s := d.2
    if !d.1 then .next s
    else if h.seq != start then .next (s.crcFail p)
    else if !s.linkListens p then .next s
    else
      let s := s.evtFab p 1
      let s := if h.crCount != 0 then s.protoErr p else s
      let l := s.link p
      if 1024 < subMod 4096 l.e start then .next (s.forcedRetrain p rrProtocol)
      else .next ((s.updLink p fun l => { l with c := start % 4096 }).ackProcess p h.ack)

/-- REPLAY_TIMER_EXPIRY (R57, R59): REPLAY and every outstanding flit again; too many in a row force a retrain. -/
def execReplayTimerExpiry (p : Nat) (s : State) : Res :=
  match s.expire (.replay p) with
  | none => .next s
  | some s =>
    let l := s.link p
    if l.replay.isEmpty || !s.linkListens p then .next s
    else
      let s := s.updLink p fun l => { l with consec := l.consec + 1 }
      if s.get ML_LIMITS_REPLAY_LIMIT p < l.consec + 1 then .next (s.forcedRetrain p rrReplay)
      else
        let s := s.updLink p fun l => { l with replayStart := some l.b, replaying := l.replay }
        .next (((s.bump ML_CNT_REPLAY_COUNT p).evtFab p 7).start (.replay p) (s.get ML_TIMERS_REPLAY_TMR p * 50))

/-- The checks of a per-lane or training flit, whose check sequence is 0 (R54). -/
def State.trainCheck (s : State) (p : Nat) (h : FlitHdr) : Bool × State :=
  let d := s.rsDecode p h
  if !d.1 then d
  else if h.seq != 0 then (false, d.2.crcFail p)
  else (true, d.2.evtFab p 1)

/-- Flits passed in a row on a lane while flit lock is sought (R325). -/
def State.lockRun (s : State) (p lane : Nat) (ok : Bool) : State :=
  s.updLane p lane fun x => { x with run := if ok then min 16 (x.run + 1) else 0 }

/-- Every lane of a mask has flit lock. -/
def State.flitLocked (s : State) (p mask : Nat) : Bool :=
  mask != 0 && (lanesOf mask).all fun k => (laneOf (s.link p) k).run == 16

/-- LOCK ends with flit lock on every usable lane (R69, R325). -/
def State.lockEnds (s : State) (p : Nat) : State :=
  if s.linkState p == lsLock && s.flitLocked p (s.usable p) then
    let s := (lanesOf (s.usable p)).foldl (fun s k => s.flag LN_LANE_STAT_FLIT_LOCK true (laneKey p k)) s
    (s.set ML_STATUS_STATE lsConfig p).updLink p fun l => { l with lanes := [], ts2Sent := 0, peer := none }
  else s

/-- TS1_RECEIVE (R70, R74, R325, R327). -/
def execTs1Receive (p : Nat) (h : FlitHdr) (lane number : Nat) (s : State) : Res :=
  if !s.isFab p || 8 ≤ lane then .next s
  else
    let d := s.trainCheck p h
    let s := d.2
    let st := s.linkState p
    if !d.1 then .next (s.lockRun p lane false)
    else if st == lsDetect then
      .next ((s.flag LN_LANE_STAT_LOCK true (laneKey p lane)).detectCheck p)
    else if st == lsLock then
      let s := if number == 7 - lane && number != lane then s.updLink p fun l => { l with descending := true } else s
      .next ((s.lockRun p lane true).lockEnds p)
    else if st == lsRetrain then
      let s := s.lockRun p lane true
      let lanes := (s.link p).nextLanes
      if s.flitLocked p lanes then .next (s.enterInit p lanes) else .next s
    else if s.linkListens p then .next ((s.followForced p 0xFF).lockRun p lane true)
    else .next s

/-- TS2_RECEIVE (R71, R18, R510): 8 identical on each lane in use end the exchange. -/
def execTs2Receive (p : Nat) (h : FlitHdr) (lane : Nat) (t : Ts2) (s : State) : Res :=
  if !s.isFab p || 8 ≤ lane then .next s
  else
    let d := s.trainCheck p h
    let s := d.2
    if !d.1 then .next ((s.lockRun p lane false).updLane p lane fun x => { x with ts2Run := 0 })
    else if s.linkState p == lsLock then .next ((s.lockRun p lane true).lockEnds p)
    else if s.linkState p == lsConfig then
      let s := s.updLane p lane fun x =>
        if x.ts2 == some t then { x with ts2Run := x.ts2Run + 1 } else { x with ts2 := some t, ts2Run := 1 }
      .next (s.configCheck p)
    else .next s

/-- RATE_GO_RECEIVE (R71): the follower takes lanes and rate, and changes after its remaining TS2. -/
def execRateGoReceive (p : Nat) (h : FlitHdr) (rate lanes left : Nat) (s : State) : Res :=
  if !s.isFab p then .next s
  else
    let d := s.trainCheck p h
    let s := d.2
    if d.1 && s.linkState p == lsConfig && (s.link p).peer.isSome && !s.on ML_STATUS_LEADER p && rate ≤ 2 &&
        1 ≤ left && left ≤ 64 then
      .next (s.updLink p fun l => { l with nextLanes := lanes % 256, targetRate := rate, rateLeft := left })
    else .next s

/-- A request to the peer's transmitter for a lane. -/
def State.askPreset (s : State) (p lane n : Nat) (final : Bool) : State :=
  let no := (laneOf (s.link p) lane).reqNo + 1
  let s := s.updLane p lane fun x => { x with trying := some n, final := final, reqNo := no % 256 }
  s.updLink p fun l => { l with lctl := l.lctl ++ [.eq lane { op := .presetReq, preset := n, req := no % 256 }] }

/-- The best of the figures measured: the first preset with the largest. -/
def bestFom (xs : List (Nat × Nat)) : Nat × Nat := xs.foldl (fun b x => if b.2 < x.2 then x else b) (xs.headD (0, 0))

/-- EQ_ADAPT_END (R331): the search begins with the first preset. -/
def execEqAdaptEnd (p lane : Nat) (s : State) : Res :=
  match s.expire (.adapt p lane) with
  | some s => if s.linkState p == lsEqualise then .next (s.askPreset p lane 0 false) else .next s
  | none => .next s

/-- EQ_MEASURE_END (R331): the next of the presets of the rate, or at the end the best. -/
def execEqMeasureEnd (p lane fom : Nat) (s : State) : Res :=
  match s.expire (.measure p lane) with
  | none => .next s
  | some s =>
    match (laneOf (s.link p) lane).trying with
    | none => .next s
    | some n =>
      let s := s.updLane p lane fun x => { x with foms := x.foms ++ [(n, fom % 256)] }
      let last := if s.get ML_STATUS_RATE p = 0 then 5 else 7
      if n < last then .next (s.askPreset p lane (n + 1) false)
      else .next (s.askPreset p lane (bestFom (laneOf (s.link p) lane).foms).1 true)

/-- Both ends have sent lane done for every lane: the equalisation has succeeded (R331). -/
def State.eqCheck (s : State) (p : Nat) : State :=
  let l := s.link p
  if s.linkState p == lsEqualise && l.nextLanes != 0 &&
      (lanesOf l.nextLanes).all (fun k => (laneOf l k).sent == some true && (laneOf l k).got == some true) then
    (s.stopLink p).enterInit p l.nextLanes
  else s

/-- The answer to a request (R330). -/
def State.eqAnswer (s : State) (p lane : Nat) (e : EqMsg) : State :=
  s.updLink p fun l => { l with lctl := l.lctl ++ [.eq lane e] }

/-- EQ_FLIT_RECEIVE (R329 to R331). -/
def execEqFlitReceive (p : Nat) (h : FlitHdr) (lane : Nat) (e : EqMsg) (s : State) : Res :=
  if !s.isFab p || 8 ≤ lane then .next s
  else
    let d := s.trainCheck p h
    let s := d.2
    if !d.1 || s.linkState p != lsEqualise then .next s
    else
      let rate := s.get ML_STATUS_RATE p
      let x := laneOf (s.link p) lane
      match e.op with
      | .presetReq =>
        if e.preset ≤ 7 && !(rate == 0 && 6 ≤ e.preset) then
          let c := presetCoefs e.preset
          .next ((s.setCoefs p lane c).eqAnswer p lane { op := .applied, preset := e.preset, coef := c, req := e.req })
        else .next (s.eqAnswer p lane { op := .rejected, req := e.req })
      | .coefReq =>
        if coefsOk e.coef rate then
          .next ((s.setCoefs p lane e.coef).eqAnswer p lane { op := .applied, preset := 0xFF, coef := e.coef, req := e.req })
        else .next (s.eqAnswer p lane { op := .rejected, req := e.req })
      | .applied =>
        if x.trying.isNone || e.req != x.reqNo then .next s
        else if x.final then
          let best := (bestFom x.foms).2
          let ok : Bool := s.get LN_EQ_FOM_MIN ≤ best
          let s := s.set LN_LANE_STAT_FOM best (laneKey p lane)
          let s := s.updLane p lane fun x => { x with trying := none, sent := some ok }
          .next ((s.eqAnswer p lane { op := if ok then .done else .failed, fom := best }).eqCheck p)
        else .next (s.start (.measure p lane) 4000)
      | .rejected =>
        match x.trying with
        | some n => if e.req == x.reqNo && n < 7 then .next (s.askPreset p lane (n + 1) false) else .next s
        | none => .next s
      | .done => .next ((s.updLane p lane fun x => { x with got := some true }).eqCheck p)
      | .failed => .next (s.updLane p lane fun x => { x with got := some false })
      | .reserved _ => .next s

/-- EQUALISE_TIMEOUT (R71, R331): failure at the rate: the next lower one, or DETECT at 32 GT/s. -/
def execEqualiseTimeout (p : Nat) (s : State) : Res :=
  match s.expire (.equalise p) with
  | none => .next s
  | some s =>
    if s.linkState p != lsEqualise then .next s
    else
      let s := s.stopLink p
      let rate := s.get ML_STATUS_RATE p
      if rate = 0 then .next (s.enterDetect p)
      else
        let s := if s.on ML_STATUS_LEADER p then (s.flag ML_ERR_STATUS_EQ_FALLBACK true p).mlReport p 0 8 else s
        .next (s.enterEqualise p (rate - 1))

/-- INIT_RECEIVE (R63, R75): the peer's grants are taken; INIT_DONE goes out once. -/
def execInitReceive (p : Nat) (h : FlitHdr) (adv : PerVc) (depth lanes : Nat) (s : State) : Res :=
  if !s.isFab p then .next s
  else
    let d := s.trainCheck p h
    let s := d.2
    if !d.1 || depth != 1024 then .next s
    else
      let s := if s.linkState p == lsRetrain then s.enterInit p (if s.on ML_STATUS_LEADER p then (s.link p).nextLanes else lanes) else s
      if s.linkState p != lsInit then .next s
      else
        let s := allVcs.foldl (fun s v => s.set ML_CREDIT_STAT_HELD (perVc adv v) (creditKey p v)) s
        let s := if s.on ML_STATUS_LEADER p then s
          else (s.set ML_STATUS_LANES lanes p).set ML_STATUS_WIDTH (widthCode lanes) p
        .next (s.updLink p fun l => { l with peerAdv := adv, initGot := true, doneSent := true
                                             lctl := if l.doneSent then l.lctl else l.lctl ++ [.initDone] })

/-- RETRAIN_REQ_RECEIVE (R74, R76, R77). -/
def execRetrainReqReceive (p : Nat) (h : FlitHdr) (_reason node wanted : Nat) (forced : Bool) (s : State) : Res :=
  if !s.isFab p then .next s
  else if s.linkState p == lsRetrain && (s.link p).req.any (fun r => r.forced) && forced then
    let d := s.rsDecode p h
    let s := d.2
    if !d.1 then .next s
    else if h.seq != (s.link p).c then .next (s.crcFail p)
    else
      let s := s.evtFab p 1
      if node < s.nodeId then
        .next ((s.flag ML_STATUS_LEADER false p).updLink p fun l => { l with nextLanes := bestSet (s.wanted p &&& wanted) 0 })
      else .next s
  else
    let v := s.rxCheck p h false
    let s := v.2
    if v.1 != .pass then .next s
    else
      let s := if h.crCount != 0 then s.protoErr p else s
      let s := s.ackProcess p h.ack
      if forced then .next (s.followForced p wanted)
      else
        let lanes := bestSet (s.wanted p &&& wanted) 0
        let ack (s : State) : State := s.updLink p fun l => { l with lctl := l.lctl ++ [.retrainAck s.nodeId (s.wanted p)] }
        match (s.link p).req with
        | some _ => if node < s.nodeId then .next ((ack s).enterLeaving p lanes false) else .next s
        | none =>
          if s.linkState p == lsActive then .next ((ack s).enterLeaving p lanes false)
          else if s.linkState p == lsLeaving || s.linkState p == lsQuiesce then .next (ack s)
          else .next s

/-- RETRAIN_ACK_RECEIVE (R73, R76): the leader goes on with the lanes common to both. -/
def execRetrainAckReceive (p : Nat) (h : FlitHdr) (_node wanted : Nat) (s : State) : Res :=
  if !s.isFab p then .next s
  else
    let v := s.rxCheck p h false
    let s := v.2
    if v.1 != .pass then .next s
    else
      let s := if h.crCount != 0 then s.protoErr p else s
      let s := s.ackProcess p h.ack
      match (s.link p).req with
      | some r =>
        if !r.forced && s.linkState p == lsActive then .next (s.enterLeaving p (bestSet (s.wanted p &&& wanted) 0) true) else .next s
      | none => .next s

/-- QUIESCE_DONE_RECEIVE (R73 step 5). -/
def execQuiesceDoneReceive (p : Nat) (h : FlitHdr) (s : State) : Res :=
  if !s.isFab p then .next s
  else
    let v := s.rxCheck p h false
    let s := v.2
    if v.1 != .pass then .next s
    else
      let s := if h.crCount != 0 then s.protoErr p else s
      let s := s.ackProcess p h.ack
      .next ((s.updLink p fun l => { l with quiesceGot := true }).quiesced p)

/-- PLANNED_RETRAIN_PROCEED (R73 step 1): the other plane has no segment down any more. -/
def execPlannedRetrainProceed (p : Nat) (s : State) : Res :=
  match (s.link p).sched with
  | some r =>
    if s.linkState p == lsActive && !s.segmentDown (Plane.other (portPlane p)) then .next (s.sendReq p r) else .next s
  | none => .next s

/-- RETRAIN_REQ_REPEAT (R73 step 2, R74): every 0.2 µs until the answer; a forced one three times in all. -/
def execRetrainReqRepeat (p : Nat) (s : State) : Res :=
  match s.expire (.req p) with
  | none => .next s
  | some s =>
    match (s.link p).req with
    | none => .next s
    | some r =>
      let again (s : State) : State :=
        s.updLink p fun l => { l with lctl := l.lctl ++ [.retrainReq r.reason s.nodeId r.wanted r.forced] }
      if r.forced then
        let n := (s.link p).reqLeft
        if n = 0 then .next s
        else
          let s := (again s).updLink p fun l => { l with reqLeft := n - 1 }
          .next (if n = 1 then s else s.start (.req p) 200)
      else .next ((again s).start (.req p) 200)

/-- RT_MOVE_EXPIRY (R73 step 4): QUIESCE. -/
def execRtMoveExpiry (p : Nat) (s : State) : Res :=
  match s.expire (.rtMove p) with
  | none => .next s
  | some s =>
    if s.linkState p == lsLeaving then .next (((s.set ML_STATUS_STATE lsQuiesce p).start (.quiesce p) 2000).checkQuiesce p)
    else .next s

/-- QUIESCE_TIMEOUT (R73 step 5): 2 µs after QUIESCE began. -/
def execQuiesceTimeout (p : Nat) (s : State) : Res :=
  match s.expire (.quiesce p) with
  | none => .next s
  | some s =>
    if s.linkState p == lsQuiesce then .next (s.enterRetrain p (s.link p).nextLanes (s.on ML_STATUS_LEADER p)) else .next s

/-- RETRAIN_TIMEOUT (R75): RETRAIN is repeated once; a second failure declares link-down and goes to DETECT. -/
def execRetrainTimeout (p : Nat) (s : State) : Res :=
  match s.expire (.retrain p) with
  | none => .next s
  | some s =>
    let st := s.linkState p
    if !(st == lsRetrain || st == lsInit) then .next s
    else if !(s.link p).repeated then
      let s := (s.set ML_STATUS_STATE lsRetrain p).updLink p fun l => { l with repeated := true, lanes := [], lctl := [] }
      .next (s.start (.retrain p) 10000)
    else
      let s := s.linkDown p false false
      if s.isHeld p then .next s else .next (s.enterDetect p)

/-- LOCKLOSS_EXPIRY (R18, R79, R80, R510): lock lost on an active lane for t_LOCKLOSS declares link-down; a port held for its
role goes back to DETECT once every lane is lost. -/
def execLocklossExpiry (p : Nat) (s : State) : Res :=
  match s.expire (.lockLoss p) with
  | none => .next s
  | some s =>
    if s.isHeld p then
      if s.on ML_ERR_STATUS_FLAP_HOLD p then .next s else .next (s.enterDetect p)
    else if !(s.link p).up then .next s
    else
      let s := (s.linkDown p false false).settleHolds
      if s.isHeld p then .next s
      else
        let w := s.wantedOf p (s.lockedLanes p)
        if s.on ML_STATUS_EQ_STORED p && w != 0 then .next (s.enterRetrain p w true) else .next (s.enterDetect p)

/-- FLAP_HOLD_CLEAR (R78): the port leaves HELD and trains. -/
def execFlapHoldClear (p : Nat) (s : State) : Res :=
  if s.on ML_ERR_STATUS_FLAP_HOLD p then
    let s := s.flag ML_ERR_STATUS_FLAP_HOLD false p
    if s.isHeld p then .next (s.enterDetect p) else .next s
  else .next s

/-- WIDTH_REQ (R79, R81): a width narrower than the present one starts a planned retrain. -/
def execWidthReq (p v : Nat) (s : State) : Res :=
  if !s.isFab p then .next s
  else
    let s := s.write ML_CTRL_WIDTH_REQ v p
    let w := s.get ML_CTRL_WIDTH_REQ p
    if s.linkState p == lsActive && s.get ML_STATUS_WIDTH p < w then .next (s.schedule p rrWidth) else .next s

/-- ML_RETRAIN (R73): a planned retrain on firmware's request. -/
def execMlRetrain (p : Nat) (s : State) : Res :=
  if s.isFab p then .next (s.schedule p rrFirmware) else .next s

/-- FORCE_DOWN (R80, R81): link-down, and DOWN while the bit is set; cleared, the port trains. -/
def execForceDown (p : Nat) (b : Bool) (s : State) : Res :=
  if !s.isFab p then .next s
  else
    let s := s.flag ML_CTRL_FORCE_DOWN b p
    if b then
      let s := s.linkDown p true false
      .next (((s.stopLink p).stop (.lockLoss p)).set ML_STATUS_STATE lsDown p)
    else if s.linkState p == lsDown then .next (s.enterDetect p)
    else .next s

/-- ML_ENABLE (R69, R80, R81, R137, R338): the port takes its link reserve and trains, or stops and returns it. -/
def execMlEnable (p : Nat) (b : Bool) (s : State) : Res :=
  if !s.isFab p || b == s.on ML_CTRL_ENABLE p then .next s
  else if b then
    let s := ((s.flag ML_CTRL_ENABLE true p).endTests p).takeReserve p (advSum (s.advOf p))
    .next (s.pllCheck.enterDetect p)
  else
    let s := s.linkDown p true false
    let s := ((s.stopLink p).stop (.lockLoss p)).set ML_STATUS_STATE lsDown p
    .next ((s.flag ML_CTRL_ENABLE false p).giveReserve p).pllCheck

/-- SELF_FACING_RELEASE (R510): 10 ms after the hold the port is in DETECT again. -/
def execSelfFacingRelease (p : Nat) (s : State) : Res :=
  match s.expire (.selfFacing p) with
  | none => .next s
  | some s => if s.isHeld p && (s.link p).selfFacing then .next (s.enterDetect p) else .next s

end Sys2Proof.Machine
end

