-- ==== Sys2Proof/Machine/Pcie.lean ====
section
/-! DEFINITION. The commands of the PCI Express ports (10): links, what hosts and owners do to the virtual hierarchy, link power,
margining, SPDM, lane groups. -/

namespace Sys2Proof.Machine

/-- A local slot with a partition, and one of its vDSPs. -/
def State.slotUsed (s : State) (k : Nat) : Bool := k < 16 && s.on PART_CTRL_VALID k
def isVdsp (n : Nat) : Bool := 1 ≤ n && n ≤ 31

/-! ## Ports and links -/

/-- PX_PORT_ENABLE (R137, R278). -/
def execPxPortEnable (p : Nat) (on : Bool) (s : State) : Res :=
  if 48 ≤ p then .next s else .next (if on then s.portOn p else s.portOff p)

/-- RESERVE_COMPLETE (R137). -/
def execReserveComplete (p : Nat) (s : State) : Res := .next ((s.collect.establish).initDone p)

/-- A width code of PX_PORT_STAT_p that fits a port formed `w` lanes wide. -/
def widthFits (code w : Nat) : Bool := 1 ≤ code && code ≤ 5 && 2 ^ (code - 1) ≤ w

/-- PCIE_LINK_UP (R84, R279): the link has trained in the port's role at a rate, width and mode that both ends support; it reaches
DL_Active once the port's reserves are whole. -/
def execPcieLinkUp (p rate width : Nat) (flit : Bool) (partner : List (Option Nat)) (s : State) : Res :=
  let ok : Bool := p < 48 && s.mayTrainPx p && !s.dlActive p && !(s.px p).waiting && widthFits width (s.formedWidth p) &&
    rate ≤ s.get PX_PORT_CFG_RATE_CAP p && (!flit || s.on PX_PORT_CFG_FLIT_EN p) && (flit || rate ≤ 4)
  if !ok then .next s
  else
    let s := ((s.set PX_PORT_STAT_RATE rate p).set PX_PORT_STAT_WIDTH width p).flag PX_PORT_STAT_FLIT flit p
    let s := s.updPx p fun x => { x with partner := partner, full := width }
    .next ((s.initFc p).settle)

/-- PCIE_LINK_DOWN (R105, R300): a surprise is logged and reported. -/
def execPcieLinkDown (p : Nat) (surprise : Bool) (s : State) : Res :=
  if 48 ≤ p || !(s.dlActive p || (s.px p).waiting) then .next s
  else
    let s := if surprise && s.dlActive p
      then (s.linkAer p aerSurprise).reportPort (s.pxUnit p) 2 p (0x3000 + aerSurprise)
      else s
    .next (((s.pcieDown p).trainPort p).settle)

/-- HOT_RESET_RECEIVE (R105): on the upstream link; the link goes down with it and trains again. -/
def execHotResetReceive (p : Nat) (s : State) : Res :=
  if s.role p != roleUp || !s.dlActive p then .next s else .next (((s.pcieDown p).trainPort p).settle)

/-! ## What hosts do to the virtual hierarchy -/

/-- VDSP_SECONDARY_BUS_WRITE (R95): VIRT_BUS stands at the function's node before the write completes. -/
def execVdspSecondaryBusWrite (k n v reqId tag : Nat) (s : State) : Res :=
  .next (if s.slotUsed k && isVdsp n then (s.cfgWrite k n cfgBus v reqId tag).settle else s)

/-- VIRTUAL_BAR_WRITE (R116). The completion carries the ID of the function. -/
def execVirtualBarWrite (k n off v reqId tag : Nat) (s : State) : Res :=
  if !(s.slotUsed k && isVdsp n && behindOff off) then .next s
  else
    let id := s.cfg k n cfgBus / 256 % 256 * 256
    .next ((s.behindWrite k n off v (.cfg (s.get PART_CTRL_PART_ID k) reqId tag id)).settle)

/-- BRIDGE_RANGE_WRITE (R117). -/
def execBridgeRangeWrite (k n off v reqId tag : Nat) (s : State) : Res :=
  .next (if s.slotUsed k && isVdsp n && 0x20 ≤ off && off ≤ 0x2C then (s.cfgWrite k n off v reqId tag).settle else s)

/-- HOST_FLR (R104): the configuration write that starts it has been forwarded to a function-bound function. -/
def execHostFlr (i : Nat) (s : State) : Res :=
  if !s.liveInst i || s.on PART_FN_A_BIND i then .next s
  else .next (((s.flrAdvance i).emit (.flr (s.get PART_FN_A_PORT i) (s.get PART_FN_A_PHYS_RID i))).settle)

/-- SECONDARY_BUS_RESET (R289). -/
def execSecondaryBusReset (k n : Nat) (s : State) : Res :=
  .next (if s.slotUsed k && isVdsp n then ((s.cfgSet k n 0x3C 22 true).askPort k n opSbr 0).settle else s)

/-- LINK_DISABLE (R289): of a port-bound vDSP; it has no effect on another. -/
def execLinkDisable (k n : Nat) (on : Bool) (s : State) : Res :=
  .next (if s.slotUsed k && isVdsp n then ((s.cfgSet k n cfgLinkCtl 4 on).askPort k n opDisable (if on then 1 else 0)).settle else s)

/-- RETRAIN_LINK_BIT (R289). -/
def execRetrainLinkBit (k n : Nat) (s : State) : Res :=
  .next (if s.slotUsed k && isVdsp n then (s.askPort k n opRetrain 0).settle else s)

/-- POWER_CONTROLLER_CONTROL (R296). -/
def execPowerControllerControl (k n : Nat) (off : Bool) (s : State) : Res :=
  .next (if s.slotUsed k && isVdsp n then (s.pccWrite k n off).settle else s)

/-- DPC_TRIGGER_STATUS_CLEAR (R298, R299). -/
def execDpcTriggerStatusClear (k n : Nat) (s : State) : Res :=
  .next (if s.slotUsed k && isVdsp n then (s.dpcClear k n).settle else s)

/-- DPC_SOFTWARE_TRIGGER (R298, R299). -/
def execDpcSoftwareTrigger (k n : Nat) (s : State) : Res :=
  .next (if s.slotUsed k && isVdsp n then (s.dpcSoft k n).settle else s)

/-- MANAGEMENT_ENDPOINT_FLR (R291). -/
def execManagementEndpointFlr (k : Nat) (s : State) : Res := .next (if s.slotUsed k then (s.epFlr k).settle else s)

/-- MEMORY_SPACE_ENABLE (R291): the write completes when every node has the map. -/
def execMemorySpaceEnable (k : Nat) (on : Bool) (reqId tag : Nat) (s : State) : Res :=
  .next (if s.slotUsed k then (s.epMse k on (s.cfgAck k fnMgmt reqId tag)).settle else s)

/-- BUS_MASTER_ENABLE (R291). -/
def execBusMasterEnable (k : Nat) (on : Bool) (s : State) : Res := .next (if s.slotUsed k then s.epBme k on else s)

/-! ## Messages of power management (R285) -/

/-- A broadcast message of a host goes to each port-bound port of its partition, wherever it is. -/
def State.broadcast (s : State) (k : Nat) (t : Tlp) : State :=
  let part := s.get PART_CTRL_PART_ID k
  (List.range 32).foldl (init := s) fun s n =>
    match s.bind k n with
    | some b =>
      if b.kind != 2 then s
      else (s.raiseRec (s.recFor part { node := b.node, port := b.port, inst := some b.inst } .p 0 false t) none 0 none none 0).2
    | none => s

/-- A PME_Turn_Off of a slot's host goes to its port-bound ports, whose answers, or 10 ms, end it. -/
def State.pmeTurnOff (s : State) (k : Nat) : State :=
  let ns := (List.range 32).filter fun n => (s.bind k n).any fun b => b.kind == 2
  let s := s.broadcast k { kind := .msg, msgCode := 0x19, msgRoute := 3, hdrBytes := 16 }
  if ns.isEmpty then s.pmeAnswer k
  else { s with pcie.pme := Tab.put none s.pcie.pme k (some ns) }.start (.pme k) 10000000

/-- PME_TURN_OFF_RECEIVE (R285). -/
def execPmeTurnOffReceive (p : Nat) (s : State) : Res :=
  match s.slotOfPort p with
  | none => .next s
  | some k => .next (if s.role p != roleUp || !s.dlActive p then s else s.pmeTurnOff k)

/-- PME_TO_ACK_TIMEOUT (R285). -/
def execPmeToAckTimeout (k : Nat) (s : State) : Res :=
  match s.expire (.pme k) with
  | none => .next s
  | some s => .next ({ s with pcie.pme := Tab.put none s.pcie.pme k none }.pmeAnswer k)

/-! ## Link power (R292) -/

/-- Nothing is queued or in flight on a port. -/
def State.pxIdle (s : State) (p : Nat) : Bool :=
  (s.px p).sending.isNone && !(s.sc.acksDue.any fun a => a.port == p) &&
    !(s.sc.pkts.any fun k => (k.egress == p && !k.gone) || (k.inPort == some p && !k.complete))

/-- L1_IDLE_EXPIRY (R292). -/
def execL1IdleExpiry (p : Nat) (s : State) : Res :=
  let x := s.px p
  if s.dlActive p && x.l1Enabled && !s.on PX_PWR_NO_LP p && s.get PX_PORT_STAT_PM p == 0 && s.pxIdle p then
    let s := { s with now := max s.now (x.lastTlp + s.get PX_PWR_L1_IDLE p * 1000) }
    .next (((s.set PX_PORT_STAT_PM 1 p).evtPort p 13).emit (.enterL1 p))
  else .next s

/-- L0P_NARROW (R292): both directions have stayed below L0P_LOW for 100 µs. A minimum wider than the port is its full width. -/
def execL0pNarrow (p : Nat) (s : State) : Res :=
  let w := s.get PX_PWR_L0P_MIN p + 2
  if s.dlActive p && 8 ≤ s.formedWidth p && s.on PX_PORT_STAT_FLIT p && s.on PX_PWR_L0P_AUTO p && !s.on PX_PWR_NO_LP p &&
      w < s.get PX_PORT_STAT_WIDTH p then
    .next ((((s.set PX_PORT_STAT_WIDTH w p).set PX_PORT_STAT_L0P 1 p).bwChanged p).evtPort p 14 |>.emit (.l0p p (2 ^ (w - 1))))
  else .next s

/-- L0P_WIDEN (R292): one direction has exceeded 50 % over 10 µs, or more than 16 KiB is queued. -/
def execL0pWiden (p : Nat) (s : State) : Res :=
  if s.dlActive p && s.on PX_PORT_STAT_L0P p then
    let w := (s.px p).full
    .next ((((s.set PX_PORT_STAT_WIDTH w p).set PX_PORT_STAT_L0P 0 p).bwChanged p).evtPort p 14 |>.emit (.l0p p (2 ^ (w - 1))))
  else .next s

/-! ## Margining (R293) -/

/-- What the switch's receivers report of themselves (Table 10.9), by the payload that asks (PRESUMED: the codes of the Base
Specification): the sample count, which the table does not give, is none. -/
def marginReport (width payload : Nat) : Option Nat :=
  match payload with
  | 0x88 => some 0x1F
  | 0x89 => some 64
  | 0x8A => some 32
  | 0x8B => some 40
  | 0x8C => some 30
  | 0x8D => some 63
  | 0x8E => some 63
  | 0x90 => some (width - 1)
  | _ => none

/-- The answer of one of the switch's receivers: a report, the settings, or a step, at which the errors counted are a free value. -/
def State.marginAnswer (s : State) (p lane command payload : Nat) : Nat × State :=
  let limit := Tab.get 4 (s.px p).marginLimit lane
  let w := laneCount (s.get PX_PORT_STAT_WIDTH p)
  if command = 1 then
    match marginReport w payload with
    | some v => (v, s)
    | none => let f := s.fresh; (f.1 % 256, f.2)
  else if command = 2 then
    if 0xC0 ≤ payload then (payload, s.updPx p fun x => { x with marginLimit := Tab.put 4 x.marginLimit lane (payload % 64) })
    else (payload, s)
  else if command = 3 || command = 4 then
    let steps := if command = 3 then payload % 64 else payload % 128
    if (if command = 3 then 32 else 64) < steps then (0xC0, s)
    else
      let f := s.fresh
      let e := f.1 % 64
      (if limit ≤ e then e else 0x80 + e, f.2)
  else (payload, s)

/-- MARGIN_COMMAND (R293): receiver 1 of a downstream link and receiver 6 of an upstream one are the switch's (PRESUMED: the
numbers of the Base Specification); a command to another is carried on the link. -/
def execMarginCommand (p lane receiver command payload : Nat) (s : State) : Res :=
  if !(p < 48 && s.dlActive p && lane < laneCount (s.get PX_PORT_STAT_WIDTH p)) then .next s
  else if receiver = (if s.role p = roleUp then 6 else 1) then
    let a := s.marginAnswer p lane command payload
    .next (a.2.emit (.marginAnswer p lane a.1))
  else .next (s.emit (.marginCarry p lane receiver command payload))

/-! ## SPDM (R301) -/

/-- Response code of a request, the state of the negotiation it needs and the one it leaves (PRESUMED: the codes and the order of
SPDM 1.2). -/
def spdmRsp : Nat → Option (Nat × Nat × Option Nat)
  | 0x84 => some (0x04, 0, some 1)
  | 0xE1 => some (0x61, 1, some 2)
  | 0xE3 => some (0x63, 2, some 3)
  | 0x81 => some (0x01, 3, none)
  | 0x82 => some (0x02, 3, none)
  | 0x83 => some (0x03, 3, none)
  | 0xE0 => some (0x60, 3, none)
  | _ => none

/-- SPDM_REQUEST (R301): Busy during an activation; a request out of order or not supported is answered ERROR. Measurements
name the running image. -/
def execSpdmRequest (k code : Nat) (s : State) : Res :=
  if !s.slotUsed k then .next s
  else
    let part := s.get PART_CTRL_PART_ID k
    let st := Tab.get 0 s.pcie.spdm k
    let error (n : Nat) : Res := .next (s.emit (.doe part 0x7F [n]))
    if s.img.act.isSome then error 3
    else match spdmRsp code with
      | none => error 7
      | some (r, need, next) =>
        if st < need then error 4
        else
          let s := match next with
            | some n => { s with pcie.spdm := Tab.put 0 s.pcie.spdm k n }
            | none => s
          let c := if code = 0xE0 then [s.img.slot, s.img.hdr.version]
            else if code = 0x81 || code = 0x82 then (if s.ownerChain.isEmpty then [0] else [0, 1]) else []
          .next (s.emit (.doe part r c))

/-! ## Lane groups (R275 to R277, R286) -/

/-- No port formed in a group is enabled. -/
def State.groupIdle (s : State) (g : Nat) : Bool := (s.formedOf g).all fun x => !s.portEnabled x.1

/-- Every formed port of the node has a number of its own. -/
def State.numbersOk (s : State) : Bool := !hasDup (s.formed.map fun x => x.1)

/-- PX_BIF_WRITE (R275, R276, R277). -/
def execPxBifWrite (g v : Nat) (s : State) : Res :=
  if 9 ≤ g || !s.groupIdle g then .next s
  else
    let s := if v.testBit 6 then s.set PX_BIF_ERR 0 g else s
    let h0 := v % 8
    let h1 := if g = 8 then 0 else v / 8 % 8
    let s' := (s.set PX_BIF_H0 h0 g).set PX_BIF_H1 h1 g
    if bifOk g h0 h1 && s'.numbersOk then .next s'.pllCheck else .next (s.set PX_BIF_ERR 1 g)

/-- PX_PMAP_WRITE (R276, R277). -/
def execPxPmapWrite (g v : Nat) (s : State) : Res :=
  if 8 ≤ g || !s.groupIdle g then .next s
  else
    let s' := (List.range 5).foldl (fun s j => s.write (pmapFld j) (v / 64 ^ j) g) s
    if s'.numbersOk then .next s'.pllCheck else .next (s.set PX_BIF_ERR 1 g)

/-- PX_DUAL_WRITE (R286): each bit whose port is disabled in both modes. A plane that loses a fabric port does not join. -/
def execPxDualWrite (v : Nat) (s : State) : Res :=
  let s := (List.range 4).foldl (init := s) fun s n =>
    if s.portEnabled (44 + n) then s
    else s.set PX_DUAL_FABRIC (setBit (s.get PX_DUAL_FABRIC) n (v.testBit n))
  let lost (s : State) (pl : Plane) : Bool := !(s.fabricMode (fabPort pl .east) && s.fabricMode (fabPort pl .west))
  let s := if lost s .a then s.enableCleared .a else s
  let s := if lost s .b then s.enableCleared .b else s
  .next s.pllCheck

end Sys2Proof.Machine
end

