-- ==== Sys2Proof/Machine/Ring.lean ====
section
/-! DEFINITION. The commands of the ring router (01). -/

namespace Sys2Proof.Machine

/-- Take a message that a link has accepted, if it stands there. -/
def State.takeMsg (s : State) (p : Nat) (m : MgMsg) : Option State :=
  if s.inbox.contains (.mg p m) then some { s with inbox := s.inbox.erase (.mg p m) } else none

/-- The discovery message ends at its originator (R21). -/
def State.discEnds (s : State) (pl : Plane) (m : DiscMsg) : State :=
  match s.discOf pl with
  | some d =>
    if d.run != m.run then s
    else
      let x := some (m.recs, m.turned)
      let d := match m.launch with | .east => { d with east := x } | .west => { d with west := x }
      let s := s.setDisc pl (some d)
      if d.east.isSome && d.west.isSome then s.completeRun pl d else s
  | none => s

/-- DISCOVERY_MESSAGE_RECEIVE (R21): ended at its originator, turned back at a down segment, or forwarded with this node's
record; a foreign message of 16 records is discarded with the discovery event. -/
def execDiscoveryMessageReceive (p : Nat) (m : DiscMsg) (s : State) : Res :=
  match s.takeMsg p (.disc m) with
  | none => .next s
  | some s =>
    let pl := portPlane p
    let fwd := portOpp p
    if m.origin == s.nodeId && 1 ≤ m.run && m.run ≤ s.runOf pl then .next (s.discEnds pl m)
    else
      let s := { s with ring.runsSeen := Tab.put 0 s.ring.runsSeen (Plane.code pl * 16 + m.origin) m.run }
      if m.turned then .next (s.sendMsg fwd (.disc m))
      else if 16 ≤ m.recs.length then .next (s.discEvent pl)
      else
        let m := { m with recs := m.recs ++ [s.ownRec pl] }
        if s.linkCarries fwd then .next (s.sendMsg fwd (.disc m))
        else .next (s.sendMsg p (.disc { m with turned := true }))

/-- DISCOVERY_TIMEOUT (R21): the run in progress completes with what has arrived. A plane whose ports still train stays
Joining (Table 01.3). -/
def execDiscoveryTimeout (pl : Plane) (s : State) : Res :=
  match s.expire (.disc pl), s.discOf pl with
  | some s, some d => .next (s.completeRun pl d)
  | _, _ => .next s

/-- A message for the segment's state is newer than the one held from its reporter (R30). -/
def State.newer (s : State) (m : LsMsg) : Bool :=
  match s.ring.seen.find? fun x => x.plane == m.plane && x.segment == m.segment && x.reporter == m.reporter with
  | some x => later m.epoch x.epoch
  | none => true

/-- LINK_STATE_MESSAGE_RECEIVE (R30, R31): forwarded once on the port opposite, applied by highest epoch; the groups follow,
and a discovery run starts (R21). -/
def execLinkStateMessageReceive (p : Nat) (m : LsMsg) (s : State) : Res :=
  match s.takeMsg p (.linkState m) with
  | none => .next s
  | some s =>
    match m.state with
    | none => .next s
    | some st =>
      if !s.newer m || m.reporter == s.nodeId then .next s
      else
        let s := s.keepSeen { plane := m.plane, segment := m.segment, reporter := m.reporter, epoch := m.epoch, state := st }
        let s := s.sendMsg (portOpp p) (.linkState m)
        let s := if st == .down then s.noteDown m.plane else s
        let before := s.others.filter fun n => (s.choosePath 0 n).isSome
        let s := ((s.refreshPlane m.plane).checkGroups).startRun m.plane
        let back := s.others.filter fun n => (s.choosePath 0 n).isSome && !before.contains n
        .next ((s.meet back).checkFm).elect

/-- RETURN_CLEAN_EXPIRY (R33, R34): the drain of the group starts, unless another drain runs or one started less than 10 µs
ago; it then waits for its turn. -/
def execReturnCleanExpiry (part dst : Nat) (s : State) : Res :=
  let g := grpKey part dst
  match s.expire (.returnClean g) with
  | none => .next s
  | some s =>
    let x := s.grp g
    let h := s.homePath part dst
    if x.unreachable || (x.plane == h.1 && x.dir == h.2) || !s.on RING_CTRL_RETURN_EN || !s.pathUp dst h.1 h.2 then .next s
    else if (s.ring.groups.any fun y => y.2.draining) then .next (s.start (.returnClean g) 10000)
    else
      match s.ring.lastDrain with
      | some t =>
        if s.now < t + 10000 then .next (s.start (.returnClean g) (t + 10000 - s.now))
        else .next ({ s.setGrp g { x with draining := true } with ring.lastDrain := some s.now }.start (.drain g) s.rtxNs)
      | none => .next ({ s.setGrp g { x with draining := true } with ring.lastDrain := some s.now }.start (.drain g) s.rtxNs)

/-- Every sent entry of a group is covered by HELD (R33 step 2). -/
def State.groupDrained (s : State) (g : Nat) : Bool :=
  s.jnl.entries.all fun e => entryGrp e != g || !e.sent || !s.beyondHeld e

/-- RETURN_DRAIN_COMPLETE (R33 step 3): the group moves to its home path, and the entries held back follow in order. -/
def execReturnDrainComplete (part dst : Nat) (s : State) : Res :=
  let g := grpKey part dst
  let x := s.grp g
  if x.draining && s.groupDrained g then
    let h := s.homePath part dst
    if s.pathUp dst h.1 h.2 then
      let s := (s.setGrp g { x with plane := h.1, dir := h.2, draining := false }).stop (.drain g)
      .next ((s.lineUp g (fabPort h.1 h.2) (fun e => !e.sent) false).grpTimers g false)
    else .next ((s.setGrp g { x with draining := false }).stop (.drain g))
  else .next s

/-- RETURN_DRAIN_ABORT (R33): the return is abandoned and counted, and tried again after a further RETURN_CLEAN. -/
def execReturnDrainAbort (part dst : Nat) (s : State) : Res :=
  let g := grpKey part dst
  match s.expire (.drain g) with
  | none => .next s
  | some s =>
    let s := s.setGrp g { s.grp g with draining := false }
    let s := { s with ring.abortedReturns := s.ring.abortedReturns + 1 }
    .next (s.start (.returnClean g) (s.get RING_TIMERS_RETURN_CLEAN * 1000000))

/-- JOIN (R41): a write of RING_CTRL.JOIN. -/
def execJoin (s : State) : Res := .next s.startJoin

/-- JOIN_HOLD_RAISE (R41 steps 2 and 5): its wait over, the pin rises; a condition of R36 that no longer holds abandons the
join. -/
def execJoinHoldRaise (pl : Plane) (s : State) : Res :=
  match s.ring.join with
  | none => .next s
  | some j =>
    if j.step == .waitOther && j.plane == pl then
      if !s.holdAllowed pl then .next s.endJoin
      else if s.quiet (Plane.other pl) then .next (s.raiseHold pl j.thenB) else .next s
    else if j.step == .clean && j.plane == .a && j.thenB && pl == .b then
      match s.expire .joinClean with
      | none => .next s
      | some s' =>
        if !s'.quiet .a then .next s
        else if !s'.holdAllowed .b then .next s'.endJoin
        else .next (s'.raiseHold .b false)
    else .next s

/-- LEAVE_A (R42). -/
def execLeaveA (s : State) : Res := .next (s.startLeave .a)

/-- LEAVE_B (R42). -/
def execLeaveB (s : State) : Res := .next (s.startLeave .b)

/-- LEAVE_WAIT_EXPIRY (R42 step 3): the pin of the plane falls. During a sleep entry plane B follows plane A by 10 µs. -/
def execLeaveWaitExpiry (pl : Plane) (s : State) : Res :=
  match s.expire (.leaveWait pl) with
  | none => .next s
  | some s =>
    let s := match pl with
      | .a => { s with ring.leavingA := false }
      | .b => { s with ring.leavingB := false }
    let s := s.dropHold pl
    .next (if pl == .a && s.ring.sleepLeave then s.start .sleepPlaneB 10000 else s.sleepOn)

/-- SLEEP_PLANE_B_LEAVE (R42): the leave of plane B starts. -/
def execSleepPlaneBLeave (s : State) : Res :=
  match s.expire .sleepPlaneB with
  | none => .next s
  | some s => .next ({ s with ring.sleepLeave := false }.startLeave .b).sleepOn

end Sys2Proof.Machine
end

