-- ==== Sys2Proof/Machine/LinkCommands.lean ====
section
/-! DEFINITION. The commands of OMI group 0x0E and Set Managed ASPM (R426, R428), and the commands that wait for a state of the
node. -/

namespace Sys2Proof.Machine

/-- Command `id` waits. -/
def State.await (s : State) (id : Nat) (w : CmdWait) : State := { s with mb.waits := s.mb.waits ++ [(id, w)] }

/-- A lane can be margined: the port is in ACTIVE or L0 and carries the lane (R336). -/
def State.marginable (s : State) (p lane : Nat) : Bool :=
  if s.fabricMode p then s.linkState p == lsActive && bit (s.get ML_STATUS_LANES p) lane
  else s.dlActive p && lane < laneCount (s.get PX_PORT_STAT_WIDTH p)

/-- The outcome a wait has come to, if it has. The errors and the bits sampled in a dwell are free values. -/
def State.waitOver (s : State) : CmdWait → Option OmiRsp × State
  | .join =>
    if s.on RING_CTRL_JOIN then (none, s)
    else (some (rsp (if s.planeOpen .a && s.planeOpen .b then stSuccess else stFailed)), s)
  | .leave m =>
    if (bit m 0 && s.on (fHold .a)) || (bit m 1 && s.on (fHold .b)) then (none, s) else (some ok, s)
  | .margin p lane t =>
    if !s.marginable p lane then (some (rsp stState), s)
    else if s.now < t then (none, s)
    else
      let e := s.fresh
      let n := e.2.fresh
      let limit := Tab.get 4 (s.px p).marginLimit lane
      (some (ok (le 4 e.1 ++ le 4 n.1 ++ [if limit ≤ e.1 % 2 ^ 32 then 1 else 0])), n.2)

/-- Commands whose waits are over end. -/
def State.pollWaits (s : State) : State :=
  s.mb.waits.foldl (init := s) fun s x =>
    match s.waitOver x.2 with
    | (some r, s) => ({ s with mb.waits := s.mb.waits.erase x }).finish x.1 r
    | (none, _) => s

/-- JOIN_FABRIC (R41, R428): STATE while a fabric port is in PCI Express mode. -/
def execJoinFabric (k : Nat) (s : State) : Res :=
  .next (s.omi k 0x0E02 false (nodeArg 0) fun s r =>
    if 15 < r.arg 0 1 then s.says stParameter
    else if s.get PX_DUAL_FABRIC != 15 then s.says stState
    else (s.startJoin.await r.id .join, none))

/-- LEAVE_PLANE (R42, R428). -/
def execLeavePlane (k : Nat) (s : State) : Res :=
  .next (s.omi k 0x0E03 false (nodeArg 0) fun s r =>
    let m := r.arg 1 1
    if 15 < r.arg 0 1 || m = 0 || 3 < m then s.says stParameter
    else
      let s := if bit m 0 then s.startLeave .a else s
      let s := if bit m 1 then s.startLeave .b else s
      (s.await r.id (.leave m), none))

/-- RETRAIN_LINK (R73, R428): a planned retrain on firmware's request, or Retrain Link of a PCI Express port. -/
def execRetrainLink (k : Nat) (s : State) : Res :=
  .next (s.omi k 0x0E04 false (nodeArg 0) fun s r =>
    let p := r.arg 1 1
    if 15 < r.arg 0 1 || 47 < p then s.says stParameter
    else if s.fabricMode p then
      if s.linkState p == lsActive then (s.schedule p rrFirmware, some ok) else s.says stState
    else if s.dlActive p then (((s.bump PX_CNT_RECOV_COUNT p).evtPort p 12).emit (.retrain p), some ok)
    else s.says stState)

/-- MARGIN_LANE (R336, R428): one step for a dwell. -/
def execMarginLane (k : Nat) (s : State) : Res :=
  .next (s.omi k 0x0E05 false (nodeArg 0) fun s r =>
    let p := r.arg 1 1
    let lane := r.arg 2 1
    let kind := r.arg 3 1
    let dwell := r.arg 5 1
    if 15 < r.arg 0 1 || 47 < p || kind = 0 || 4 < kind || (if kind ≤ 2 then 32 else 64) < r.arg 4 1 || dwell = 0 || 8 < dwell ||
        r.arg 6 2 != 0 then s.says stParameter
    else if !s.marginable p lane then s.says stState
    else (s.await r.id (.margin p lane (s.now + dwell * 1000000)), none))

/-- SET_MANAGED_ASPM (R292, R426). -/
def execSetManagedAspm (k : Nat) (s : State) : Res :=
  .next (s.omi k 0x0C03 false (nodeArg 0) fun s r =>
    let p := r.arg 1 1
    if 15 < r.arg 0 1 || 47 < p || 1 < r.arg 2 1 then s.says stParameter
    else if s.role p != roleManaged then s.says stState
    else (s.updPx p fun x => { x with l1Enabled := r.arg 2 1 == 1 }, some ok))

end Sys2Proof.Machine
end

