-- ==== Sys2Proof/Machine/Time.lean ====
section
/-! DEFINITION. The commands of the Spindle and the Grains (07), and FLIT_SLOT and INIT_DONE_RECEIVE of the link (02), which meet
them. -/

namespace Sys2Proof.Machine

/-! ## The link's slots and ACTIVE -/

/-- FLIT_SLOT (R45, R67, R223). -/
def execFlitSlot (p : Nat) (s : State) : Res := .next (if s.isFab p then s.slot p else s)

/-- INIT_DONE_RECEIVE (R69, R75, R221): with the peer's INIT taken and this end's sent, the port is ACTIVE. -/
def execInitDoneReceive (p : Nat) (h : FlitHdr) (s : State) : Res :=
  if !s.isFab p then .next s
  else
    let d := s.trainCheck p h
    if d.1 && d.2.linkState p == lsInit && (d.2.link p).initGot && (d.2.link p).initSent then .next (d.2.enterActive p)
    else .next d.2

/-! ## Link delay (R200, R201) -/

/-- DELAY_EXCHANGE_START (R200): every SYNC_INT a port in ACTIVE has a request due. -/
def execDelayExchangeStart (p : Nat) (s : State) : Res :=
  if !s.isFab p || s.linkState p != lsActive || (Tab.get none s.spn.exch p).isSome then .next s
  else
    let due := match Tab.get none s.spn.lastExch p with | some t => t + s.get SPN_SYNC_SYNC_INT * 1000 | none => s.now
    let s := { s with now := max s.now due }
    let id := s.spn.nextExch
    let s := { s with spn.nextExch := (id + 1) % 65536, spn.lastExch := Tab.put none s.spn.lastExch p (some s.now) }
    .next (s.updLink p fun l => { l with delayDue := l.delayDue ++ [.delay false id 0 0 0 s.timeState s.isGm] })

/-- DELAY_REQUEST_RECEIVE (R200): a request that passes its checks is answered. -/
def execDelayRequestReceive (p : Nat) (h : FlitHdr) (id t1 _state : Nat) (_gm : Bool) (s : State) : Res :=
  if !s.isFab p then .next s
  else
    let v := s.rxCheck p h false
    if v.1 != .pass then .next v.2
    else
      let s := v.2.ackProcess p h.ack
      .next (s.updLink p fun l => { l with delayDue := l.delayDue ++ [.delay true id 0 s.stamp t1 s.timeState s.isGm] })

/-- A signed byte. -/
def sByte (v : Nat) : Int := if v < 128 then v else (v : Int) - 256

/-- The offset of the parent in 1/256 ns as SPN_OFFSET shows it, saturated. -/
def theta32 (t : Int) : Nat := ((max (-0x80000000) (min 0x7FFFFFFF (t / 256))) % 0x100000000).toNat

/-- DELAY_RESPONSE_RECEIVE (R201, R203): delay and offset; on the parent port they drive the servo and the state of time. -/
def execDelayResponseReceive (p : Nat) (h : FlitHdr) (id t3 t2 t1 state : Nat) (_gm : Bool) (s : State) : Res :=
  if !s.isFab p then .next s
  else
    let v := s.rxCheck p h false
    if v.1 != .pass then .next v.2
    else
      let s := v.2.ackProcess p h.ack
      if Tab.get none s.spn.exch p != some (id, t1) then .next s
      else
        let s := ({ s with spn.exch := Tab.put none s.spn.exch p none }.stop (.exch p)).evtNode 3 0
        let t4 := s.stamp
        let delay : Int := (((t4 : Int) - t1) - ((t3 : Int) - t2)) / 2
        let theta : Int := (((t2 : Int) - t1) - ((t4 : Int) - t3)) / 2 + sByte (s.get SPN_PORT_ASYM p) * 1024
        let ds := (delay :: Tab.get [] s.spn.delays p).take 8
        let mean : Int := ds.sum / (256 * ds.length)
        let s := { s with spn.delays := Tab.put [] s.spn.delays p ds }.set SPN_PORT_DELAY (min 0xFFFF mean.toNat) p
        if s.spn.parent != some p then .next s
        else
          let s := s.set SPN_OFFSET_THETA (theta32 theta)
          if s.stepThr < theta.natAbs then .next ({ s.stepOver theta with spn.good := 0 })
          else
            let s := s.rebase
            let s := { s with spn.rate := s.servoRate theta
                              spn.good := if theta.natAbs ≤ 65536 then min 8 (s.spn.good + 1) else 0 }
            let up : Bool := state == spnValid || state == spnHoldover
            if s.spn.good = 8 && ((s.timeState == spnAcquiring && up) || s.timeState == spnHoldover) then .next (s.setTime spnValid)
            else .next s

/-- DELAY_EXCHANGE_ABANDON (R200): 2 µs without a response that passes. -/
def execDelayExchangeAbandon (p : Nat) (s : State) : Res :=
  match s.expire (.exch p) with
  | some s => .next ({ s with spn.exch := Tab.put none s.spn.exch p none }.bump SPN_CNT_DELAY_LOST_COUNT |>.evtNode 3 1)
  | none => .next s

/-! ## Announcements and the grandmaster (R195 to R198) -/

/-- ANNOUNCE_TIMER (R196): an announcement on each port in ACTIVE, at a change of its fields or 1 ms after the last. -/
def execAnnounceTimer (s : State) : Res :=
  let s := s.elect
  let due := if s.spn.sent == some s.ownAnn then s.spn.lastAnn + 1000000 else s.now
  let s := { s with now := max s.now due }
  let m := s.ownAnn
  let s := { s with spn.lastAnn := s.now, spn.sent := some m }
  .next (fabPorts.foldl (fun s p => if s.linkState p == lsActive then s.sendMsg p (.announce m) else s) s)

/-- TIME_ANNOUNCEMENT_RECEIVE (R195, R197, R198): ranking, parent, and a step that the parent announces ahead of its time. -/
def execTimeAnnouncementReceive (p : Nat) (m : AnnMsg) (s : State) : Res :=
  match s.takeMsg p (.announce m) with
  | none => .next s
  | some s =>
    let s := { s with spn.seen := Tab.put none s.spn.seen p (some { m := m, at_ := s.now }) }.start (.absent p) 3000000
    let s := s.elect
    if s.spn.parent != some p then .next s
    else
      let new : Bool := m.stepAnnounced && m.gmEpoch != s.spn.epoch && s.spindleNs < m.stepAt
      let s := { s with spn.epoch := m.gmEpoch }
      let s := if new then { s with spn.step := some (m.stepAt, m.stepDelta) } else s
      .next s.showTime

/-- ANNOUNCE_ABSENT (R195, R197): 3 ms without an announcement on a port. -/
def execAnnounceAbsent (p : Nat) (s : State) : Res :=
  match s.expire (.absent p) with
  | some s => .next (s.parentLost p)
  | none => .next s

/-- GM_CANDIDATE_SETTLE (R195): the better candidate has been announced unchanged for 1 s. -/
def execGmCandidateSettle (s : State) : Res :=
  match s.expire .gmSettle with
  | some s =>
    match s.spn.rival with
    | some c => .next ((s.adopt c).elect)
    | none => .next s
  | none => .next s

/-- Signed error of the Spindle against the nearest whole second, in ns: positive where the Spindle is ahead. -/
def ppsError (ns : Nat) : Int :=
  let x := ns % 1000000000
  if x < 500000000 then x else (x : Int) - 1000000000

/-- PPS_IN_EDGE (R197, R216): captured for the fabric manager; at the grandmaster it steers the Spindle and the lock. -/
def execPpsInEdge (s : State) : Res :=
  if !s.on SPN_CTRL_PPS_IN_EN then .next s
  else
    let s := s.capture 8 true
    let e := ppsError s.spindleNs
    let s := s.set SPN_PPS_PPS_ERR (((max (-32767) (min 32767 e)) % 65536).toNat)
    if !s.isGm then .next s
    else
      let run := if e.natAbs ≤ 20 then min 4 (s.spn.ppsRun + 1) else 0
      let s := { s with spn.ppsRun := run }.start .ppsLoss 1500000000
      let locks : Bool := run == 4 && !s.on SPN_PPS_PPS_LOCK
      let s := if locks then { s.flag SPN_PPS_PPS_LOCK true with spn.hostSet := false } else s
      let frac : Int := (s.spindle % 65536 : Nat)
      .next ((s.moveTo (-(e * 65536 + frac))).elect)

/-- PPS_IN_LOSS (R197, R203): no edge for 1.5 s: the lock is lost, and with it the source; the grandmaster holds over for it and
is VALID at once with class 0. -/
def execPpsInLoss (s : State) : Res :=
  match s.expire .ppsLoss with
  | some s =>
    let was := s.on SPN_PPS_PPS_LOCK
    let s := { s.flag SPN_PPS_PPS_LOCK false with spn.ppsRun := 0, spn.hostSet := false }
    let s := if was then s.reportNode 52 0 else s
    .next s.elect
  | none => .next s

/-- SET_SPINDLE (R198, R420). -/
def execSetSpindle (k : Nat) (s : State) : Res :=
  let at_ := [(s.spn.gm.map fun g => g.node).getD s.nodeId]
  .next (s.omi k 0x0602 false (fun _ => at_) fun s r =>
    let mode := r.arg 0 1
    let d : Int := ((r.arg 4 2 + r.arg 6 8 * 65536 : Nat) : Int) - s.spindle
    let now := le 2 (s.spindle % 65536) ++ le 8 s.spindleNs
    if mode != 1 && mode != 2 then s.says stParameter
    else if !s.isGm || s.timeState != spnValid then s.says stState
    else if s.spn.step.isSome then s.says stBusy
    else if mode = 1 then
      if 1000000 * 65536 < d.natAbs then s.says stParameter
      else
        let s := s.rebase
        (({ s with spn.slew := d, spn.hostSet := true }).showTime, some (ok (now ++ le 8 0)))
    else
      let s := { s.announceStep d with spn.hostSet := true }.showTime
      (s, some (ok (now ++ le 8 ((s.spn.step.map Prod.fst).getD 0)))))

/-- COORDINATED_STEP (R198, R214): the Spindle reaches STEP_AT; a node in VALID or HOLDOVER applies the step, and a forward one
skips the occurrences it passes. -/
def execCoordinatedStep (s : State) : Res :=
  match s.spn.step with
  | none => .next s
  | some (t, d) =>
    let s := { s.until t with spn.step := none }
    let s := if s.timeGood then
        let s := s.stepBy d
        s.armed.foldl (fun s i => if (s.turn i).due.isSome then s else s.skipTurn i s.spindleNs) s
      else s
    .next s.showTime

/-- PTM_HOST_EXCHANGE (R198): every SYNC_INT the grandmaster's upstream port learns its host's time and steers toward it; a
difference above STEP_THR is stepped by a coordinated step. -/
def execPtmHostExchange (time : Nat) (s : State) : Res :=
  let p := s.get SPN_CTRL_HOST_PORT
  if !s.on SPN_CTRL_PTM_HOST_EN || !s.isGm || s.role p != roleUp || !s.dlActive p then .next s
  else
    let s := { s with now := max s.now (s.spn.lastPtm + s.get SPN_SYNC_SYNC_INT * 1000) }
    let s := { s with spn.lastPtm := s.now, spn.hostTime := true, spn.hostSet := true }
    let d : Int := (time * 65536 : Nat) - (s.spindle : Int)
    let s := if s.stepThr < d.natAbs then (if s.spn.step.isSome then s else s.announceStep d)
      else
        let s := s.rebase
        { s with spn.slew := d }
    .next s.elect

/-- PTM_REQUEST_RECEIVE (R206): a downstream port answers itself, with the Spindle in VALID and HOLDOVER. -/
def execPtmRequestReceive (p : Nat) (s : State) : Res :=
  if s.dlActive p && (s.role p == roleBound || s.role p == roleManaged) then
    .next (s.emit (.ptm p (if s.timeGood then some s.spindleNs else none)))
  else .next s

/-- HOLDOVER_TIMEOUT (R203): HOLD_MAX has passed: INVALID, reported (Table 14.4); with a parent the node acquires again. -/
def execHoldoverTimeout (s : State) : Res :=
  match s.expire .holdover with
  | some s => if s.timeState == spnHoldover then .next ((s.setTime spnInvalid).reportNode 26 1 0x6011).follow else .next s
  | none => .next s

/-! ## Pins (R208, R216, R217) -/

/-- The level of a TIME_OUT pin. -/
def State.driveOut (s : State) (n : Nat) (high : Bool) : State :=
  ({ s.flag SPN_PIN_OUT_LEVEL high n with spn.lastEdge := Tab.put none s.spn.lastEdge n (some s.now) }).emit (.timeOut n high)

/-- A pin without an owner is driven low, its gate is closed (R216). -/
def State.freePin (s : State) (n : Nat) : State :=
  let s := ((s.flag SPN_PIN_OWN_VALID false n).set SPN_PIN_OWNER 0 n).flag SPN_PIN_GATE false n
  let s := s.stop (.pulse n)
  if s.on SPN_PIN_OUT_LEVEL n then s.driveOut n false else s

/-- ASSIGN_TIME_PIN (R216, R420). -/
def execAssignTimePin (k : Nat) (s : State) : Res :=
  .next (s.omi k 0x0608 false (s.nodesArg 0) fun s r =>
    let n := r.arg 3 1
    let part := r.arg 4 1 % 64
    let free : Bool := r.arg 4 1 / 128 == 1
    if r.arg 2 1 = 1 then
      if 8 ≤ n then s.says stParameter
      else if free then (s.freePin n, some ok)
      else
        let s := if s.on SPN_PIN_OWN_VALID n && s.get SPN_PIN_OWNER n != part then s.freePin n else s
        ((((s.flag SPN_PIN_OWN_VALID true n).set SPN_PIN_OWNER part n).drainPin n 16), some ok)
    else if r.arg 2 1 = 2 then
      if 64 ≤ n then s.says stParameter
      else if free then ({ s with spn.chan := Tab.put none s.spn.chan n none }, some ok)
      else if s.on DM_ASSIGN_VALID n && s.get DM_ASSIGN_OWNER n == part then
        ({ s with spn.chan := Tab.put none s.spn.chan n (some part) }, some ok)
      else s.says stState
    else s.says stParameter)

/-- TIME_OUT_PULSE_FALL (R208): one width after its rise the pin falls. -/
def execTimeOutPulseFall (n : Nat) (s : State) : Res :=
  match s.expire (.pulse n) with
  | some s => .next (s.driveOut n false)
  | none => .next s

/-- TIME_IN_EDGE (R216): captured as CAP_MODE and CAP_EDGE of the pin say. -/
def execTimeInEdge (n : Nat) (rising : Bool) (s : State) : Res :=
  let mode := s.get SPN_PIN_CAP_MODE n
  let edge := s.get SPN_PIN_CAP_EDGE n
  let sel : Bool := edge == 2 || (edge == 0 && rising) || (edge == 1 && !rising)
  if n < 8 && sel && (mode == 1 || (mode == 2 && s.on SPN_PIN_GATE n)) then .next (s.capture n rising) else .next s

/-- PPS_OUT_RISE (R217): at the next whole second, in VALID or HOLDOVER. -/
def execPpsOutRise (s : State) : Res :=
  if !s.on SPN_CTRL_PPS_OUT_EN || !s.timeGood || s.spn.ppsHigh then .next s
  else
    let s := s.until (ceilDiv s.spindleNs 1000000000 * 1000000000)
    .next (({ s with spn.ppsHigh := true }.start .ppsFall (s.get SPN_PPS_PPS_WIDTH * 1000000)).emit (.ppsOut true))

/-- PPS_OUT_FALL (R217). -/
def execPpsOutFall (s : State) : Res :=
  match s.expire .ppsFall with
  | some s => .next ({ s with spn.ppsHigh := false }.emit (.ppsOut false))
  | none => .next s

/-! ## Grains (R218 to R227) -/

/-- Packets of a stream in transit that were ready for the Grain that ends and have not left in it (R223). -/
def missedIn (p : Nat) (g : GrainNow) (began : Nat) (k : Packet) : Packet :=
  if k.egress == p && k.src < 48 && k.record.vc == .tt && !k.started && k.tIn + 24 ≤ began &&
      g.uses.any (fun u => u.stream == streamKey k.record) then { k with missed := true } else k

/-- GRAIN_BOUNDARY (R218, R223): the next Grain of the wheel begins at a port; in VALID and HOLDOVER its streams may send. -/
def execGrainBoundary (p : Nat) (s : State) : Res :=
  if !s.isFab p then .next s
  else
    let t := ceilDiv s.spindleNs 64 * 64
    let s := s.until t
    let i := t / 64 % 1024
    let s := match (s.link p).grain with
      | some g => { s with sc.pkts := s.sc.pkts.map (missedIn p g (s.now - (s.spindleNs - g.began))) }
      | none => s
    let uses := if s.timeGood then ((s.resvOf p).filter fun x => x.holds i).map fun x => ({ stream := x.stream, r := x.r } : GrainUse)
      else []
    .next (s.updLink p fun l => { l with grain := if uses.isEmpty then none else some { uses := uses, began := t } })

/-- The reservation of a stream at a port is degraded (R225). -/
def degrade (k p : Nat) (x : Resv) : Resv := if x.stream == k && x.port == p then { x with degraded := true } else x

/-- The reservations of a port are looked at again in their order of installation. -/
def State.recheck (s : State) (p : Nat) : List Resv → List Resv → State
  | [], _ => s.countUsed p
  | x :: xs, kept =>
    match s.resvStatus p kept x with
    | none => s.recheck p xs (kept ++ [x])
    | some _ => (({ s with spn.resv := s.spn.resv.map (degrade x.stream p) }).grainEvent false x.stream).recheck p xs kept

/-- RESERVATION_RECHECK (R225). -/
def execReservationRecheck (p : Nat) (s : State) : Res := .next (if s.isFab p then s.recheck p (s.resvOf p) [] else s)

/-- Nodes of a path after this one, the destination apart. -/
def pathNodes (mask src dst : Nat) (d : Dir) : Nat → List Nat
  | 0 => []
  | n + 1 =>
    let x := match d with | .east => eastOf mask src | .west => westOf mask src
    if x = dst || x = src then [] else x :: pathNodes mask x dst d n

/-- Candidates 1 and 2 of a stream of this node (R220). -/
def State.twoPaths (s : State) (k : Nat) : List (Plane × Dir) := (s.candidates (streamPart k) (streamDst k)).take 2

def State.transitNodes (s : State) (k : Nat) : List Nat :=
  ((s.twoPaths k).flatMap fun c => pathNodes (s.get (fMembers c.1)) s.nodeId (streamDst k) c.2 16).eraseDups

/-- A message about a stream to other nodes. -/
def State.grainSend (s : State) (k ack : Nat) (ns : List Nat) : State :=
  ns.foldl (fun s n => s.sendFw (streamPart k) n (.other fwGrainRel [k, ack])) s

/-- Install a stream on both paths: the statuses that stand already and the paths still to answer. -/
def State.installBoth (s : State) (x : Stream) : List (Nat × Option Nat) × State :=
  ((s.twoPaths x.stream).zip [1, 2]).foldl (init := ([], s)) fun a c =>
    let pl := c.1.1
    let on : Bool := bit (a.2.get (fMembers pl)) (streamDst x.stream) && bit (a.2.get (fMembers pl)) a.2.nodeId
    let y := if on then a.2.installHop x.stream c.2 x.g0 x.period x.r pl c.1.2 else (some stState, a.2)
    (a.1 ++ [(c.2, y.1)], y.2)

/-- A reservation of this node as source ends: whole or not at all for a command; path by path for a recomputation (R227). -/
def State.resvEnds (s : State) (j : ResvJob) : State :=
  let s := { s with spn.jobs := s.spn.jobs.filter fun x => x.stream != j.stream }
  match j.cmd with
  | none => s
  | some id =>
    match j.fail with
    | none => s.finish id ok
    | some st =>
      let s := { s with spn.streams := s.spn.streams.filter fun x => x.stream != j.stream }.dropStream j.stream
      (s.grainSend j.stream 0 (s.transitNodes j.stream)).finish id (rsp st)

/-- One path has answered. -/
def State.pathAnswers (s : State) (k path st : Nat) : State :=
  match s.spn.jobs.find? fun j => j.stream == k with
  | none => s
  | some j =>
    let s := if st != 0 && j.cmd.isNone then
        let port := ((s.twoPaths k).zip [1, 2]).find? (fun c => c.2 == path) |>.map fun c => fabPort c.1.1 c.1.2
        (match port with
          | some p => ({ s with spn.resv := s.spn.resv.map (degrade k p) }).countUsed p
          | none => s).grainEvent false k
      else s
    let j := { j with waiting := j.waiting.filter fun x => x != path, fail := if st = 0 then j.fail else some (j.fail.getD st) }
    if j.waiting.isEmpty then s.resvEnds j
    else { s with spn.jobs := (s.spn.jobs.filter fun x => x.stream != k) ++ [j] }

/-- Start installing a stream; `cmd` waits for the end. -/
def State.reserveStream (s : State) (x : Stream) (cmd : Option Nat) : State :=
  let s := { s with spn.streams := (s.spn.streams.filter fun (y : Stream) => y.stream != x.stream) ++ [x]
                    spn.jobs := s.spn.jobs ++ [({ cmd := cmd, stream := x.stream, release := false, waiting := [1, 2] } : ResvJob)] }
  let r := s.installBoth x
  r.1.foldl (fun s (y : Nat × Option Nat) => match y.2 with | some st => s.pathAnswers x.stream y.1 st | none => s) r.2

/-- RESERVE_GRAINS (R220, R222, R420). -/
def execReserveGrains (k : Nat) (s : State) : Res :=
  .next (s.omi k 0x0609 false (nodeArg 0) fun s r =>
    let dst := r.arg 2 1
    let p := r.arg 6 2
    let x : Stream := { stream := (s.nodeId * 64 + r.arg 1 1) * 16 + dst, g0 := r.arg 4 2, period := p, r := r.arg 3 1 }
    if 64 ≤ r.arg 1 1 || 16 ≤ dst || dst = s.nodeId || x.r = 0 || 1024 ≤ x.g0 ||
        !((List.range 11).any fun n => p == 2 ^ n) then s.says stParameter
    else if s.spn.streams.any fun y => y.stream == x.stream then s.says stState
    else (s.reserveStream x (some r.id), none))

/-- RELEASE_GRAINS (R220, R420). -/
def execReleaseGrains (k : Nat) (s : State) : Res :=
  .next (s.omi k 0x060A false (nodeArg 0) fun s r =>
    let key := (s.nodeId * 64 + r.arg 1 1 % 64) * 16 + r.arg 2 1 % 16
    if !(s.spn.streams.any fun y => y.stream == key) || s.spn.jobs.any (fun j => j.stream == key) then s.says stState
    else
      let ns := s.transitNodes key
      let s := { s with spn.streams := s.spn.streams.filter fun y => y.stream != key }.dropStream key
      if ns.isEmpty then (s, some ok)
      else
        let s := { s with spn.jobs := s.spn.jobs ++ [({ cmd := some r.id, stream := key, release := true, waiting := ns.map fun n => 16 + n } : ResvJob)] }
        (s.grainSend key 1 ns, none))

/-- Messages of firmware about reservations. -/
def State.grainFw (s : State) (type : Nat) (fs : List Nat) : State :=
  let f (i : Nat) : Nat := fs.getD i 0
  if type = fwGrain then
    let pl : Plane := if f 5 = 0 then .a else .b
    let r := s.installHop (f 0) (f 1) (f 2) (f 3) (f 4) pl (if f 6 = 0 then .east else .west)
    match r.1 with
    | some st => r.2.sendFw (streamPart (f 0)) (streamSrc (f 0)) (.other fwGrainAns [f 0, f 1, st])
    | none => r.2
  else if type = fwGrainRel then
    let s := s.dropStream (f 0)
    if f 1 = 1 then s.sendFw (streamPart (f 0)) (streamSrc (f 0)) (.other fwGrainAns [f 0, 16 + s.nodeId, 0]) else s
  else s.pathAnswers (f 0) (f 1) (f 2)

/-- GRAIN_RESERVATION_RECOMPUTE (R227): every stream of this node is installed on its present candidates; what no longer fits is
degraded on its path, what is no longer used is released. -/
def execGrainReservationRecompute (s : State) : Res :=
  .next (s.spn.streams.foldl (init := s) fun s x =>
    let s := (s.dropStream x.stream).grainSend x.stream 0 s.others
    s.reserveStream x none)

end Sys2Proof.Machine
end

