-- ==== Sys2Proof/Machine/BoxOps.lean ====
section
/-! DEFINITION. Shared operations of the exchange of a command through a mailbox (15, R385 to R392; 16, R406 to R412) and of firmware
messages. -/

namespace Sys2Proof.Machine

/-! ## Taking a command -/

/-- The mailbox stands behind a page that somebody reaches: of a slot in use, or mailbox 16 (Table 15.1). -/
def State.boxUsed (s : State) (k : Nat) : Bool := k == 16 || (k < 16 && s.on PART_CTRL_VALID k)

/-- Bytes of the command buffer as a number. -/
def State.bufAt (s : State) (k off n : Nat) : Nat := leNat ((List.range n).map fun i => Tab.get 0 (s.mbox k).buf (off + i))

/-- The partition that issues through a mailbox; the gateway has none. -/
def State.issuer (s : State) (k : Nat) : Nat := if k < 16 then s.get PART_CTRL_PART_ID k else 64

/-- The command in the buffer, as the mailbox latches it, with its privilege (R385, R390). -/
def State.latched (s : State) (k : Nat) : OmiRun :=
  let part := s.issuer k
  let fm : Bool := k < 16 && s.on PART_GLOBAL_FM_VALID && s.get PART_GLOBAL_FM_PART == part
  { id := s.mb.nextCmd, mbox := k, opcode := s.bufAt k 0 2, flags := s.bufAt k 2 2, seq := s.bufAt k 6 2, token := s.bufAt k 8 4
    priv := if k = 16 then 2 else if fm then 1 else 0, part := part, node := s.nodeId
    selfThaw := k < 16 && s.on PART_CTRL_SELF_THAW k
    params := (List.range (min 2032 (s.bufAt k 4 2))).map fun i => Tab.get 0 (s.mbox k).buf (16 + i) }

/-- The first of the checks 2 to 6 of Table 16.2 that fails, of those that need no more than the command table and what is deferred. -/
def State.checkFails (s : State) (r : OmiRun) (headerOk : Bool) : Option Nat :=
  match cmdRow r.opcode with
  | none => some stUnsupported
  | some x =>
    if !r.mayIssue x || (r.priv == 0 && r.lenOk x && !s.ownsObject r) then some stPrivilege
    else if !headerOk || !r.lenOk x || !r.zeroOk x then some stParameter
    else if (r.defers && 8 ≤ (s.mbox r.mbox).deferred.length) || s.objectBusy r then some stBusy
    else if !r.nodesOk x then some stParameter
    else none

/-- The header's own fields are as a command has them (Table 16.1). -/
def State.headerOk (s : State) (k : Nat) : Bool := s.bufAt k 4 2 ≤ 2032 && s.bufAt k 2 2 == 0 && s.bufAt k 12 4 == 0

/-- A mailbox takes commands: firmware serves it and neither activates an image nor restarts; in Grave only mailbox 16 does, and only the
read commands of groups 0x01 and 0x0A (R378). -/
def State.takes (s : State) (k op : Nat) : Bool :=
  if s.nodeState = 3 then k == 16 && (op == 0x0101 || op == 0x0102 || op == 0x0A00)
  else s.on MB_STATUS_FW_READY k && !s.on MB_BUSY_ACTIVATING k && !s.on MB_BUSY_RESTARTING k

/-- A command starts its work in mailbox `k`, with its outcome where a check has failed. -/
def State.run_ (s : State) (k : Nat) (r : OmiRun) (fail : Option Nat) : State :=
  let w : OmiWork := { run := r, started := fail.isSome, outcome := fail.map fun st => rsp st }
  let s := s.updMbox k fun m => { m with running := some w }
  ({ s with mb.nextCmd := s.mb.nextCmd + 1 }.set MB_STATUS_STATE 1 k).evtNode 7 0

/-- The command in the buffer of mailbox 16 is Request Sleep with LEVEL 0 for this node: a wake source (Table 18.4). -/
def State.smbusWake (s : State) (k : Nat) : Bool :=
  let nodes := s.bufAt k 16 2
  k == 16 && s.bufAt k 0 2 == 0x0C04 && s.bufAt k 18 1 == 0 && (nodes == 0 || bit nodes s.nodeId)

/-- MB_DOORBELL.GO is written (R390, R392): a command whose sequence is that of the stored response gets it once more; a mailbox that
cannot take it answers busy. In SL1 the write wakes the node; in SL2 and SL3 only the wake request over SMBus does anything. -/
def State.boxGo (s : State) (k : Nat) : State :=
  if !s.boxUsed k then s
  else
    let lvl := s.asleep
    let s := if lvl = 1 then s.wakeSources (8 + b2n (s.smbusWake k) 2) else s
    let r := s.latched k
    let busy (s : State) : State := (s.placeRsp k (rspBytes r (rsp stBusy))).evtNode 7 2
    if s.get MB_STATUS_STATE k = 1 then s.set MB_STATUS_CMD_ERR 1 k
    else if lvl = 3 then (if s.smbusWake k then s.wakeSources 4 else s)
    else if lvl = 2 then (if s.smbusWake k then s.run_ k r none else busy s)
    else if !s.takes k r.opcode then busy s
    else
      match (s.mbox k).stored with
      | some x => if x.1 = r.seq && r.seq != 0 then s.placeRsp k x.2 else s.run_ k r (s.checkFails r (s.headerOk k))
      | none => s.run_ k r (s.checkFails r (s.headerOk k))

/-- Bytes go into the command buffer, or are discarded while a command runs (R388, R390). -/
def State.boxWrite (s : State) (k off : Nat) (data : List Nat) : State :=
  if !s.boxUsed k || 0x800 ≤ off then s
  else if s.get MB_STATUS_STATE k = 1 then s.set MB_STATUS_WR_DROP 1 k
  else
    let xs := data.take (0x800 - off)
    s.updMbox k fun m => { m with buf := (xs.zip (List.range xs.length)).foldl (fun b x => Tab.put 0 b (off + x.2) (x.1 % 256)) m.buf }

/-! ## Mailbox 17 (R387) -/

/-- A forwarded command: its fields in the firmware message. -/
def fwdRun (id : Nat) (f : List Nat) : OmiRun :=
  let g (i : Nat) : Nat := f.getD i 0
  { id := id, mbox := 17, fwdId := g 0, opcode := g 1, flags := 2, seq := g 2, token := g 3, priv := g 4, part := g 5, node := g 6
    selfThaw := g 7 == 1, params := f.drop 8 }

/-- Mailbox 17 takes the next command that waits for it. -/
def State.nextFwd (s : State) : State :=
  match s.mb.fwd with
  | r :: rest =>
    if (s.mbox 17).running.isSome then s
    else
      let r := { r with id := s.mb.nextCmd }
      let full : Bool := r.defers && 8 ≤ (s.mbox 17).deferred.length
      { s with mb.fwd := rest }.run_ 17 r (if full || s.objectBusy r then some stBusy else none)
  | [] => s

/-- Firmware message of this model with which a node in a busy period turns a forwarded command away. -/
abbrev fwBusy : Nat := 0x14

/-- A forwarded command arrives. -/
def State.fwdCame (s : State) (src part : Nat) (f : List Nat) : State :=
  if !s.takes 17 0 then s.sendFw part src (.other fwBusy [f.getD 0 0, s.nodeId])
  else { s with mb.fwd := s.mb.fwd ++ [fwdRun 0 f] }.nextFwd

/-- A command still awaits an answer from a node. -/
def State.awaits (s : State) (id n : Nat) : Bool := (s.work id).any fun w => w.waiting.contains n

/-- A node has answered. -/
def State.fwdAnswered (s : State) (f : List Nat) : State :=
  let g (i : Nat) : Nat := f.getD i 0
  let s := { s with mb.retry := s.mb.retry.filter fun (x : Nat × Nat × Nat) => !(x.1 == g 0 && x.2.1 == g 1) }
  if s.awaits (g 0) (g 1) then s.answer (g 0) (g 1) { status := g 2, applied := g 3, failNode := g 4, results := f.drop 5 } else s

/-- A node is busy: the command is tried again, for up to 250 ms. -/
def State.fwdBusy (s : State) (f : List Nat) : State :=
  let g (i : Nat) : Nat := f.getD i 0
  if !s.awaits (g 0) (g 1) then s
  else
    match s.mb.retry.find? fun x => x.1 == g 0 && x.2.1 == g 1 with
    | some x => if x.2.2 ≤ s.now then { s with mb.retry := s.mb.retry.erase x }.answer (g 0) (g 1) (rsp stBusy) else s
    | none => { s with mb.retry := s.mb.retry ++ [(g 0, g 1, s.now + 250000000)] }

/-- Nodes that have become unreachable answer nothing more (Table 16.19). -/
def State.lostNodes (s : State) : State :=
  let ws := s.mb.boxes.flatMap fun x => x.2.running.toList ++ x.2.deferred ++ x.2.quiet
  ws.foldl (init := s) fun s w =>
    (w.waiting.filter fun n => n != s.nodeId && !s.reachable n).foldl (fun s n => s.answer w.run.id n { status := stUnreachable, applied := 2 }) s

/-! ## Completing a command (R390 to R392) -/

/-- A status with which a check of Table 16.2 turns a command down. -/
def checkStatus (st : Nat) : Bool := 2 ≤ st && st ≤ 8 || st == stUnsupported

/-- A response is stored; one that says busy is not. -/
def State.keepRsp (s : State) (k : Nat) (r : OmiRun) (o : OmiRsp) : State :=
  if o.status = stBusy then s else s.storeRsp k r.seq (rspBytes r o)

/-- A deferred command is accepted: it goes on beside the mailbox. -/
def State.acceptCmd (s : State) (k : Nat) (w : OmiWork) : State :=
  let s := ((s.updMbox k fun m => { m with deferred := m.deferred ++ [w], running := none }).showDeferred k).evtNode 7 1
  let o := rsp stAccepted
  if k = 17 then s.set MB_STATUS_STATE 0 k else (s.placeRsp k (rspBytes w.run o)).keepRsp k w.run o

/-- A command ends in its mailbox. -/
def State.endCmd (s : State) (k : Nat) (w : OmiWork) (o : OmiRsp) : State :=
  if k = 17 then ((s.updMbox k fun m => { m with running := none }).answerTo w.run o).set MB_STATUS_STATE 0 k
  else (s.placeRsp k (rspBytes w.run o)).keepRsp k w.run o

/-- Commands whose mailbox was reset under them and that have ended: their responses are stored only (Table 15.10). -/
def State.endQuiet (s : State) (k : Nat) : State :=
  let done := (s.mbox k).quiet.filter fun w => w.outcome.isSome || (w.run.defers && w.started)
  done.foldl (init := s.updMbox k fun m => { m with quiet := m.quiet.filter fun w => !done.contains w }) fun s w =>
    match w.outcome with
    | some o =>
      if w.run.defers && !checkStatus o.status then
        ((s.updMbox k fun m => { m with deferred := m.deferred ++ [w] }).showDeferred k).keepRsp k w.run (rsp stAccepted)
      else s.keepRsp k w.run o
    | none => ((s.updMbox k fun m => { m with deferred := m.deferred ++ [w] }).showDeferred k).keepRsp k w.run (rsp stAccepted)

/-- Firmware completes what the mailbox runs, where it has its outcome or is deferred. -/
def State.boxComplete (s : State) (k : Nat) : State :=
  let s := s.lostNodes.pollWaits.endQuiet k
  let s := match (s.mbox k).running with
    | some w =>
      match w.outcome with
      | some o => if w.run.defers && !checkStatus o.status then s.acceptCmd k w else s.endCmd k w o
      | none => if w.run.defers && w.started then s.acceptCmd k w else s
    | none => s
  if k = 17 then s.nextFwd else s

/-- Firmware runs, and can place responses and events. -/
def State.fwUp (s : State) : Bool := s.nodeState == 3 || s.on MB_STATUS_FW_READY 16

/-- The first deferred command of a mailbox that has its outcome ends with its event (R391). -/
def State.deferredEnd (s : State) (k : Nat) : State :=
  let s := s.lostNodes.pollWaits
  match (s.mbox k).deferred.find? fun w => w.outcome.isSome with
  | some w =>
    let s := (s.updMbox k fun m => { m with deferred := m.deferred.erase w }).showDeferred k
    match w.outcome with
    | some o => s.tellOutcome w.run o
    | none => s
  | none => s

/-! ## Firmware messages (R387) -/

/-- A message to this node's firmware, by its type. Partition records have a command of their own. -/
def State.fwCame (s : State) (src part : Nat) (m : FwMsg) : State :=
  match m with
  | .event p from_ e =>
    match s.slotOf p with
    | some k => s.queuePlace k from_ e
    | none => s
  | .other t f =>
    let g (i : Nat) : Nat := f.getD i 0
    if t = fwPort then s.portFw (g 1) (g 2) (g 0) (g 3)
    else if t = fwLink then s.vdspCame (g 0) (g 1) (g 2) (g 3)
    else if t = fwVdsp then s.vdspFw src f
    else if t = fwPart then s.partFw src f
    else if t = fwMark || t = fwMarkers || t = fwPurge then s.removalFw src t f
    else if t = fwInst then s.instTold (g 0) (g 1) (f.drop 2)
    else if t = fwFm then s.fmFw src f
    else if t = fwForward then s.fwdCame src part f
    else if t = fwAnswer then s.fwdAnswered f
    else if t = fwBusy then s.fwdBusy f
    else if t = fwPeer then { s with img.minPeers := Tab.put 0 s.img.minPeers src (g 0) }
    else if t = fwGrain || t = fwGrainAns || t = fwGrainRel then s.grainFw t f
    else s.winFw src t f

/-! ## The event queue (R394) -/

/-- HEAD is written: slots are free, what waited moves in. -/
def State.headWrite (s : State) (k v : Nat) : State :=
  let q := s.queue k
  let head := s.get MB_EQ_HEAD_HEAD k
  let n := min q.ring.length ((min v 62 + 63 - head) % 63)
  let s := (s.set MB_EQ_HEAD_HEAD ((head + n) % 63) k).setQueue k { q with ring := q.ring.drop n }
  let s := if n < q.ring.length then s.signal k 1 else s
  (s.eqMove k 1024).unpark.drainPins

end Sys2Proof.Machine
end

