-- ==== Sys2Proof/Machine/Mailboxes.lean ====
section
/-! DEFINITION. The commands of the mailboxes, the event queues and the SMBus target (15). -/

namespace Sys2Proof.Machine

/-- MAILBOX_GO (R390, R392). -/
def execMailboxGo (k : Nat) (s : State) : Res := .next (s.boxGo k)

/-- COMMAND_BUFFER_WRITE (R388, R390). -/
def execCommandBufferWrite (k off : Nat) (data : List Nat) (s : State) : Res := .next (s.boxWrite k off data)

/-- COMMAND_COMPLETE (R390, R391, R392). -/
def execCommandComplete (k : Nat) (s : State) : Res := .next (if k < 18 && s.fwUp then s.boxComplete k else s)

/-- DEFERRED_COMMAND_COMPLETE (R391). -/
def execDeferredCommandComplete (k : Nat) (s : State) : Res := .next (if k < 18 && s.fwUp then s.deferredEnd k else s)

/-- EVENT_QUEUE_HEAD_WRITE (R394, R396). -/
def execEventQueueHeadWrite (k v : Nat) (s : State) : Res := .next (if k < 16 && s.on PART_CTRL_VALID k then s.headWrite k v else s)

/-- FIRMWARE_MESSAGE_RECEIVE (R387, R396): during a switchover or a restart it waits (R404). -/
def execFirmwareMessageReceive (src part : Nat) (m : FwMsg) (s : State) : Res :=
  let mine : Bool := match m with | .other t _ => t != fwRecord | .event _ _ _ => true
  if !mine then .next s
  else
    match s.takeFw src part m with
    | some s => .next (s.fwCame src part m).settle
    | none => .next s

/-- FORWARDED_COMMAND_RETRY (R387). -/
def execForwardedCommandRetry (id node : Nat) (s : State) : Res :=
  match s.mb.retry.find? fun x => x.1 == id && x.2.1 == node, s.work id with
  | some x, some w =>
    if x.2.2 ≤ s.now then .next ({ s with mb.retry := s.mb.retry.erase x }.answer id node (rsp stBusy))
    else .next (s.forward w.run node)
  | some x, none => .next { s with mb.retry := s.mb.retry.erase x }
  | none, _ => .next s

/-! ## SMBus (R397) -/

/-- A dword of mailbox 16's page, as Table 15.2 lays it out. -/
def State.pageDword (s : State) (off : Nat) : Nat :=
  let word (r : Reg) : Nat := (r.fields.map fun f => if f.acc == .wo then 0 else s.get f 16 * 2 ^ f.lsb).sum
  if off = 0x800 then word .MB_STATUS
  else if off = 0x804 then word .MB_CTRL
  else if off = 0x80C then word .MB_RSP_LEN
  else if off = 0x810 then word .MB_BUSY
  else if off = 0x814 then word .MB_SEQ
  else 0

/-- A byte of the page, read. -/
def State.pageByte (s : State) (a : Nat) : Nat :=
  if a < 0x800 then (s.mbox 16).rsp.getD a 0 else s.pageDword (a / 4 * 4) / 256 ^ (a % 4) % 256

/-- A dword written to a register of the page. -/
def State.pageWrite (s : State) (off v : Nat) : State :=
  let plain (r : Reg) : State := r.fields.foldl (fun s f => s.write f (v / 2 ^ f.lsb) 16) s
  if off = 0x800 then plain .MB_STATUS
  else if off = 0x804 then plain .MB_CTRL
  else if off = 0x808 then (if v.testBit 0 then s.boxGo 16 else s)
  else s

/-- SMBUS_BLOCK_WRITE (R397): the buffer window takes any bytes, a register one aligned dword. -/
def execSmbusBlockWrite (off : Nat) (data : List Nat) (pec : Bool) (s : State) : Res :=
  if !pec || 0x1000 ≤ off || data.isEmpty || 253 < data.length then .next s
  else if off < 0x800 then .next (s.boxWrite 16 off data)
  else if off % 4 != 0 || data.length != 4 then .next s
  else .next (s.pageWrite off (leNat data))

/-- SMBUS_SET_READ_POINTER (R397). -/
def execSmbusSetReadPointer (off : Nat) (pec : Bool) (s : State) : Res :=
  if !pec || 0x1000 ≤ off then .next s else .next (s.updMbox 16 fun m => { m with ptr := off })

/-- SMBUS_BLOCK_READ (R397): up to 255 bytes from the pointer; in the registers one aligned dword. The pointer advances by the count. -/
def execSmbusBlockRead (n : Nat) (s : State) : Res :=
  let p := (s.mbox 16).ptr
  let n := if p < 0x800 then min n (min 255 (0x800 - p)) else if p % 4 = 0 then min n 4 else 0
  let s := s.emit (.smbus ((List.range n).map fun i => s.pageByte (p + i)))
  .next (s.updMbox 16 fun m => { m with ptr := (p + n) % 0x1000 })

end Sys2Proof.Machine
end

