-- ==== Sys2Proof/Machine/Pmon.lean ====
section
/-! DEFINITION. The commands of the performance monitor (17). -/

namespace Sys2Proof.Machine

/-! ## Counters and filters (R431, R432, R436) -/

/-- READ_COUNTERS (R432, Table 16.15): Spindle nanoseconds of the capture, then the counters. -/
def execReadCounters (k : Nat) (s : State) : Res :=
  .next (s.omi k 0x0B02 false (s.nodesArg 0) fun s r =>
    let first := r.arg 2 2
    let n := r.arg 4 2
    if n = 0 || 252 < n || 1472 < first + n then s.says stParameter
    else (s, some (ok (le 8 s.spindleNs ++ (List.range n).flatMap fun j => le 8 (s.get PMON_EVT_COUNT (first + j))))))

/-- CLR_EVT (R431). -/
def execClrEvt (s : State) : Res := .next ((List.range 1472).foldl (fun s n => s.set PMON_EVT_COUNT 0 n) s)

/-- CLR_FLT (R436). -/
def execClrFlt (s : State) : Res := .next ((List.range 64).foldl (fun s n => s.set FLT_CNT_COUNT 0 n) s)

/-- The other dwords of a filter as its registers hold them. -/
def State.filterNow (s : State) (f : Nat) : Filt :=
  { addrEn := (s.get FLT_BASE_ADDR_EN f) != 0, base := s.get FLT_BASE_BASE f, limit := s.get FLT_LIM_LIMIT f
    rid := s.get FLT_MATCH_RID f, ridMask := s.get FLT_MATCH_RID_MASK f }

/-- FLT_CTRL_WRITE (R436): the filter takes its other dwords, and its count is 0. -/
def execFltCtrlWrite (f v : Nat) (s : State) : Res :=
  if 64 ≤ f then .next s
  else
    let s := Reg.FLT_CTRL.fields.foldl (fun s x => s.write x (v / 2 ^ x.lsb) f) s
    .next ({ s with pmon.filters := Tab.put {} s.pmon.filters f (s.filterNow f) }.set FLT_CNT_COUNT 0 f)

/-! ## Shavings (R437, R439) -/

/-- SHV_SEED_WRITE (R437): the generator restarts; a seed of 0 is reserved. -/
def execShvSeedWrite (v : Nat) (s : State) : Res :=
  if v % 2 ^ 32 = 0 then .next s else .next { s.set PMON_SHV_SEED_SEED v with pmon.drawn := 0 }

/-- The 64 bytes of a Shaving (Table 17.7). -/
def shavingBytes (x : Shaving) : List Nat :=
  let stage (n : Nat) : List Nat := le 4 (((x.d.getD n none)).getD 0xFFFFFFFF)
  [if x.discarded then 2 else 1,
   b2n x.lostBefore 0 + b2n x.localTime 1 + b2n x.holdover 2 + b2n x.excess 3 + b2n x.cutThrough 4 + b2n x.pcieRules 5 + b2n x.interNode 6,
   x.ingress, x.egress, x.part + 64 * x.kind, x.access + 16 * x.vc.code] ++
  le 2 x.requester ++ le 8 x.addr ++ le 2 x.len ++ le 2 x.tag ++ le 4 x.seq ++ le 8 x.t0 ++
  (List.range 7).flatMap stage ++ [x.dstNode, x.reason, 0, 0]

/-- READ_SHAVINGS (R439): at most MAX records, oldest first, which leave the store. -/
def execReadShavings (k : Nat) (s : State) : Res :=
  .next (s.omi k 0x0B03 false (s.nodesArg 0) fun s r =>
    if 31 < r.arg 2 1 || r.arg 3 1 != 0 then s.says stParameter
    else
      let xs := s.pmon.shavings.take (r.arg 2 1)
      let s := { s with pmon.shavings := s.pmon.shavings.drop xs.length }
      let s := s.set PMON_STATUS_SHV_WAITING s.pmon.shavings.length
      (s, some (ok ([xs.length, 0] ++ le 2 s.pmon.shavings.length ++ xs.flatMap shavingBytes))))

/-! ## Bandwidth windows (R440, R441) -/

/-- BW_WINDOW_END (R440): at the next Spindle nanosecond count that is a multiple of 1,000 × LEN. -/
def execBwWindowEnd (s : State) : Res :=
  if !s.on PMON_BW_CFG_EN then .next s
  else
    let n := 1000 * s.get PMON_BW_CFG_LEN
    .next (s.until ((s.pmon.winStart / n + 1) * n)).bwEnd

/-- BW_CFG_WRITE (R441, Table 17.8): the window ends partial and the next starts at once. -/
def execBwCfgWrite (v : Nat) (s : State) : Res :=
  let s := if s.on PMON_BW_CFG_EN then s.bwEnd else s
  let s := Reg.PMON_BW_CFG.fields.foldl (fun s x => s.write x (v / 2 ^ x.lsb)) s
  .next s.bwStart

end Sys2Proof.Machine
end

