-- ==== Sys2Proof/Machine/Power.lean ====
section
/-! DEFINITION. The commands of the power levels, the sleep levels and the thermal monitor (18; 23, R542). -/

namespace Sys2Proof.Machine

/-- SET_POWER_LEVEL (R426, R446, R447). -/
def execSetPowerLevel (k : Nat) (s : State) : Res :=
  .next <| s.omi k 0x0C02 true (s.nodesArg 0) fun s r =>
    let lvl := r.arg 2 1
    if 3 < lvl then s.says stParameter
    else if s.pwState = pwEntering || s.pwState = pwAsleep || (2 ≤ lvl && s.holdsGrains) then s.says stState
    else ({ s with pw.cmds := s.pw.cmds ++ [(r.id, lvl)] }.plTarget lvl, none)

/-- Request Sleep with LEVEL 0 (R426, R455): over SMBus a wake source, elsewhere without meaning to a node that goes to sleep. -/
def State.sleepWake (s : State) (r : OmiRun) : State × Option OmiRsp :=
  if s.pwState = pwRun then (s, some ok)
  else if s.pwState = pwWaking then ({ s with pw.wakers := s.pw.wakers ++ [r.id] }, none)
  else if r.mbox = 16 && s.on PWR_WAKE_EN_SMBUS then ((({ s with pw.wakers := s.pw.wakers ++ [r.id] }).wakeSources 4), none)
  else s.says stState

/-- REQUEST_SLEEP (R426, R451, R452). -/
def execRequestSleep (k : Nat) (s : State) : Res :=
  .next <| s.omi k 0x0C04 false (s.nodesArg 0) fun s r =>
    let lvl := r.arg 2 1
    if lvl = 0 then
      let x := s.sleepWake r
      (if x.1.pwState = pwRun then x.1.wakersEnd else x.1, x.2)
    else if 3 < lvl then s.says stParameter
    else if !s.maySleep lvl then s.says stState
    else (s.sleepAsk lvl (some r.id), none)

/-- PL_TARGET_WRITE (R447). -/
def execPlTargetWrite (v : Nat) (s : State) : Res := .next (s.plTarget (v % 4))

/-- DVFS_READBACK (R448, R472): within 10 mV of the target the voltage is confirmed, and a move goes on. -/
def execDvfsReadback (mv : Option Nat) (s : State) : Res :=
  if !s.pw.unconfirmed then .next s
  else
    match mv with
    | none => .next s.avsFail
    | some v =>
      let s := s.avsRead v
      if v + 10 < s.pw.volt || s.pw.volt + 10 < v then .next s
      else
        let s := { s.stop .vTmo with pw.unconfirmed := false }
        match s.pw.move with
        | none => .next s
        | some m =>
          if m.ramp then .next s
          else if m.dst < m.src then .next { s with pw.move := some { m with ramp := true } }
          else .next (s.moveDone m)

/-- CLOCK_RAMP_STEP (R448, R471): the clocks step by 1/32 of the frequency that the ramp goes to. -/
def execClockRampStep (s : State) : Res :=
  let t := s.rampTarget
  let f := s.pw.freq
  if f = 0 then .next s
  else
    let f := if f < t then min t (f + t / 32) else max t (f - t / 32)
    let s := { s with pw.freq := f }
    match s.pw.move with
    | some m =>
      if !m.ramp || f != t then .next s
      else if m.dst < m.src then .next (s.moveDone m)
      else .next ({ s with pw.move := some { m with ramp := false } }.writeVolt (plVolt m.dst))
    | none => .next s

/-- Set Power Level commands for a level whose move has failed end (R449). -/
def State.plFailed (s : State) (lvl : Nat) : State :=
  let dead := s.pw.cmds.filter fun x => x.2 == lvl
  dead.foldl (fun s x => s.finish x.1 (rsp stFailed)) { s with pw.cmds := s.pw.cmds.filter fun (x : Nat × Nat) => x.2 != lvl }

/-- DVFS_TIMEOUT (R449): the voltage has not been confirmed. -/
def execDvfsTimeout (s : State) : Res :=
  match s.expire .vTmo with
  | none => .next s
  | some s =>
    let s := { s with pw.unconfirmed := false }
    match s.pw.move with
    | none => .next s
    | some m =>
      if m.ramp then .next s
      else
        let s := ((s.set PWR_STATUS_V_FAIL 1).bump PWR_CNT_DVFS_FAIL_COUNT).reportNode 40 0
        let s := { s with pw.move := none }.set PWR_STATUS_MOVING 0
        let s := if m.dst < m.src then s.writeVolt m.old else { s with pw.volt := m.old }.set PWR_STATUS_PL m.dst
        let s := s.plFailed m.dst
        if s.get PWR_CTRL_PL_TARGET = m.dst then .next ((s.plDone true).sleepWaits.clocksChanged) else .next s.moveOver

/-- AVS_VOLTAGE_POLL (R472, Table 14.1): the window check, which waits while a write is unconfirmed (R448). -/
def execAvsVoltagePoll (mv : Option Nat) (s : State) : Res :=
  if 2 ≤ s.asleep then .next s
  else
    match mv with
    | none => .next s.avsFail
    | some v =>
      let s := s.avsRead v
      if v < 570 then .next (s.reportNode 40 4 0x600B)
      else if s.pw.unconfirmed || (s.pw.volt * 95 ≤ v * 100 && v * 100 ≤ s.pw.volt * 105) then .next { s with pw.outside := none }
      else
        match s.pw.outside with
        | none => .next { s with pw.outside := some s.now }
        | some t => .next (if t + 10000 ≤ s.now then { s with pw.outside := none }.reportNode 40 3 0x600A else s)

/-- The highest of the readings, and the first sensor that has it. -/
def hottest (ts : List Int) : Option (Nat × Int) :=
  ((List.range ts.length).zip ts).foldl (init := none) fun b x =>
    match b with
    | some y => if y.2 < x.2 then some x else b
    | none => some x

/-- THERMAL_SAMPLE (R542, Table 23.13); in SL3 the monitor is off. -/
def execThermalSample (ts : List Int) (s : State) : Res :=
  if s.asleep = 3 then .next s
  else
    match hottest (ts.take 8) with
    | none => .next s
    | some x =>
      let v := min 255 (x.2 + 64).toNat
      let s := ((s.set PWR_THERM_TJ v).set PWR_THERM_SENSOR x.1).set PWR_THERM_TJ_PEAK (max v (s.get PWR_THERM_TJ_PEAK))
      if 135 ≤ x.2 then .next (s.reportNode 46 4 0x6008)
      else if (s.get FC_POLICY_T_WARN : Int) < x.2 then .next (s.reportNode 46 0 0x6007)
      else .next s

/-- SLEEP_PME_WAIT_END (R452 step 2): every port has answered, or 10 ms have passed. -/
def execSleepPmeWaitEnd (s : State) : Res :=
  match s.pw.sleep with
  | none => .next s
  | some x =>
    if x.step != 2 then .next s
    else if x.pme.isEmpty then .next ((s.stop .sleepPme).sleepLinks x)
    else
      match s.expire .sleepPme with
      | some s => .next (s.sleepLinks x)
      | none => .next s

/-- SLEEP_DRAIN_END (R452 step 3): USED is 0, or DRAIN has passed. -/
def execSleepDrainEnd (s : State) : Res :=
  match s.pw.sleep with
  | none => .next s
  | some x =>
    if x.step != 3 then .next s
    else if s.get JNL_OCC_USED = 0 then .next (s.sleepCommits x)
    else
      match s.expire .sleepDrain with
      | some s => .next (s.sleepCommits x)
      | none => .next s

/-- The completion of a command is still on its way: in work here, waiting for admission, or not yet receipted (R452 step 4). -/
def State.answerDue (s : State) (id : Nat) : Bool :=
  let isIt (r : Record) : Bool := match r.body with
    | .fw (.other t (i :: _)) => t == fwAnswer && i == id
    | _ => false
  (s.work id).isSome || (s.jnl.intWait.any fun t => isIt t.record) || s.jnl.entries.any fun e => isIt e.record

/-- SLEEP_COMMIT (R452 steps 4 to 7): the completion has been receipted, or 2 ms have passed. -/
def execSleepCommit (s : State) : Res :=
  match s.pw.sleep with
  | none => .next s
  | some x =>
    if x.step != 4 then .next s
    else if !(x.cmd.any fun c => s.answerDue c) then .next (s.sleepLeaves x)
    else
      match s.expire .sleepCommit with
      | some s => .next (s.sleepLeaves x)
      | none => .next s

/-- SL1_IDLE_EXPIRY (R453): steps 1, 5 and 7. -/
def execSl1IdleExpiry (s : State) : Res :=
  match s.expire .sl1Idle with
  | none => .next s
  | some s => .next (if s.idleNode then (s.set PWR_STATUS_STATE pwEntering).sleepLatch { level := 1, step := 5 } else s)

/-- WAKE_EVENT (R455). -/
def execWakeEvent (sources : Nat) (s : State) : Res := .next (s.wakeSources sources)

/-- SL3_HOLD_END (R456). -/
def execSl3HoldEnd (s : State) : Res :=
  match s.expire .sl3Hold with
  | none => .next s
  | some s =>
    match s.pw.pendWake with
    | some b => .next (if s.asleep = 3 then (s.mainReset true).showWake b else s)
    | none => .next s

/-- WAKE_TIMER_EXPIRY (R455). -/
def execWakeTimerExpiry (s : State) : Res :=
  match s.expire .wakeTmr with
  | some s => .next (s.wakeSources 16)
  | none => .next s

/-- PADHOLD_RELEASE (R454). -/
def execPadholdRelease (v : Nat) (s : State) : Res := .next (s.padRelease v)

/-- What firmware does at the end of a wake (R457): the node runs again and its timebase acquires; partitions whose upstream port went down
run R105, enabled ports train, slots that were on are enabled, and the node joins where PWR_CTRL.AUTO_JOIN says so. -/
def State.wakeDone (s : State) : State :=
  let s := ({ s with pw.sleep := none }.set PWR_STATUS_STATE pwRun).setTime spnAcquiring
  let s := (s.fwReady true).raiseLosses
  let up := (List.range 16).filter fun k => s.on PART_CTRL_VALID k && s.pw.upDown.contains (s.get PART_CTRL_UP_PORT k)
  let s := up.foldl (fun s k => s.resetPart k none) { s with pw.upDown := [] }
  let s := ((List.range 48).filter fun p => s.on PX_PORT_CFG_ENABLE p).foldl (fun s p => s.trainPort p) s
  let was := s.get PWR_SLOT_WAS_ON_CHAN
  let s := ((List.range 12).filter fun c => bit was c).foldl (fun s c => s.spEnable c) s
  let s := s.wakersEnd
  let s := (if s.warned && s.pfPhase = pfNormal then s.set PST_STATUS_PF_HOLD 1 else s).establish
  (if s.on PWR_CTRL_AUTO_JOIN then s.startJoin else s).gmValid.showTime

/-- WAKE_FIRMWARE_READY (R457): the wake from SL2 ends. Partitions whose upstream links went down are reset before their ports train. -/
def execWakeFirmwareReady (s : State) : Res :=
  if s.pwState != pwWaking || s.pw.freq = 0 then .next s else .next s.wakeDone

end Sys2Proof.Machine
end

