-- ==== Sys2Proof/Machine/SlotPower.lean ====
section
/-! DEFINITION. The commands and events of the slot power channels (13). -/

namespace Sys2Proof.Machine

/-- SP_CMD_ON (R344): an enable command. -/
def execSpCmdOn (c : Nat) (s : State) : Res := .next (if c < 12 then s.spEnable c else s)

/-- SP_CMD_OFF (R346): a disable command. -/
def execSpCmdOff (c : Nat) (s : State) : Res := .next (if c < 12 then s.spDisable c else s)

/-- SP_CMD_CYCLE (R359): a containment power cycle, refused in any other state than ON. -/
def execSpCmdCycle (c : Nat) (s : State) : Res := .next (if c < 12 then (s.spCycle c).2 else s)

/-- What a slot command of OMI group 0x09 answers: the channel's state. -/
def State.slotAnswer (s : State) (c : Nat) : OmiRsp := ok [s.spState c]

/-- ENABLE_SLOT (R423). -/
def execEnableSlot (k : Nat) (s : State) : Res :=
  .next (s.omi k 0x0902 false (nodeArg 0) fun s r =>
    let c := r.arg 1 1
    if 12 ≤ c then s.says stParameter
    else if !s.spFitted c then s.says stState
    else let s := s.spEnable c; (s, some (s.slotAnswer c)))

/-- DISABLE_SLOT (R423). -/
def execDisableSlot (k : Nat) (s : State) : Res :=
  .next (s.omi k 0x0903 false (nodeArg 0) fun s r =>
    let c := r.arg 1 1
    if 12 ≤ c then s.says stParameter
    else if !s.spFitted c then s.says stState
    else let s := s.spDisable c; (s, some (s.slotAnswer c)))

/-- CYCLE_SLOT (R359, R423). -/
def execCycleSlot (k : Nat) (s : State) : Res :=
  .next (s.omi k 0x0904 false (nodeArg 0) fun s r =>
    let c := r.arg 1 1
    if 12 ≤ c then s.says stParameter
    else
      let x := s.spCycle c
      if x.1 then (x.2, some (x.2.slotAnswer c)) else s.says stState)

/-- GATE_CHECK_PASS (R345): gate-good and the rail's level together make the rail valid; a feed change ends (R354). -/
def execGateCheckPass (c : Nat) (s : State) : Res :=
  let st := s.spState c
  if !(s.spc c).driven || !s.runs (.spGate c) then .next s
  else if st = spRamp then
    let s := ((s.stop (.spGate c)).setSpState c spOn).start (.spPerst c) (s.spv SP_TIMERS_T_PERST c * 1000000)
    let s := (s.start (.spClean c) (s.get SP_RETRY_CLEAN c * 1000000000)).spDone c
    .next (s.spFeeds c)
  else if st = spSwitch then
    let s := ((s.stop (.spGate c)).setSpState c spOn).set SP_STATUS_FEED_ACT (s.spc c).feed c
    let s := ((s.bump SP_CNT_SWITCH_COUNT c).evtNode 6 3).spReport c 0 0
    .next (s.spFeeds c)
  else .next s

/-- GATE_CHECK_TIMEOUT (R345, R354): the gate check has not passed t_GATE after the gate was driven. -/
def execGateCheckTimeout (c : Nat) (s : State) : Res :=
  match s.expire (.spGate c) with
  | some s => .next (s.spLatch c 3)
  | none => .next s

/-- GATE_GOOD_LOSS (R345): gate-good lost for more than 100 µs in ON with the active feed good. -/
def execGateGoodLoss (c : Nat) (s : State) : Res :=
  .next (if s.spState c = spOn && s.feedOk c (s.spc c).feed then s.spLatch c 5 else s)

/-- PERST_RELEASE_TIMER (R344 step 7). -/
def execPerstReleaseTimer (c : Nat) (s : State) : Res :=
  match s.expire (.spPerst c) with
  | some s => .next (s.spPerstSet c false)
  | none => .next s

/-- PERST_LEAD_EXPIRY (R346 step 2). -/
def execPerstLeadExpiry (c : Nat) (s : State) : Res :=
  match s.expire (.spLead c) with
  | some s => .next (s.spGatesDown c)
  | none => .next s

/-- RAIL_BELOW_OFF_LEVEL (R346 step 3): SLOT_VSNS below 1.0 V with the gates down. -/
def execRailBelowOffLevel (c : Nat) (s : State) : Res :=
  .next (if s.spState c = spStopping && !(s.spc c).driven then s.spIsOff c else s)

/-- OFF_MAX_EXPIRY (R346): a shunt above 1.0 mV (40 units) latches the channel, else it reports off. -/
def execOffMaxExpiry (c : Nat) (s : State) : Res :=
  match s.expire (.spOffMax c) with
  | some s => .next (if 40 < s.get SP_MEAS_ISENSE c then s.spLatch c 4 else s.spIsOff c)
  | none => .next s

/-- A curve timer at a sample (R348), in µs: it rises above ISET, and falls to 0 otherwise. -/
def curveStep (above : Bool) (t : Nat) : Nat := if above then t + 1 else t - 1

/-- SHUNT_SAMPLE (R348): each enabled point's timer moves, and the first to reach its time trips the channel. -/
def execShuntSample (c v : Nat) (s : State) : Res :=
  let s := s.set SP_MEAS_ISENSE v c
  if !(s.spc c).driven then .next s
  else
    let crv := s.spCurve c
    let above (k : Nat) : Bool := let x := crv.getD k (0, 0); x.1 != 0 && 4 * x.1 < v
    let ts := (List.range 8).map fun k => curveStep (above k) ((s.spc c).curve.getD k 0)
    let s := s.updSpc c fun x => { x with curve := ts }
    match (List.range 8).find? fun k => above k && (crv.getD k (0, 0)).2 ≤ ts.getD k 0 with
    | some k => .next (s.spTrip c 2 k)
    | none => .next s

/-- FAST_COMPARATOR_TRIP (R350). -/
def execFastComparatorTrip (c : Nat) (s : State) : Res := .next (s.spTrip c 1 (s.get SP_STATUS_POINT c))

/-- RETRY_INTERVAL_EXPIRY (R351, R353): the retry begins, or is held while the slot is empty. -/
def execRetryIntervalExpiry (c : Nat) (s : State) : Res :=
  match s.expire (.spRetry c) with
  | some s => .next (if s.on SP_STATUS_PRESENT c then s.spRetryNow c else s.updSpc c fun x => { x with retryHeld := true })
  | none => .next s

/-- CLEAN_EXPIRY (R352). -/
def execCleanExpiry (c : Nat) (s : State) : Res :=
  match s.expire (.spClean c) with
  | some s => .next (s.set SP_STATUS_RETRIES_LEFT (s.get SP_RETRY_COUNT c) c)
  | none => .next s

/-- PRESENCE_DEBOUNCED (R353). -/
def execPresenceDebounced (c : Nat) (present : Bool) (s : State) : Res :=
  .next ((s.updSpc c fun x => { x with pin := present }).spPresence c)

/-- EMPTY_TIMEOUT (R353): the retry is cancelled, the budget returns, the channel is OFF. -/
def execEmptyTimeout (c : Nat) (s : State) : Res :=
  match s.expire (.spEmpty c) with
  | some s =>
    let st := s.spState c
    if st = spRetryWait || st = spFaultOff then
      let s := ((s.stop (.spRetry c)).updSpc c fun x => { x with retryHeld := false }).setSpState c spOff
      .next (s.set SP_STATUS_RETRIES_LEFT (s.get SP_RETRY_COUNT c) c)
    else .next s
  | none => .next s

/-- FEED_RETURN_EXPIRY (R354): the preferred feed has been good for RETURN. -/
def execFeedReturnExpiry (c : Nat) (s : State) : Res :=
  match s.expire (.spReturn c) with
  | some s => .next (if s.spState c = spOn && s.feedOk c (1 - (s.spc c).feed) then s.spChange c else s)
  | none => .next s

/-- BBM_EXPIRY (R354 step 2, R355): the other gate is driven, in RAMP if its feed is still good. -/
def execBbmExpiry (c : Nat) (s : State) : Res :=
  match s.expire (.spBbm c) with
  | some s =>
    let st := s.spState c
    if st = spSwitch then .next (s.spDrive c (s.spc c).feed)
    else if st = spRamp then .next (s.spFeedOn c)
    else .next s
  | none => .next s

/-- RAIL_LOST_TIMEOUT (R355): SLOT_VSNS below 10.8 V for 1 ms while no fitted feed is good. -/
def execRailLostTimeout (c : Nat) (s : State) : Res :=
  let st := s.spState c
  if (st = spOn || st = spSwitch) && !s.feedOk c 0 && !s.feedOk c 1 then
    let s := ((s.spStopTimers c).spPerstSet c true).spGates c false
    let s := ((s.setSpState c spWaitFeed).set SP_STATUS_CAUSE 6 c).spWarnEnd c
    .next (((s.updSpc c fun x => { x with cycling := false }).spReport c 2 6).spPowerOff c)
  else .next s

/-- WARN_LEAD_EXPIRY (R356, R357, R359): LEAD has passed since the warning. -/
def execWarnLeadExpiry (c : Nat) (s : State) : Res :=
  match s.expire (.spWarn c) with
  | some s =>
    let x := s.spc c
    if x.pfDone then .next (s.spPfOff c)
    else if x.cycling && s.spState c = spOn then .next (s.spStop c)
    else .next s
  | none => .next s

/-- CYCLE_OFF_EXPIRY (R359 step 3): the power cycle turns the channel on from step 1 of R344. -/
def execCycleOffExpiry (c : Nat) (s : State) : Res :=
  match s.expire (.spCycleOff c) with
  | some s => .next (if s.spState c = spCycleWait then s.spStart c else s)
  | none => .next s

end Sys2Proof.Machine
end

