-- ==== Sys2Proof/Machine/RegOps.lean ====
section
/-! DEFINITION. Shared operations of register access (00, R11 to R16; 16, R413, R414): the value of a register as it reads, what a write of
any of its fields does, holding and staging copies, offsets of a block. -/

namespace Sys2Proof.Machine

/-- The state a meaning leaves. -/
def State.via (s : State) (r : Res) : State :=
  match r with
  | .next t => t
  | .fault _ => s
  | .refused _ => s

/-! ## Reading -/

/-- The registers of a lane, reached through LN_SEL (R337). -/
def isLaneReg : Reg → Bool
  | .LN_LANE_CTRL | .LN_LANE_STAT | .LN_LANE_EQ | .LN_LANE_CNT_CORR | .LN_LANE_CNT_LOCK | .LN_LANE_CNT_TEST => true
  | _ => false

/-- The index that an access at a place reaches: for a lane register that of the selected lane, or none beyond the port's present width
(R337). -/
def State.regIndex (s : State) (r : Reg) (i : Nat) : Option Nat :=
  if isLaneReg r then
    let p := s.get LN_SEL_PORT
    let lane := s.get LN_SEL_LANE
    if s.formedWidth p ≤ lane then none else some (laneKey p lane)
  else some i

/-- A register's whole value as it reads: fields that are written only, and reserved bits, read 0 (R12). -/
def State.regValue (s : State) (r : Reg) (i : Nat) : Nat :=
  if r = .SPN_TIME then s.spindle % 65536 + s.spindleNs * 2 ^ 32
  else (r.fields.map fun f => if f.acc == .wo then 0 else s.get f i * 2 ^ f.lsb).sum

def dwordAt (v dw : Nat) : Nat := v / 2 ^ (32 * dw) % 2 ^ 32

/-- Place of a dword in the holding and staging copies. -/
def holdKey (r : Reg) (i dw : Nat) : Nat := (i * 16 + dw) * 512 + r.ctorIdx

/-- A read of a dword: of a wide register the lowest captures the others, which are read from the copy (R15). -/
def State.readDword (s : State) (r : Reg) (i dw : Nat) : Nat × State :=
  match s.regIndex r i with
  | none => (0, s)
  | some i =>
    if dw = 0 then
      let v := s.regValue r i
      let copies := (List.range (r.dwords - 1)).foldl (fun t d => Tab.put 0 t (holdKey r i (d + 1)) (dwordAt v (d + 1))) s.hold.copy
      (dwordAt v 0, if r.dwords = 1 then s else { s with hold.copy := copies })
    else (Tab.get 0 s.hold.copy (holdKey r i dw), s)

/-! ## Writing -/

/-- The register's own conditions on a write of its plain fields. -/
def State.plainOpen (s : State) (r : Reg) (f : Fld) (i : Nat) : Bool :=
  match r with
  | .PST_CTRL => (f != PST_CTRL_CH0_FIT && f != PST_CTRL_CH1_FIT) || !s.on JNL_CTRL_ADMIT_EN
  | .PST_BANK => !s.on JNL_CTRL_ADMIT_EN
  | .PST_VLIM => !s.on JNL_CTRL_ADMIT_EN
  | .PST_HUV_CFG => f != PST_HUV_CFG_DIV || !s.on JNL_CTRL_ADMIT_EN
  | .PX_PORT_CFG => f != PX_PORT_CFG_ROLE || !s.on PX_PORT_CFG_ENABLE i
  | .LB_CTRL => f != LB_CTRL_CLK_DIV || !s.on LB_CTRL_EN
  | .DM_CFG => f == DM_CFG_MAX_TAGS || !s.on DM_CTRL_ENABLE i
  | .DM_RING => !s.on DM_CTRL_ENABLE i
  | _ => true

/-- The plain fields of a write take their values under their access codes. Feed thresholds that would not rise from V_OFF over V_ON to
V_OV leave the register as it was (R484). -/
def State.writePlain (s : State) (r : Reg) (i : Nat) (g : Fld → Option Nat) : State :=
  let t := r.fields.foldl (init := s) fun t f =>
    match g f with
    | some v => if !f.own && s.plainOpen r f i then t.write f v i else t
    | none => t
  if r = .PST_FEED_CFG && !(t.get PST_FEED_CFG_V_OFF < t.get PST_FEED_CFG_V_ON && t.get PST_FEED_CFG_V_ON < t.get PST_FEED_CFG_V_OV)
  then s else t

/-- The value a write gives a field, cut to its width. -/
def wval (g : Fld → Option Nat) (f : Fld) : Option Nat := (g f).map fun v => v % 2 ^ f.width

/-- A 1 is written to a field that acts on the written value. -/
def whit (g : Fld → Option Nat) (f : Fld) : Bool := ((wval g f).getD 0) != 0

/-- A field is written with another value than it has. -/
def State.wchg (s : State) (g : Fld → Option Nat) (f : Fld) (i : Nat := 0) : Bool := ((wval g f).getD (s.get f i)) != s.get f i

/-- The register's word after a write, for commands that take it whole. -/
def State.wword (s : State) (r : Reg) (i : Nat) (g : Fld → Option Nat) : Nat :=
  (r.fields.map fun f => (wval g f).getD (if f.acc == .rw1c || f.acc == .wo then 0 else s.get f i) * 2 ^ f.lsb).sum

/-- The first of a list of fields is written. -/
def anyWritten (g : Fld → Option Nat) (fs : List Fld) : Bool := fs.any fun f => (g f).isSome

/-- The fields of the fabric and the links whose write is a command of its own. -/
def State.ownLink (s : State) (r : Reg) (i : Nat) (g : Fld → Option Nat) : State :=
  match r with
  | .RING_CTRL =>
    let s := if whit g RING_CTRL_LEAVE_A then s.startLeave .a else s
    let s := if whit g RING_CTRL_LEAVE_B then s.startLeave .b else s
    if whit g RING_CTRL_JOIN then s.startJoin else s
  | .ML_CTRL =>
    let s := if s.wchg g ML_CTRL_WIDTH_REQ i then s.via (execWidthReq i ((wval g ML_CTRL_WIDTH_REQ).getD 0) s) else s
    let s := if s.wchg g ML_CTRL_FORCE_DOWN i then s.via (execForceDown i (whit g ML_CTRL_FORCE_DOWN) s) else s
    let s := if s.wchg g ML_CTRL_ENABLE i then s.via (execMlEnable i (whit g ML_CTRL_ENABLE) s) else s
    if whit g ML_CTRL_RETRAIN then s.via (execMlRetrain i s) else s
  | .ML_ERR_STATUS => if whit g ML_ERR_STATUS_FLAP_HOLD then s.via (execFlapHoldClear i s) else s
  | .LN_LANE_CTRL =>
    let p := i / 16
    let lane := i % 16
    let s := if whit g LN_LANE_CTRL_CLR_UNFIT then s.via (execClrUnfit p lane s) else s
    if anyWritten g [LN_LANE_CTRL_TEST, LN_LANE_CTRL_LOOP] then
      let x := s.fresh
      x.2.via (execLaneTest p lane ((wval g LN_LANE_CTRL_TEST).getD (s.get LN_LANE_CTRL_TEST i))
        (((wval g LN_LANE_CTRL_LOOP).getD (s.get LN_LANE_CTRL_LOOP i)) != 0) x.1 x.2)
    else s
  | .PX_DUAL => if anyWritten g r.fields then s.via (execPxDualWrite (s.wword r i g) s) else s
  | .PX_BIF =>
    if s.wchg g PX_BIF_H0 i || s.wchg g PX_BIF_H1 i then s.via (execPxBifWrite i (s.wword r i g) s) else s
  | .PX_PMAP => if anyWritten g r.fields then s.via (execPxPmapWrite i (s.wword r i g) s) else s
  | .PX_PORT_CFG =>
    if s.wchg g PX_PORT_CFG_ENABLE i then s.via (execPxPortEnable i (whit g PX_PORT_CFG_ENABLE) s) else s
  | _ => s

/-- The fields of the engines whose write is a command of its own. -/
def State.ownEngine (s : State) (r : Reg) (i : Nat) (g : Fld → Option Nat) : State :=
  match r with
  | .DM_CTRL =>
    let s := if s.wchg g DM_CTRL_PAUSE i then s.via (execDmPause i (whit g DM_CTRL_PAUSE) s) else s
    let s := if s.wchg g DM_CTRL_ENABLE i then s.via (execDmEnable i (whit g DM_CTRL_ENABLE) s) else s
    let s := if whit g DM_CTRL_RESET then s.via (execDmReset i s) else s
    let s := if whit g DM_CTRL_RESUME then s.via (execDmResume i s) else s
    if whit g DM_CTRL_START then s.via (execDmStart i s) else s
  | .DM_TAIL =>
    match wval g DM_TAIL_TAIL with
    | some v => s.via (execDmTailWrite i v s)
    | none => s
  | .LB_CTRL =>
    let s := if s.wchg g LB_CTRL_EN then s.via (execLbEnable (whit g LB_CTRL_EN) s) else s
    let s := if whit g LB_CTRL_ELOG_CLR then s.via (execElogClr s) else s
    if whit g LB_CTRL_RESET then s.via (execBridgeReset s) else s
  | .LB_PREG => if anyWritten g r.fields then s.via (execLbPregWrite (i / 4) (i % 4) (s.wword r i g) s) else s
  | .SP_CMD =>
    let s := if whit g SP_CMD_OFF then s.via (execSpCmdOff i s) else s
    let s := if whit g SP_CMD_ON then s.via (execSpCmdOn i s) else s
    if whit g SP_CMD_CYCLE then s.via (execSpCmdCycle i s) else s
  | .PMON_CTRL =>
    let s := if whit g PMON_CTRL_CLR_EVT then s.via (execClrEvt s) else s
    if whit g PMON_CTRL_CLR_FLT then s.via (execClrFlt s) else s
  | .PMON_SHV_SEED =>
    match wval g PMON_SHV_SEED_SEED with
    | some v => s.via (execShvSeedWrite v s)
    | none => s
  | .PMON_BW_CFG => if anyWritten g r.fields then s.via (execBwCfgWrite (s.wword r i g) s) else s
  | .FLT_CTRL => if anyWritten g r.fields then s.via (execFltCtrlWrite i (s.wword r i g) s) else s
  | _ => s

/-- The fields of management whose write is a command of its own. -/
def State.ownMgmt (s : State) (r : Reg) (i : Nat) (g : Fld → Option Nat) : State :=
  match r with
  | .FC_STATUS_LO => s.via (execFcStatusClear false ((wval g FC_STATUS_LO_UNIT).getD 0) s)
  | .FC_STATUS_HI => s.via (execFcStatusClear true ((wval g FC_STATUS_HI_UNIT).getD 0) s)
  | .FC_INJECT => if anyWritten g r.fields then s.via (execFcInjectWrite (s.wword r i g) s) else s
  | .FC_PORT => if whit g FC_PORT_REL then s.via (execFcPortRel i s) else s
  | .MB_DOORBELL => if whit g MB_DOORBELL_GO then s.boxGo i else s
  | .MB_EQ_HEAD =>
    match wval g MB_EQ_HEAD_HEAD with
    | some v => s.via (execEventQueueHeadWrite i v s)
    | none => s
  | .PWR_CTRL =>
    match wval g PWR_CTRL_PL_TARGET with
    | some v => s.plTarget v
    | none => s
  | .PWR_PADHOLD => if anyWritten g r.fields then s.padRelease (s.wword r i g) else s
  | _ => s

/-- What follows from a plain write: `was` is the state before it. -/
def State.afterWrite (s was : State) (r : Reg) (i : Nat) : State :=
  match r with
  | .RING_CTRL =>
    let s := if was.on RING_CTRL_HOLD_A_EN && !s.on RING_CTRL_HOLD_A_EN then s.enableCleared .a else s
    if was.on RING_CTRL_HOLD_B_EN && !s.on RING_CTRL_HOLD_B_EN then s.enableCleared .b else s
  | .JNL_CTRL =>
    let s := if s.get JNL_CTRL_E_GATE != was.get JNL_CTRL_E_GATE then s.computeVmax else s
    if s.on JNL_CTRL_ADMIT_EN && !was.on JNL_CTRL_ADMIT_EN then s.admitEn else s
  | .PST_CTRL => s.feedDetect.computeVmax
  | .PST_BANK | .PST_VLIM | .PST_HUV_CFG => s.computeVmax
  | .CLK_CTRL => s.clocksChanged
  | .PX_PORT_CFG => if s.cfgWord i != was.cfgWord i then s.tellCfg i else s
  | .SP_CFG => s.spPresence i
  | .PX_SLOT => s.spPresence (s.get PX_SLOT_CHAN i)
  | .SCH_CTRL | .SCH_STARVE | .SCH_PORT | .SCH_MTR_C | .SCH_MTR_P => s.flag SCH_STATUS_PEND true
  | .SPN_CTRL => s.elect
  | .SC_TT_POOL => s.adjustTt
  | .SC_CTRL => if was.get SC_CTRL_ORDER_MODE = 1 && s.get SC_CTRL_ORDER_MODE = 0 then s.orderStrict else s
  | _ => s

/-- A write of fields of a register: `g` gives the value written to a field, or none for a field that is not written. -/
def State.writeFields (s : State) (r : Reg) (i : Nat) (g : Fld → Option Nat) : State :=
  let t := (s.writePlain r i g).afterWrite s r i
  ((t.ownLink r i g).ownEngine r i g).ownMgmt r i g

/-- The fields that lie in a dword, wholly or in part. -/
def inDword (f : Fld) (dw : Nat) : Bool := f.lsb < 32 * (dw + 1) && 32 * dw < f.lsb + f.width

/-- A write of a dword of register `r` of index `i`. Of a wide register the lower dwords are staged; with the highest they all take effect,
those not written keeping their values (R15). `g` says which fields of a register of one dword are written and with what. -/
def State.writeDword (s : State) (r : Reg) (i dw v : Nat) (g : Fld → Option Nat := fun f => some (v / 2 ^ f.lsb)) : State :=
  match s.regIndex r i with
  | none => s
  | some i =>
    if r.dwords = 1 then (if dw = 0 then s.writeFields r i g else s)
    else if dw + 1 < r.dwords then { s with hold.staged := Tab.put none s.hold.staged (holdKey r i dw) (some (v % 2 ^ 32)) }
    else if dw + 1 = r.dwords then
      let now := s.regValue r i
      let low := ((List.range dw).map fun d => ((Tab.get none s.hold.staged (holdKey r i d)).getD (dwordAt now d)) * 2 ^ (32 * d)).sum
      let whole := low + v % 2 ^ 32 * 2 ^ (32 * dw)
      let s := { s with hold.staged := (List.range dw).foldl (fun t d => Tab.put none t (holdKey r i d) none) s.hold.staged }
      s.writeFields r i fun f => some (whole / 2 ^ f.lsb)
    else s

/-! ## Blocks (Table 16.4) -/

/-- Index and dword of a register that lie at an offset. -/
def placeAt (p : Place) (dwords off : Nat) : Option (Nat × Nat) :=
  let hit (a b : Nat) : Option (Nat × Nat) :=
    let o := p.base + p.s1 * a + p.s2 * b
    if o ≤ off && off < o + 4 * dwords then some (p.first + a * p.n2 + b, (off - o) / 4) else none
  if off < p.base then none
  else
    let a := if p.s1 = 0 then 0 else min (p.n1 - 1) ((off - p.base) / p.s1)
    let b := if p.s2 = 0 then 0 else min (p.n2 - 1) ((off - p.base - p.s1 * a) / p.s2)
    hit a b

/-- What lies at an offset of a block: the register, its index and the dword. -/
def regAt (block off : Nat) : Option (Reg × Nat × Nat) :=
  Reg.all.findSome? fun r =>
    if r.place.block = block then (placeAt r.place r.dwords off).map fun x => (r, x.1, x.2) else none

/-- The blocks of a group of commands (Table 16.4). -/
def groupBlocks : Nat → List Nat
  | 0x02 => [5]
  | 0x03 => [6]
  | 0x05 => [7, 8]
  | 0x06 => [0xB]
  | 0x07 => [0xC]
  | 0x08 => [9, 0xA]
  | 0x09 => [0xD]
  | 0x0A => [0xE, 0xF]
  | 0x0B => [0x10]
  | 0x0C => [0x11, 0x12, 4]
  | 0x0E => [1, 2, 3, 4]
  | _ => []

/-- The fields that Write Registers may write (Table 16.4). -/
def cmdWrites (group : Nat) (f : Fld) : Bool :=
  match f.reg with
  | .RING_CTRL => f == RING_CTRL_RETURN_EN || f == RING_CTRL_HOLD_A_EN || f == RING_CTRL_HOLD_B_EN
  | .RING_FITTED | .RING_TIMERS | .RING_HOME => true
  | .RING_PORT => f == RING_PORT_BYP_RATE_CAP || f == RING_PORT_RATE_CAP
  | .ML_CTRL => f == ML_CTRL_WIDTH_REQ || f == ML_CTRL_FORCE_DOWN || f == ML_CTRL_ENABLE
  | .ML_TIMERS | .ML_LIMITS | .ML_CREDIT_ADV_0 | .ML_CREDIT_ADV_1 | .ML_CREDIT_ADV_2 | .ML_ERR_STATUS => true
  | .LN_SEL | .LN_FIT | .LN_EQ => true
  | .LN_LANE_CTRL => f == LN_LANE_CTRL_TEST || f == LN_LANE_CTRL_LOOP || f == LN_LANE_CTRL_CLR_UNFIT
  | .PX_PORT_CFG => group == 0x0E && (f == PX_PORT_CFG_RATE_CAP || f == PX_PORT_CFG_FLIT_EN || f == PX_PORT_CFG_IDE_PASS)
  | .PX_BIF => group == 0x0E && f == PX_BIF_ERR
  | .PX_PWR => group == 0x0C
  | .PART_TIMERS | .PART_NPQ => true
  | .PART_CTRL => f == PART_CTRL_SELF_THAW
  | .WIN_VLOG_INFO => f == WIN_VLOG_INFO_VALID
  | .SC_CTRL | .SC_ORDER | .SC_FABRIC | .SC_EGQ | .SC_PIN_P | .SC_PIN_NP | .SC_PIN_CPL => true
  | .SC_TT_POOL => f == SC_TT_POOL_TT_CELLS
  | .SCH_CTRL | .SCH_STARVE | .SCH_PORT | .SCH_MTR_C | .SCH_MTR_P => true
  | .JNL_CTRL => f == JNL_CTRL_E_GATE
  | .JNL_TIMERS | .JNL_TIMERS2 | .JNL_PF => true
  | .SPN_CTRL | .SPN_SYNC | .SPN_HOLD | .SPN_TT_PART => true
  | .SPN_PPS => f == SPN_PPS_PPS_WIDTH
  | .SPN_PORT => f == SPN_PORT_ASYM
  | .SPN_GRAIN => f == SPN_GRAIN_GRAIN_MAX
  | .SPN_PIN => f == SPN_PIN_CAP_EDGE || f == SPN_PIN_CAP_MODE
  | .DM_GLOBAL => f == DM_GLOBAL_BUF_MAX
  | .DM_TAGQ => true
  | .SP_WARN | .SP_CFG | .SP_TIMERS | .SP_RETRY | .SP_FEED | .SP_FAST | .SP_CURVE => true
  | .FC_STATUS_LO | .FC_STATUS_HI | .FC_MASK_LO | .FC_MASK_HI | .FC_POLICY => true
  | .FC_FIRST => f == FC_FIRST_VALID
  | .FC_PORT => f != FC_PORT_RUNG && f != FC_PORT_REL
  | .LB_INT_STATUS => true
  | .LB_CTRL => f == LB_CTRL_ELOG_CLR
  | r => (r.place.block == 0x10 || r.place.block == 0x11 || r.place.block == 0x12) && f.acc == .rw

/-- A value lies in a field's range and is no reserved encoding. -/
def domHas (d : Dom) (v : Nat) : Bool :=
  !(d.resv.any fun r => r.1 ≤ v && v ≤ r.2) && (d.named.contains v || (d.lo ≤ v && v ≤ d.hi))

/-- One item of Write Registers: the dword, its value and mask. -/
structure WrItem where
  off : Nat
  value : Nat
  mask : Nat

def OmiRun.wrItems (r : OmiRun) : List WrItem :=
  (List.range (r.arg 3 1)).map fun j => { off := r.arg (4 + 12 * j) 2, value := r.arg (8 + 12 * j) 4, mask := r.arg (12 + 12 * j) 4 }

/-- Part of a mask, or of a value, that lies on a field, when both start at dword `dw`. -/
def onField (f : Fld) (dw m : Nat) : Nat := m * 2 ^ (32 * dw) / 2 ^ f.lsb % 2 ^ f.width

/-- Bits of a dword that belong to a field. -/
def fieldBits (r : Reg) (dw : Nat) : Nat :=
  (r.fields.map fun f => (2 ^ f.width - 1) * 2 ^ f.lsb / 2 ^ (32 * dw) % 2 ^ 32).foldl (· ||| ·) 0

/-- What is wrong with an item: an offset that is not aligned, a field not in the table's list, a value outside its range, a reserved bit
written 1 (R413). -/
def State.itemBad (s : State) (group block : Nat) (x : WrItem) : Bool :=
  x.off % 4 != 0 ||
    match regAt block x.off with
    | none => x.value &&& x.mask != 0
    | some (r, i, dw) =>
      (x.value &&& x.mask &&& (0xFFFFFFFF - fieldBits r dw)) != 0 ||
        r.fields.any fun f =>
          let m := onField f dw x.mask
          inDword f dw && m != 0 &&
            (!cmdWrites group f || f.acc == .ro ||
              (f.acc == .rw && !domHas f.dom ((s.get f ((s.regIndex r i).getD i) &&& (2 ^ f.width - 1 - m)) ||| (onField f dw x.value &&& m))))

/-- An item is applied: of a field that reads what was written the bits under the mask change; of any other the masked bits are written
(R413). What is written is kept for the application after a reset of the node (R507). -/
def State.applyItem (s : State) (block : Nat) (x : WrItem) : State :=
  match regAt block x.off with
  | none => s
  | some (r, i, dw) =>
    let i := (s.regIndex r i).getD i
    let now := dwordAt (s.regValue r i) dw
    let word := (now &&& (0xFFFFFFFF - x.mask)) ||| (x.value &&& x.mask)
    let t := s.writeDword r i dw word fun f =>
      let m := onField f 0 x.mask
      if m = 0 then none
      else if f.acc == .rw then some ((s.get f i &&& (2 ^ f.width - 1 - m)) ||| (onField f 0 x.value &&& m))
      else some (onField f 0 x.value &&& m)
    r.fields.foldl (init := t) fun t f =>
      if f.acc == .rw && inDword f dw && onField f dw x.mask != 0 && dw + 1 = r.dwords then
        { t with boot.store := Tab.put 0 t.boot.store (f.key i) (t.get f i + 1) }
      else t

/-- What is wrong with a Write Registers command as a whole (R413). -/
def State.wrBad (s : State) (r : OmiRun) : Bool :=
  let n := r.arg 3 1
  let block := r.arg 2 1
  !(groupBlocks (r.opcode / 256)).contains block || n = 0 || 168 < n ||
    r.wrItems.any fun x => s.itemBad (r.opcode / 256) block x

end Sys2Proof.Machine
end

