-- ==== Sys2Proof/Machine/Registers.lean ====
section
/-! DEFINITION. The commands of register access (00, R12 to R16; 16, R413). -/

namespace Sys2Proof.Machine

/-- REGISTER_WRITE (R12, R8, R16): a dword is written to a register. -/
def execRegisterWrite (r : Reg) (i dw v : Nat) (s : State) : Res := .next (s.writeDword r i dw (v % 2 ^ 32))

/-- NARROW_REGISTER_WRITE (R14): discarded; through the BAR0 of a management endpoint it is counted there. -/
def execNarrowRegisterWrite (ep : Option Nat) (s : State) : Res :=
  .next (match ep with
    | some k => if k < 16 then s.bump MB_ACC_ERR_COUNT k else s
    | none => s)

/-- WIDE_REGISTER_READ (R15): the read of the lowest dword captures the higher ones. -/
def execWideRegisterRead (r : Reg) (i : Nat) (s : State) : Res := .next (s.readDword r i 0).2

/-- WIDE_REGISTER_HIGH_WRITE (R15): the highest dword is written, and the register takes effect. -/
def execWideRegisterHighWrite (r : Reg) (i v : Nat) (s : State) : Res := .next (s.writeDword r i (r.dwords - 1) (v % 2 ^ 32))

/-- READ_REGISTERS (R413). -/
def execReadRegisters (k : Nat) (s : State) : Res :=
  match (s.mbox k).running with
  | none => .next s
  | some w =>
    let op := w.run.opcode
    if op % 256 != 0 || (groupBlocks (op / 256)).isEmpty then .next s
    else .next (s.omi k op false (s.nodesArg 0) fun s r =>
      let block := r.arg 2 1
      let off := r.arg 4 2
      let n := r.arg 6 2
      if !(groupBlocks (op / 256)).contains block || off % 4 != 0 || n = 0 || 500 < n then s.says stParameter
      else
        let x := (List.range n).foldl (init := (([] : List Nat), s)) fun x j =>
          match regAt block (off + 4 * j) with
          | some (r, i, dw) =>
            let y := x.2.readDword r i dw
            (x.1 ++ le 4 y.1, y.2)
          | none => (x.1 ++ le 4 0, x.2)
        (x.2, some (ok x.1)))

/-- WRITE_REGISTERS (R413): a command with a bad item is answered PARAMETER and nothing is forwarded. Fields of SCH take effect at the latch
of R232, with which the command ends. -/
def execWriteRegisters (k : Nat) (s : State) : Res :=
  match (s.mbox k).running with
  | none => .next s
  | some w =>
    let op := w.run.opcode
    if op % 256 != 1 || (groupBlocks (op / 256)).isEmpty then .next s
    else
      let bad := s.wrBad w.run
      .next (s.omi k op (!bad) (if bad then s.hereArg else s.nodesArg 0) fun s r =>
        if bad then s.says stParameter
        else
          let s := r.wrItems.foldl (fun s x => s.applyItem (r.arg 2 1) x) s
          if r.arg 2 1 = 8 then ({ s with sch.cmds := s.sch.cmds ++ [r.id] }, none) else (s, some ok))

end Sys2Proof.Machine
end

