-- ==== Sys2Proof/Machine/BootOps.lean ====
section
/-! DEFINITION. Shared operations of reset and bring-up (21): the checks of the board configuration record, its application, the first steps
of firmware. -/

namespace Sys2Proof.Machine

/-! ## The record's checks (R501, R502) -/

/-- A value of a register's word has no field out of range and no reserved encoding. -/
def wordOk (r : Reg) (v : Nat) : Bool := r.fields.all fun f => f.acc != .rw || domHas f.dom (v / 2 ^ f.lsb % 2 ^ f.width)

/-- LEN of a typed item (Table 21.5). -/
def itemLenOk (x : Nat × List Nat) : Bool :=
  let n := x.2.length
  match x.1 with
  | 1 => n == 16
  | 2 => n == 44
  | 3 | 4 => n == 8
  | 5 => n == 60
  | 6 => n == 32
  | 7 => n == 4
  | 8 => n == 4 + 12 * leAt x.2 2 2
  | _ => true

/-- The registers of a SLOT item from byte 4 on, and those of a PERSIST item. -/
def slotRegs : List Reg := [.SP_CFG, .SP_TIMERS, .SP_RETRY, .SP_FEED, .SP_FAST]
def persistRegs : List Reg := [.PST_CTRL, .PST_BANK, .PST_VLIM, .PST_HUV_CFG, .PST_FEED_CFG, .PST_FEED_DIV, .PST_TIMERS]

/-- The points of a SLOT item's curve: ISET and time in µs. -/
def itemCurve (b : List Nat) : List (Nat × Nat) :=
  (List.range 8).map fun k =>
    let w := leAt b (24 + 4 * k) 4
    (w / 2 ^ SP_CURVE_ISET.lsb % 1024, w % 2 ^ 14 * curveUnit (w / 2 ^ SP_CURVE_UNIT.lsb % 4))

/-- The lane groups of an item (R275, R276). -/
def State.setGroups (s : State) (b : List Nat) : State :=
  let s := (List.range 9).foldl (init := s) fun s g =>
    let v := leAt b g 1
    (s.set PX_BIF_H0 v g).set PX_BIF_H1 (if g = 8 then 0 else v / 8) g
  (List.range 8).foldl (init := s) fun s g =>
    (List.range 5).foldl (fun s j => s.set (pmapFld j) (leAt b (12 + 4 * g) 4 / 64 ^ j) g) s

def State.groupsOk (s : State) (b : List Nat) : Bool :=
  ((List.range 9).all fun g => bifOk g (leAt b g 1 % 8) (if g = 8 then 0 else leAt b g 1 / 8 % 8)) &&
    ((List.range 8).all fun g => wordOk .PX_PMAP (leAt b (12 + 4 * g) 4)) && (s.setGroups b).numbersOk

/-- The values of an item lie in their ranges (R502). -/
def State.itemOk (s : State) (x : Nat × List Nat) : Bool :=
  let b := x.2
  match x.1 with
  | 1 =>
    let st := leAt b 4 2
    (st == 0 || (50 ≤ st && st ≤ 1000)) && domHas SPN_CTRL_GM_PRIO.dom (leAt b 3 1) && wordOk .CLK_CTRL (leAt b 6 1 % 32)
  | 2 => s.groupsOk b
  | 3 =>
    let v := leAt b 3 1
    leAt b 0 1 < 48 && (leAt b 1 1 == 0 || leAt b 1 1 == 3) && (!(leAt b 2 1).testBit 7 || leAt b 2 1 % 16 < 12) &&
      domHas PX_PORT_CFG_RATE_CAP.dom (v % 8) && domHas PX_PORT_CFG_TAG_SIZE.dom (v / 16 % 4) && domHas PX_PORT_CFG_MPS.dom (leAt b 4 1)
  | 4 => leAt b 0 1 < 64 && leAt b 1 1 < 48 && leAt b 2 1 < 16
  | 5 =>
    leAt b 0 1 < 12 && ((slotRegs.zip (List.range 5)).all fun y => wordOk y.1 (leAt b (4 + 4 * y.2) 4)) &&
      ((List.range 8).all fun k => wordOk .SP_CURVE (leAt b (24 + 4 * k) 4)) && curveOk ((itemCurve b).filter fun y => y.1 != 0)
  | 6 => (persistRegs.zip (List.range 7)).all fun y => wordOk y.1 (leAt b (4 * y.2) 4)
  | 8 =>
    1 ≤ leAt b 0 1 && leAt b 0 1 ≤ 0x12 &&
      (List.range (leAt b 2 2)).all fun j =>
        let off := leAt b (4 + 12 * j) 2
        let v := leAt b (8 + 12 * j) 4
        let m := leAt b (12 + 12 * j) 4
        off % 4 == 0 &&
          match regAt (leAt b 0 1) off with
          | some (r, _, dw) => r.fields.all fun f =>
            let fm := onField f dw m
            !inDword f dw || fm == 0 || f.acc != .rw || domHas f.dom (onField f dw v &&& fm)
          | none => true
  | _ => true

/-- The record, where it is valid (R502). -/
def State.record (s : State) : Option (List (Nat × List Nat)) :=
  match s.recordItems with
  | none => none
  | some xs =>
    let ps := bodies xs 4
    let distinct (off : Nat) : Bool := !hasDup (ps.map fun b => leAt b off 1)
    if (xs.all fun x => itemLenOk x && s.itemOk x) && distinct 0 && distinct 1 && distinct 2 &&
        (ps.filter fun b => (leAt b 3 1).testBit 0).length ≤ 1
    then some xs else none

/-! ## Its application (R504 step 2) -/

/-- A whole word is written to a register. -/
def State.putWord (s : State) (r : Reg) (i v : Nat) : State := s.writeFields r i fun f => some (v / 2 ^ f.lsb)

/-- The fields that firmware sets itself (R502). -/
def ownEnables : List Fld :=
  [JNL_CTRL_ADMIT_EN, RING_CTRL_JOIN, RING_CTRL_HOLD_A_EN, RING_CTRL_HOLD_B_EN, PX_PORT_CFG_ENABLE, ML_CTRL_ENABLE]

/-- An item of a PRESET: one that names a field of R502's list is ignored. -/
def State.applyPreset (s : State) (block off v m : Nat) : State :=
  match regAt block off with
  | some (r, i, dw) =>
    if r.fields.any fun f => ownEnables.contains f && inDword f dw && onField f dw m != 0 then s
    else
      let i := (s.regIndex r i).getD i
      let now := dwordAt (s.regValue r i) dw
      s.writeDword r i dw ((now &&& (0xFFFFFFFF - m)) ||| (v &&& m)) fun f =>
        let fm := onField f 0 m
        if fm = 0 then none
        else if f.acc == .rw then some ((s.get f i &&& (2 ^ f.width - 1 - fm)) ||| (onField f 0 v &&& fm))
        else some (onField f 0 v &&& fm)
  | none => s

/-- One typed item other than PARTITION. -/
def State.applyTyped (s : State) (x : Nat × List Nat) : State :=
  let b := x.2
  match x.1 with
  | 1 =>
    let s := s.putWord .CLK_CTRL 0 (leAt b 6 1 % 32)
    let s := s.via (execPxDualWrite (leAt b 8 4) s)
    (s.write RING_FITTED_FITTED (leAt b 0 2)).write SPN_CTRL_GM_PRIO (leAt b 3 1)
  | 2 => (s.setGroups b).pllCheck
  | 3 =>
    let p := leAt b 0 1
    let v := leAt b 3 1
    let c := leAt b 2 1
    let s := if c.testBit 7 then (s.write PX_SLOT_CHAN c p).write PX_SLOT_VALID 1 p else s.set PX_SLOT_VALID 0 p
    let s := ((s.write PX_PORT_CFG_RATE_CAP v p).write PX_PORT_CFG_FLIT_EN (v / 8) p).write PX_PORT_CFG_TAG_SIZE (v / 16) p
    ((s.write PX_PORT_CFG_IDE_PASS (v / 64) p).write PX_PORT_CFG_MPS (leAt b 4 1) p).write PX_PWR_NO_LP (leAt b 5 1) p
  | 5 =>
    let c := leAt b 0 1
    let s := (slotRegs.zip (List.range 5)).foldl (fun s y => s.putWord y.1 c (leAt b (4 + 4 * y.2) 4)) s
    let s := (List.range 8).foldl (fun s k => s.putWord .SP_CURVE (8 * c + k) (leAt b (24 + 4 * k) 4)) s
    if (leAt b 1 1).testBit 0 then s else (s.set SP_CFG_FEED_A 0 c).set SP_CFG_FEED_B 0 c
  | 6 => (persistRegs.zip (List.range 7)).foldl (fun s y => s.putWord y.1 0 (leAt b (4 * y.2) 4)) s
  | 7 => { s with pcie.subsys := leAt b 0 4 }
  | _ => s

/-- The order of step 2: node, lane groups, ports, supplies, channels, subsystem; the presets last, in record order. -/
def State.applyRecord (s : State) (xs : List (Nat × List Nat)) : State :=
  let s := [1, 2, 3, 6, 5, 7].foldl (fun s n => (bodies xs n).foldl (fun s b => s.applyTyped (n, b)) s) s
  (bodies xs 8).foldl (init := s) fun s b =>
    (List.range (leAt b 2 2)).foldl (init := s) fun s j =>
      s.applyPreset (leAt b 0 1) (leAt b (4 + 12 * j) 2) (leAt b (8 + 12 * j) 4) (leAt b (12 + 12 * j) 4)

/-- A node with an invalid record: every port stays disabled, and only mailbox 16 is served (R502). -/
def State.recordInvalid (s : State) : State :=
  ({ s with boot.running := true }.set MB_BOOT_STAGE 0xE0).emit (.smbAlert true) |>.flag MB_STATUS_FW_READY true 16

/-! ## The boot ROM (R401, R500) -/

/-- An image has been chosen and runs; a fallback is reported, and its selector written (R401). -/
def State.bootImage (s : State) : Option State :=
  let pick := match s.newestSelector with
    | some (_, x) => (x.active % 2, s)
    | none => (s.fresh.1 % 2, s.fresh.2)
  let s := pick.2
  let first := pick.1
  let run (slot : Nat) : State := { s.runImage slot with boot.rom := false, boot.running := true }.set MB_BOOT_STAGE 1
  if s.slotOk first then some (run first)
  else if s.slotOk (1 - first) then
    let s := ((run (1 - first)).set MB_BOOT_FALLBACK 1).reportNode 38 0
    some (s.writeSelector (1 - first) s.img.hdr.version)
  else none

/-! ## Opening (R504 steps 4 to 8) -/

/-- The channels that the record asks to turn on. -/
def bootChans (xs : List (Nat × List Nat)) : List Nat :=
  ((bodies xs 5).filter fun b => leAt b 1 1 % 4 == 3).map fun b => leAt b 0 1

/-- The partition of an item, with the privilege and the standby it is marked for, where its port can take the role (R82, R85). -/
def State.bootPart (s : State) (b : List Nat) : State :=
  let part := leAt b 0 1
  let f := leAt b 3 1
  if !s.unusedPort (leAt b 1 1) || s.on PART_CTRL_VALID (leAt b 2 1) then s
  else
    let s := s.createPart part (leAt b 1 1) (leAt b 2 1) (f / 4 % 2)
    let s := if f.testBit 0 && s.on MB_STRAP_FMGR_EN then s.setFm (some part) else s
    if f.testBit 1 then s.setStandbyPart (some part) else s

/-- Step 5: the fabric manager first; managed ports take their role. -/
def State.bootParts (s : State) (xs : List (Nat × List Nat)) : State :=
  let ps := bodies xs 4
  let fm := ps.filter fun b => (leAt b 3 1).testBit 0
  let rest := ps.filter fun b => !(leAt b 3 1).testBit 0
  let s := (fm ++ rest).foldl (fun s b => s.bootPart b) s
  (bodies xs 3).foldl (init := s) fun s b =>
    if leAt b 1 1 = 3 && s.unusedPort (leAt b 0 1) then s.set PX_PORT_CFG_ROLE roleManaged (leAt b 0 1) else s

/-- A stored value of a field, or what firmware sets it to. -/
def State.storedOr (s : State) (f : Fld) (i d : Nat) : Nat :=
  let v := Tab.get 0 s.boot.store (f.key i)
  if v = 0 then d else v - 1

/-- Step 6: admission, the ports that have a role, the fabric ports and their pins' enables. -/
def State.openPorts (s : State) : State :=
  let s := ((List.range 48).filter fun p => s.role p != 0).foldl (fun s p => s.portOn p) s
  let s := (fabPorts.filter fun p => s.storedOr ML_CTRL_ENABLE p 1 != 0).foldl (fun s p => s.via (execMlEnable p true s)) s
  (s.set RING_CTRL_HOLD_A_EN (s.storedOr RING_CTRL_HOLD_A_EN 0 1)).set RING_CTRL_HOLD_B_EN (s.storedOr RING_CTRL_HOLD_B_EN 0 1)

/-- The time after FW_READY at which a node joins, where its NODE item asks for it (R509). -/
def State.joinAfter (s : State) (xs : List (Nat × List Nat)) : Option Nat :=
  match (bodies xs 1).getLast? with
  | some b =>
    if (leAt b 2 1).testBit 0 then
      let st := if leAt b 4 2 = 0 then 150 else leAt b 4 2
      some (st * 1000000 * ((List.range s.nodeId).filter fun n => bit (s.get RING_FITTED_FITTED) n).length)
    else none
  | none => none

/-! ## The configuration store (R507) -/

/-- The register values that commands have set take effect again. -/
def State.applyStore (s : State) : State :=
  s.boot.store.foldl (init := s) fun s x =>
    let r := Reg.ofNat (x.1 % 512)
    let lsb := x.1 / 512 % 128
    if r = .ML_CTRL && lsb = 0 then s
    else s.writeFields r (x.1 / 65536) fun f => if f.lsb = lsb then some (x.2 - 1) else none

end Sys2Proof.Machine
end

