-- ==== Sys2Proof/Machine/Boot.lean ====
section
/-! DEFINITION. The commands of reset and bring-up (20, 21). -/

namespace Sys2Proof.Machine

/-- FULL_POWER_ON_RESET (R481, R496). -/
def execFullPowerOnReset (s : State) : Res := .next s.fullReset

/-- MAIN_POWER_ON_RESET (R481): a rail of the main domains fails. In SL3 those rails are off already. -/
def execMainPowerOnReset (s : State) : Res := if s.asleep = 3 || !s.boot.main then .next s else .next (s.mainReset false)

/-- STRAP_LATCH (R499): `v` holds the pins as MB_STRAP reports them. -/
def execStrapLatch (v : Nat) (s : State) : Res :=
  match s.expire .strap with
  | some s =>
    let s := ((s.set MB_STRAP_NODE_ID v).set MB_STRAP_FMGR_EN (v / 64)).set MB_STRAP_SMB_ADDR (v / 128)
    .next (s.set MB_STRAP_BOOT_MODE (v / 1024))
  | none => .next s

/-- MAIN_RAILS_VALID (R481, R474, R500): power-on reset of the main domains is released, and the boot ROM starts. In recovery it waits for an
image, in hold it stops. -/
def execMainRailsValid (s : State) : Res :=
  if s.boot.main || s.runs .strap || s.asleep = 3 then .next s
  else
    let mode := s.get MB_STRAP_BOOT_MODE
    let s := { s with boot.main := true, boot.rom := mode == 0, boot.recovery := mode == 1 }.start .earlyBoot 10000000
    .next (if mode = 0 then s else s.set MB_BOOT_STAGE (if mode = 1 then 0xE1 else 0xE2))

/-- BOOT_ROM_IMAGE_LOADED (R401, R500, R504 steps 1 and 2): firmware starts, checks the record and applies it. With no valid slot the node
enters Grave. During a node reset the record is applied with the reset's end. -/
def execBootRomImageLoaded (s : State) : Res :=
  if !s.boot.rom || s.nodeState = 3 || s.pw.freq = 0 then .next s
  else if s.get MB_STRAP_BOOT_MODE != 0 then .next { s with boot.rom := false }
  else
    match s.bootImage with
    | none => .next ({ s with boot.rom := false }.reportNode 38 4 0x6009)
    | some s =>
      if s.nodeState = 2 then .next s
      else
        match s.record with
        | none => .next s.recordInvalid
        | some xs =>
          let s := (s.set MB_BOOT_RECORD_OK 1).applyRecord xs
          .next ({ s with boot.waits := true }.set MB_BOOT_STAGE 2)

/-- FIRMWARE_BRINGUP_RESUME (R504 steps 3 to 8, R505): after the persist restore. After SL3 PWR_CTRL.AUTO_JOIN starts the join at
once (R457). -/
def execFirmwareBringupResume (s : State) : Res :=
  if !s.boot.waits || !s.jnl.recovered || s.nodeState = 3 then .next s
  else
    match s.record with
    | none => .next s.recordInvalid
    | some xs =>
      let s := { s with boot.waits := false }
      let s := (bootChans xs).foldl (fun s c => s.spEnable c) s
      let s := ((s.bootParts xs).admitEn).openPorts
      let s := (s.set MB_BOOT_STAGE 5).fwReady true
      let s := s.raiseLosses
      if s.boot.sl3 && s.on PWR_CTRL_AUTO_JOIN then .next { s with boot.sl3 := false }.startJoin else
      match s.joinAfter xs with
      | some t => .next (s.start .bootJoin t)
      | none => .next s

/-- UART_RECOVERY_IMAGE (R500): the image's bytes, header first, and what it writes to the flash. It opens no port. -/
def execUartRecoveryImage (image : List Nat) (writes : List (Nat × List Nat)) (s : State) : Res :=
  if !s.boot.recovery || !s.boot.main || s.boot.running || !imageOk s.img.fuse image then .next s
  else
    let h := imgHdr image
    let s := writes.foldl (fun s w => s.flashWrite w.1 w.2) s
    .next { s with boot.running := true, img.hdr := h, fwFeature := h.feature }

/-- BOOT_JOIN_TIMER (R509). -/
def execBootJoinTimer (s : State) : Res :=
  match s.expire .bootJoin with
  | some s => .next s.startJoin
  | none => .next s

/-- What firmware does at the end of a node reset (R508 steps 4 and 5): the record's items `xs` and the configuration store are applied,
partitions homed here run R105, the instances of the others advance once, and the ports open. -/
def State.nodeResetDone (s : State) (xs : List (Nat × List Nat)) : State :=
  let s := ((s.set MB_BOOT_RECORD_OK 1).applyRecord xs).applyStore.set MB_BOOT_STORE_USED 1
  let mine := (List.range 16).filter fun k => s.on PART_CTRL_VALID k
  let others := (allInst.filter fun i => s.on PART_FN_A_VALID i && (s.slotOf (s.get PART_FN_A_OWNER i)).isNone)
  let s := others.foldl (fun s i => s.advanceGen i) s
  let s := (List.range 48).foldl (fun s p => s.tellPort p lnkLink 0) s
  let s := mine.foldl (fun s k => s.resetPart k none) s
  let off := (List.range 12).filter fun c => s.on SP_STATUS_PF_OFF c
  let s := off.foldl (fun s c => s.spEnable c) s
  let s := (s.openPorts.set MB_BOOT_STAGE 5).fwReady true
  let s := s.raiseLosses.suspendTurns
  (if s.on PWR_CTRL_AUTO_JOIN then s.startJoin else s).settle

/-- NODE_RESET_END (R508 steps 4 and 5, R183): `copyA` and `copyB` say whether the CRC of a copy of the configuration store holds. With
neither the node enters Grave. -/
def execNodeResetEnd (copyA copyB : Bool) (s : State) : Res :=
  if s.nodeState != 2 || !s.boot.running || s.pfPhase != pfNormal then .next s
  else if !copyA && !copyB then .next ((s.stop .nodeReset).reportNode 54 4 0x6003)
  else
    let s := (s.stop .nodeReset).set FC_STATE_NODE_STATE 0
    match s.record with
    | none => .next s.recordInvalid
    | some xs => .next (s.nodeResetDone xs)

end Sys2Proof.Machine
end

