-- ==== Sys2Proof/Machine/IngressOps.lean ====
section
/-! DEFINITION. What a TLP received on a PCI Express port becomes (R94, R115, R281 to R285, R109, R219, R234, R164): shared by the
commands of requests, configuration requests and completions. Codes of messages and their routing are those of the PCI Express
Base Specification (PRESUMED). -/

namespace Sys2Proof.Machine

/-- Where a TLP came in and for whom: its port, the partition stamped on it, the instance it comes from (none: the partition's
host), the vDSP that presents the instance (0: the vUSP). -/
structure Came where
  p : Nat
  part : Nat
  inst : Option Nat := none
  vdsp : Nat := 0
  deriving DecidableEq, Repr

/-- The function through which a TLP entered, if its requester, or a completion's completer, is assigned. -/
def State.came (s : State) (p rid : Nat) : Option Came :=
  if s.role p = roleUp then (s.slotOfPort p).map fun k => { p := p, part := s.get PART_CTRL_PART_ID k }
  else (s.assigned p rid).map fun i =>
    { p := p, part := s.get PART_FN_A_OWNER i, inst := some i, vdsp := s.get PART_FN_B_VDSP i }

/-- ID by which the sender of a TLP is known. -/
def senderId (t : Tlp) : Nat := if t.kind == .cpl then t.cplId else t.reqId

/-! ## Logs and reports of a TLP -/

/-- An error is logged in the AER of the function through which a TLP entered (R300). -/
def State.cameAer (s : State) (c : Came) (n : Nat) : State :=
  match c.inst with
  | some _ => s.tellVdsp c.part c.vdsp lnkAer n
  | none => match s.slotOf c.part with
    | some k => if n < 32 then s.aer k fnVusp n else s.cfgSet k fnVusp cfgAerCor (n - 32) true
    | none => s

/-- The report of an error of a TLP, Contained, against the function through which it entered. -/
def cameReport (c : Came) (unit cause : Nat) (t : Tlp) : Report :=
  { unit := unit, cls := 1, scope := 4, scopeId := c.part, inst := c.inst, cause := cause, addr := t.addr, master := t.reqId
    masterPart := c.part + (if c.inst.isSome then 64 else 0), access := tlpAccess16 t }

/-- An uncorrectable error of a TLP is logged and reported. -/
def State.tlpError (s : State) (c : Came) (n : Nat) (t : Tlp) : State :=
  (s.cameAer c n).report (cameReport c (s.pxUnit c.p) (0x3000 + n) t)

/-! ## Drafts: a received TLP before it is a packet -/

/-- The packet that a received TLP would be, with the draw for its Shaving (R437). -/
def State.draft (s : State) (p part : Nat) (t : Tlp) (org : Origin) : Packet × State :=
  let k : Packet := { id := 0, inPort := some p, charge := .reserve p, origin := org, hdrCr := 1, dataCr := crData t, addr0 := t.addr
                      record := { srcPart := part, srcNode := s.nodeId, dstNode := s.nodeId, vc := tlpVc t, body := .tlp t }
                      bytes := tlpBytes t, t0 := s.spindleNs }
  let g := s.tag p (pktSeen k t.addr)
  ({ k with shaved := g.1, stages := [(1, s.spindleNs)] }, g.2)

/-- A received TLP is discarded: its credits go back, and a tagged one writes its Shaving with a reason of Table 17.7. -/
def State.discardIn (s : State) (k : Packet) (reason : Nat) : State :=
  let p := k.inPort.getD 0
  ((s.shave k true reason false).evtPort p 11).pcieCredits p k.record.vc k.hdrCr k.dataCr

/-- A received TLP is taken by the switch itself. -/
def State.consumeIn (s : State) (k : Packet) : State :=
  (s.shave k false 0 false).pcieCredits (k.inPort.getD 0) k.record.vc k.hdrCr k.dataCr

/-- A request is discarded, and answered UR where it is non-posted (R102). A host whose partition is in a reset has its answer too
(Table 03.7). -/
def State.refuseIn (s : State) (c : Came) (k : Packet) (t : Tlp) (cplId reason : Nat) : State :=
  let s := s.filterPass 0 c.p (pktSeen k t.addr)
  let s := if !tlpNonPosted t then s
    else
      let u : Tlp := { kind := .cpl, reqId := t.reqId, tag := t.tag, cplId := cplId, status := .ur, hdrBytes := 12 }
      (((s.bump PART_CNT_SYNTH_COUNT).evtPart c.part 7)).cplOut c.part c.p u .internal
  s.discardIn k reason

/-- A received packet enters the switch: for a port of this node its VOQ; for another node the journal first, which takes its entries
from the port's admission reserve (R164). One whose destination on this node takes none is reported (R156). -/
def State.forwardIn (s : State) (k : Packet) (cplId : Nat) : State :=
  let r := k.record
  let p := k.inPort.getD 0
  let s := s.filterPass 0 p (pktSeen k k.addr0)
  if r.dstNode = s.nodeId then
    if r.dstPort = dstMgmt then (s.emit (.bar0 r.srcPart (pktTlp k))).consumeIn k
    else match s.undelivReason r with
      | some reason => (s.undeliverable r reason cplId).discardIn k 5
      | none =>
        let cut : Bool := s.on SC_CTRL_CUT_EN && (s.stream p r.dstPort).isEmpty && k.release.isNone
        s.enqueue { k with src := p, egress := r.dstPort, pass := .final, cutOk := cut, cplId := cplId }
  else
    let n := units r.len
    let a := s.admitRes p
    let s := (s.setAdmitRes p { a with got := a.got - n }).setResv (s.get JNL_RESV_RESV - n)
    let e := s.admitRec r k.origin k.inst cplId
    let r := ((e.2.entry e.1).map fun x => x.record).getD r
    e.2.enqueue { k with record := r, src := 48 + r.srcPart, egress := e.2.egressOf (recGrp r), entry := some e.1, cplId := cplId
                         stages := k.stages ++ [(3, s.spindleNs)] }

/-! ## The fate of a request at lookup -/

/-- What becomes of a request: a target, with the TLP as it leaves; a denial or a violation of Table 04.5; the switch takes it. -/
inductive Fate where
  | go (g : Tgt) (t : Tlp)
  | deny (cause : Nat)
  | violate (cause entry : Nat)
  | consume
  deriving DecidableEq, Repr

/-- A looked-up request (R115). -/
def State.fateLookup (s : State) (c : Came) (t : Tlp) : Fate × State :=
  let l := s.lookup c.part (c.inst.map fun _ => c.vdsp) t
  (match l.1 with
   | .go g a _ _ => .go g { t with addr := a }
   | .denied n => .deny n
   | .violation n e => .violate n e, l.2)

/-- The vDSP of a partition in whose bus range a bus lies (R285). -/
def State.vdspOfBus (s : State) (part bus : Nat) : Option Nat :=
  (List.range 32).find? fun n =>
    let v := s.view part n
    n != 0 && v.kind != 0 && v.sec != 0 && v.sec ≤ bus && bus ≤ v.sub

/-- A bus is one of the hierarchy's own: that of the vUSP or the internal bus. -/
def State.ownBus (s : State) (part bus : Nat) : Bool :=
  let r := s.partRec part
  (r.upBus != 0 && bus == r.upBus) || (r.intBus != 0 && bus == r.intBus)

/-- A message routed by ID (R285): to the instance of the vDSP whose range holds its target, from an instance subject to ACS, or
outside the hierarchy to the host. The switch takes one for a function of its own. -/
def State.fateById (s : State) (c : Came) (t : Tlp) : Fate × State :=
  let host : Fate := .go (.host c.part) t
  let inst (n : Nat) : Fate := let v := s.view c.part n; .go (.inst v.node v.inst n) t
  match s.vdspOfBus c.part (t.target / 256), c.inst with
  | some n, none => (inst n, s)
  | some n, some _ =>
    match acsRule (s.view c.part c.vdsp) c.vdsp n t with
    | .pass => (inst n, s)
    | .redirect => (host, s.bump WIN_CNT_REDIRECT_COUNT)
    | .block x => (.violate x 0, s)
  | none, none =>
    let r := s.partRec c.part
    let dev := t.target / 8 % 32
    let own : Bool := (t.target / 256 == r.upBus && t.target % 256 == 0) ||
      (t.target / 256 == r.intBus && t.target % 8 == 0 && (dev == 0 || (s.view c.part dev).kind != 0))
    (if own then .consume else .deny 0, s)
  | none, some _ =>
    (if !s.ownBus c.part (t.target / 256) then host
     else if s.on WIN_PCTRL_STRICT_UP c.part then .violate 8 0 else .consume, s)

/-- INTx, PM_PME and the error messages of a function. -/
def isIntx (n : Nat) : Bool := 0x20 ≤ n && n ≤ 0x27
def isErrMsg (n : Nat) : Bool := n == 0x30 || n == 0x31 || n == 0x33

/-- INTx of a vDSP's device number, swizzled as by a switch downstream port (R285). -/
def swizzle (vdsp code : Nat) : Nat := code / 4 * 4 + (code % 4 + vdsp) % 4

/-- Messages by their routing (R285). -/
def State.fateMsg (s : State) (c : Came) (t : Tlp) : Fate × State :=
  let host : Fate := .go (.host c.part) t
  if t.msgRoute = 1 then s.fateLookup c t
  else if t.msgRoute = 2 then s.fateById c t
  else if c.inst.isNone then (.consume, s)
  else if isIntx t.msgCode then (.go (.host c.part) { t with msgCode := swizzle c.vdsp t.msgCode }, s)
  else if t.msgCode = 0x10 then (.consume, s)
  else if isErrMsg t.msgCode || t.msgCode = 0x18 || t.msgRoute = 0 then (host, s)
  else (.consume, s)

/-- The fate of a request that is not a configuration request. I/O requests are misses; a translation request goes to the
requester's own host, subject to Translation Blocking (R115). -/
def State.fate (s : State) (c : Came) (t : Tlp) : Fate × State :=
  match t.kind with
  | .ioRead | .ioWrite =>
    (if c.inst.isNone then .deny 0 else if s.on WIN_PCTRL_STRICT_UP c.part then .violate 8 0 else .go (.host c.part) t, s)
  | .msg => s.fateMsg c t
  | .memRead | .memWrite | .atomic =>
    if c.inst.isSome && t.at_ == .translationRequest then
      (if (s.view c.part c.vdsp).acs.testBit 1 then .violate 6 0 else .go (.host c.part) t, s)
    else s.fateLookup c t
  | _ => (if c.inst.isSome then .deny 0 else .consume, s)

/-- The function through which the requester sees what it asked for (R102). -/
def State.seenThrough (s : State) (c : Came) (t : Tlp) : Nat :=
  if !tlpHasAddr t.kind then s.vuspId c.part
  else match t.kind with
    | .ioRead | .ioWrite => s.vuspId c.part
    | _ => match s.hit c.part t.addr with
      | some (.range n _ _) => s.vdspId c.part n
      | some (.ent _ e) => if e.kind = 1 then s.vdspId c.part (s.vdspOf c.part e.tgtNode e.tgtInst) else s.vuspId c.part
      | none => s.vuspId c.part

/-- A violation (R129, R130): counted, captured where nothing is, the instance frozen with its cause and reported. -/
def State.violateIn (s : State) (c : Came) (t : Tlp) (cause entry : Nat) : State :=
  let i := c.inst.getD 0
  let s := ((s.freeze i frzViolation).bump WIN_CNT_VIOL_COUNT).evtPart c.part 5
  let s := if s.on WIN_VLOG_INFO_VALID then s
    else
      let s := (s.set WIN_VLOG_ADDR_LO_ADDR t.addr).set WIN_VLOG_ADDR_HI_ADDR (t.addr / 2 ^ 32)
      let s := ((s.set WIN_VLOG_INFO_CAUSE cause).set WIN_VLOG_INFO_PART c.part).set WIN_VLOG_INFO_INST i
      ((s.set WIN_VLOG_INFO_ENTRY entry).flag WIN_VLOG_INFO_WRITE (isWrite t)).set WIN_VLOG_INFO_VALID 1
  s.report { cameReport c 22 (0x2000 + cause) t with froze := true }

/-! ## Checks of a request that has a target (R281, R283, R284) -/

/-- The view of a target: that of a host, or of a vDSP. -/
def State.viewOfTgt (s : State) (part : Nat) : Tgt → Option VView
  | .host q => some (s.view q 0)
  | .inst _ _ n => some (s.view part n)
  | _ => none

/-- The path of an IDE TLP is transparent (R284): both ports pass IDE in a role that may, the endpoint side is port-bound without a
bus offset, and a request that is looked up hits a bridge range, or an INSTANCE entry without translation. -/
def State.transparent (s : State) (c : Came) (g : Tgt) (was now : Tlp) : Bool :=
  let flat (v : VView) : Bool := v.kind == 2 && v.sec == v.physSec
  s.on PX_PORT_CFG_IDE_PASS c.p && (s.role c.p == roleUp || s.role c.p == roleBound) &&
    ((s.viewOfTgt c.part g).any fun v => v.ide) &&
    (c.inst.isNone || flat (s.view c.part c.vdsp)) &&
    (match g with
     | .inst _ _ n => flat (s.view c.part n)
     | _ => c.inst.isSome && now.kind == .msg && now.msgRoute != 1) &&
    was.addr == now.addr

/-- The switch changes bytes of the request (R283): requester ID, address, tag, the target of a message. -/
def State.rewrites (s : State) (c : Came) (g : Tgt) (raw now : Tlp) : Bool :=
  raw.reqId != now.reqId || raw.addr != now.addr || raw.msgCode != now.msgCode ||
    (match g with
     | .inst _ _ n => tlpNonPosted now || (now.kind == .msg && now.msgRoute == 2 && (s.view c.part n).sec != (s.view c.part n).physSec)
     | _ => false)

/-- The sender is frozen, or in a generation wait (R100, R109, R110). -/
def State.frozenIn (s : State) (c : Came) : Bool :=
  match c.inst with
  | some i => s.on PART_FN_A_FROZEN i || s.inGenWait i
  | none => (s.slotOf c.part).any fun k => s.on PART_CTRL_HOST_FROZEN k

/-- Virtual channel of a request (R219). -/
def State.vcIn (s : State) (c : Came) (t : Tlp) : VC :=
  if t.kind == .memWrite && c.inst.isNone && t.tc == s.get SPN_CTRL_TT_TC && bit (s.get SPN_TT_PART_MASK) c.part then .tt else tlpVc t

/-- A request that has passed every check is metered (R234) and forwarded. -/
def State.passIn (s : State) (c : Came) (k : Packet) (d : Dest) (t : Tlp) : State :=
  let vc := s.vcIn c t
  let m := if vc == .tt then (false, none, s) else s.meter c.part (tlpBytes t + s.sch_ SCH_PORT_OH c.p)
  let s := m.2.2
  let gen := match c.inst with | some i => if tlpNonPosted t then s.get PART_FN_B_GEN i else 0 | none => 0
  let r := s.recFor c.part d vc gen m.1 t
  s.forwardIn { k with record := r, release := m.2.1, excess := m.1, inst := c.inst } d.cplId

/-- A request with a target: the checks in their order, then the freeze check. `raw` is the TLP as received, `was` with the virtual
requester ID, `t` as it leaves. -/
def State.checkIn (s : State) (c : Came) (k : Packet) (g : Tgt) (raw was t : Tlp) : State :=
  let cpl := match s.dest c.part g with | some d => d.cplId | none => s.vuspId c.part
  let mps := match s.viewOfTgt c.part g with | some v => v.mps | none => 1024
  if was.ide && !s.transparent c g was t then
    let s := (s.bump PX_CNT_IDE_BLOCK_COUNT).report { cameReport c (s.pxUnit c.p) 0 was with inst := none }
    s.refuseIn c k was cpl 4
  else if mps < tlpPay t then
    ((s.bump PX_CNT_MPS_COUNT).tlpError c aerMalformed was).refuseIn c k was cpl 4
  else if was.ecrcBad && s.rewrites c g raw t then
    ((s.bump PX_CNT_ECRC_COUNT).tlpError c aerEcrc was).refuseIn c k was cpl 4
  else if s.frozenIn c then (s.bump PART_CNT_FROZEN_COUNT).refuseIn c k was cpl 2
  else match s.dest c.part g with
    | some d => s.passIn c k d t
    | none => (s.undeliverable (s.recFor c.part { node := s.nodeId, port := 63 } (tlpVc t) 0 false t) 3 cpl).discardIn k 5

/-! ## Error messages of functions (R298, R299) -/

/-- DPC that a trigger setting selects: 01b ERR_FATAL, 10b ERR_NONFATAL too. -/
def dpcPicks (set code : Nat) : Bool := (set == 1 && code == 0x33) || (set == 2 && (code == 0x33 || code == 0x31))
def dpcReason (code : Nat) : Nat := if code = 0x33 then 2 else 1

/-- An error message that DPC takes: the port is contained by its owner's setting or by FC_PORT_p.DPC_TRIG, the instance of a
function-bound vDSP is frozen with FREEZE_CPL. None where the message is forwarded; it is discarded while DPC is triggered. -/
def State.errTaken (s : State) (c : Came) (t : Tlp) : Option State :=
  match c.inst with
  | none => none
  | some i =>
    let v := s.view c.part c.vdsp
    if s.role c.p = roleBound then
      (if dpcPicks v.dpc t.msgCode then some (s.contain c.p (dpcReason t.msgCode)) else none)
    else
      let managed : Bool := s.role c.p == roleManaged && dpcPicks (s.get FC_PORT_DPC_TRIG c.p) t.msgCode
      let s' := if managed then
          (((s.contain c.p (dpcReason t.msgCode)).armRecover c.p true).start (.fcDpc c.p) 100000000).portNotices c.p noContained 2 (s.pxUnit c.p)
        else s
      if v.kind = 1 && v.dpc != 0 && s.on PART_FN_A_FROZEN i && s.on PART_FN_A_FREEZE_CPL i then some s'
      else if v.kind = 1 && dpcPicks v.dpc t.msgCode then
        some ((((s'.freeze i frzFault).flag PART_FN_A_FREEZE_CPL true i)).report { cameReport c (s.pxUnit c.p) 0 t with froze := true })
      else if managed then some s' else none

/-! ## Requests -/

/-- A request of an assigned sender. -/
def State.requestOf (s : State) (c : Came) (raw : Tlp) : State :=
  let t := match c.inst with | some i => { raw with reqId := s.virtRid i raw.reqId } | none => raw
  let d := s.draft c.p c.part t (if c.inst.isSome then .instance_ else .host)
  let k := d.1
  let s := d.2
  let s := if t.poisoned then (s.cameAer c 45).tlpError c aerPoisoned t else s
  match (if t.kind == .msg && isErrMsg t.msgCode then s.errTaken c t else none) with
  | some s' => s'.consumeIn k
  | none =>
    let f := s.fate c t
    let s := f.2
    match f.1 with
    | .go g t' => s.checkIn c k g raw t t'
    | .deny n => (s.denied c.part n t (if c.inst.isSome then 1 else 0)).refuseIn c k t (s.seenThrough c t) 1
    | .violate n e => (s.violateIn c t n e).refuseIn c k t (s.seenThrough c t) 1
    | .consume => (s.filterPass 0 c.p (pktSeen k t.addr)).consumeIn k

/-- A request of an unassigned requester (R94): counted, reported against the port, discarded or answered UR. -/
def State.requestUnassigned (s : State) (p : Nat) (t : Tlp) : State :=
  let d := s.draft p 0 t .instance_
  let s := (d.2.bump PART_CNT_UNASSIGNED_COUNT).report
    { unit := 20, cls := 1, scope := 3, scopeId := p, addr := t.addr, master := t.reqId, access := tlpAccess16 t }
  let s := if !tlpNonPosted t then s
    else (s.bump PART_CNT_SYNTH_COUNT).emit
      (.tlp p { kind := .cpl, reqId := t.reqId, tag := t.tag, cplId := Config.portRid p % 65536, status := .ur, hdrBytes := 12 })
  s.discardIn d.1 2

/-- A message that the switch takes by itself whoever sent it: the acknowledgement of PME_Turn_Off from below, a host's
PME_Turn_Off and its other broadcasts (R285). -/
def State.ownMsg (s : State) (p : Nat) (t : Tlp) : Option State :=
  if t.kind != .msg then none
  else if s.role p != roleUp then
    (if t.msgCode = 0x1B then some ((if s.role p = roleBound then s.tellPort p lnkPme 0 else s).sleepAck p) else none)
  else match s.slotOfPort p with
    | none => none
    | some k =>
      if s.on PART_CTRL_HOST_FROZEN k then none
      else if t.msgCode = 0x19 then some (s.pmeTurnOff k)
      else if t.msgRoute = 3 then some (s.broadcast k t)
      else none

/-- A received request (R94). -/
def State.requestIn (s : State) (p : Nat) (t : Tlp) : State :=
  match s.ownMsg p t with
  | some s' => (s'.draft p ((s.came p t.reqId).map Came.part |>.getD 0) t .host).2.pcieCredits p .p 1 (crData t)
  | none => match s.came p t.reqId with
    | some c => s.requestOf c t
    | none => s.requestUnassigned p t

/-! ## Configuration requests (R89 to R91) -/

/-- Dword that a configuration write leaves to the write operation: enabled bytes as sent, the others as they read, with bits that a
written 1 clears left 0. -/
def beMerge (old w1c v be : Nat) : Nat :=
  ((List.range 4).map fun b =>
    let x := if be.testBit b then v / 2 ^ (8 * b) % 256 else (old &&& (0xFFFFFFFF - w1c)) / 2 ^ (8 * b) % 256
    x * 2 ^ (8 * b)).sum

/-- Data of a configuration write. -/
def tlpDword (t : Tlp) : Nat := leNat ((t.data.take 4).map BitVec.toNat)
def dwordBytes (v : Nat) : List (BitVec 8) := (List.range 4).map fun b => BitVec.ofNat 8 (v / 2 ^ (8 * b))

def cfgIsWrite (k : TlpKind) : Bool := match k with | .cfgWrite0 | .cfgWrite1 => true | _ => false

/-- A function of the switch is read or written (R89). -/
def State.cfgAt (s : State) (k fn : Nat) (t : Tlp) : State :=
  let off := t.regNo % 4096 / 4 * 4
  if cfgIsWrite t.kind then
    s.cfgWrite k fn off (beMerge (s.cfg k fn off) (cfgRw fn off).2 (tlpDword t) t.firstBe) t.reqId t.tag
  else s.cfgCpl k t.reqId t.tag (s.fnId k fn) .sc (dwordBytes (s.cfgRead k fn off))

/-- A register lies in the SR-IOV capability of a physical function, which hosts do not see (R91). -/
def inSriov (key off : Nat) : Bool :=
  match Config.devSriov key with
  | some (_, own, _) => own ≤ off && off < own + 0x40
  | none => false

/-- A configuration request to a bus below vDSP `n`: registers the switch holds are answered here, the others go to the function or
the port. None where nothing is there. -/
def State.cfgBehind (s : State) (c : Came) (k n : Nat) (pk : Packet) (t : Tlp) : Option State :=
  match s.bind k n with
  | none => none
  | some b =>
    let off := t.regNo % 4096 / 4 * 4
    let sec := s.cfg k n cfgBus / 256 % 256
    let d : Dest := { node := b.node, port := b.port, inst := some b.inst, cplId := s.vdspId c.part n }
    if b.kind = 1 then
      let key := b.port * 65536 + b.phys
      let id := sec * 256
      if t.target != id then none
      else if cfgIsWrite t.kind && behindOff off then
        some ((s.behindWrite k n off (beMerge (s.cfg k (fnBehind n) off) 0 (tlpDword t) t.firstBe)
          (.cfg c.part t.reqId t.tag id)).consumeIn pk)
      else if inSriov key off then
        some ((s.cfgCpl k t.reqId t.tag id .sc (if cfgIsWrite t.kind then [] else dwordBytes 0)).consumeIn pk)
      else match (if cfgIsWrite t.kind then none else s.behindRead k n off) with
        | some v => some ((s.cfgCpl k t.reqId t.tag id .sc (dwordBytes v)).consumeIn pk)
        | none => some (s.passIn c pk d t)
    else if b.busSpan ≤ t.target / 256 - sec then none
    else if t.target / 256 = sec && t.target / 8 % 32 != 0 && !(s.cfg k n 0x88).testBit 5 then none
    else some (s.passIn c pk d t)

/-- A configuration request of a host to its virtual hierarchy (R89): a type 0 request to the vUSP, which takes its bus number from
a write; a type 1 request to the internal bus or to a bus below a vDSP; UR for everything else. -/
def State.configIn (s : State) (p : Nat) (t : Tlp) : State :=
  match s.slotOfPort p, s.came p t.reqId with
  | some k, some c =>
    let d := s.draft p c.part t .host
    let pk := d.1
    let s := d.2
    let bus := t.target / 256
    let up : Bool := t.kind == .cfgRead0 || t.kind == .cfgWrite0
    let intBus := s.cfg k fnVusp cfgBus / 256 % 256
    if s.frozenIn c then (s.bump PART_CNT_FROZEN_COUNT).refuseIn c pk t (s.vuspId c.part) 2
    else if up then
      if t.target % 8 != 0 then s.refuseIn c pk t (s.vuspId c.part) 4
      else
        let s := if cfgIsWrite t.kind then s.setBuses k bus (s.partRec c.part).intBus else s
        (s.cfgAt k fnVusp t).consumeIn pk
    else if intBus = 0 then s.refuseIn c pk t (s.vuspId c.part) 4
    else if bus = intBus then
      if t.target % 8 != 0 then s.refuseIn c pk t (s.vuspId c.part) 4
      else (s.cfgAt k (let dev := t.target / 8 % 32; if dev = 0 then fnMgmt else dev) t).consumeIn pk
    else
      let n := (List.range 32).find? fun n =>
        let r := s.cfg k n cfgBus
        n != 0 && r / 256 % 256 != 0 && r / 256 % 256 ≤ bus && bus ≤ r / 65536 % 256
      match n with
      | none => s.refuseIn c pk t (s.vuspId c.part) 4
      | some n => (s.cfgBehind c k n pk t).getD (s.refuseIn c pk t (s.vdspId c.part n) 4)
  | _, _ => s.requestUnassigned p t

/-! ## Completions (R96, R99, R101, R127) -/

/-- The context a completion answers. -/
def State.ctxOf (s : State) (p : Nat) (t : Tlp) : Option Ctx :=
  s.part.ctxs.find? fun c => c.port == p && c.tag == t.tag && (c.proxy || c.reqId == t.reqId)

/-- A completion that ACS sends to the host (Table 04.4, bit C): of a read, without Relaxed Ordering, from below one vDSP to a
requester below another. -/
def State.acsCpl (s : State) (c : Ctx) (t : Tlp) : Bool :=
  match c.target with
  | some i =>
    let n := s.get PART_FN_B_VDSP i
    let part := s.get PART_FN_A_OWNER i
    part == c.srcPart && (s.view part n).acs.testBit 3 && !t.ro && t.bytes != 0 &&
      (s.vdspOfBus part (c.reqId / 256)).any fun m => m != n
  | none => false

/-- Where a completion goes: the node, and the port where that is known here. None where its host takes none. -/
def State.cplDest (s : State) (c : Ctx) (toHost : Bool) : Option (Nat × Nat) :=
  if toHost then (s.hostDest c.srcPart c.srcPart).map fun d => (d.node, d.port)
  else if c.srcNode != s.nodeId then some (c.srcNode, dstFind)
  else match s.instOfRid c.srcPart c.reqId with
    | some i => some (s.nodeId, s.get PART_FN_A_PORT i)
    | none => match s.slotOf c.srcPart with
      | some k => if s.get PART_CTRL_STATE k = partActive then some (s.nodeId, s.get PART_CTRL_UP_PORT k) else none
      | none => none

/-- SR-IOV is taken out of the chain a host reads (R91). -/
def chainEdit (s : State) (c : Ctx) (t : Tlp) : Tlp :=
  match c.target, c.cfgReg with
  | some i, some off =>
    if s.on PART_FN_A_BIND i then t
    else match Config.devSriov (s.get PART_FN_A_PORT i * 65536 + s.get PART_FN_A_PHYS_RID i) with
      | some (prev, _, next) =>
        if off / 4 = prev / 4 && t.status == .sc then
          { t with data := dwordBytes (tlpDword t % 2 ^ 20 + next % 4096 * 2 ^ 20) }
        else t
      | none => t
  | _, _ => t

/-- The context goes with its last completion, and waits anew for the next one otherwise (R101). -/
def State.ctxStep (s : State) (c : Ctx) (t : Tlp) : State :=
  if t.status != .sc || c.left ≤ t.bytes then s.endCtx c false
  else
    { s with part.ctxs := s.part.ctxs.map fun (x : Ctx) => if x.idx == c.idx then { x with left := x.left - t.bytes } else x }.start
      (.ctx c.idx) (s.get PART_TIMERS_CPL_TMO * 1000000)

/-- A completion whose context is known. -/
def State.cplMatched (s : State) (c : Ctx) (p : Nat) (raw : Tlp) : State :=
  let up : Bool := s.role p == roleUp
  let who : Came := match c.target with
    | some i => { p := p, part := s.get PART_FN_A_OWNER i, inst := some i, vdsp := s.get PART_FN_B_VDSP i }
    | none => (s.came p raw.cplId).getD { p := p, part := c.srcPart }
  let t := { chainEdit s c raw with reqId := c.reqId, tag := c.tag0
                                    cplId := (match c.target with | some i => s.virtRid i raw.cplId | none => raw.cplId) }
  let d := s.draft p c.srcPart t (if up then .host else .instance_)
  let k := d.1
  let s := d.2
  let s := if t.poisoned then (s.cameAer who 45).tlpError who aerPoisoned t else s
  let stale : Bool := c.gen != 0 && c.inst.any fun i => s.get PART_FN_B_GEN i != c.gen || s.inGenWait i
  let barred : Bool := c.target.any fun i => s.on PART_FN_A_FROZEN i && s.on PART_FN_A_FREEZE_CPL i
  if barred then s.discardIn k 2
  else if raw.ecrcBad && t != raw then ((s.bump PX_CNT_ECRC_COUNT).tlpError who aerEcrc t).discardIn k 4
  else
    let s := (s.ctxStep c t).filterPass 0 p (pktSeen k 0)
    if stale then ((s.bump PART_CNT_STALE_COUNT).evtPart c.srcPart 6).discardIn k 2
    else if s.isEpCpl c.srcPart k.record && c.srcNode = s.nodeId then (s.epCpl c.srcPart t).consumeIn k
    else
      let toHost := s.acsCpl c t
      match s.cplDest c toHost with
      | none => (s.bump PART_CNT_STALE_COUNT).discardIn k 5
      | some (node, port) =>
        let s := if toHost then s.bump WIN_CNT_REDIRECT_COUNT else s
        let r : Record := { srcPart := c.srcPart, srcNode := s.nodeId, dstNode := node, dstPort := port, vc := .cpl, gen := c.gen
                            len := tlpLen t, body := .tlp t }
        s.forwardIn { k with record := r } 0

/-- Completion data that firmware waits for: a virtual function that answers after Enable VFs (R418). -/
def State.vfAnswer (s : State) (p : Nat) (t : Tlp) : State :=
  let hit (j : VfJob) : Bool := j.port == p && t.status == .sc && Config.devPf (p * 65536 + t.cplId) == some j.pf && !j.got.contains t.cplId
  let s := { s with part.vfJobs := s.part.vfJobs.map fun (j : VfJob) => if hit j then { j with got := j.got ++ [t.cplId] } else j }
  let done := s.part.vfJobs.filter fun j => j.port == p && j.n ≤ j.got.length
  let s := { s with part.vfJobs := s.part.vfJobs.filter fun (j : VfJob) => !(j.port == p && j.n ≤ j.got.length) }
  done.foldl (fun s j => (s.stop (.vfs j.port)).finish j.cmd ok) s

/-- A received completion: matched to its context, or on a quarantined tag, or of firmware's own reads, or unexpected. -/
def State.completionIn (s : State) (p : Nat) (t : Tlp) : State :=
  match s.ctxOf p t with
  | some c => s.cplMatched c p t
  | none =>
    let s := s.vfAnswer p t
    let d := s.draft p 0 t (if s.role p = roleUp then .host else .instance_)
    let s := d.2
    if s.part.quar.contains (p, t.tag) then (s.bump PART_CNT_QUAR_COUNT).discardIn d.1 2
    else s.discardIn d.1 4

/-! ## Reception -/

/-- Tags that a TLP may carry on a link (R282): 14 bits only in flit mode. -/
def State.linkTags (s : State) (p : Nat) : Nat := if s.on PX_PORT_STAT_FLIT p then 16384 else 1024

/-- A malformed TLP (R281, R282). -/
def State.malformedIn (s : State) (p : Nat) (t : Tlp) : State :=
  let big : Bool := 1024 < tlpPay t
  let s := if !big then s.bump PX_CNT_MALFORMED_COUNT else if t.kind == .cpl then s else s.bump PX_CNT_MPS_COUNT
  let d := s.draft p ((s.came p (senderId t)).map Came.part |>.getD 0) t (if s.role p = roleUp then .host else .instance_)
  let s := match s.came p (senderId t) with
    | some c => d.2.tlpError c aerMalformed t
    | none => d.2.reportPort (s.pxUnit p) 1 p (0x3000 + aerMalformed)
  s.discardIn d.1 4

/-- A TLP is taken up: what it is decides its way. -/
def State.takeUp (s : State) (p : Nat) (t : Tlp) : State :=
  let s := s.rxEvents p (tlpVc t) (tlpBytes t)
  if t.malformed || 1024 < tlpPay t || (tlpNonPosted t && s.linkTags p ≤ t.tag) then s.malformedIn p t
  else match t.kind with
    | .cfgRead0 | .cfgWrite0 | .cfgRead1 | .cfgWrite1 => if s.role p = roleUp then s.configIn p t else s.requestIn p t
    | .cpl => s.completionIn p t
    | .memRead | .memWrite | .atomic | .ioRead | .ioWrite | .msg => s.requestIn p t

/-- A port takes TLPs: it is formed for PCI Express, its data link layer is active, and the power-fail sequence has not stopped it
(R180). -/
def State.takesTlps (s : State) (p : Nat) : Bool :=
  p < 48 && s.pciePort p && s.dlActive p && s.get JNL_STATUS_PF_PHASE < 2

/-- A TLP is received whole on a port: acknowledged, in SL1 held for the core with its wake source (R155, R455). -/
def State.receiveTlp (s : State) (p : Nat) (t : Tlp) : State :=
  if !s.takesTlps p then s
  else
    let s := (s.updPx p fun x => { x with lastTlp := s.now }).set PX_PORT_STAT_PM 0 p
    if s.asleep = 1 then ({ s with pw.tlps := s.pw.tlps ++ [(p, t)] }.emit (.ack p)).wakeSources 1
    else ((s.takeUp p t).emit (.ack p)).settle

/-- TLPs taken in SL1 go on once the core runs (R455). -/
def State.takeHeld (s : State) : State :=
  if s.asleep != 0 then s
  else (s.pw.tlps.foldl (fun (s : State) (x : Nat × Tlp) => s.takeUp x.1 x.2) { s with pw.tlps := [] }).settle

end Sys2Proof.Machine
end

