-- ==== Sys2Proof/Machine/Ingress.lean ====
section
/-! DEFINITION. The commands of PCI Express ingress (03, 04, 06, 10): requests, configuration requests, completions. -/

namespace Sys2Proof.Machine

/-- TLP_RECEIVE (R155, R94, R115, R129, R109, R234, R164): a TLP received whole on a PCI Express port. -/
def execTlpReceive (p : Nat) (t : Tlp) (s : State) : Res := .next (s.receiveTlp p t)

/-- CONFIG_REQUEST_RECEIVE (R89, R91): a configuration request on a host's port. -/
def execConfigRequestReceive (p : Nat) (t : Tlp) (s : State) : Res :=
  .next (if isCfg t.kind && s.role p = roleUp then s.receiveTlp p t else s)

/-- COMPLETION_RECEIVE (R96, R99, R101). -/
def execCompletionReceive (p : Nat) (t : Tlp) (s : State) : Res := .next (if t.kind == .cpl then s.receiveTlp p t else s)

end Sys2Proof.Machine
end

