-- ==== Sys2Proof/Machine/Journal.lean ====
section
/-! DEFINITION. The commands of the delivery journal (06), the power-fail sequence apart. -/

namespace Sys2Proof.Machine

/-! ## Admission of what is raised inside (R166) -/

/-- An admission that a transaction raised inside can draw on: the internal reserve, or the three conditions of R165. In a sleep entry
only the completion of step 4 is admitted (R452). -/
def State.intOk (s : State) (t : IntTx) : Bool :=
  let n := units t.record.len
  s.jnl.recovered && (s.mayRestore || (t.internalReserve && s.pw.sleep.any fun x => x.step == 4)) && !s.jnl.unsynced.contains t.record.dstNode &&
    ((t.internalReserve && n ≤ s.jnl.intRes) ||
      (n ≤ s.entriesFree && s.get JNL_DQOCC_USED t.record.dstNode + n ≤ s.get JNL_DQ_QUOTA t.record.dstNode &&
        (!s.on JNL_CTRL_E_GATE || s.get JNL_STATUS_PST_FITTED == 0 || s.get JNL_VCOMMIT_VCOMMIT + n ≤ s.get JNL_VMAX_VMAX)))

/-- The first waiting transaction that can be admitted, none of its flow before it. -/
def pickTx (ok : IntTx → Bool) : List IntTx → List Nat → Option IntTx
  | [], _ => none
  | t :: ts, seen =>
    let k := flowKey t.record.srcPart t.record.dstNode t.record.vc
    if !seen.contains k && ok t then some t else pickTx ok ts (k :: seen)

/-- INTERNAL_ADMISSION (R155, R163, R166, R545). -/
def execInternalAdmission (s : State) : Res :=
  match pickTx s.intOk s.jnl.intWait [] with
  | none => .next s
  | some t =>
    let n := units t.record.len
    let s := { s with jnl.intWait := s.jnl.intWait.erase t }
    let s := if t.internalReserve && n ≤ s.jnl.intRes
      then ({ s with jnl.intRes := s.jnl.intRes - n }).setResv (s.get JNL_RESV_RESV - n) else s
    let a := s.admitRec t.record .internal t.inst t.cplId
    let s := a.2
    let r := ((s.entry a.1).map fun e => e.record).getD t.record
    let s := match t.dmWr with | some w => s.dmAdmitted w a.1 | none => s
    let s := match t.turn with | some x => s.stop (.turnWrite x.1) | none => s
    let s := s.enqueueInternal { id := 0, record := r, egress := s.egressOf (recGrp r), entry := some a.1, inst := t.inst
                                 cplId := t.cplId, bytes := r.len - 16, release := t.release, excess := r.excess
                                 dmSegs := t.dmSegs }
    let s := if t.dmWr.isSome then (List.range 64).foldl (fun s c => if (s.ch c).descs.isEmpty then s else (s.dmForm c 64).dmKick c) s else s
    .next s.unpark.establish

/-! ## What the destination tells (R168, R169, R171) -/

/-- Take a control record the links have accepted. -/
def State.takeCtl (s : State) (src st number : Nat) (last : Bool) (items : List JItem) : Option State :=
  let m : InMsg := .ctl src st number last items
  if s.inbox.contains m then some { s with inbox := s.inbox.erase m } else none

/-- Is this one of the records of an answer that spans several? -/
def ctlPart (src st : Nat) (items : List JItem) : InMsg → Bool
  | .ctl n t _ _ xs => n == src && t == st && !xs.isEmpty && xs.isPrefixOf items
  | _ => false

/-- Take the records whose items in order are `items`. -/
def State.takeSpan (s : State) (src st : Nat) : List JItem → Nat → Option State
  | [], _ => some s
  | _, 0 => none
  | items, fuel + 1 =>
    match s.inbox.find? (ctlPart src st items) with
    | some (.ctl a b c d xs) => { s with inbox := s.inbox.erase (.ctl a b c d xs) }.takeSpan src st (items.drop xs.length) fuel
    | _ => none

/-- A RECEIPT item (R171): entries up to DELIVERED are freed, HELD is kept. An entry the destination has named undeliverable was
reported then. -/
def State.receipt (s : State) (src : Nat) (it : JItem) : State :=
  let k := flowKey it.part src it.vc
  let f := s.flow k
  let s := s.evtNode 2 0
  let done := s.flowUpTo k it.seqA
  let s := done.foldl (fun s e => s.freeEntry e) s
  let n := (done.map fun e => units e.record.len).sum
  let s := if n = 0 then s else s.evtJnl src 1 n
  let f' := { s.flow k with held := if later it.seqB f.held then it.seqB else f.held
                            oldest := if done.isEmpty then f.oldest else seqNext it.seqA }
  let s := s.setFlow k f'
  if !done.isEmpty || f'.held != f.held then s.grpTimers (k / 8) true else s

/-- RECEIPT_RECEIVE. -/
def execReceiptReceive (src : Nat) (items : List JItem) (s : State) : Res :=
  match s.takeCtl src ctlReceipt 0 false items with
  | some s => .next (items.foldl (fun s it => s.receipt src it) s).establish
  | none => .next s

/-- A GAP item (R171): the group sends again beyond HELD, once in GAP_HOLD. -/
def State.gap (s : State) (src : Nat) (it : JItem) : State :=
  let g := grpKey it.part src
  let again : Bool := match (s.grp g).lastRtx with
    | some t => decide (t + s.gapHoldNs ≤ s.now)
    | none => true
  if again then s.resendGrp g false false else s

/-- GAP_RECEIVE. -/
def execGapReceive (src : Nat) (items : List JItem) (s : State) : Res :=
  match s.takeCtl src ctlGap 0 false items with
  | some s => .next (items.foldl (fun s it => s.gap src it) s)
  | none => .next s

/-- An UNDELIV item (R187, R188): the entry is reported once; the receipt that covers it frees it. -/
def State.undeliv (s : State) (src : Nat) (it : JItem) : State :=
  let k := flowKey it.part src it.vc
  match s.jnl.entries.find? fun e => entryFlow e == k && e.seq == some it.seqA with
  | some e => (s.updEntry e.id fun x => { x with undeliv := some it.reason }).reportEntry e it.reason
  | none => s

/-- UNDELIV_RECEIVE. -/
def execUndelivReceive (src : Nat) (items : List JItem) (s : State) : Res :=
  match s.takeCtl src ctlUndeliv 0 false items with
  | some s => .next (items.foldl (fun s it => s.undeliv src it) s)
  | none => .next s

/-! ## Purges (R189, R190) -/

/-- Ranges of consecutive numbers in a rising list. -/
def ranges : List Nat → List (Nat × Nat)
  | [] => []
  | x :: xs => match ranges xs with
    | (a, b) :: rs => if a = x + 1 then (x, b) :: rs else (x, x) :: (a, b) :: rs
    | [] => [(x, x)]

/-- Numbers up to a bound that stand in a list, rising. -/
def sortedUpTo (xs : List Nat) (n : Nat) : List Nat := (List.range (n + 1)).filter fun k => xs.contains k

/-- Records of an incoming flow up to `u` that have begun to leave on their port (R189). -/
def State.leavingUpTo (s : State) (key u : Nat) : Bool :=
  (s.sc.acksDue.any fun x => x.arrived == some key && upTo x.record.seq u) ||
    s.sc.pkts.any fun p => s.arrived p && pktKey p == key && p.started && !p.gone && upTo p.record.seq u

/-- The destination's part of a purge (R189 step 2): the rest of the flow up to `u` is discarded, its state moves past `u`, and
PURGE_ACK names what had been done. An answer that the source has not shown to have taken is given again with it. -/
def State.purgeHere (s : State) (src : Nat) (it : JItem) : State :=
  let k := dedupKey src it.part it.vc
  let u := it.seqA
  let d := s.dedup k
  let n := if later u d.delivered then subMod 0x100000000 u d.delivered else 0
  let new := (ranges (sortedUpTo d.done (min n 511))).map fun r =>
    ({ part := it.part, vc := it.vc, dir := true, seqA := (d.delivered + r.1) % 0x100000000
       seqB := (d.delivered + r.2) % 0x100000000 } : JItem)
  let kept := Tab.get (0, []) s.jnl.purgeKept k
  let again : Bool := !kept.2.isEmpty && d.expected == seqNext kept.1
  let base := if again then ((kept.2.head?).map fun x => x.seqA).getD d.delivered else d.delivered
  let items : List JItem := { part := it.part, vc := it.vc, seqA := base, seqB := u } ::
    (if again then kept.2.tail else []) ++ new
  let s := (s.sc.pkts.filter fun p => s.arrived p && pktKey p == k && !p.started && !p.gone && upTo p.record.seq u).foldl
    (fun s p => s.unbuffer p) s
  let s := { s with jnl.purgeKept := Tab.put (0, []) s.jnl.purgeKept k (u, items) }
  let s := if n = 0 then s
    else
      let d' := ({ d with delivered := u, done := (d.done.filter fun x => n < x).map fun x => x - n }).advance
      let e := if later u (seqPrev d.expected) then seqNext u else d.expected
      let e := if later d'.delivered (seqPrev e) then seqNext d'.delivered else e
      (s.setDedup k { d' with expected := e, provisional := if d.provisional.any (fun q => upTo q u) then none else d.provisional }).owe k
  s.sendItems src ctlPurgeAck 0 false items 64

/-- PURGE_RECEIVE: once every record up to `u` that has begun to leave on its port has been acknowledged. -/
def execPurgeReceive (src : Nat) (items : List JItem) (s : State) : Res :=
  if items.any fun it => s.leavingUpTo (dedupKey src it.part it.vc) it.seqA then .next s
  else match s.takeCtl src ctlPurge 0 false items with
    | some s => .next (items.foldl (fun s it => s.purgeHere src it) s)
    | none => .next s

/-- Commands whose purges have all ended. -/
def State.endPurgeCmds (s : State) : State :=
  let done := s.jnl.purgeCmds.filter fun c => c.2.isEmpty
  let s := { s with jnl.purgeCmds := s.jnl.purgeCmds.filter fun c => !c.2.isEmpty }
  done.foldl (fun s c => s.finish c.1 ok) s

/-- The source's part when PURGE_ACK has come (R189 step 3). -/
def State.purgeAnswered (s : State) (src : Nat) (a : JItem) (more : List JItem) : State :=
  let k := flowKey a.part src a.vc
  let u := a.seqB
  if (s.flow k).purge.isEmpty then s
  else
    let spare (q : Nat) : Bool := upTo q a.seqA || more.any fun r => upTo r.seqA q && upTo q r.seqB
    let s := s.purgeFree k u spare
    let f := s.flow k
    let s := (s.setFlow k { f with purge := f.purge.filter fun m => later m.upTo u }).purgeEnded k u
    let s := if (s.flow k).purge.isEmpty then s else s.sendPurge k
    s.grpTimers (k / 8) true

/-- PURGE_ACK_RECEIVE. -/
def execPurgeAckReceive (src : Nat) (items : List JItem) (s : State) : Res :=
  match s.takeSpan src ctlPurgeAck items 64, items with
  | some s, a :: more =>
    .next ((s.purgeAnswered src a (more.filter fun r => r.dir && r.part == a.part && r.vc == a.vc)).endPurgeCmds.establish)
  | _, _ => .next s

/-! ## Rejoining and cold starts (R174 to R176) -/

/-- Outgoing flows toward a node, and incoming ones from it, that hold state. -/
def State.flowsTo (s : State) (n : Nat) : List Nat := (s.jnl.flows.map Prod.fst).filter fun k => k / 8 % 16 == n
def State.flowsFrom (s : State) (n : Nat) : List Nat := (s.jnl.dedup.map Prod.fst).filter fun k => keyNode k == n

/-- Groups toward a node that hold entries. -/
def State.groupsTo (s : State) (n : Nat) : List Nat :=
  ((s.jnl.entries.map entryGrp).filter fun g => g % 16 == n).eraseDups

/-- REWIND_RECEIVE (R171, R174). -/
def execRewindReceive (src : Nat) (s : State) : Res :=
  match s.takeCtl src ctlRewind 0 false [] with
  | some s => .next ((s.groupsTo src).foldl (fun s g => s.resendGrp g true true) s)
  | none => .next s

/-- Every unfreed entry toward a node that has started cold (R175 step 1): its delivery is uncertain. -/
def State.purgeCold (s : State) (n : Nat) : State :=
  let es := s.jnl.entries.filter fun e => e.record.dstNode == n
  let s := es.foldl (init := s) fun s e =>
    let s := (s.bump JNL_CNT_PURGE_COUNT).evtNode 2 7
    let s := if e.record.vc == .cpl then s else s.reportEntry e 7
    s.freeEntry e
  let s := (s.flowsTo n).foldl (init := s) fun s k =>
    let f := s.flow k
    (s.setFlow k { f with oldest := f.next, held := seqPrev f.next, purge := [] }).purgeEnded k (seqPrev f.next)
  (s.groupsTo n).foldl (fun s g => s.grpTimers g true) s

/-- SYNC_REQ_RECEIVE (R175, R176). -/
def execSyncReqReceive (src number : Nat) (s : State) : Res :=
  match s.takeCtl src ctlSyncReq number false [] with
  | none => .next s
  | some s =>
    match s.jnl.kept.find? fun x => x.1 == src && x.2.number == number with
    | some x => .next (s.sendItems src ctlSyncRsp number true x.2.items 128)
    | none =>
      let s := ((s.purgeCold src).endPurgeCmds).fwOfNode src
      let s := (s.flowsFrom src).foldl (init := s) fun s k =>
        let d := s.dedup k
        s.setDedup k { d with expected := seqNext d.delivered, done := [], provisional := none }
      let out := ((s.flowsTo src).filter fun k => (s.flow k).next != 0).map fun k =>
        ({ part := k / 128, vc := vcOf (k % 8), dir := true, seqA := (s.flow k).next } : JItem)
      let inn := ((s.flowsFrom src).filter fun k => seqNext (s.dedup k).delivered != 0).map fun k =>
        ({ part := keyPart k, vc := keyVc k, seqA := seqNext (s.dedup k).delivered } : JItem)
      let items := out ++ inn
      let s := { s with jnl.kept := (s.jnl.kept.filter fun (x : Nat × SyncKept) => x.1 != src) ++ [(src, ({ number := number, items := items } : SyncKept))] }
      .next (s.sendItems src ctlSyncRsp number true items 128).establish

/-- Install an item of a SYNC_RSP (R175). -/
def State.syncItem (s : State) (src : Nat) (it : JItem) : State :=
  let v := it.seqA
  if it.dir then
    s.setDedup (dedupKey src it.part it.vc) { expected := v, delivered := seqPrev v, installed := true }
  else s.setFlow (flowKey it.part src it.vc) { next := v, oldest := v, held := seqPrev v }

/-- Entries that have waited for their flow's values take sequences in admission order (R164, R175). -/
def State.giveSeqs (s : State) (n : Nat) : State :=
  (s.jnl.entries.filter fun e => e.seq.isNone && e.record.dstNode == n).foldl (init := s) fun s e =>
    let k := entryFlow e
    let f := s.flow k
    let s := s.setFlow k { f with next := seqNext f.next }
    let s := s.updEntry e.id fun x => { x with seq := some f.next, record := { x.record with seq := f.next } }
    { s with sc.pkts := s.sc.pkts.map fun p => if p.entry == some e.id then { p with record := { p.record with seq := f.next } } else p }

/-- SYNC_RSP_RECEIVE (R169, R175, R176): with LAST the member's flows are agreed, and sending toward it begins. -/
def execSyncRspReceive (src number : Nat) (last : Bool) (items : List JItem) (s : State) : Res :=
  match s.takeCtl src ctlSyncRsp number last items with
  | none => .next s
  | some s =>
    if number != s.jnl.syncNo || !s.jnl.unsynced.contains src then .next s
    else
      let s := items.foldl (fun s it => s.syncItem src it) s
      if !last then .next s
      else
        let s := { s with jnl.unsynced := s.jnl.unsynced.filter fun n => n != src
                          jnl.syncAsked := s.jnl.syncAsked.filter fun n => n != src }
        let s := (s.flowsFrom src).foldl (fun s k => s.setDedup k { s.dedup k with installed := false }) s
        let s := (s.giveSeqs src).flag JNL_STATUS_SYNC_PENDING (!s.jnl.syncAsked.isEmpty)
        let s := if s.jnl.syncAsked.isEmpty then s.stop .syncResend else s
        .next ((s.flowsFrom src).foldl (fun s k => s.receiptNow k) s)

/-- SYNC_REQ_RESEND (R176). -/
def execSyncReqResend (s : State) : Res :=
  match s.expire .syncResend with
  | some s =>
    let s := s.jnl.syncAsked.foldl (fun s n => s.sendCtl n ctlSyncReq s.jnl.syncNo false []) s
    .next (if s.jnl.syncAsked.isEmpty then s else s.start .syncResend s.heldTmoNs)
  | none => .next s

/-! ## Timers -/

/-- RECEIPT_SEND (R169): within RCPT_MAX of an advance. -/
def execReceiptSend (n : Nat) (s : State) : Res :=
  match s.expire (.receipt n) with
  | some s => .next (s.sendReceipts n)
  | none => .next s

/-- RETRANSMIT_TIMER_EXPIRY (R171, R189): what lies beyond HELD is sent again, and the purges that wait for their answer. -/
def execRetransmitTimerExpiry (part dst : Nat) (s : State) : Res :=
  match s.expire (.rtx (grpKey part dst)) with
  | some s =>
    let g := grpKey part dst
    .next (((s.sendPurges g).resendGrp g false false).grpTimers g false)
  | none => .next s

/-- HELD_TIMEOUT (R171). -/
def execHeldTimeout (part dst : Nat) (s : State) : Res :=
  match s.expire (.heldTmo (grpKey part dst)) with
  | some s => .next ((s.resendGrp (grpKey part dst) true false).grpTimers (grpKey part dst) true)
  | none => .next s

/-- UNREACHABLE_TIMEOUT (R187, R189): every entry of the group is reported and freed, those of an earlier purge among them. -/
def execUnreachableTimeout (part dst : Nat) (s : State) : Res :=
  match s.expire (.unreach (grpKey part dst)) with
  | some s => .next ((s.purgeGroup (grpKey part dst) 5).endPurgeCmds.establish)
  | none => .next s

/-- CPL_AGE_PURGE (R190): a completion that carries a generation has stayed unfreed for 1,000 ms. -/
def execCplAgePurge (id : Nat) (s : State) : Res :=
  match s.expire (.cplAge id), s.entry id with
  | some s, some e =>
    match e.seq with
    | some q => .next ((s.purge (entryFlow e) q 6 true).endPurgeCmds)
    | none => .next ((((s.bump JNL_CNT_PURGE_COUNT).evtNode 2 7).freeEntry e).establish)
  | _, _ => .next s

/-- PCIE_EGRESS_ACK (R169, R172): the link of its destination port has acknowledged a packet. -/
def execPcieEgressAck (id : Nat) (s : State) : Res :=
  match s.sc.acksDue.find? fun x => x.id == id with
  | none => .next s
  | some x =>
    let s := { s with sc.acksDue := s.sc.acksDue.filter fun y => y.id != id }
    match x.arrived with
    | some k => .next (s.markDone k x.record.seq)
    | none => .next s

/-! ## Commands of OMI group 0x08 (R422) -/

/-- SET_JOURNAL_QUOTA (R167). -/
def execSetJournalQuota (k : Nat) (s : State) : Res :=
  .next (s.omi k 0x0802 true (s.nodesArg 0) fun s r =>
    if 16 ≤ r.arg 2 1 || 98304 < r.arg 4 4 then s.says stParameter
    else (s.set JNL_DQ_QUOTA (r.arg 4 4) (r.arg 2 1), some ok))

/-- PURGE_DESTINATION (R189): each flow named is purged up to its last admission; the command ends with the last of them. -/
def execPurgeDestination (k : Nat) (s : State) : Res :=
  .next (s.omi k 0x0803 false (nodeArg 0) fun s r =>
    let dst := r.arg 1 1
    let part := r.arg 2 1
    let mask := r.arg 3 1
    if 16 ≤ dst || (64 ≤ part && part != 0xFF) || 32 ≤ mask then s.says stParameter
    else
      let ks := ((s.jnl.entries.map entryFlow).eraseDups).filter fun f =>
        f / 8 % 16 == dst && (part == 0xFF || f / 128 == part) && (mask == 0 || mask.testBit (f % 8))
      if ks.isEmpty then (s, some ok)
      else
        let s := { s with jnl.purgeCmds := s.jnl.purgeCmds ++ [(r.id, ks.map fun f => (f, seqPrev (s.flow f).next))] }
        let s := ks.foldl (fun s f => s.purge f (seqPrev (s.flow f).next) 6 false) s
        (s.endPurgeCmds, none))

/-- READ_FLOW. -/
def execReadFlow (k : Nat) (s : State) : Res :=
  .next (s.omi k 0x0804 false (nodeArg 0) fun s r =>
    let peer := r.arg 1 1
    let part := r.arg 2 1
    let v := r.arg 3 1
    if 16 ≤ peer || 64 ≤ part || 4 < v || 1 < r.arg 4 1 then s.says stParameter
    else if r.arg 4 1 = 0 then
      let f := s.flow (flowKey part peer (vcOf v))
      let n := (s.jnl.entries.filter fun e => entryFlow e == flowKey part peer (vcOf v)).map fun e => units e.record.len
      (s, some (ok (le 4 f.next ++ le 4 f.oldest ++ le 4 f.held ++ le 4 n.sum ++
        [if (s.grp (grpKey part peer)).unreachable || !s.reachable peer then 0 else 1])))
    else
      let key := dedupKey peer part (vcOf v)
      let d := s.dedup key
      (s, some (ok (le 4 d.expected ++ le 4 d.delivered ++ [if s.flowSynced key then 1 else 0, 0] ++ le 2 d.done.length))))

end Sys2Proof.Machine
end

