-- ==== Sys2Proof/Machine/Sched.lean ====
section
/-! DEFINITION. The commands of the scheduler (08) and of its tables (R419). -/

namespace Sys2Proof.Machine

/-- The key is that of a writable SCH field, which holds a pending value (R231). -/
def isSchKey (k : Nat) : Bool :=
  match Reg.ofNat (k % 512) with
  | .SCH_CTRL | .SCH_STARVE | .SCH_PORT | .SCH_MTR_C | .SCH_MTR_P => true
  | _ => false

/-- A changed quantum takes effect (Table 08.2). -/
def State.latchQuantum (s : State) (k old new : Nat) : State :=
  let i := k / 64
  let e := k % 64
  if old = new || !(s.sch.streams.any fun x => x.1 == k) then s
  else if new = 0 then
    (s.setSs k { s.ss k with deficit := 0, urgent := false }).enlist i e none
  else if old = 0 then
    let x := s.ss k
    let s := s.setSs k { x with deficit := 0, wait := 0, ready := x.ready.map fun _ => s.now, urgent := false }
    s.refreshStream i e
  else s

/-- The latch of a refill (R231): every value written takes effect together. -/
def State.latch (s : State) : State :=
  let caps := (List.range 48).map fun e => s.ttCap e
  let was := s.sch.quantaAct
  let s := { s with sch.act := s.fields.filter (fun x => isSchKey x.1), sch.quantaAct := s.sch.quanta }
  let s := ((was.map Prod.fst) ++ (s.sch.quanta.map Prod.fst)).eraseDups.foldl (init := s) fun s k =>
    s.latchQuantum k (Tab.get (quantumReset k) was k) (Tab.get (quantumReset k) s.sch.quantaAct k)
  -- a full bucket whose cap grows is no longer full
  (List.range 48).foldl (init := s) fun s e =>
    let old := caps.getD e 0
    if (Tab.get none s.sch.tt e).isNone && old < s.ttCap e then { s with sch.tt := Tab.put none s.sch.tt e (some old) } else s

/-- The additions of a refill to a partition's meter (R234). -/
def State.refillMeter (s : State) (p : Nat) : State :=
  let cir := s.sch_ SCH_MTR_C_CIR p
  let c := if cir = 0 then 0 else min (s.sch_ SCH_MTR_C_CBS p * 256) (s.get SCH_MTR_CTOK_CTOK p + 4 * cir)
  let k := min ((s.sch_ SCH_MTR_P_PBS p * 256 : Nat) : Int) (s32 (s.get SCH_MTR_PTOK_PTOK p) + 4 * s.sch_ SCH_MTR_P_PIR p)
  (s.set SCH_MTR_CTOK_CTOK c p).set SCH_MTR_PTOK_PTOK (u32 k) p

/-- The additions of a refill to an egress's TT bucket (R245); one that is full is not listed. -/
def State.refillTt (s : State) (e : Nat) : State :=
  match Tab.get none s.sch.tt e with
  | none => s
  | some v =>
    let n := v + s.ttGain e
    { s with sch.tt := Tab.put none s.sch.tt e (if s.ttCap e ≤ n then none else some n) }

/-- The 1.024 µs refill (R231): the pending tables latch, and every meter and TT bucket is filled. -/
def State.refill (s : State) : State :=
  let t := s.sch.lastRefill + 1024
  let s := { s with now := max s.now t, sch.lastRefill := t }
  let pend := s.on SCH_STATUS_PEND
  let s := if pend then (s.latch).evtNode 1 1 else s
  let s := (((s.flag SCH_STATUS_PEND false).bump SCH_STATUS_REFILL_NO).evtNode 1 0)
  let s := (List.range 64).foldl (fun s p => s.refillMeter p) s
  (List.range 48).foldl (fun s e => s.refillTt e) s

/-- SCHEDULER_REFILL (R231, R234, R245): every 1.024 µs of the time clock. -/
def execSchedulerRefill (s : State) : Res :=
  let t := s.refill
  .next (t.sch.cmds.foldl (fun s id => s.finish id ok) { t with sch.cmds := [] })

/-- PACKET_RELEASE (R235): its release time passes and the packet may leave. -/
def execPacketRelease (id : Nat) (s : State) : Res :=
  match s.pkt id with
  | some k =>
    match k.release with
    | some t =>
      let s := { s with now := max s.now t }.updPkt id fun q => { q with release := none }
      .next ((s.stage id 2).refreshStream k.src k.egress)
    | none => .next s
  | none => .next s

/-- STARVATION_TIMER_EXPIRY (R244): a stream has waited for LIMIT and becomes urgent. -/
def execStarvationTimerExpiry (i e : Nat) (s : State) : Res :=
  if 112 ≤ i || 48 ≤ e || !s.schOn SCH_CTRL_STARVE_EN || s.quantum (pairKey i e) = 0 then .next s
  else
    let s := s.refreshStream i e
    let x := s.ss (pairKey i e)
    if x.ready.isNone || x.urgent then .next s
    else
      let s := { s with now := s.now + (s.sch_ SCH_STARVE_LIMIT * 1000 + 1 - s.waited x) }
      let s := s.setSs (pairKey i e) { x with urgent := true }
      .next ((s.bump SCH_CNT_STARVE_COUNT).evtNode 1 7)

/-- Credits that come back to a place; an infinite one stays. -/
def giveCr (xs : List (Option Nat)) (i n : Nat) : List (Option Nat) :=
  (List.range xs.length).map fun j => if j = i then (xs.getD j none).map fun c => c + n else xs.getD j none

/-- FLOW_CONTROL_CREDIT_RETURN (R238): the partner of a PCI Express egress returns credits. -/
def execFlowControlCreditReturn (p : Nat) (vc : VC) (hdr data : Nat) (s : State) : Res :=
  if !s.dlActive p then .next s
  else
    let i := match vc with | .np => 2 | .cpl => 4 | _ => 0
    .next ((s.updPx p fun x => { x with partner := giveCr (giveCr x.partner i hdr) (i + 1) data }).refresh p)

/-- The values of a Write Table command. -/
def tableArgs (r : OmiRun) : List (Nat × Nat) :=
  (List.range (r.arg 5 1)).map fun j => (r.arg 4 1 + j, r.arg (8 + 2 * j) 2)

/-- What is wrong with the fixed part of a table command. -/
def tableBad (r : OmiRun) : Bool :=
  r.arg 2 1 = 0 || 2 < r.arg 2 1 || 48 ≤ r.arg 3 1 || 112 ≤ r.arg 4 1 || r.arg 5 1 = 0 || 112 < r.arg 4 1 + r.arg 5 1

/-- WRITE_TABLE (R142, R232, R242, R419): pair quotas at once, quanta with the next refill. -/
def execWriteTable (k : Nat) (s : State) : Res :=
  .next (s.omi k 0x0502 true (s.nodesArg 0) fun s r =>
    let e := r.arg 3 1
    let top := if r.arg 2 1 = 1 then 16384 else 1023
    if tableBad r || (tableArgs r).any (fun x => top < x.2) then s.says stParameter
    else if r.arg 2 1 = 1 then
      ((tableArgs r).foldl (init := s) fun s x =>
        { s with sc.pairQuota := Tab.put 1024 s.sc.pairQuota (pairKey x.1 e) x.2 }, some ok)
    else
      let s := (tableArgs r).foldl (init := s) fun s x =>
        { s with sch.quanta := Tab.put (quantumReset (pairKey x.1 e)) s.sch.quanta (pairKey x.1 e) x.2 }
      ({ s.flag SCH_STATUS_PEND true with sch.cmds := s.sch.cmds ++ [r.id] }, none))

/-- READ_TABLE (R419): quanta are the latched values. -/
def execReadTable (k : Nat) (s : State) : Res :=
  .next (s.omi k 0x0503 false (s.nodesArg 0) fun s r =>
    let e := r.arg 3 1
    if tableBad r then s.says stParameter
    else (s, some (ok ((List.range (r.arg 5 1)).flatMap fun j =>
      let key := pairKey (r.arg 4 1 + j) e
      le 2 (if r.arg 2 1 = 1 then s.pairQuota (r.arg 4 1 + j) e else s.quantum key / 64)))))

end Sys2Proof.Machine
end

