-- ==== Sys2Proof/Machine/Supplies.lean ====
section
/-! DEFINITION. The commands of the hold-up energy, the power-fail sequence and the persist store (06 R178 to R186) and of the
supplies (20). -/

namespace Sys2Proof.Machine

/-- VMAX_COMPUTE (R178): every 10 µs; a drain that runs ends here where it has nothing left to do or to draw on. -/
def execVmaxCompute (s : State) : Res := .next s.computeVmax.drainCheck

/-- POWER_FAIL_WARNING (R180, R485): PFW_n has been low for 1 µs. -/
def execPowerFailWarning (s : State) : Res := .next ((s.set PST_STATUS_PFW 1).pfBegin 1)

/-- DRAIN_MAX_EXPIRY (R181). -/
def execDrainMaxExpiry (s : State) : Res :=
  match s.expire .drainMax with
  | some s => .next (if s.pfPhase = pfDrain then s.persistStart (!s.drainEmpty) else s)
  | none => .next s

/-- PERSIST_COMPLETE (R182, R183): the commit record is written, the slot channels turn off, the outputs are held. At step 6 of a sleep
entry the node goes into SL3 (R452). -/
def execPersistComplete (s : State) : Res :=
  if s.pfPhase = pfPersist then
    let s := s.persistCommit.set JNL_STATUS_PF_PHASE pfDone
    let s := s.spPersistOff.portsStop.stopPins
    let s := { s with jnl.outputsHeld := true }
    .next (if s.warned then s else s.pfFinish)
  else
    match s.pw.sleep with
    | some x => .next (if x.step = 6 then s.persistCommit.sleepDown x else s)
    | none => .next s

/-- POWER_FAIL_WARNING_END (R183, R486): PFW_n is high again. -/
def execPowerFailWarningEnd (s : State) : Res := .next (s.set PST_STATUS_PFW 0).pfCheckEnd

/-- A record can be read with the channels in use: it is intact, committed, and was written on these channels. -/
def State.readable (s : State) (a : Area) : Bool := a.ok && a.state == stCommitted && a.chans == s.get JNL_STATUS_PST_FITTED

/-- The content of a record becomes the journal (R186 step 3). -/
def State.restoreArea (s : State) (a : Area) : State :=
  let s := { s with jnl.flows := a.flows, jnl.dedup := a.dedup, jnl.entries := a.entries, jnl.unsynced := a.unsynced
                    jnl.losses := a.losses, jnl.rewindDue := true
                    jnl.nextId := (a.entries.map fun (e : Entry) => e.id).foldl (fun m i => max m (i + 1)) s.jnl.nextId }
  let s := a.gens.foldl (fun s x => s.set PART_FN_B_GEN x.2 x.1) s
  let s := s.setUsed ((a.entries.map fun (e : Entry) => units e.record.len).sum)
  let s := (List.range 16).foldl (init := s) fun s d =>
    s.set JNL_DQOCC_USED ((a.entries.filter fun (e : Entry) => e.record.dstNode == d).map fun (e : Entry) => units e.record.len).sum d
  let aged := a.entries.filter fun (e : Entry) => e.record.vc == .cpl && e.record.gen != 0
  let s := aged.foldl (fun s (e : Entry) => s.start (.cplAge e.id) 1000000000) s
  (s.showEpoch a.epoch).loseGroups

/-- The node starts cold (R175, R186 step 6). -/
def State.startCold (s : State) : State :=
  let others := (List.range 16).filter fun n => n != s.nodeId
  { s with jnl.unsynced := others, jnl.syncNo := Config.syncNumber Config.serial s.now % 2 ^ 32 }.flag JNL_STATUS_COLD true

/-- MB_BOOT.STAGE shows that the persist check is done (Table 21.10). -/
def State.persistStage (s : State) : State := if s.get MB_BOOT_STAGE = 2 then s.set MB_BOOT_STAGE 3 else s

/-- PERSIST_RECOVERY (R186): after power-up, once the channels have been checked. -/
def execPersistRecovery (consumed : Bool) (s : State) : Res :=
  if !s.pst.checked || s.jnl.recovered then .next s
  else
    let s := if s.known.any fun x => s.readable x.2 && x.2.node != s.nodeId then s.reportNode 42 0 0x6012 else s
    let mine := s.known.filter fun x => s.readable x.2 && x.2.node == s.nodeId
    let best := mine.foldl (init := none) fun (b : Option (Bool × Area)) x =>
      match b with
      | some y => if y.2.epoch < x.2.epoch then some x else b
      | none => some x
    let s := match best with
      | some x => if consumed then ((s.restoreArea x.2).markArea x.1 stConsumed).flag JNL_STATUS_RESTORED true else s.startCold
      | none => s.startCold
    .next { s with jnl.recovered := true }.establish.persistStage

/-- The voltage in millivolts that a sense pin of `uv` microvolts stands for, with a ratio in 0.01. -/
def senseMv (uv div : Nat) : Nat := uv * div / 100000

/-- FEED_SAMPLE (R484): every 1 µs. -/
def execFeedSample (a b : Nat) (s : State) : Res :=
  let s := if s.feedFitted false then s.feedRead false (senseMv a (s.get PST_FEED_DIV_A)) else (s.stop (.feedGood false)).setFeed false false
  let s := if s.feedFitted true then s.feedRead true (senseMv b (s.get PST_FEED_DIV_B)) else (s.stop (.feedGood true)).setFeed true false
  .next s.feedDetect

/-- FEED_GOOD_EXPIRY (R484). -/
def execFeedGoodExpiry (b : Bool) (s : State) : Res :=
  match s.expire (.feedGood b) with
  | some s => .next (s.setFeed b true)
  | none => .next s

/-- FEED_PF_TIMEOUT (R486). -/
def execFeedPfTimeout (s : State) : Res :=
  match s.expire .feedPf with
  | some s => .next ({ s with pst.feedCause := true }.pfBegin 2)
  | none => .next s

/-- The bank case of internal detection (R486), from a V_HUV of `v` in 10 mV. -/
def State.bankDetect (s : State) (v : Nat) : State :=
  let thr := s.get PST_HUV_CFG_HUV_PF * 10
  let s := if thr + 100 < v then { s with pst.armed := true } else s
  let s := { s with pst.lowHuv := if v < thr then s.pst.lowHuv + 1 else 0 }
  if s.on PST_CTRL_HUV_PF_EN && thr != 0 && s.pst.armed && 2 ≤ s.pst.lowHuv then
    (if s.pst.bankCause then s else { s with pst.bankCause := true }.pfBegin 3)
  else if s.pst.bankCause && (thr < v || thr = 0 || !s.on PST_CTRL_HUV_PF_EN) then { s with pst.bankCause := false }.pfCheckEnd
  else s

/-- HUV_SAMPLE (R486, R488): every 10 µs, but not in SL3. -/
def execHuvSample (v : Nat) (s : State) : Res :=
  let hu := senseMv v (s.get PST_HUV_CFG_DIV) / 10
  let err : Bool := 1188000 ≤ v || s.get PST_VLIM_V_TOP * 10 < hu
  let was := s.on PST_STATUS_HUV_ERR
  let s := (s.set PST_HUV_MEAS_VHUV (min 65535 hu)).flag PST_STATUS_HUV_ERR err
  let s := if err && !was then s.reportNode 45 0 else s
  let s := s.set PST_HUV_MEAS_EAVAIL (min 65535 (s.energy / energyUnit))
  .next ((s.bankDetect hu).drainCheck)

/-- PST_CHANNEL_CHECK (R492): 8 MiB are enough where both channels pass, 16 MiB where one is used. -/
def execPstChannelCheck (c0 c1 : Option Nat) (s : State) : Res :=
  if s.pst.checked || s.jnl.recovered then .next s
  else
    let fit (n : Nat) : Bool := s.on (if n = 0 then PST_CTRL_CH0_FIT else PST_CTRL_CH1_FIT)
    let cap (n : Nat) : Nat := ((if n = 0 then c0 else c1).getD 0)
    let both : Bool := fit 0 && fit 1 && 8 ≤ cap 0 && 8 ≤ cap 1
    let good (n : Nat) : Bool := fit n && (both || 16 ≤ cap n)
    let s := s.set JNL_STATUS_PST_FITTED (b2n (good 0) 0 + b2n (good 1) 1)
    let s := [0, 1].foldl (fun s n => if fit n && !good n then s.channelFails n else s) s
    .next ({ s with pst.checked := true }.computeVmax)

/-- PST_WRITE_FAILURE (R493): in the persist step nothing is committed. -/
def execPstWriteFailure (n : Nat) (s : State) : Res :=
  if 1 < n || !bit (s.get JNL_STATUS_PST_FITTED) n then .next s
  else .next { s.channelFails n with jnl.writing := none }.computeVmax

end Sys2Proof.Machine
end

