-- ==== Sys2Proof/Machine/Switch.lean ====
section
/-! DEFINITION. The commands of the switch core (05). -/

namespace Sys2Proof.Machine

/-- The Shaving of a packet that is discarded for a reason of its own is written first (R438). -/
def State.shaveOff (s : State) (k : Packet) (reason : Nat) : State :=
  (s.shave k true reason (s.pcieRules k.src k.egress)).updPkt k.id fun q => { q with shaved := false }

/-- A packet of an ingress reserve has had to wait for the journal or the TT pool: counted once (R165). -/
def State.admWait (s : State) (k : Packet) : State :=
  if k.admWaited then s
  else
    let s := s.updPkt k.id fun q => { q with admWaited := true }
    let s := if k.record.vc == .tt then s.evtNode 0 2 else s
    if k.entry.isSome then (s.bump JNL_CNT_ADM_WAIT_COUNT).evtJnl k.record.dstNode 3 else s

/-- A packet moves off its reserve (R139, R141, R143): it is charged to its pool, and one that has arrived is presented to
de-duplication (R144). -/
def State.moveOff (s : State) (k : Packet) (port : Nat) : State :=
  let n := pktUnits k
  let s := (s.charge k.src k.egress k.record.vc n).leaveReserve k port
  let s := (s.updPkt k.id fun q => { q with charge := poolOf q.record.vc, noCredit := false }).stage k.id 4
  if s.arrived k && k.pass == .none then
    match s.pkt k.id with
    | some q => (s.present q).armRefuse port k.record.vc
    | none => s
  else s

/-- The record is the next of its VC on its fabric port (R144). -/
def State.nextOfVc (s : State) (k : Packet) : Bool :=
  !(s.arrived k && k.pass == .none) ||
    ((s.sc.pkts.find? fun q => q.inPort == k.inPort && q.record.vc == k.record.vc && s.arrived q && q.pass == .none && !q.gone).any
      fun q => q.id == k.id)

/-- A packet that still stands on an ingress reserve. -/
def onReserve (c : Charge) : Bool := match c with | .reserve _ => true | _ => false

/-- CHARGE_MOVE (R139, R141, R144, R146, R165): the oldest packet of a VOQ that is on its ingress reserve. An inter-node packet of
a PCI Express port moves only together with the restoration of its entries. -/
def execChargeMove (i e : Nat) (vc : VC) (s : State) : Res :=
  match s.sc.pkts.find? fun k => k.src == i && k.egress == e && k.record.vc == vc &&
      onReserve k.charge && (!k.gone || k.entry.isSome) with
  | none => .next s
  | some k =>
    match k.charge with
    | .reserve port =>
      let n := pktUnits k
      let inter : Bool := k.entry.isSome && !k.noCredit && !s.fabricMode port
      if inter && !s.restoreOk n k.record.dstNode then .next (s.admWait k)
      else if k.gone then
        let s := if inter then s.restore port n else s
        .next ((s.rmPkt k.id).leaveReserve k port)
      else if !s.canCharge i e vc n then .next (if vc == .tt then s.admWait k else s)
      else if !s.nextOfVc k then .next s
      else .next ((if inter then s.restore port n else s).moveOff k port)
    | _ => .next s

/-- REFUSE_WAIT_EXPIRY (R144): a record still on the reserve at the end of its wait is refused. -/
def execRefuseWaitExpiry (id : Nat) (s : State) : Res :=
  match s.expire (.refuse id), s.pkt id with
  | some s, some k =>
    if s.arrived k && k.charge == .reserve (k.inPort.getD 0) && k.pass == .none then
      .next (((s.refuse k SC_CNT_REFUSED_COUNT).evtNode 0 5).armRefuse (k.inPort.getD 0) k.record.vc)
    else .next s
  | _, _ => .next s

/-- HOLD_EXPIRY (R145). -/
def execHoldExpiry (port srcNode srcPart dstNode : Nat) (s : State) : Res :=
  match s.expire (.hold port srcNode srcPart dstNode) with
  | some s => .next (s.dropHolds fun h => h.port == port && h.srcNode == srcNode && h.srcPart == srcPart && h.dstNode == dstNode)
  | none => .next s

/-- EGRESS_SELECT (R239): an egress that can start a packet. -/
def execEgressSelect (e : Nat) (s : State) : Res :=
  let able : Bool := e < 48 && (if s.fabricMode e then s.linkCarries e else s.dlActive e && (s.px e).sending.isNone)
  .next (if able then s.select e else s)

/-- PACKET_DEPARTURE (R139, R141): a packet whose last byte has left its egress gives its segments back. -/
def execPacketDeparture (id : Nat) (s : State) : Res :=
  match s.pkt id with
  | none => .next s
  | some k =>
    if !k.started || !k.complete then .next s
    else if s.fabricMode k.egress then .next (if k.gone then s.unbuffer k else s)
    else if (s.px k.egress).sending == some id then
      let s := (s.stage id 7).updPx k.egress fun x => { x with sending := none }
      match (s.updPkt id fun q => { q with gone := true }).pkt id with
      | some q => .next ((s.unbuffer q).refresh k.egress)
      | none => .next s
    else .next s

/-- STALL_THRESHOLD_EXPIRY (R151): a packet has been stalled for STALL_THR with another virtual channel behind it. -/
def execStallThresholdExpiry (i e : Nat) (s : State) : Res :=
  let s := s.refreshStream i e
  let ks := (s.stream i e)
  let behind (k : Packet) : Bool := ks.any fun q => q.record.vc != k.record.vc && k.arrival < q.arrival
  match ((ks.filter behind).filterMap fun k => k.stalled).min? with
  | none => .next s
  | some t =>
    if s.pcieRules i e then .next s
    else
      let s := { s with now := max s.now t, sc.fallback := Tab.put false s.sc.fallback (pairKey i e) true }
      .next (((s.bump SC_CNT_FALLBACK_COUNT).evtNode 0 3).refreshStream i e)

/-- A packet that has begun to leave on a PCI Express port has come to nothing: its context goes (its requester is answered
elsewhere) and no acknowledgement is awaited. -/
def State.unsend (s : State) (k : Packet) : State :=
  let s := { s with sc.acksDue := s.sc.acksDue.filter fun x => x.id != k.id }
  if k.record.vc != .np then s
  else
    let t := pktTlp k
    match s.part.ctxs.find? fun c => c.port == k.egress && c.srcPart == k.record.srcPart && c.srcNode == k.record.srcNode &&
        c.reqId == t.reqId && c.tag0 == t.tag with
    | some c => s.endCtx c true
    | none => s

/-- BUFFER_ECC_ERROR (R153): a word of a packet read with one bit or two bits wrong. -/
def execBufferEccError (id : Nat) (double : Bool) (s : State) : Res :=
  match s.pkt id with
  | none => .next s
  | some k =>
    if !double then .next ((s.bump SC_CNT_ECC_CORR_COUNT).evtNode 0 6)
    else
      let part := if 48 ≤ k.src then k.src - 48 else k.record.srcPart
      let s := (s.bump SC_CNT_ECC_UNCORR_COUNT).evtNode 0 7
      let s := s.report { unit := 17, cls := 1, scope := 4, scopeId := part, cause := 0x5800 }
      let s := s.shaveOff k 3
      let k := { k with shaved := false }
      let s := if k.started && !s.fabricMode k.egress then s.unsend k else s
      if s.arrived k && k.pass == .final then
        let s := s.undelivDest k.record 9
        .next (if k.started then s.cutOff { k with pass := .final } else s.unbuffer k)
      else
        let local_ : Bool := k.record.srcNode == s.nodeId && k.record.dstNode == s.nodeId
        let s := if local_ then (s.dmLose fun w => w.pkt == some id).undeliverable k.record 9 k.cplId else s
        .next (if k.started then s.cutOff k else s.discard k)

end Sys2Proof.Machine
end

