-- ==== Sys2Proof/Machine/Turns.lean ====
section
/-! DEFINITION. Turns (07, R207 to R215): the commands that write, arm and read entries, the fetch and the launch. -/

namespace Sys2Proof.Machine

/-! ## Entries (R208) -/

/-- An entry as its eight dwords' bytes (Table 07.7). -/
def turnBytes (t : Turn) : List Nat :=
  le 4 (b2n t.armed 31 + b2n t.tt 30 + (t.owner.getD 0) * 2 ^ 24 + t.action * 2 ^ 20 + t.count) ++ le 8 t.start ++ le 4 t.period ++
    le 8 t.arg ++ le 8 t.data

/-- The entry that bytes write: ARMED and OWNER are not among what is written. -/
def turnFrom (old : Turn) (xs : List Nat) : Turn :=
  let w := leAt xs 0 4
  { old with tt := w.testBit 30, action := w / 2 ^ 20 % 16, count := w % 65536, start := leAt xs 4 8, period := leAt xs 12 4
             arg := leAt xs 16 8, data := leAt xs 24 8, n := 0 }

/-- Pin, pulse width and channel of ARG. -/
def Turn.pin (t : Turn) : Nat := t.arg % 8
def Turn.width (t : Turn) : Nat := t.arg / 65536 % 65536
def Turn.chan (t : Turn) : Nat := t.arg % 64
def Turn.usesPin (t : Turn) : Bool := 4 ≤ t.action && t.action ≤ 9
def Turn.writes (t : Turn) : Bool := t.action == 1 || t.action == 2

/-- The pin or channel is assigned to the owner (R212, R216). -/
def State.turnOwns (s : State) (t : Turn) : Bool :=
  if t.usesPin then s.on SPN_PIN_OWN_VALID t.pin && some (s.get SPN_PIN_OWNER t.pin) == t.owner
  else if t.action = 3 then t.owner.isSome && s.dmOwner t.chan == t.owner && Tab.get none s.spn.chan t.chan == t.owner
  else true

/-- A Write Turn is within the ranges of Tables 07.7 and 07.8. -/
def State.turnLegal (s : State) (t : Turn) (dword0 : Nat) : Bool :=
  t.action ≤ 9 && dword0 / 65536 % 16 == 0 && (t.period == 0 || 256 ≤ t.period) && (t.action != 7 || 8 ≤ t.width) && s.turnOwns t

/-! ## Commands (R207, R420) -/

/-- ASSIGN_TURNS (R207, Table 16.10). -/
def execAssignTurns (k : Nat) (s : State) : Res :=
  .next (s.omi k 0x0603 false (s.nodesArg 0) fun s r =>
    let part := r.arg 2 1 % 64
    let free : Bool := (r.arg 2 1).testBit 7
    let first := r.arg 4 2
    let n := r.arg 6 2
    let es := (List.range n).map fun i => first + i
    if 1023 < first || n = 0 || 1024 < first + n || (r.arg 2 1).testBit 6 || r.arg 3 1 != 0 then s.says stParameter
    else if es.any fun i => (s.turn i).armed || ((s.turn i).owner.any fun p => p != part) then s.says stState
    else
      let s := es.foldl (fun s i => s.setTurn i { s.turn i with owner := if free then none else some part }) s
      (s.checkHeld part, some ok))

/-- A command on one entry: in range, and the issuer's own or the fabric manager's (R207); `read` also for the gateway. -/
def State.onTurn (s : State) (r : OmiRun) (read : Bool) (f : Nat → Turn → State × Option OmiRsp) : State × Option OmiRsp :=
  let i := r.arg 2 2
  if 1023 < i then s.says stParameter
  else
    let t := s.turn i
    if !(r.priv == 1 || (r.priv == 2 && read) || t.owner.any fun p => r.mayOwn p) then s.says stPrivilege else f i t

/-- WRITE_TURN (R208, R209). -/
def execWriteTurn (k : Nat) (s : State) : Res :=
  .next (s.omi k 0x0604 false (s.nodesArg 0) fun s r => s.onTurn r false fun i t =>
    let x := turnFrom t (r.params.drop 4)
    if t.armed then s.says stBusy
    else if !s.turnLegal x (r.arg 4 4) then s.says stParameter
    else (s.setTurn i x, some ok))

/-- ARM_TURN (R209): a periodic Turn starts at its first occurrence at least 2 µs ahead. -/
def execArmTurn (k : Nat) (s : State) : Res :=
  .next (s.omi k 0x0605 false (s.nodesArg 0) fun s r => s.onTurn r false fun i t =>
    if !s.timeGood || t.action = 0 then s.says stState
    else if t.armed then (s, some (ok (le 8 t.next)))
    else if t.period = 0 then
      if t.start < s.spindleNs + 2000 then s.says stLate
      else (s.setTurn i { t with armed := true, suspended := false, n := 0 }, some (ok (le 8 t.start)))
    else
      let from_ := t.n + if t.due.isSome then 1 else 0
      let m := max from_ (t.firstAt (s.spindleNs + 2000))
      let x := { t with armed := true, suspended := false, n := m }
      let s := ((s.setTurn i x).bump SPN_CNT_TURN_SKIP_COUNT 0 (m - from_)).evtNode 3 5 (m - from_)
      (s, some (ok (le 8 x.next))))

/-- DISARM_TURN (R209): a launch already fetched still happens. -/
def execDisarmTurn (k : Nat) (s : State) : Res :=
  .next (s.omi k 0x0606 false (s.nodesArg 0) fun s r => s.onTurn r false fun i t =>
    (s.setTurn i { t with armed := false, suspended := false }, some (ok (le 2 t.count))))

/-- READ_TURN. -/
def execReadTurn (k : Nat) (s : State) : Res :=
  .next (s.omi k 0x0607 false (s.nodesArg 0) fun s r => s.onTurn r true fun _ t => (s, some (ok (turnBytes t))))

/-! ## The engine (R209 to R213) -/

/-- A launch is dropped: counted and reported (R211, R212). -/
def State.dropTurn (s : State) (i t : Nat) : State := ((s.bump SPN_CNT_TURN_DROP_COUNT).evtNode 3 6).turnReport i trDropped t

/-- The timed write of an entry: a posted write of the owner's host with the requester ID of its management endpoint (R211). -/
def State.turnTlp (s : State) (t : Turn) (part : Nat) : Tlp :=
  let n := if t.action = 1 then 4 else 8
  { kind := .memWrite, reqId := s.epId part, addr := t.arg, bytes := n, data := (le n t.data).map fun b => BitVec.ofNat 8 b }

/-- The host of a partition takes no part now: frozen (R110), or Bus Master Enable of its endpoint is 0 (R291). -/
def State.hostStopped (s : State) (part : Nat) : Bool :=
  match s.slotOf part with
  | some k => s.on PART_CTRL_HOST_FROZEN k || !(s.cfg k fnMgmt cfgCommand).testBit 2
  | none => false

/-- The lookup of a timed write at its fetch (R211): what is to be sent, or the drop. -/
def State.fetchWrite (s : State) (i : Nat) (t : Turn) (due : Nat) : State :=
  match t.owner with
  | none => s.dropTurn i due
  | some part =>
    if s.hostStopped part then s.dropTurn i due
    else
      let h := s.hostRoute part (s.turnTlp t part) true
      match h.1 with
      | none => h.2.dropTurn i due
      | some (g, r) =>
        let w : IntTx := { record := h.2.recFor part g (if t.tt then .tt else .p) 0 false r, internalReserve := false, cplId := g.cplId }
        h.2.setTurn i { h.2.turn i with write := some w }

/-- TURN_FETCH (R209, R211): TURN_LEAD = 2 µs before the next launch of an armed Turn. -/
def execTurnFetch (n : Nat) (s : State) : Res :=
  let t := s.turn n
  if !t.armed || t.suspended || t.due.isSome || !s.timeGood then .next s
  else
    let s := s.until (t.next - 2000)
    let s := s.setTurn n { t with due := some t.next, write := none }
    .next (if t.writes then s.fetchWrite n t t.next else s)

/-- Of the launches fetched none comes before that of entry `n`: time order, then entry-index order (R210). -/
def State.turnFirst (s : State) (n due : Nat) : Bool :=
  s.spn.turns.all fun x => match x.2.due with
    | some d => due < d || (due == d && n ≤ x.1)
    | none => true

/-- The earliest moment the limits of R210 allow from local time `now` on: four launches in any 16 ns, edges of a pin 8 ns apart. -/
def State.turnSlot (s : State) (t : Turn) : Nat :=
  let a := match s.spn.launches[3]? with | some x => x + 16 | none => 0
  let edge : Bool := 4 ≤ t.action && t.action ≤ 7
  let b := if edge then match Tab.get none s.spn.lastEdge t.pin with | some x => x + 8 | none => 0 else 0
  max s.now (max a b)

/-- A timed write is sent at its launch: metered unless it travels on TT (R233), to this node at once, to another by an admission
within 1 µs. -/
def State.sendTimed (s : State) (i due : Nat) (w : IntTx) : State :=
  let len := w.record.len - 16
  let m := s.insideMeter w.record.srcPart len (w.record.vc != .tt)
  let r := { w.record with excess := m.1 }
  let s := m.2.2
  if r.dstNode == s.nodeId then (s.raiseRec r none w.cplId m.2.1 none 0).2
  else
    let id := s.spn.nextTw
    ({ s with spn.nextTw := id + 1 }.raise { w with record := r, release := m.2.1, turn := some (id, i, due) }).start (.turnWrite id) 1000

/-- The action of a launch (Table 07.8). A pin or channel that is no longer the owner's drops it. -/
def State.turnAct (s : State) (i due : Nat) (t : Turn) : State :=
  if !s.turnOwns t then s.dropTurn i due
  else
    let p := t.pin
    match t.action with
    | 1 | 2 => match t.write with | some w => s.sendTimed i due w | none => s
    | 3 => (s.dmStart t.chan).2
    | 4 => s.driveOut p true
    | 5 => s.driveOut p false
    | 6 => s.driveOut p (!s.on SPN_PIN_OUT_LEVEL p)
    | 7 => (s.driveOut p true).start (.pulse p) t.width
    | 8 => s.flag SPN_PIN_GATE true p
    | 9 => s.flag SPN_PIN_GATE false p
    | _ => s

/-- The schedule after a launch (R209): COUNT falls, a single Turn or one whose COUNT has reached 0 disarms and reports. -/
def State.turnAdvance (s : State) (i due : Nat) : State :=
  let t := s.turn i
  let m := if t.period = 0 then 1 else (due - t.start) / t.period + 1
  let left := if t.period = 0 then t.count else t.count - 1
  let ends : Bool := t.period == 0 || (t.count == 1)
  let s := s.setTurn i { t with n := max t.n m, count := left, due := none, write := none, armed := t.armed && !ends }
  if t.armed && ends then s.turnReport i trEnded due else s

/-- TURN_LAUNCH (R210): a fetched launch at its time, or late at the earliest moment the limits allow. -/
def execTurnLaunch (n : Nat) (s : State) : Res :=
  let t := s.turn n
  match t.due with
  | none => .next s
  | some due =>
    if !s.turnFirst n due then .next s
    else
      let s := s.until due
      let slot := s.turnSlot t
      let late : Bool := s.now < slot
      let s := { s with now := slot, spn.launches := (slot :: s.spn.launches).take 4 }
      let s := (s.bump SPN_CNT_TURN_COUNT).evtNode 3 3
      let s := if late then ((s.bump SPN_CNT_TURN_LATE_COUNT).evtNode 3 4).turnReport n trLate due else s
      .next ((s.turnAct n due t).turnAdvance n due)

/-- TIMED_WRITE_DROP (R211): a timed write not admitted within 1 µs of its time. -/
def execTimedWriteDrop (id : Nat) (s : State) : Res :=
  match s.expire (.turnWrite id) with
  | none => .next s
  | some s =>
    match s.jnl.intWait.find? fun t => t.turn.any fun x => x.1 == id with
    | some t =>
      let s := { s with jnl.intWait := s.jnl.intWait.erase t }
      .next (match t.turn with | some x => s.dropTurn x.2.1 x.2.2 | none => s)
    | none => .next s

end Sys2Proof.Machine
end

