-- ==== Sys2Proof/Machine/Windows.lean ====
section
/-! DEFINITION. The commands of the address windows (04, R417): entries, commits, grants; what follows when every node has
acknowledged. -/

namespace Sys2Proof.Machine

/-! ## Entries (R118, R417) -/

/-- The dwords of a window entry in a parameter block. -/
def wentArg (r : OmiRun) (off : Nat) : List Nat := (List.range 8).map fun i => r.arg (off + 4 * i) 4

/-- Reserved bits are 0, SIZE and KIND no reserved encoding (Table 04.1). -/
def wentLegal (d : List Nat) : Bool :=
  let w (i : Nat) : Nat := d.getD i 0
  let size := w 0 % 64
  !(w 0).testBit 15 && w 0 / 64 % 8 == 0 && (size == 0 || (12 ≤ size && size ≤ 52)) && w 0 / 65536 % 16 ≤ 5 &&
    w 1 < 512 && w 2 % 4096 == 0 && w 4 % 4096 == 0 && w 6 == 0 && w 7 == 0

/-- WRITE_WINDOW_ENTRY (R118, R121, R123, R417): a managed entry into the shadow bank of every node. -/
def execWriteWindowEntry (k : Nat) (s : State) : Res :=
  .next (s.omi k 0x0302 false s.allNodes fun s r =>
    let part := r.arg 0 1
    let i := r.arg 1 1
    let d := wentArg r 4
    if !s.exists_ part || i < 128 || !wentLegal d then s.says stParameter
    else if s.winBusy part then s.says stBusy
    else (s.setWent part (1 - s.get WIN_PCTRL_ACT_MANAGED part) i (wentFrom d), some ok))

/-- READ_WINDOW_ENTRY (R118, R417). -/
def execReadWindowEntry (k : Nat) (s : State) : Res :=
  .next (s.omi k 0x0303 false (s.nodesArg 4) fun s r =>
    let part := r.arg 0 1
    let i := r.arg 1 1
    if !s.exists_ part || 1 < r.arg 2 1 then s.says stParameter
    else if !s.on WIN_PCTRL_HELD part then s.says stState
    else
      let b := s.activeBank part i
      (s, some (ok ((wentWords (s.went part (if r.arg 2 1 = 0 then b else 1 - b) i)).flatMap fun w => le 4 w))))

/-! ## Commits (R120 to R123) -/

/-- COMMIT_WINDOWS (R120, R122, R123, R417): every node checks its copy before any bank changes; then every one commits. A
forwarded command has passed its checks. -/
def execCommitWindows (k : Nat) (s : State) : Res :=
  .next (s.omi k 0x0304 false s.hereArg fun s r =>
    let part := r.arg 0 1
    if !s.exists_ part then s.says stParameter
    else if r.mbox == 17 then
      if s.winBusy part then s.says stBusy else (s.acceptCommit r, none)
    else match s.commitCheck part with
      | some o => (s, some o)
      | none =>
        let a := s.awaitAll (.goCommit r.id)
        ((a.2.fwAll part (.other fwCheck [part, a.1])).settle, none))

/-- COMMIT_SWAP (R122): within 2 µs of its acceptance the named banks swap. -/
def execCommitSwap (part : Nat) (s : State) : Res :=
  match s.expire (.swap part), s.win.commits.find? fun c => c.part == part with
  | some s, some c => .next (((s.swap c).flag WIN_PCTRL_RELOAD_BUSY true part).start (.reload part) 1000)
  | _, _ => .next s

/-- SHADOW_COPY_DONE (R122 to R124): the copy ends and with it the commit; a bound commit that has waited runs. -/
def execShadowCopyDone (part : Nat) (s : State) : Res :=
  match s.expire (.reload part), s.win.commits.find? fun c => c.part == part with
  | some s, some c =>
    let s := { s with win.commits := s.win.commits.filter fun x => x.part != part }.reload c
    let s := ((s.flag WIN_PCTRL_RELOAD_BUSY false part).flag WIN_PCTRL_COMMIT_BUSY false part).bump WIN_PCTRL_COMMIT_NO part
    let s := s.finishOpt c.cmd (ok [0xFF, 0])
    let s := match c.ack with
      | some (n, id) => s.ackTo part n id
      | none => s
    let s := match s.win.waiting.find? fun x => x.1.part == part with
      | some x => if s.winBusy part then s else { s with win.waiting := s.win.waiting.erase x }.boundCommit x.2 x.1
      | none => s
    .next s.settle
  | _, _ => .next s

/-! ## Grants (R125, R126) -/

/-- What OP of Set Peer Grant makes of a mask. -/
def grantOp (op old v : Nat) : Nat := if op = 1 then v else if op = 2 then old ||| v else old &&& (2 ^ 64 - 1 - v)

/-- SET_PEER_GRANT (R125, R126, R417): at every member. -/
def execSetPeerGrant (k : Nat) (s : State) : Res :=
  .next (s.omi k 0x0305 false s.allNodes fun s r =>
    let p := r.arg 0 1
    let op := r.arg 1 1
    if 64 ≤ p || op = 0 || 3 < op then s.says stParameter
    else
      let w := grantOp op (s.get WIN_GRANT_W_MASK p) (r.arg 4 8)
      let x := grantOp op (s.get WIN_GRANT_R_MASK p) (r.arg 12 8)
      ((s.set WIN_GRANT_W_MASK w p).set WIN_GRANT_R_MASK x p, some (ok (le 8 w ++ le 8 x))))

end Sys2Proof.Machine
end

