-- ==== Sys2Proof/Machine/Dispatch.lean ====
section
/-! DEFINITION. One arm per command: the meaning of each row of spec/opcode_table.json. -/

namespace Sys2Proof.Machine

/-- The effect of a command on everything but the queue. -/
def exec (i : Instr) (s : State) : Host.Outcome State Fault Refusal :=
  match i with
  | .registerWrite r idx dw v => Sys2Proof.Machine.execRegisterWrite r idx dw v s
  | .narrowRegisterWrite ep => Sys2Proof.Machine.execNarrowRegisterWrite ep s
  | .wideRegisterRead r idx => Sys2Proof.Machine.execWideRegisterRead r idx s
  | .wideRegisterHighWrite r idx v => Sys2Proof.Machine.execWideRegisterHighWrite r idx v s
  | .discoveryMessageReceive p m => Sys2Proof.Machine.execDiscoveryMessageReceive p m s
  | .discoveryTimeout pl => Sys2Proof.Machine.execDiscoveryTimeout pl s
  | .linkStateMessageReceive p m => Sys2Proof.Machine.execLinkStateMessageReceive p m s
  | .returnCleanExpiry part dst => Sys2Proof.Machine.execReturnCleanExpiry part dst s
  | .returnDrainComplete part dst => Sys2Proof.Machine.execReturnDrainComplete part dst s
  | .returnDrainAbort part dst => Sys2Proof.Machine.execReturnDrainAbort part dst s
  | .join => Sys2Proof.Machine.execJoin s
  | .joinHoldRaise pl => Sys2Proof.Machine.execJoinHoldRaise pl s
  | .leaveA => Sys2Proof.Machine.execLeaveA s
  | .leaveB => Sys2Proof.Machine.execLeaveB s
  | .leaveWaitExpiry pl => Sys2Proof.Machine.execLeaveWaitExpiry pl s
  | .sleepPlaneBLeave => Sys2Proof.Machine.execSleepPlaneBLeave s
  | .flitSlot p => Sys2Proof.Machine.execFlitSlot p s
  | .auditDue p => Sys2Proof.Machine.execAuditDue p s
  | .dataFlitReceive p h vc first pieces => Sys2Proof.Machine.execDataFlitReceive p h vc first pieces s
  | .idleFlitReceive p h => Sys2Proof.Machine.execIdleFlitReceive p h s
  | .msgFlitReceive p h m => Sys2Proof.Machine.execMsgFlitReceive p h m s
  | .auditFlitReceive p h a => Sys2Proof.Machine.execAuditFlitReceive p h a s
  | .replayFlitReceive p h start => Sys2Proof.Machine.execReplayFlitReceive p h start s
  | .replayTimerExpiry p => Sys2Proof.Machine.execReplayTimerExpiry p s
  | .ts1Receive p h lane number => Sys2Proof.Machine.execTs1Receive p h lane number s
  | .ts2Receive p h lane t => Sys2Proof.Machine.execTs2Receive p h lane t s
  | .rateGoReceive p h rate lanes left => Sys2Proof.Machine.execRateGoReceive p h rate lanes left s
  | .eqFlitReceive p h lane e => Sys2Proof.Machine.execEqFlitReceive p h lane e s
  | .eqAdaptEnd p lane => Sys2Proof.Machine.execEqAdaptEnd p lane s
  | .eqMeasureEnd p lane fom => Sys2Proof.Machine.execEqMeasureEnd p lane fom s
  | .equaliseTimeout p => Sys2Proof.Machine.execEqualiseTimeout p s
  | .initReceive p h adv depth lanes => Sys2Proof.Machine.execInitReceive p h adv depth lanes s
  | .initDoneReceive p h => Sys2Proof.Machine.execInitDoneReceive p h s
  | .retrainReqReceive p h reason node wanted forced => Sys2Proof.Machine.execRetrainReqReceive p h reason node wanted forced s
  | .retrainAckReceive p h node wanted => Sys2Proof.Machine.execRetrainAckReceive p h node wanted s
  | .quiesceDoneReceive p h => Sys2Proof.Machine.execQuiesceDoneReceive p h s
  | .plannedRetrainProceed p => Sys2Proof.Machine.execPlannedRetrainProceed p s
  | .retrainReqRepeat p => Sys2Proof.Machine.execRetrainReqRepeat p s
  | .rtMoveExpiry p => Sys2Proof.Machine.execRtMoveExpiry p s
  | .quiesceTimeout p => Sys2Proof.Machine.execQuiesceTimeout p s
  | .retrainTimeout p => Sys2Proof.Machine.execRetrainTimeout p s
  | .locklossExpiry p => Sys2Proof.Machine.execLocklossExpiry p s
  | .flapHoldClear p => Sys2Proof.Machine.execFlapHoldClear p s
  | .widthReq p v => Sys2Proof.Machine.execWidthReq p v s
  | .mlRetrain p => Sys2Proof.Machine.execMlRetrain p s
  | .forceDown p b => Sys2Proof.Machine.execForceDown p b s
  | .mlEnable p b => Sys2Proof.Machine.execMlEnable p b s
  | .pxPortEnable p on => Sys2Proof.Machine.execPxPortEnable p on s
  | .reserveComplete p => Sys2Proof.Machine.execReserveComplete p s
  | .tlpReceive p t => Sys2Proof.Machine.execTlpReceive p t s
  | .configRequestReceive p t => Sys2Proof.Machine.execConfigRequestReceive p t s
  | .vdspSecondaryBusWrite k n v reqId tag => Sys2Proof.Machine.execVdspSecondaryBusWrite k n v reqId tag s
  | .virtualBarWrite k n off v reqId tag => Sys2Proof.Machine.execVirtualBarWrite k n off v reqId tag s
  | .bridgeRangeWrite k n off v reqId tag => Sys2Proof.Machine.execBridgeRangeWrite k n off v reqId tag s
  | .hostFlr idx => Sys2Proof.Machine.execHostFlr idx s
  | .secondaryBusReset k n => Sys2Proof.Machine.execSecondaryBusReset k n s
  | .linkDisable k n on => Sys2Proof.Machine.execLinkDisable k n on s
  | .retrainLinkBit k n => Sys2Proof.Machine.execRetrainLinkBit k n s
  | .powerControllerControl k n off => Sys2Proof.Machine.execPowerControllerControl k n off s
  | .dpcTriggerStatusClear k n => Sys2Proof.Machine.execDpcTriggerStatusClear k n s
  | .dpcSoftwareTrigger k n => Sys2Proof.Machine.execDpcSoftwareTrigger k n s
  | .managementEndpointFlr k => Sys2Proof.Machine.execManagementEndpointFlr k s
  | .memorySpaceEnable k on reqId tag => Sys2Proof.Machine.execMemorySpaceEnable k on reqId tag s
  | .busMasterEnable k on => Sys2Proof.Machine.execBusMasterEnable k on s
  | .pcieLinkUp p rate width flit partner => Sys2Proof.Machine.execPcieLinkUp p rate width flit partner s
  | .pcieLinkDown p surprise => Sys2Proof.Machine.execPcieLinkDown p surprise s
  | .hotResetReceive p => Sys2Proof.Machine.execHotResetReceive p s
  | .pcieEgressAck id => Sys2Proof.Machine.execPcieEgressAck id s
  | .completionReceive p t => Sys2Proof.Machine.execCompletionReceive p t s
  | .pmeTurnOffReceive p => Sys2Proof.Machine.execPmeTurnOffReceive p s
  | .pmeToAckTimeout k => Sys2Proof.Machine.execPmeToAckTimeout k s
  | .l1IdleExpiry p => Sys2Proof.Machine.execL1IdleExpiry p s
  | .l0pNarrow p => Sys2Proof.Machine.execL0pNarrow p s
  | .l0pWiden p => Sys2Proof.Machine.execL0pWiden p s
  | .marginCommand p lane receiver command payload => Sys2Proof.Machine.execMarginCommand p lane receiver command payload s
  | .spdmRequest k code => Sys2Proof.Machine.execSpdmRequest k code s
  | .pxBifWrite g v => Sys2Proof.Machine.execPxBifWrite g v s
  | .pxPmapWrite g v => Sys2Proof.Machine.execPxPmapWrite g v s
  | .pxDualWrite v => Sys2Proof.Machine.execPxDualWrite v s
  | .chargeMove idx e vc => Sys2Proof.Machine.execChargeMove idx e vc s
  | .refuseWaitExpiry id => Sys2Proof.Machine.execRefuseWaitExpiry id s
  | .holdExpiry port srcNode srcPart dstNode => Sys2Proof.Machine.execHoldExpiry port srcNode srcPart dstNode s
  | .egressSelect e => Sys2Proof.Machine.execEgressSelect e s
  | .packetDeparture id => Sys2Proof.Machine.execPacketDeparture id s
  | .stallThresholdExpiry idx e => Sys2Proof.Machine.execStallThresholdExpiry idx e s
  | .bufferEccError id double => Sys2Proof.Machine.execBufferEccError id double s
  | .internalAdmission => Sys2Proof.Machine.execInternalAdmission s
  | .receiptReceive src items => Sys2Proof.Machine.execReceiptReceive src items s
  | .gapReceive src items => Sys2Proof.Machine.execGapReceive src items s
  | .undelivReceive src items => Sys2Proof.Machine.execUndelivReceive src items s
  | .purgeReceive src items => Sys2Proof.Machine.execPurgeReceive src items s
  | .purgeAckReceive src items => Sys2Proof.Machine.execPurgeAckReceive src items s
  | .rewindReceive src => Sys2Proof.Machine.execRewindReceive src s
  | .syncReqReceive src number => Sys2Proof.Machine.execSyncReqReceive src number s
  | .syncRspReceive src number last items => Sys2Proof.Machine.execSyncRspReceive src number last items s
  | .syncReqResend => Sys2Proof.Machine.execSyncReqResend s
  | .receiptSend n => Sys2Proof.Machine.execReceiptSend n s
  | .retransmitTimerExpiry part dst => Sys2Proof.Machine.execRetransmitTimerExpiry part dst s
  | .heldTimeout part dst => Sys2Proof.Machine.execHeldTimeout part dst s
  | .unreachableTimeout part dst => Sys2Proof.Machine.execUnreachableTimeout part dst s
  | .cplAgePurge id => Sys2Proof.Machine.execCplAgePurge id s
  | .vmaxCompute => Sys2Proof.Machine.execVmaxCompute s
  | .powerFailWarning => Sys2Proof.Machine.execPowerFailWarning s
  | .drainMaxExpiry => Sys2Proof.Machine.execDrainMaxExpiry s
  | .persistComplete => Sys2Proof.Machine.execPersistComplete s
  | .powerFailWarningEnd => Sys2Proof.Machine.execPowerFailWarningEnd s
  | .persistRecovery consumed => Sys2Proof.Machine.execPersistRecovery consumed s
  | .delayExchangeStart p => Sys2Proof.Machine.execDelayExchangeStart p s
  | .delayRequestReceive p h id t1 state gm => Sys2Proof.Machine.execDelayRequestReceive p h id t1 state gm s
  | .delayResponseReceive p h id t3 t2 t1 state gm => Sys2Proof.Machine.execDelayResponseReceive p h id t3 t2 t1 state gm s
  | .delayExchangeAbandon p => Sys2Proof.Machine.execDelayExchangeAbandon p s
  | .announceTimer => Sys2Proof.Machine.execAnnounceTimer s
  | .timeAnnouncementReceive p m => Sys2Proof.Machine.execTimeAnnouncementReceive p m s
  | .announceAbsent p => Sys2Proof.Machine.execAnnounceAbsent p s
  | .gmCandidateSettle => Sys2Proof.Machine.execGmCandidateSettle s
  | .ppsInEdge => Sys2Proof.Machine.execPpsInEdge s
  | .ppsInLoss => Sys2Proof.Machine.execPpsInLoss s
  | .setSpindle k => Sys2Proof.Machine.execSetSpindle k s
  | .coordinatedStep => Sys2Proof.Machine.execCoordinatedStep s
  | .ptmHostExchange time => Sys2Proof.Machine.execPtmHostExchange time s
  | .ptmRequestReceive p => Sys2Proof.Machine.execPtmRequestReceive p s
  | .holdoverTimeout => Sys2Proof.Machine.execHoldoverTimeout s
  | .assignTurns k => Sys2Proof.Machine.execAssignTurns k s
  | .writeTurn k => Sys2Proof.Machine.execWriteTurn k s
  | .armTurn k => Sys2Proof.Machine.execArmTurn k s
  | .disarmTurn k => Sys2Proof.Machine.execDisarmTurn k s
  | .readTurn k => Sys2Proof.Machine.execReadTurn k s
  | .assignTimePin k => Sys2Proof.Machine.execAssignTimePin k s
  | .reserveGrains k => Sys2Proof.Machine.execReserveGrains k s
  | .releaseGrains k => Sys2Proof.Machine.execReleaseGrains k s
  | .turnFetch n => Sys2Proof.Machine.execTurnFetch n s
  | .turnLaunch n => Sys2Proof.Machine.execTurnLaunch n s
  | .timedWriteDrop id => Sys2Proof.Machine.execTimedWriteDrop id s
  | .timeOutPulseFall n => Sys2Proof.Machine.execTimeOutPulseFall n s
  | .timeInEdge n rising => Sys2Proof.Machine.execTimeInEdge n rising s
  | .ppsOutRise => Sys2Proof.Machine.execPpsOutRise s
  | .ppsOutFall => Sys2Proof.Machine.execPpsOutFall s
  | .grainBoundary p => Sys2Proof.Machine.execGrainBoundary p s
  | .reservationRecheck p => Sys2Proof.Machine.execReservationRecheck p s
  | .grainReservationRecompute => Sys2Proof.Machine.execGrainReservationRecompute s
  | .schedulerRefill => Sys2Proof.Machine.execSchedulerRefill s
  | .packetRelease id => Sys2Proof.Machine.execPacketRelease id s
  | .starvationTimerExpiry idx e => Sys2Proof.Machine.execStarvationTimerExpiry idx e s
  | .assignChannel k => Sys2Proof.Machine.execAssignChannel k s
  | .releaseChannel k => Sys2Proof.Machine.execReleaseChannel k s
  | .dmTailWrite c v => Sys2Proof.Machine.execDmTailWrite c v s
  | .dmStart c => Sys2Proof.Machine.execDmStart c s
  | .dmReset c => Sys2Proof.Machine.execDmReset c s
  | .dmResume c => Sys2Proof.Machine.execDmResume c s
  | .dmPause c on => Sys2Proof.Machine.execDmPause c on s
  | .dmEnable c on => Sys2Proof.Machine.execDmEnable c on s
  | .descriptorFetchComplete c => Sys2Proof.Machine.execDescriptorFetchComplete c s
  | .dmReadIssue c => Sys2Proof.Machine.execDmReadIssue c s
  | .dmFillWriteForm c => Sys2Proof.Machine.execDmFillWriteForm c s
  | .dmReadCompletion tag t => Sys2Proof.Machine.execDmReadCompletion tag t s
  | .dmReadTimeout tag => Sys2Proof.Machine.execDmReadTimeout tag s
  | .descriptorComplete c => Sys2Proof.Machine.execDescriptorComplete c s
  | .channelResetComplete c => Sys2Proof.Machine.execChannelResetComplete c s
  | .createPartition k => Sys2Proof.Machine.execCreatePartition k s
  | .deletePartition k => Sys2Proof.Machine.execDeletePartition k s
  | .resetPartition k => Sys2Proof.Machine.execResetPartition k s
  | .partitionResetComplete k => Sys2Proof.Machine.execPartitionResetComplete k s
  | .transferFabricManagement k => Sys2Proof.Machine.execTransferFabricManagement k s
  | .setStandby k => Sys2Proof.Machine.execSetStandby k s
  | .freezePartition k => Sys2Proof.Machine.execFreezePartition k s
  | .thawPartition k => Sys2Proof.Machine.execThawPartition k s
  | .readPartition k => Sys2Proof.Machine.execReadPartition k s
  | .partitionRecordInstall src f => Sys2Proof.Machine.execPartitionRecordInstall src f s
  | .fmTakeoverExpiry => Sys2Proof.Machine.execFmTakeoverExpiry s
  | .completionTimeout idx => Sys2Proof.Machine.execCompletionTimeout idx s
  | .tagQuarantineEnd port tag => Sys2Proof.Machine.execTagQuarantineEnd port tag s
  | .generationWaitEnd idx => Sys2Proof.Machine.execGenerationWaitEnd idx s
  | .assignFunction k => Sys2Proof.Machine.execAssignFunction k s
  | .removeFunction k => Sys2Proof.Machine.execRemoveFunction k s
  | .removalDrainPoint idx => Sys2Proof.Machine.execRemovalDrainPoint idx s
  | .removalDrainTimeout idx => Sys2Proof.Machine.execRemovalDrainTimeout idx s
  | .removalResetWaitEnd idx => Sys2Proof.Machine.execRemovalResetWaitEnd idx s
  | .removalFunctionReady idx => Sys2Proof.Machine.execRemovalFunctionReady idx s
  | .removalFunctionTimeout idx => Sys2Proof.Machine.execRemovalFunctionTimeout idx s
  | .freezeFunction k => Sys2Proof.Machine.execFreezeFunction k s
  | .thawFunction k => Sys2Proof.Machine.execThawFunction k s
  | .setBusSpan k => Sys2Proof.Machine.execSetBusSpan k s
  | .enableVfs k => Sys2Proof.Machine.execEnableVfs k s
  | .enableVfsTimeout port => Sys2Proof.Machine.execEnableVfsTimeout port s
  | .setManagedPort k => Sys2Proof.Machine.execSetManagedPort k s
  | .readInstance k => Sys2Proof.Machine.execReadInstance k s
  | .writeWindowEntry k => Sys2Proof.Machine.execWriteWindowEntry k s
  | .readWindowEntry k => Sys2Proof.Machine.execReadWindowEntry k s
  | .commitWindows k => Sys2Proof.Machine.execCommitWindows k s
  | .commitSwap part => Sys2Proof.Machine.execCommitSwap part s
  | .shadowCopyDone part => Sys2Proof.Machine.execShadowCopyDone part s
  | .setPeerGrant k => Sys2Proof.Machine.execSetPeerGrant k s
  | .lbIntake => Sys2Proof.Machine.execLbIntake s
  | .lbCycleStart => Sys2Proof.Machine.execLbCycleStart s
  | .lbPhaseTermination rdy wait data => Sys2Proof.Machine.execLbPhaseTermination rdy wait data s
  | .lbRetryGapExpiry id => Sys2Proof.Machine.execLbRetryGapExpiry id s
  | .lbPhaseTimeout => Sys2Proof.Machine.execLbPhaseTimeout s
  | .prefetchLineExpiry no => Sys2Proof.Machine.execPrefetchLineExpiry no s
  | .semaphoreForcedRelease => Sys2Proof.Machine.execSemaphoreForcedRelease s
  | .bridgeReset => Sys2Proof.Machine.execBridgeReset s
  | .lbEnable on => Sys2Proof.Machine.execLbEnable on s
  | .lbResetRelease => Sys2Proof.Machine.execLbResetRelease s
  | .elogClr => Sys2Proof.Machine.execElogClr s
  | .lbPregWrite c n v => Sys2Proof.Machine.execLbPregWrite c n v s
  | .quadPllLock q => Sys2Proof.Machine.execQuadPllLock q s
  | .quadPllLockLoss q => Sys2Proof.Machine.execQuadPllLockLoss q s
  | .laneLockLoss p lane => Sys2Proof.Machine.execLaneLockLoss p lane s
  | .laneLockRegain p lane => Sys2Proof.Machine.execLaneLockRegain p lane s
  | .fecWindowEnd p lane corr => Sys2Proof.Machine.execFecWindowEnd p lane corr s
  | .clrUnfit p lane => Sys2Proof.Machine.execClrUnfit p lane s
  | .laneTest p lane test loop errors => Sys2Proof.Machine.execLaneTest p lane test loop errors s
  | .spCmdOn c => Sys2Proof.Machine.execSpCmdOn c s
  | .spCmdOff c => Sys2Proof.Machine.execSpCmdOff c s
  | .spCmdCycle c => Sys2Proof.Machine.execSpCmdCycle c s
  | .enableSlot k => Sys2Proof.Machine.execEnableSlot k s
  | .disableSlot k => Sys2Proof.Machine.execDisableSlot k s
  | .cycleSlot k => Sys2Proof.Machine.execCycleSlot k s
  | .gateCheckPass c => Sys2Proof.Machine.execGateCheckPass c s
  | .gateCheckTimeout c => Sys2Proof.Machine.execGateCheckTimeout c s
  | .gateGoodLoss c => Sys2Proof.Machine.execGateGoodLoss c s
  | .perstReleaseTimer c => Sys2Proof.Machine.execPerstReleaseTimer c s
  | .perstLeadExpiry c => Sys2Proof.Machine.execPerstLeadExpiry c s
  | .railBelowOffLevel c => Sys2Proof.Machine.execRailBelowOffLevel c s
  | .offMaxExpiry c => Sys2Proof.Machine.execOffMaxExpiry c s
  | .shuntSample c v => Sys2Proof.Machine.execShuntSample c v s
  | .fastComparatorTrip c => Sys2Proof.Machine.execFastComparatorTrip c s
  | .retryIntervalExpiry c => Sys2Proof.Machine.execRetryIntervalExpiry c s
  | .cleanExpiry c => Sys2Proof.Machine.execCleanExpiry c s
  | .presenceDebounced c present => Sys2Proof.Machine.execPresenceDebounced c present s
  | .emptyTimeout c => Sys2Proof.Machine.execEmptyTimeout c s
  | .feedReturnExpiry c => Sys2Proof.Machine.execFeedReturnExpiry c s
  | .bbmExpiry c => Sys2Proof.Machine.execBbmExpiry c s
  | .railLostTimeout c => Sys2Proof.Machine.execRailLostTimeout c s
  | .warnLeadExpiry c => Sys2Proof.Machine.execWarnLeadExpiry c s
  | .cycleOffExpiry c => Sys2Proof.Machine.execCycleOffExpiry c s
  | .faultReport r => Sys2Proof.Machine.execFaultReport r s
  | .managementRestartEnd => Sys2Proof.Machine.execManagementRestartEnd s
  | .nodeResetEnd copyA copyB => Sys2Proof.Machine.execNodeResetEnd copyA copyB s
  | .nodeResetTimeout => Sys2Proof.Machine.execNodeResetTimeout s
  | .portRecoverTimeout p => Sys2Proof.Machine.execPortRecoverTimeout p s
  | .cycleHoldExpiry p => Sys2Proof.Machine.execCycleHoldExpiry p s
  | .managedDpcRelease p => Sys2Proof.Machine.execManagedDpcRelease p s
  | .releasePort k => Sys2Proof.Machine.execReleasePort k s
  | .fcPortRel p => Sys2Proof.Machine.execFcPortRel p s
  | .injectFault k => Sys2Proof.Machine.execInjectFault k s
  | .fcInjectWrite v => Sys2Proof.Machine.execFcInjectWrite v s
  | .fcStatusClear hi v => Sys2Proof.Machine.execFcStatusClear hi v s
  | .mailboxGo k => Sys2Proof.Machine.execMailboxGo k s
  | .commandBufferWrite k off data => Sys2Proof.Machine.execCommandBufferWrite k off data s
  | .commandComplete k => Sys2Proof.Machine.execCommandComplete k s
  | .deferredCommandComplete k => Sys2Proof.Machine.execDeferredCommandComplete k s
  | .eventQueueHeadWrite k v => Sys2Proof.Machine.execEventQueueHeadWrite k v s
  | .firmwareMessageReceive src part m => Sys2Proof.Machine.execFirmwareMessageReceive src part m s
  | .forwardedCommandRetry id node => Sys2Proof.Machine.execForwardedCommandRetry id node s
  | .sessionTimeout => Sys2Proof.Machine.execSessionTimeout s
  | .smbusBlockWrite off data pec => Sys2Proof.Machine.execSmbusBlockWrite off data pec s
  | .smbusSetReadPointer off pec => Sys2Proof.Machine.execSmbusSetReadPointer off pec s
  | .smbusBlockRead n => Sys2Proof.Machine.execSmbusBlockRead n s
  | .beginStage k => Sys2Proof.Machine.execBeginStage k s
  | .writeStage k => Sys2Proof.Machine.execWriteStage k s
  | .endStage k => Sys2Proof.Machine.execEndStage k s
  | .activateImage k => Sys2Proof.Machine.execActivateImage k s
  | .activationQuiesceEnd => Sys2Proof.Machine.execActivationQuiesceEnd s
  | .activationCheckDone => Sys2Proof.Machine.execActivationCheckDone s
  | .activationSwitchoverEnd => Sys2Proof.Machine.execActivationSwitchoverEnd s
  | .commitImage k => Sys2Proof.Machine.execCommitImage k s
  | .advanceSecurityVersion k => Sys2Proof.Machine.execAdvanceSecurityVersion k s
  | .readFirmwareStatus k => Sys2Proof.Machine.execReadFirmwareStatus k s
  | .readRegisters k => Sys2Proof.Machine.execReadRegisters k s
  | .writeRegisters k => Sys2Proof.Machine.execWriteRegisters k s
  | .getIdentity k => Sys2Proof.Machine.execGetIdentity k s
  | .readCertificate k => Sys2Proof.Machine.execReadCertificate k s
  | .installOwnerChain k => Sys2Proof.Machine.execInstallOwnerChain k s
  | .writeTable k => Sys2Proof.Machine.execWriteTable k s
  | .readTable k => Sys2Proof.Machine.execReadTable k s
  | .setJournalQuota k => Sys2Proof.Machine.execSetJournalQuota k s
  | .purgeDestination k => Sys2Proof.Machine.execPurgeDestination k s
  | .readFlow k => Sys2Proof.Machine.execReadFlow k s
  | .readCounters k => Sys2Proof.Machine.execReadCounters k s
  | .readShavings k => Sys2Proof.Machine.execReadShavings k s
  | .setPowerLevel k => Sys2Proof.Machine.execSetPowerLevel k s
  | .setManagedAspm k => Sys2Proof.Machine.execSetManagedAspm k s
  | .requestSleep k => Sys2Proof.Machine.execRequestSleep k s
  | .joinFabric k => Sys2Proof.Machine.execJoinFabric k s
  | .leavePlane k => Sys2Proof.Machine.execLeavePlane k s
  | .retrainLink k => Sys2Proof.Machine.execRetrainLink k s
  | .marginLane k => Sys2Proof.Machine.execMarginLane k s
  | .clrEvt => Sys2Proof.Machine.execClrEvt s
  | .clrFlt => Sys2Proof.Machine.execClrFlt s
  | .fltCtrlWrite f v => Sys2Proof.Machine.execFltCtrlWrite f v s
  | .shvSeedWrite v => Sys2Proof.Machine.execShvSeedWrite v s
  | .bwWindowEnd => Sys2Proof.Machine.execBwWindowEnd s
  | .bwCfgWrite v => Sys2Proof.Machine.execBwCfgWrite v s
  | .plTargetWrite v => Sys2Proof.Machine.execPlTargetWrite v s
  | .dvfsReadback mv => Sys2Proof.Machine.execDvfsReadback mv s
  | .clockRampStep => Sys2Proof.Machine.execClockRampStep s
  | .dvfsTimeout => Sys2Proof.Machine.execDvfsTimeout s
  | .sleepPmeWaitEnd => Sys2Proof.Machine.execSleepPmeWaitEnd s
  | .sleepDrainEnd => Sys2Proof.Machine.execSleepDrainEnd s
  | .sleepCommit => Sys2Proof.Machine.execSleepCommit s
  | .sl1IdleExpiry => Sys2Proof.Machine.execSl1IdleExpiry s
  | .wakeEvent sources => Sys2Proof.Machine.execWakeEvent sources s
  | .sl3HoldEnd => Sys2Proof.Machine.execSl3HoldEnd s
  | .wakeTimerExpiry => Sys2Proof.Machine.execWakeTimerExpiry s
  | .padholdRelease v => Sys2Proof.Machine.execPadholdRelease v s
  | .coarseWindowEnd x a b l => Sys2Proof.Machine.execCoarseWindowEnd x a b l s
  | .missingEdge idx => Sys2Proof.Machine.execMissingEdge idx s
  | .fineWindowEnd a b => Sys2Proof.Machine.execFineWindowEnd a b s
  | .pllReferenceSwitchEnd pll => Sys2Proof.Machine.execPllReferenceSwitchEnd pll s
  | .pllLockLoss pll => Sys2Proof.Machine.execPllLockLoss pll s
  | .avsVoltagePoll mv => Sys2Proof.Machine.execAvsVoltagePoll mv s
  | .earlyBootSourceTimeout => Sys2Proof.Machine.execEarlyBootSourceTimeout s
  | .fullPowerOnReset => Sys2Proof.Machine.execFullPowerOnReset s
  | .mainPowerOnReset => Sys2Proof.Machine.execMainPowerOnReset s
  | .feedSample a b => Sys2Proof.Machine.execFeedSample a b s
  | .feedGoodExpiry b => Sys2Proof.Machine.execFeedGoodExpiry b s
  | .feedPfTimeout => Sys2Proof.Machine.execFeedPfTimeout s
  | .huvSample v => Sys2Proof.Machine.execHuvSample v s
  | .pstChannelCheck c0 c1 => Sys2Proof.Machine.execPstChannelCheck c0 c1 s
  | .pstWriteFailure n => Sys2Proof.Machine.execPstWriteFailure n s
  | .strapLatch v => Sys2Proof.Machine.execStrapLatch v s
  | .bootRomImageLoaded => Sys2Proof.Machine.execBootRomImageLoaded s
  | .firmwareBringupResume => Sys2Proof.Machine.execFirmwareBringupResume s
  | .uartRecoveryImage image writes => Sys2Proof.Machine.execUartRecoveryImage image writes s
  | .bootJoinTimer => Sys2Proof.Machine.execBootJoinTimer s
  | .selfFacingRelease p => Sys2Proof.Machine.execSelfFacingRelease p s
  | .thermalSample ts => Sys2Proof.Machine.execThermalSample ts s
  | .mainRailsValid => Sys2Proof.Machine.execMainRailsValid s
  | .pllsLocked => Sys2Proof.Machine.execPllsLocked s
  | .wakeFirmwareReady => Sys2Proof.Machine.execWakeFirmwareReady s
  | .flowControlCreditReturn p vc hdr data => Sys2Proof.Machine.execFlowControlCreditReturn p vc hdr data s

end Sys2Proof.Machine
end

