-- ==== Sys2Proof/Machine/Tick.lean ====
section
/-! DEFINITION. What happens with time when no command waits: one nanosecond of local time passes and firmware's and the hardware's own
watches look at the node (a DESIGN CHOICE of the model: the table has no row for a tick). -/

namespace Sys2Proof.Machine

/-! ## Duration events (R431, Tables 17.2, 17.3 and 17.6) -/

/-- An eligible packet waits for link credits at a port. -/
def State.waitsCredit (s : State) (p : Nat) : Bool := s.sc.pkts.any fun k => k.egress == p && k.stalled.isSome && !k.ctxWait && !k.started

/-- A packet is held on its ingress reserve. -/
def State.holdsCredit (s : State) (p : Nat) : Bool := s.sc.pkts.any fun k => k.charge == .reserve p

/-- The duration events of a port. -/
def State.portDurations (s : State) (p : Nat) : State :=
  let s := if s.waitsCredit p then s.evtPort p 9 else s
  let s := if s.holdsCredit p then s.evtPort p 10 else s
  if !s.fabricMode p && (s.get PX_PORT_STAT_PM p = 1 || s.on PX_PORT_STAT_L0P p) then s.evtPort p 15 else s

/-- The duration events of a fabric port. -/
def State.fabDurations (s : State) (p : Nat) : State :=
  if !s.fabricMode p || !s.linkCarries p then s
  else
    let s := if s.heldCr p .p = 0 then s.evtFab p 13 else s
    if s.heldCr p .cpl = 0 then s.evtFab p 14 else s

/-- A duration event adds 1 for each 64 ns. -/
def State.durations (s : State) : State :=
  if s.now % 64 != 0 then s
  else
    let s := (List.range 48).foldl (fun s p => s.portDurations p) s
    let s := fabPorts.foldl (fun s p => s.fabDurations p) s
    let s := if s.sharedFree * 16 < s.get SC_POOL_SIZE_SHARED_SIZE then s.evtNode 0 1 else s
    let s := if 4 * s.get DM_GLOBAL_BUF_MAX ≤ s.bufUsed then s.evtNode 4 7 else s
    if (List.range 12).any fun c => s.get SP_STATUS_STATE c == spWaitFeed then s.evtNode 6 7 else s

/-! ## The tick -/

/-- What firmware and the hardware look at: the end of a join, acknowledgements, waits and lost nodes of commands, the end of a drain,
wake sources that were held, idleness, the notices of a node reset, its count (R377), what a core that runs again takes up. -/
def State.watch (s : State) : State :=
  let s := ((s.joinTick.settle).pollWaits).lostNodes
  let s := (((s.drainCheck).wakeDue).idleWatch).resetNotices
  (s.set FC_STATE_NODE_RESETS (min 255 s.recentResets.length)).takeHeld

/-- One nanosecond of local time passes. -/
def State.tick (s : State) : State := ({ s with now := s.now + 1 }.durations).watch

end Sys2Proof.Machine
end

