-- ==== Sys2Proof/Machine/Electrical.lean ====
section
/-! DEFINITION. The limits of chapter 23 as data: ratings, pin classes, power by state, cooling. Nothing a command does depends on them:
they bind the board (R530 to R543). Voltages in mV, powers in mW, temperatures in degrees. -/

namespace Sys2Proof.Machine

/-- The supplies of Table 20.1. -/
inductive Supply where
  | vddAon | vddSram | vddCore | vddaSer | vddhSer | vddioAon | vddIo18 | vddIo33 | vslotBias
  deriving DecidableEq, Repr

/-- Highest voltage of a supply, the lowest being -300 mV (R530, Table 23.1). -/
def Supply.absMax : Supply → Nat
  | .vddAon | .vddSram => 900
  | .vddCore => 950
  | .vddaSer => 1000
  | .vddhSer => 1400
  | .vddioAon | .vddIo18 => 2100
  | .vddIo33 => 3800
  | .vslotBias => 16000

/-- A supply at `mv` is within its rating (R530). -/
def Supply.rated (x : Supply) (mv : Int) : Bool := -300 ≤ mv && mv ≤ (x.absMax : Int)

/-- The classes of the digital pins (R533, Table 23.4). -/
inductive PinClass where
  | c18 | c33 | smbus
  deriving DecidableEq, Repr

/-- The rating of a pin of the 1.8 V or 3.3 V class at rail voltage `rail`, 0 for a rail that is off; the fail-safe limit holds for the
3.3 V class then (R530). -/
def PinClass.absMax (c : PinClass) (rail : Nat) : Nat :=
  match c with
  | .c18 => min (rail + 300) 2100
  | .c33 => if rail = 0 then 3600 else min (rail + 300) 3800
  | .smbus => min (rail + 300) 2100

/-- Level an input of a class takes a voltage for: high, low, or none between the two (R533, Table 23.5);
the SMBus class follows SMBus 3.1, whose limits the spec does not print. -/
def PinClass.level (c : PinClass) (rail mv : Nat) : Option Bool :=
  match c with
  | .c33 => if 2000 ≤ mv then some true else if mv ≤ 800 then some false else none
  | .smbus => none
  | .c18 => if 65 * rail ≤ 100 * mv then some true else if 100 * mv ≤ 35 * rail then some false else none

/-- Junction temperatures: the rating, the operating range, the storage range (R530, R531). -/
def junctionRated (t : Int) : Bool := -55 ≤ t && t ≤ 140
def junctionOperating (t : Int) : Bool := -55 ≤ t && t ≤ 125
def storageRated (t : Int) : Bool := -65 ≤ t && t ≤ 150

/-- Most power drawn at a level PL0 to PL3, at full load (R532, Table 23.3): the SerDes, the core and buffers, the SRAM, the rest. -/
def powerParts (level : Nat) : Nat × Nat × Nat × Nat :=
  (72000, [26000, 16000, 9000, 4000].getD level 0, 8000, 6000)

/-- The total of a level. -/
def powerMax (level : Nat) : Nat :=
  let p := powerParts level
  p.1 + p.2.1 + p.2.2.1 + p.2.2.2

/-- Most power in sleep levels 1 to 3, and in the persist step (R532). -/
def sleepPower (level : Nat) : Nat := [0, 18000, 2500, 45].getD level 0
def persistPower : Nat := 9000

/-- Resistance from junction to lid, in thousandths of a degree per watt (R540). -/
def thetaJc : Nat := 80

/-- The cooling suffices: the lid's resistance `lc` (thousandths of a degree per watt) at power `p` in watts and coolant `tc` (R541). -/
def coolingOk (lc p : Nat) (tc : Int) : Bool := (lc + thetaJc : Int) * p ≤ (125 - tc) * 1000

/-- The lane's corrected bytes in a window of 2^24 bytes at the bit error ratio of R537, one in 10^6 (R538). -/
def correctedAtLimit : Nat := 2 ^ 24 * 8 / 10 ^ 6

end Sys2Proof.Machine
end

