-- ==== Sys2Proof/Machine/Package.lean ====
section
/-! DEFINITION. The package of chapter 22: the name and the net of every ball. Nothing a command does depends on it. -/

namespace Sys2Proof.Machine

/-- The signal groups of the balls (Tables 22.5 and 22.8, R520, R524). -/
inductive Sig where
  | serTxP | serTxN | serRxP | serRxN | refclkAP | refclkAN | refclkBP | refclkBN
  | slotGateA | slotGateB | slotIsnsP | slotIsnsN | slotVsns | slotPrsnt | slotPerst | slotPwrwarn
  | lbAd | lbBe | lbCs | lbAle | lbWr | lbBlast | lbRdy | lbWait | lbRst | lbClk
  | pst0Dq | pst0Ds | pst0Ck | pst0Cs | pst0Rst | pst1Dq | pst1Ds | pst1Ck | pst1Cs | pst1Rst
  | bootClk | bootCs | bootIo | avsClk | avsMdata | avsSdata | ringHoldA | ringHoldB
  | timeIn | ppsIn | tck | tms | tdi | tdo | trst | timeOut | ppsOut | xtal25In | xtal25Out | uartTx | uartRx
  | gpio | feedASense | feedBSense | smbClk | smbDat | smbAlert | pfw | supMainEn | supSerEn | xtal32In | xtal32Out | huvSense
  | nodeIdStrap | fmgrEn | smbAddr | bootMode
  deriving DecidableEq, Repr

/-- The net of a ball: a supply, VSS, or a signal with its number in its group (0 where the group has one). -/
inductive Net where
  | vss | vddaSer | vddhSer | vddCore | vddSram | vddIo18 | vddIo33 | vddAon | vddioAon | vslotBias
  | sig (g : Sig) (n : Nat)
  deriving DecidableEq, Repr

/-- The nineteen row letters of Table 22.2. -/
def rowLetters : List Char := "ABCDEFGHJKLMNPTUVWY".toList

/-- The name of row `n`, 1 to 63 (R516, Table 22.2). -/
def rowName (n : Nat) : List Char :=
  let m := (n - 1) % 19
  let last := rowLetters.getD m '?'
  match (n - 1) / 19 with
  | 0 => [last]
  | b => [rowLetters.getD (b - 1) '?', last]

/-- A ball by row index and column. -/
structure Ball where
  row : Nat
  col : Nat
  deriving DecidableEq, Repr

/-- The name of a ball: its row, then its column (R516). -/
def Ball.name (b : Ball) : List Char × Nat := (rowName b.row, b.col)

/-- The ball at depth `d` and position `w` of tile slot `t` (R518, Table 22.4). -/
def tileBall (t d w : Nat) : Ball :=
  let a := 5 * (t % 11) + w
  match t / 11 with
  | 0 => { row := d, col := a }
  | 1 => { row := a, col := 64 - d }
  | 2 => { row := 64 - d, col := 64 - a }
  | _ => { row := 64 - a, col := d }

/-- The net at depth `d` and position `w` of the tile of quad `q` (R519, Table 22.5). -/
def quadNet (q d w : Nat) : Net :=
  let pair (p n : Sig) (k : Nat) : Net := .sig (if w % 2 = 0 then p else n) (4 * q + k + (if w < 4 then 0 else 1))
  if d = 8 then (if w = 5 then .vss else if w = 3 then .vddhSer else .vddaSer)
  else if w = 1 || d % 2 = 0 then .vss
  else
    match d with
    | 1 => pair .serTxP .serTxN 0
    | 3 => pair .serTxP .serTxN 2
    | 5 => pair .serRxP .serRxN 0
    | _ => pair .serRxP .serRxN 2

/-- The net of a tile's ball: quads 0 to 41, then the spare tiles (R519, R520). -/
def tileNet (t d w : Nat) : Net :=
  if t < 42 then quadNet t d w
  else if t = 42 && d = 3 then
    match w with
    | 2 => .sig .refclkAP 0
    | 3 => .sig .refclkAN 0
    | 4 => .sig .refclkBP 0
    | 5 => .sig .refclkBN 0
    | _ => .vss
  else .vss

/-- The regions of Table 22.3. -/
inductive Region where
  | tile (slot d w : Nat) | supply | sideband | core
  deriving DecidableEq, Repr

/-- The region of a ball (R517), rows and columns 1 to 63. -/
def regionOf (r c : Nat) : Region :=
  if r ≤ 8 && c ≤ 55 then .tile ((c - 1) / 5) r ((c - 1) % 5 + 1)
  else if 56 ≤ c && r ≤ 55 then .tile (11 + (r - 1) / 5) (64 - c) ((r - 1) % 5 + 1)
  else if 56 ≤ r && 9 ≤ c then .tile (22 + (63 - c) / 5) (64 - r) ((63 - c) % 5 + 1)
  else if c ≤ 8 then .tile (33 + (63 - r) / 5) c ((63 - r) % 5 + 1)
  else if 13 ≤ c && c ≤ 51 && 13 ≤ r && r ≤ 22 then .sideband
  else if 13 ≤ c && c ≤ 51 && 23 ≤ r && r ≤ 51 then .core
  else .supply

/-- The supply band's net (R522). -/
def supplyNet (r c : Nat) : Net :=
  if (r + c) % 2 = 1 then .vss
  else if min (min (r - 8) (c - 8)) (min (56 - r) (56 - c)) = 4 then .vddhSer
  else .vddaSer

/-- The core field's net (R523). -/
def coreNet (r c : Nat) : Net := if (r + c) % 2 = 1 then .vss else if c % 4 = 0 then .vddSram else .vddCore

/-- Columns 13 to 36 of the sideband field (R524), by the row's index less 13. -/
def sideLeft (row c : Nat) : Net :=
  let ch := (c - 13) / 2
  let a : Bool := (c - 13) % 2 = 0
  match row with
  | 0 => .sig (if a then .slotGateA else .slotGateB) ch
  | 1 => .vss
  | 2 => .sig (if a then .slotIsnsP else .slotIsnsN) ch
  | 3 => if a then .sig .slotVsns ch else .vss
  | 4 => .sig (if a then .slotPrsnt else .slotPerst) ch
  | 5 => if a then .sig .slotPwrwarn ch else .vddIo33
  | 6 => .sig .lbAd (c - 13)
  | 7 => if a then .vddIo33 else .vss
  | 8 =>
    if c ≤ 20 then .sig .lbAd (c - 13 + 24)
    else if c ≤ 24 then .sig .lbBe (c - 21)
    else if c ≤ 28 then .sig .lbCs (c - 25)
    else [.sig .lbAle 0, .sig .lbWr 0, .sig .lbBlast 0, .sig .lbRdy 0, .sig .lbWait 0, .sig .lbRst 0, .sig .lbClk 0].getD (c - 29) .vss
  | _ => if c ≤ 14 then .vslotBias else .vss

/-- VSS and a supply in turn, VSS at column 37. -/
def altVss (c : Nat) (n : Net) : Net := if c % 2 = 1 then .vss else n

/-- A run of one group over columns 37 to 44. -/
def runOf (g : Sig) : List Net := (List.range 8).map (.sig g)

/-- Columns 37 to 51 of the sideband field (R525, Table 22.8), by the row's index less 13. -/
def sideRight (row c : Nat) : Net :=
  let rowNets : List Net :=
    match row with
    | 0 => runOf .pst0Dq ++ [.sig .pst0Ds 0, .sig .pst0Ck 0, .sig .pst0Cs 0, .sig .pst0Rst 0, .vss, .vddIo18, .vss]
    | 2 => runOf .pst1Dq ++ [.sig .pst1Ds 0, .sig .pst1Ck 0, .sig .pst1Cs 0, .sig .pst1Rst 0, .vss, .vddIo18, .vss]
    | 3 => [.sig .bootClk 0, .sig .bootCs 0, .sig .bootIo 0, .sig .bootIo 1, .sig .bootIo 2, .sig .bootIo 3, .vss, .sig .avsClk 0,
            .sig .avsMdata 0, .sig .avsSdata 0, .vss, .sig .ringHoldA 0, .sig .ringHoldB 0, .vss, .vddIo18]
    | 4 => runOf .timeIn ++ [.sig .ppsIn 0, .vss, .sig .tck 0, .sig .tms 0, .sig .tdi 0, .sig .tdo 0, .sig .trst 0]
    | 5 => runOf .timeOut ++ [.sig .ppsOut 0, .vss, .sig .xtal25In 0, .sig .xtal25Out 0, .vss, .sig .uartTx 0, .sig .uartRx 0]
    | 6 => runOf .gpio ++ [.sig .gpio 8, .sig .gpio 9, .sig .gpio 10, .sig .gpio 11, .vss, .sig .feedASense 0, .sig .feedBSense 0]
    | 7 => [.sig .gpio 12, .sig .gpio 13, .sig .gpio 14, .sig .gpio 15, .sig .smbClk 0, .sig .smbDat 0, .sig .smbAlert 0, .sig .pfw 0,
            .sig .supMainEn 0, .sig .supSerEn 0, .sig .xtal32In 0, .sig .xtal32Out 0, .vss, .sig .huvSense 0, .vss]
    | 8 => [.sig .nodeIdStrap 0, .sig .nodeIdStrap 1, .sig .nodeIdStrap 2, .sig .nodeIdStrap 3, .sig .fmgrEn 0,
            .sig .smbAddr 0, .sig .smbAddr 1, .sig .smbAddr 2, .sig .bootMode 0, .sig .bootMode 1, .vss,
            .vddioAon, .vddioAon, .vddAon, .vddAon]
    | 9 => [.vss, .vddIo33, .vss, .vddIo33, .vss, .vddioAon, .vss, .vddAon, .vss, .vddIo18, .vss, .vddIo18, .vss, .vddIo33, .vss]
    | _ => (List.range 15).map fun i => altVss (37 + i) .vddIo18
  rowNets.getD (c - 37) .vss

/-- The net of the ball at row index `r` and column `c` (R517). -/
def netOf (r c : Nat) : Net :=
  match regionOf r c with
  | .tile t d w => tileNet t d w
  | .supply => supplyNet r c
  | .core => coreNet r c
  | .sideband => if c ≤ 36 then sideLeft (r - 13) c else sideRight (r - 13) c

/-- The balls of the array. -/
def allBalls : List Ball := (List.range 63).flatMap fun r => (List.range 63).map fun c => { row := r + 1, col := c + 1 }

/-- How many balls a property holds of. -/
def ballCount (p : Net → Bool) : Nat := (allBalls.filter fun b => p (netOf b.row b.col)).length

/-- The balls of lane `l`, 0 to 167: transmit P and N, receive P and N (R519, R521). -/
def laneBalls (l : Nat) : Ball × Ball × Ball × Ball :=
  let w := if l % 2 = 0 then 2 else 4
  let d := if l % 4 < 2 then 1 else 3
  (tileBall (l / 4) d w, tileBall (l / 4) d (w + 1), tileBall (l / 4) (d + 4) w, tileBall (l / 4) (d + 4) (w + 1))

end Sys2Proof.Machine
end

