-- ==== Sys2Proof/Machine/Wire.lean ====
section
/-! DEFINITION. The layouts of what crosses the links and of what stands in the event queues: flits and their payloads (02 Tables 02.2 to
02.5, 02.7 and 02.11, 01, 07, 12), journal control records (06), lanes (02, 12), banks of the packet buffer (05), events and frames (15), the
header and the commit record of a persist area (06). The commands carry the content; this file says in which bytes. -/

namespace Sys2Proof.Machine

/-! ## Bytes and bit fields -/

/-- Bytes filled up with zeros to `n`. -/
def padTo (n : Nat) (xs : List Nat) : List Nat := (xs ++ List.replicate n 0).take n

/-- Bit fields side by side, each with its width, from bit 0. -/
def packBits : List (Nat × Nat) → Nat
  | [] => 0
  | (w, v) :: fs => v % 2 ^ w + 2 ^ w * packBits fs

/-- The `w` bits of `v` from bit `lsb`. -/
def bitsAt (v lsb w : Nat) : Nat := v / 2 ^ lsb % 2 ^ w

/-- A signed number in `n` bits, and back. -/
def toTwos (n : Nat) (x : Int) : Nat := (x % 2 ^ n).toNat
def ofTwos (n v : Nat) : Int := if v < 2 ^ (n - 1) then v else (v : Int) - 2 ^ n

/-- CR_VC and VC (Table 02.3); codes 101b and 110b are reserved. -/
def vcOfCode : Nat → Option VC
  | 0 => some .p | 1 => some .np | 2 => some .cpl | 3 => some .tt | 4 => some .mg | _ => none

/-! ## Packet records (R50, R168) -/

/-- KIND of Table 02.5. -/
def kindCode : Body → Nat
  | .tlp _ | .fw _ => 1
  | .ctl _ _ _ => 2
  | .reserved k => k

/-- The fabric packet header: 16 bytes (R50, Table 02.5). -/
def recordHdr (r : Record) : List Nat :=
  le 4 (packBits [(12, r.len), (4, kindCode r.body), (4, r.dstNode), (4, r.srcNode), (6, r.srcPart)]) ++
  le 4 (packBits [(3, r.vc.code), (1, b2n r.excess 0), (1, if r.plane = .b then 1 else 0), (3, 0), (4, r.hops), (6, r.dstPort), (6, 0), (8, r.gen)]) ++
  le 4 r.seq ++ le 4 r.admitTs

/-- What a header says, of a record with the given body. None for a reserved VC. -/
def readRecordHdr (body : Body) (xs : List Nat) : Option Record :=
  let d0 := leAt xs 0 4
  let d1 := leAt xs 4 4
  (vcOfCode (bitsAt d1 0 3)).map fun vc =>
    { srcPart := bitsAt d0 24 6, srcNode := bitsAt d0 20 4, dstNode := bitsAt d0 16 4, len := bitsAt d0 0 12, gen := bitsAt d1 24 8
      dstPort := bitsAt d1 12 6, hops := bitsAt d1 8 4, plane := if d1.testBit 4 then .b else .a, excess := d1.testBit 3, vc := vc
      seq := leAt xs 8 4, admitTs := leAt xs 12 4, body := body }

/-- An item of a journal control record: 12 bytes (Table 06.2). -/
def itemBytes (x : JItem) : List Nat :=
  le 4 (packBits [(8, x.reason), (14, 0), (1, b2n x.dir 0), (3, x.vc.code), (6, x.part)]) ++ le 4 x.seqA ++ le 4 x.seqB

/-- The body of a journal control record: INFO, then its items (R168, Table 06.2). -/
def ctlBytes (subtype : Nat) (last : Bool) (items : List JItem) : List Nat :=
  le 4 (packBits [(1, b2n last 0), (15, 0), (8, items.length), (8, subtype)]) ++ items.flatMap itemBytes

/-- An item as read; its reserved bits are ignored. None for a reserved VC. -/
def readItem (xs : List Nat) : Option JItem :=
  let k := leAt xs 0 4
  (vcOfCode (bitsAt k 23 3)).map fun vc =>
    { part := bitsAt k 26 6, vc := vc, dir := k.testBit 22, reason := bitsAt k 0 8, seqA := leAt xs 4 4, seqB := leAt xs 8 4 }

/-- The body of a journal control record as read (Table 06.2). -/
def readCtl (xs : List Nat) : Option Body :=
  let info := leAt xs 0 4
  ((List.range (bitsAt info 16 8)).mapM fun n => readItem (xs.drop (4 + 12 * n))).map fun items =>
    .ctl (bitsAt info 24 8) (info.testBit 0) items

/-! ## Hop-by-hop messages (01, 07) -/

/-- A node record of a discovery message (Table 01.1). -/
def nodeRecBytes (r : NodeRec) : List Nat :=
  [packBits [(4, r.node), (3, 0), (1, 1)], packBits [(1, b2n r.eastBypass 0), (1, b2n r.otherUp 0), (1, b2n r.fmHome 0)]] ++
  le 2 r.feature ++ le 2 r.fitted ++ [0, 0]

/-- A node record as read; its valid bit is bit 7 of its first byte. -/
def readNodeRec (xs : List Nat) : NodeRec :=
  let f := leAt xs 1 1
  { node := bitsAt (leAt xs 0 1) 0 4, eastBypass := f.testBit 0, otherUp := f.testBit 1, fmHome := f.testBit 2, feature := leAt xs 2 2
    fitted := leAt xs 4 2 }

/-- Plane in bit 0 of a byte: 0 A, 1 B. -/
def planeBit (pl : Plane) : Nat := if pl = .b then 1 else 0
def planeOfBit (b : Bool) : Plane := if b then .b else .a

/-- STATE of a link-state message (Table 01.2). A reserved value, which this node never sends, stands as 0xFF. -/
def segCode : Option SegState → Nat
  | some .down => 0 | some .up => 1 | some .leaving => 2 | none => 0xFF
def segOfCode : Nat → Option SegState
  | 0 => some .down | 1 => some .up | 2 => some .leaving | _ => none

/-- A MSG flit's payload: 236 bytes (R22, R47, R196, Tables 01.1, 01.2 and 07.1). -/
def msgBytes : MgMsg → List Nat
  | .disc m => padTo 236 ([0x21, packBits [(1, planeBit m.plane), (1, if m.launch = .west then 1 else 0), (1, b2n m.turned 0)], m.origin % 16,
      m.recs.length % 256] ++ le 4 m.run ++ m.recs.flatMap nodeRecBytes)
  | .linkState m => padTo 236 ([0x22, planeBit m.plane, m.segment % 16, segCode m.state] ++ le 4 m.epoch ++ [m.reporter % 16])
  | .announce m => padTo 236 ([0x31, packBits [(3, m.state), (1, b2n m.traceable 0), (1, b2n m.stepAnnounced 0)], m.gmId % 16, m.gmClass % 4,
      m.gmPrio % 256, m.hops % 256, 0, 0] ++ le 4 m.gmEpoch ++ le 8 m.stepAt ++ le 10 (toTwos 80 m.stepDelta))
  | .other t => padTo 236 [t % 256]

/-- The message a MSG flit's payload holds. -/
def readMsg (xs : List Nat) : MgMsg :=
  let f := leAt xs 1 1
  let t := leAt xs 0 1
  if t = 0x21 then
    .disc { plane := planeOfBit (f.testBit 0), launch := if f.testBit 1 then .west else .east, turned := f.testBit 2
            origin := bitsAt (leAt xs 2 1) 0 4, run := leAt xs 4 4
            recs := (List.range (min 16 (leAt xs 3 1))).map fun n => readNodeRec (xs.drop (8 + 8 * n)) }
  else if t = 0x22 then
    .linkState { plane := planeOfBit (f.testBit 0), segment := bitsAt (leAt xs 2 1) 0 4, state := segOfCode (leAt xs 3 1)
                 epoch := leAt xs 4 4, reporter := bitsAt (leAt xs 8 1) 0 4 }
  else if t = 0x31 then
    .announce { gmId := bitsAt (leAt xs 2 1) 0 4, gmClass := bitsAt (leAt xs 3 1) 0 2, gmPrio := leAt xs 4 1, gmEpoch := leAt xs 8 4
                hops := leAt xs 5 1, traceable := f.testBit 3, state := bitsAt f 0 3, stepAnnounced := f.testBit 4
                stepAt := leAt xs 12 8, stepDelta := ofTwos 80 (leAt xs 20 10) }
  else .other t

/-! ## Audit, link control, link delay (02, 12, 07) -/

/-- The five values of a PerVc in the order of the codes. -/
def vcList (x : PerVc) : List Nat := [x.p, x.np, x.cpl, x.tt, x.mg]
def vcFrom (f : Nat → Nat) : PerVc := { p := f 0, np := f 1, cpl := f 2, tt := f 3, mg := f 4 }

/-- AUDIT payload (R65, Table 02.7). -/
def auditBytes (a : Audit) : List Nat :=
  padTo 236 (le 4 a.no ++ le 4 0 ++ (List.range 5).flatMap fun v =>
    le 4 ((vcList a.consumed).getD v 0) ++ le 4 ((vcList a.received).getD v 0) ++ le 2 ((vcList a.held).getD v 0) ++ le 2 ((vcList a.advEcho).getD v 0))

def readAudit (xs : List Nat) : Audit :=
  { no := leAt xs 0 4, consumed := vcFrom fun v => leAt xs (8 + 12 * v) 4, received := vcFrom fun v => leAt xs (12 + 12 * v) 4
    held := vcFrom fun v => leAt xs (16 + 12 * v) 2, advEcho := vcFrom fun v => leAt xs (18 + 12 * v) 2 }

/-- OP of an EQ flit (Table 12.2). -/
def eqOpCode : EqOp → Nat
  | .presetReq => 1 | .coefReq => 2 | .applied => 3 | .rejected => 4 | .done => 5 | .failed => 6 | .reserved n => n
def eqOpOfCode : Nat → EqOp
  | 1 => .presetReq | 2 => .coefReq | 3 => .applied | 4 => .rejected | 5 => .done | 6 => .failed | n => .reserved n

/-- LCTL payload (R70, R330, Tables 02.11 and 12.2). -/
def lctlBytes : Lctl → List Nat
  | .ts1 number train => padTo 236 ([0x01, number % 256] ++ le 4 train)
  | .ts2 t => padTo 236 ([0x02, t.node % 16, packBits [(1, planeBit t.plane), (1, b2n t.west 0)], t.lane % 256, t.usable % 256, t.rateCap % 256] ++
      le 2 t.feature ++ [b2n t.eqValid 0])
  | .rateGo rate lanes left => padTo 236 ([0x03, rate % 256, lanes % 256] ++ le 2 left)
  | .eq lane m => padTo 236 ([0x04, lane % 256, eqOpCode m.op % 256, m.preset % 256, toTwos 8 m.coef.m2, toTwos 8 m.coef.m1, toTwos 8 m.coef.c0,
      toTwos 8 m.coef.p1, m.fom % 256, m.req % 256])
  | .init adv depth lanes => padTo 236 ([0x05, 0] ++ (vcList adv).flatMap (le 2) ++ le 2 depth ++ [lanes % 256])
  | .initDone => padTo 236 [0x06]
  | .retrainReq reason node wanted forced => padTo 236 [0x10, reason % 256, node % 256, wanted % 256, b2n forced 0]
  | .retrainAck node wanted => padTo 236 [0x11, node % 256, wanted % 256]
  | .quiesceDone => padTo 236 [0x12]
  | .reserved code => padTo 236 [code % 256]

def readLctl (xs : List Nat) : Lctl :=
  let b (i : Nat) : Nat := leAt xs i 1
  if b 0 = 0x01 then .ts1 (b 1) (leAt xs 2 4)
  else if b 0 = 0x02 then
    .ts2 { node := bitsAt (b 1) 0 4, plane := planeOfBit ((b 2).testBit 0), west := (b 2).testBit 1, lane := b 3, usable := b 4, rateCap := b 5
           feature := leAt xs 6 2, eqValid := (b 8).testBit 0 }
  else if b 0 = 0x03 then .rateGo (b 1) (b 2) (leAt xs 3 2)
  else if b 0 = 0x04 then
    .eq (b 1) { op := eqOpOfCode (b 2), preset := b 3, fom := b 8, req := b 9
                coef := { m2 := ofTwos 8 (b 4), m1 := ofTwos 8 (b 5), c0 := ofTwos 8 (b 6), p1 := ofTwos 8 (b 7) } }
  else if b 0 = 0x05 then .init (vcFrom fun v => leAt xs (2 + 2 * v) 2) (leAt xs 12 2) (b 14)
  else if b 0 = 0x06 then .initDone
  else if b 0 = 0x10 then .retrainReq (b 1) (b 2) (b 3) ((b 4).testBit 0)
  else if b 0 = 0x11 then .retrainAck (b 1) (b 2)
  else if b 0 = 0x12 then .quiesceDone
  else .reserved (b 0)

/-- DELAY payload (R200, Table 07.2). T2_ECHO and T1_ECHO are a response's. -/
def delayBytes (response : Bool) (id tTx t2 t1 state : Nat) (gm : Bool) : List Nat :=
  padTo 236 ([if response then 2 else 1, packBits [(3, state), (1, b2n gm 0)]] ++ le 2 id ++ le 10 tTx ++
    (if response then le 10 t2 ++ le 10 t1 else []))

/-- None for a reserved SUBTYPE, with which the flit is discarded. -/
def readDelay (xs : List Nat) : Option FlitBody :=
  let f := leAt xs 1 1
  let t := leAt xs 0 1
  if t = 1 then some (.delay false (leAt xs 2 2) (leAt xs 4 10) 0 0 (bitsAt f 0 3) (f.testBit 3))
  else if t = 2 then some (.delay true (leAt xs 2 2) (leAt xs 4 10) (leAt xs 14 10) (leAt xs 24 10) (bitsAt f 0 3) (f.testBit 3))
  else none

/-! ## Flits (R45 to R47) -/

/-- FTYPE (Table 02.4). -/
def flitType : FlitBody → Nat
  | .idle => 0 | .data _ _ _ => 1 | .msg _ => 2 | .audit _ => 3 | .replay _ => 4 | .lctl _ => 5 | .delay .. => 6

/-- The flit header: 4 bytes (R46, Table 02.3). VC and FIRST are a DATA flit's. -/
def flitHdr (f : Flit) : List Nat :=
  let d : Nat × Nat := match f.body with | .data vc first _ => (first, vc.code) | _ => (0, 0)
  let cr : Nat := match f.hdr.crVc with | some vc => vc.code | none => 7
  le 4 (packBits [(6, d.1), (3, d.2), (5, f.hdr.crCount), (3, cr), (12, f.hdr.ack), (3, flitType f.body)])

/-- What a flit header says: FTYPE, ACK, the credit return, VC and FIRST. None for a reserved code. -/
structure HdrFields where
  type : Nat
  ack : Nat
  crVc : Option VC
  crCount : Nat
  vc : VC
  first : Nat
  deriving DecidableEq, Repr

def readFlitHdr (xs : List Nat) : Option HdrFields :=
  let h := leAt xs 0 4
  let cr := bitsAt h 14 3
  match vcOfCode (bitsAt h 6 3) with
  | none => none
  | some vc =>
    if bitsAt h 29 3 = 7 || cr = 5 || cr = 6 then none
    else some { type := bitsAt h 29 3, ack := bitsAt h 17 12, crVc := vcOfCode cr, crCount := bitsAt h 9 5, vc := vc, first := bitsAt h 0 6 }

/-- The 236 bytes of payload (Table 02.4). Those of a DATA flit are handed in: a TLP's own bytes are the PCI Express Base Specification's. -/
def payload (records : List Nat) : FlitBody → List Nat
  | .idle => padTo 236 []
  | .data _ _ _ => padTo 236 records
  | .msg m => msgBytes m
  | .audit a => auditBytes a
  | .replay start => padTo 236 (le 2 (start % 4096))
  | .lctl m => lctlBytes m
  | .delay response id tTx t2 t1 state gm => delayBytes response id tTx t2 t1 state gm

/-- The 256 bytes of a flit, with its CRC and parity (R45, R52, R53). -/
def wholeFlit (records : List Nat) (f : Flit) : List Nat := flitBytes f.hdr.seq (flitHdr f ++ payload records f.body)

/-- The body of a flit other than a DATA flit, from its type and its payload. -/
def readBody (type : Nat) (xs : List Nat) : Option FlitBody :=
  match type with
  | 0 => some .idle
  | 2 => some (.msg (readMsg xs))
  | 3 => some (.audit (readAudit xs))
  | 4 => some (.replay (bitsAt (leAt xs 0 2) 0 12))
  | 5 => some (.lctl (readLctl xs))
  | 6 => readDelay xs
  | _ => none

/-! ## Lanes (R48, R323, R324) -/

/-- The bytes of a flit that logical lane `k` of `w` carries, in their order (R48). -/
def laneBytes (w k : Nat) (xs : List Nat) : List Nat := (List.range ((xs.length + w - 1 - k) / w)).map fun n => xs.getD (w * n + k) 0

/-- The bits of a byte as they are sent: the most significant first (R323). -/
def byteBits (x : Nat) : List Bool := [7, 6, 5, 4, 3, 2, 1, 0].map x.testBit

/-- The PAM4 level of a pair of bits under the Gray code of R323. -/
def pam4 : Bool → Bool → Int
  | false, false => -3 | false, true => -1 | true, true => 1 | true, false => 3

/-- The PAM4 symbols of bits, two to a symbol (R323). -/
def pam4s : List Bool → List Int
  | a :: b :: bs => pam4 a b :: pam4s bs
  | _ => []

/-- The seed of a lane's scrambler (R324). -/
def laneSeed (lane : Nat) : Nat := 0x1DBF60 ^^^ (lane * 0x01111)

/-- One step of the 23-bit LFSR of R324. PRESUMED, as in PCI Express: the register shifts upward, its bit 22 is the output and is fed back
into the taps of the polynomial. -/
def lfsrStep (x : Nat) : Bool × Nat :=
  let out := x.testBit 22
  let y := x * 2 % 2 ^ 23
  (out, if out then y ^^^ 0x210125 else y)

/-- Bits under the scrambler, which is loaded at the first bit of each flit (R324). Scrambling twice gives the bits back. -/
def scramble (x : Nat) : List Bool → List Bool
  | [] => []
  | b :: bs => (b != (lfsrStep x).1) :: scramble (lfsrStep x).2 bs

/-- What logical lane `k` of `w` sends of a flit, in bits. -/
def laneBits (w k : Nat) (xs : List Nat) : List Bool := scramble (laneSeed k) ((laneBytes w k xs).flatMap byteBits)

/-! ## The packet buffer (R134) -/

/-- Bank of segment `j` of cell `c`. -/
def bankOf (c j : Nat) : Nat := (4 * c + j) % 48

/-! ## Events and frames (R394) -/

/-- Event 0x41 (Table 06.10). -/
def jEventBytes (e : JEvent) : List Nat :=
  [0x41, e.reason % 256, packBits [(3, e.vc.code), (1, b2n e.nonPosted 0), (1, b2n e.summary 0)], packBits [(4, e.dstNode), (4, e.srcNode)]] ++
  le 4 e.seq ++ le 8 e.addr ++ le 2 e.requester ++ le 2 (e.tag % 2 ^ 14) ++ [e.dstPort % 256, e.srcPart % 64] ++ le 2 e.count ++
  le 4 e.admitTs ++ le 4 e.reportTs

/-- The bytes of an event, TYPE first: Tables 06.10, 07.9, 09.4, 11.7, 15.5 and 15.6 and the layouts of R213, R368, R380 and R546. None for
the two events to which the spec gives no TYPE byte (R103, R225). -/
def evBytes : Ev → Option (List Nat)
  | .undeliverable e => some (jEventBytes e)
  | .fault reason c => some ([0x81, reason % 256, 0, 0] ++ capBytes c)
  | .other 0x51 [flags, ns, fr] => some ([0x51, flags % 256, 0, 0] ++ le 8 ns ++ le 2 fr ++ [0, 0])
  | .other 0x52 [reason, i, time, hold] => some ([0x52, reason % 256] ++ le 2 i ++ le 8 time ++ le 4 (hold % 2))
  | .other 0x61 [st, c, flags, user, idx, ns] => some ([0x61, st % 256, c % 64, flags % 4] ++ le 2 user ++ le 2 idx ++ le 8 ns)
  | .other 0x71 [cause, cs, log, addr, rid, n, ns] => some ([0x71, cause % 8, cs % 4, log % 32] ++ le 4 addr ++ le 2 rid ++ le 2 n ++ le 4 ns)
  | .other 0x82 [action, cls, unit, vdsp, node, inst, ns] =>
    some ([0x82, action % 256, cls % 8, unit % 64, vdsp % 256, node % 16] ++ le 2 (inst % 512) ++ le 8 ns)
  | .other 0x91 [applied, op, seq, st, token, mbox, node] =>
    some ([0x91, applied % 4] ++ le 2 op ++ le 2 seq ++ le 2 st ++ le 4 token ++ [mbox % 256, node % 16, 0, 0])
  | .other 0x92 [reason, version, slot, ns] => some ([0x92, reason % 256, 0, 0] ++ le 3 version ++ [slot % 256] ++ le 8 ns)
  | .other 0x93 [reason, new, old, home, ns] => some ([0x93, reason % 256, new % 256, old % 256, home % 16, 0, 0, 0] ++ le 8 ns)
  | .grains .. | .functionFailed .. | .other _ _ => none

/-- The 64 bytes of a slot that holds a frame (R394). -/
def Frame.bytes (f : Frame) : Option (List Nat) :=
  (evBytes f.ev).map fun xs => padTo 64 (le 2 f.seq ++ [xs.length, b2n f.lostBefore 0, f.node % 16, 0, 0, 0] ++ xs)

/-- What the host reads in slot `n` of the event queue of local slot `k`, for the slots from HEAD up to TAIL (R394). -/
def State.eventSlot (s : State) (k n : Nat) : Option (List Nat) :=
  ((s.queue k).ring[(n + 63 - s.get MB_EQ_HEAD_HEAD k) % 63]?).bind Frame.bytes

/-! ## The persist area (R182, R184) -/

/-- The header of a persist area: 64 bytes (Table 06.7). Its FLAGS[2] is set where flows with work left are not in the block. -/
def Area.hdrBytes (a : Area) : List Nat :=
  padTo 64 (le 4 0x50534A48 ++ le 4 a.epoch ++ [a.node % 16, packBits [(1, b2n a.limited 0), (1, b2n (pop16 a.chans == 1) 0), (1, b2n (a.lost != 0) 0)]] ++
    le 2 1 ++ le 4 (64 * (a.entries.map fun e => units e.record.len).sum) ++ le 8 a.pfwTime ++ le 4 a.losses.length ++ le 4 a.lost)

/-- The commit record of an area with a body of these bytes (Table 06.8). -/
def Area.commitBytes (a : Area) (body : List Nat) : List Nat :=
  let xs := le 4 0x5053434D ++ le 4 a.epoch ++ le 8 (crc64 body) ++ le 4 body.length
  xs ++ [a.state % 256, 0, 0, 0] ++ le 8 (crc64 xs)

end Sys2Proof.Machine
end

