-- ==== Sys2Proof/Safety.lean ====
section
/-! DEFINITION. The terms in which claims speak: what it is to complete, the invariant of the registers' table, what may not change. -/

namespace Sys2Proof.Machine

/-- The command ends in a next state of which `P` holds: it neither faults nor is refused. -/
def Completes (c : Instr) (s : State) (P : State → Prop) : Prop := ∃ t, exec c s = .next t ∧ P t

/-- Every listed field fits its width (R12): its key is that of a field and its value lies below 2^width. -/
def fieldsFit (t : Tab Nat) : Prop := ∀ e ∈ t, ∃ f : Fld, ∃ i : Nat, e.1 = f.key i ∧ e.2 < 2 ^ f.width

/-- The registers' table is canonical: its keys rise, no entry equals its reset value, and every value fits its field. Equal register
contents are then equal data. -/
def State.Inv (s : State) : Prop := Tab.wf fieldReset s.fields = true ∧ fieldsFit s.fields

/-- The mailbox's command `op`, not yet started, names this node alone. -/
def State.runsHere (s : State) (k op : Nat) (ns : OmiRun → List Nat) (r : OmiRun) : Prop :=
  s.taken k op = some r ∧ (r.mbox = 17 ∨ ns r = [s.nodeId])

/-- The state in which a command of a mailbox runs at its node: it is marked as started, and waits for this node alone. -/
def State.begun (s : State) (r : OmiRun) (multi : Bool) : State :=
  s.updWork r.id fun w => { w with started := true, multi := multi && r.mbox != 17, waiting := [s.nodeId] }

/-- `t` is `u` after command `r` has ended at this node with outcome `o`. -/
def State.endedWith (t u : State) (r : OmiRun) (o : OmiRsp) : Prop := t = u.finish r.id o

/-- Registers whose fields are plain: a write changes the field and nothing else follows from it. -/
def plainRegs : List Reg := [.RING_FITTED, .RING_TIMERS, .ML_TIMERS, .ML_LIMITS, .JNL_TIMERS, .JNL_TIMERS2, .PX_PWR, .LB_TIMING, .SP_TIMERS, .SP_RETRY]

end Sys2Proof.Machine
end

