-- ==== Sys2Proof/Certificates/Slice0/Obligations.lean ====
section
/-! DEFINITION. The statements about this model, one definition each. -/

open Sys2Proof Sys2Proof.Machine

/-- Register access completes (R8, R12 to R16). REGISTER_WRITE of a plain register of one dword leaves every RW field at the value its range
allows. NARROW_REGISTER_WRITE through a management endpoint is counted and changes nothing else. WIDE_REGISTER_READ captures the higher
dwords. WIDE_REGISTER_HIGH_WRITE of SPN_TT_PART, which stages its low dword, gives the field both dwords at once. -/
def Obligations.RegisterCommandsComplete : Prop :=
  (∀ (s : State) (f : Fld) (i v : Nat), f.reg ∈ plainRegs → f ∈ f.reg.fields → f.acc = .rw → v < 2 ^ 32 →
    Completes (.registerWrite f.reg i 0 v) s fun t =>
      t.get f i = legalise f.dom (s.get f i) (v / 2 ^ f.lsb % 2 ^ f.width) % 2 ^ f.width) ∧
  (∀ (s : State) (k : Nat), k < 16 →
    exec (.narrowRegisterWrite (some k)) s = .next (s.set MB_ACC_ERR_COUNT (s.get MB_ACC_ERR_COUNT k + 1) k)) ∧
  (∀ (s : State), exec (.narrowRegisterWrite none) s = .next s) ∧
  (∀ (s : State) (r : Reg) (i d : Nat), isLaneReg r = false → 1 ≤ d → d < r.dwords →
    Completes (.wideRegisterRead r i) s fun t => Tab.get 0 t.hold.copy (holdKey r i d) = dwordAt (s.regValue r i) d) ∧
  (∀ (s : State) (lo v : Nat), Tab.get none s.hold.staged (holdKey .SPN_TT_PART 0 0) = some lo → lo < 2 ^ 32 → v < 2 ^ 32 →
    Completes (.wideRegisterHighWrite .SPN_TT_PART 0 v) s fun t =>
      t.get SPN_TT_PART_MASK = lo + v * 2 ^ 32 ∧ Tab.get none t.hold.staged (holdKey .SPN_TT_PART 0 0) = none)

/-- Discovery and link state (R21, R30): a foreign discovery message with room goes on toward the port opposite with this node's record
appended; a run that times out completes with what has come; a newer link-state report is kept, forwarded once on the port opposite, and
the groups of its plane follow. -/
def Obligations.RingMessagesComplete : Prop :=
  (∀ (s : State) (p : Nat) (m : DiscMsg), s.inbox.contains (.mg p (.disc m)) = true → m.origin ≠ s.nodeId → m.turned = false →
    m.recs.length < 16 → s.linkCarries (portOpp p) = true →
    Completes (.discoveryMessageReceive p m) s fun t =>
      (t.link (portOpp p)).msgs = (s.link (portOpp p)).msgs ++ [.disc { m with recs := m.recs ++ [s.ownRec (portPlane p)] }]) ∧
  (∀ (s u : State) (pl : Plane) (d : DiscRun), s.expire (.disc pl) = some u → s.discOf pl = some d →
    exec (.discoveryTimeout pl) s = .next (u.completeRun pl d)) ∧
  (∀ (s u : State) (p : Nat) (m : LsMsg) (st : SegState), s.inbox.contains (.mg p (.linkState m)) = true → m.state = some st →
    s.newer m = true → m.reporter ≠ s.nodeId →
    u = ({ s with inbox := s.inbox.erase (.mg p (.linkState m)) }.keepSeen
      { plane := m.plane, segment := m.segment, reporter := m.reporter, epoch := m.epoch, state := st }).sendMsg (portOpp p) (.linkState m) →
    ∃ back : List Nat, exec (.linkStateMessageReceive p m) s =
      .next (((((((if st = .down then u.noteDown m.plane else u).refreshPlane m.plane).checkGroups).startRun m.plane).meet back).checkFm).elect))

/-- Route groups going home (R33, R34): after RETURN_CLEAN a group whose home path is up, and no other group's, drains; drained, it stands on
its home path, and the entries held back follow; a drain that lasts too long is counted and tried again after a further RETURN_CLEAN. -/
def Obligations.RouteGroupTimersComplete : Prop :=
  (∀ (s u : State) (part dst : Nat), s.expire (.returnClean (grpKey part dst)) = some u →
    (u.grp (grpKey part dst)).unreachable = false →
    ((u.grp (grpKey part dst)).plane ≠ (u.homePath part dst).1 ∨ (u.grp (grpKey part dst)).dir ≠ (u.homePath part dst).2) →
    u.on RING_CTRL_RETURN_EN = true → u.pathUp dst (u.homePath part dst).1 (u.homePath part dst).2 = true →
    (∀ x ∈ u.ring.groups, x.2.draining = false) → u.ring.lastDrain = none →
    Completes (.returnCleanExpiry part dst) s fun t =>
      t.runs (.drain (grpKey part dst)) = true ∧ (t.grp (grpKey part dst)).draining = true ∧ t.ring.lastDrain = some u.now) ∧
  (∀ (s : State) (part dst : Nat) (x : Grp) (h : Plane × Dir), x = s.grp (grpKey part dst) → h = s.homePath part dst →
    x.draining = true → s.groupDrained (grpKey part dst) = true → s.pathUp dst h.1 h.2 = true →
    exec (.returnDrainComplete part dst) s =
      .next (((((s.setGrp (grpKey part dst) { x with plane := h.1, dir := h.2, draining := false }).stop (.drain (grpKey part dst))).lineUp
        (grpKey part dst) (fabPort h.1 h.2) (fun e => !e.sent) false)).grpTimers (grpKey part dst) false)) ∧
  (∀ (s u : State) (part dst : Nat), s.expire (.drain (grpKey part dst)) = some u →
    Completes (.returnDrainAbort part dst) s fun t =>
      t.ring.abortedReturns = u.ring.abortedReturns + 1 ∧ (t.grp (grpKey part dst)).draining = false ∧
      t.runs (.returnClean (grpKey part dst)) = true)

/-- Joining and leaving (R36, R41, R42): JOIN with plane A allowed and its pin low begins with A; the pin rises when plane B has been quiet;
LEAVE starts LEAVE_WAIT, at whose end the pin falls; at a sleep entry plane B follows. -/
def Obligations.JoinAndLeaveComplete : Prop :=
  (∀ s : State, s.ring.join = none → s.holdAllowed .a = true → s.on RING_STATUS_HOLD_A = false →
    Completes .join s fun t =>
      t.ring.join = some { plane := .a, step := .waitOther, thenB := s.holdAllowed .b && !s.on RING_STATUS_HOLD_B } ∧
      t.on RING_CTRL_JOIN = true) ∧
  (∀ (s : State) (j : JoinRun), s.ring.join = some j → j.step = .waitOther → s.holdAllowed j.plane = true →
    s.quiet (Plane.other j.plane) = true → exec (.joinHoldRaise j.plane) s = .next (s.raiseHold j.plane j.thenB)) ∧
  (∀ s : State, s.on RING_STATUS_HOLD_A = true → Completes .leaveA s fun t => t.ring.leavingA = true ∧ t.runs (.leaveWait .a) = true) ∧
  (∀ s : State, s.on RING_STATUS_HOLD_B = true → Completes .leaveB s fun t => t.ring.leavingB = true ∧ t.runs (.leaveWait .b) = true) ∧
  (∀ s u : State, s.expire (.leaveWait .b) = some u →
    exec (.leaveWaitExpiry .b) s = .next ({ u with ring.leavingB := false }.dropHold .b).sleepOn) ∧
  (∀ s u : State, s.expire (.leaveWait .a) = some u → ({ u with ring.leavingA := false }.dropHold .a).ring.sleepLeave = true →
    exec (.leaveWaitExpiry .a) s = .next (({ u with ring.leavingA := false }.dropHold .a).start .sleepPlaneB 10000)) ∧
  (∀ s u : State, s.expire .sleepPlaneB = some u →
    exec .sleepPlaneBLeave s = .next ({ u with ring.sleepLeave := false }.startLeave .b).sleepOn)

/-- A flit that passes its checks is taken (R47 to R51, R56, R58, R62, R65): DATA is parsed, IDLE brings its acknowledgement and credits, a
message waits for its own step, an audit that finds nothing changes nothing more, REPLAY sets the sequence expected next. A slot sends
what the port has to send, and an audit falls due after 65,535 flits. -/
def Obligations.LinkFlitsComplete : Prop :=
  (∀ (s : State) (p : Nat), s.isFab p = true → exec (.flitSlot p) s = .next (s.slot p)) ∧
  (∀ (s : State) (p : Nat), s.isFab p = true → s.linkCarries p = true → 65535 ≤ (s.link p).sinceAudit →
    Completes (.auditDue p) s fun t => (t.link p).auditDue = true ∧ t.fields = s.fields) ∧
  (∀ (s u : State) (p : Nat) (h : FlitHdr) (vc : VC) (first : Nat) (ps : List Piece), s.isFab p = true →
    s.rxCheck p h true = (.pass, u) → u.overrun p vc ((startsOf ps).takeWhile lenOk) = false →
    (((u.accept p).ackProcess p h.ack).takeReturn p h).linkListens p = true →
    exec (.dataFlitReceive p h vc first ps) s =
      .next ((((u.accept p).ackProcess p h.ack).takeReturn p h).parseData p vc first ps).settleHolds) ∧
  (∀ (s u : State) (p : Nat) (h : FlitHdr), s.isFab p = true → h.crCount = 0 → s.rxCheck p h false = (.pass, u) →
    exec (.idleFlitReceive p h) s = .next ((u.ackProcess p h.ack).takeReturn p h)) ∧
  (∀ (s u : State) (p : Nat) (h : FlitHdr) (m : MgMsg), s.isFab p = true → s.rxCheck p h true = (.pass, u) →
    Completes (.msgFlitReceive p h m) s fun t => .mg p m ∈ t.inbox) ∧
  (∀ (s u w : State) (p : Nat) (h : FlitHdr) (a : Audit), s.isFab p = true → s.rxCheck p h true = (.pass, u) →
    w = (u.accept p).ackProcess p h.ack → (∀ v, w.leak p a v = 0) → (∀ v, perVc a.advEcho v = perVc (w.link p).adv v) →
    (w.takeReturn p h).linkListens p = true → h.crCount = 0 →
    exec (.auditFlitReceive p h a) s = .next (w.takeReturn p h)) ∧
  (∀ (s u : State) (p : Nat) (h : FlitHdr) (start : Nat), s.isFab p = true → s.rsDecode p h = (true, u) → h.seq = start → h.crCount = 0 →
    u.linkListens p = true → subMod 4096 (u.link p).e start ≤ 1024 →
    exec (.replayFlitReceive p h start) s =
      .next (((u.evtFab p 1).updLink p fun l => { l with c := start % 4096 }).ackProcess p h.ack)) ∧
  (∀ (s u : State) (p : Nat), s.expire (.replay p) = some u → (u.link p).replay ≠ [] → u.linkListens p = true →
    (u.link p).consec + 1 ≤ u.get ML_LIMITS_REPLAY_LIMIT p →
    Completes (.replayTimerExpiry p) s fun t =>
      (t.link p).replayStart = some (u.link p).b ∧ (t.link p).replaying = (u.link p).replay ∧
      (t.link p).consec = (u.link p).consec + 1 ∧ t.runs (.replay p) = true)

/-- Training and equalisation (R70, R71, R75, R325, R329 to R331): a flit that passes its checks in the state that expects it. A lane on which
TS1 locks is marked; a TS2 is kept with its run; RATE_GO gives the follower lanes, rate and what is left to send; a preset that the rate admits
is set and acknowledged; the search walks through the presets and keeps each figure; INIT gives the peer's grant, INIT_DONE ends it. -/
def Obligations.LinkTrainingCompletes : Prop :=
  (∀ (s u : State) (p lane n : Nat) (h : FlitHdr), s.isFab p = true → lane < 8 → s.trainCheck p h = (true, u) → u.linkState p = lsDetect →
    exec (.ts1Receive p h lane n) s = .next ((u.flag LN_LANE_STAT_LOCK true (laneKey p lane)).detectCheck p)) ∧
  (∀ (s u : State) (p lane : Nat) (h : FlitHdr) (x : Ts2), s.isFab p = true → lane < 8 → s.trainCheck p h = (true, u) →
    u.linkState p = lsConfig →
    exec (.ts2Receive p h lane x) s = .next ((u.updLane p lane fun y =>
      { y with ts2 := some x, ts2Run := if y.ts2 = some x then y.ts2Run + 1 else 1 }).configCheck p)) ∧
  (∀ (s u : State) (p rate lanes left : Nat) (h : FlitHdr), s.isFab p = true → s.trainCheck p h = (true, u) → u.linkState p = lsConfig →
    (u.link p).peer.isSome = true → u.on ML_STATUS_LEADER p = false → rate ≤ 2 → 1 ≤ left → left ≤ 64 →
    Completes (.rateGoReceive p h rate lanes left) s fun t =>
      (t.link p).targetRate = rate ∧ (t.link p).nextLanes = lanes % 256 ∧ (t.link p).rateLeft = left ∧ t.fields = u.fields) ∧
  (∀ (s u : State) (p lane : Nat) (h : FlitHdr) (e : EqMsg), s.isFab p = true → lane < 8 → s.trainCheck p h = (true, u) →
    u.linkState p = lsEqualise → e.op = .presetReq → e.preset ≤ 5 →
    Completes (.eqFlitReceive p h lane e) s fun t =>
      t.get LN_LANE_EQ_C_P1 (laneKey p lane) = byteOf (presetCoefs e.preset).p1 % 2 ^ LN_LANE_EQ_C_P1.width ∧
      (t.link p).lctl = (u.link p).lctl ++
        [.eq lane { op := .applied, preset := e.preset, coef := presetCoefs e.preset, req := e.req }]) ∧
  (∀ (s u : State) (p lane : Nat), s.expire (.adapt p lane) = some u → u.linkState p = lsEqualise →
    Completes (.eqAdaptEnd p lane) s fun t => (laneOf (t.link p) lane).trying = some 0 ∧ t.fields = u.fields) ∧
  (∀ (s u : State) (p lane fom n : Nat), s.expire (.measure p lane) = some u → (laneOf (u.link p) lane).trying = some n → n < 4 →
    (laneOf (u.link p) lane).final = false →
    Completes (.eqMeasureEnd p lane fom) s fun t =>
      (laneOf (t.link p) lane).trying = some (n + 1) ∧
      (laneOf (t.link p) lane).foms = (laneOf (u.link p) lane).foms ++ [(n, fom % 256)]) ∧
  (∀ (s u : State) (p : Nat), s.expire (.equalise p) = some u → u.linkState p = lsEqualise → u.get ML_STATUS_RATE p ≠ 0 →
    u.on ML_STATUS_LEADER p = false →
    exec (.equaliseTimeout p) s = .next ((u.stopLink p).enterEqualise p (u.get ML_STATUS_RATE p - 1))) ∧
  (∀ (s u : State) (p lanes : Nat) (h : FlitHdr) (adv : PerVc), s.isFab p = true → s.trainCheck p h = (true, u) → u.linkState p = lsInit →
    Completes (.initReceive p h adv 1024 lanes) s fun t =>
      (t.link p).peerAdv = adv ∧ (t.link p).initGot = true ∧ (t.link p).doneSent = true) ∧
  (∀ (s u : State) (p : Nat) (h : FlitHdr), s.isFab p = true → s.trainCheck p h = (true, u) → u.linkState p = lsInit →
    (u.link p).initGot = true → (u.link p).initSent = true →
    exec (.initDoneReceive p h) s = .next (u.enterActive p))

/-- Planned retrains (R73 to R77): the request answered, the acknowledgement taken, QUIESCE, and the timers of the exchange. -/
def Obligations.RetrainsComplete : Prop :=
  (∀ (s u w : State) (p reason node wanted : Nat) (h : FlitHdr), s.isFab p = true → s.rxCheck p h false = (.pass, u) →
    s.linkState p ≠ lsRetrain → h.crCount = 0 → w = u.ackProcess p h.ack → (w.link p).req = none → w.linkState p = lsActive →
    exec (.retrainReqReceive p h reason node wanted false) s =
      .next ((w.updLink p fun l => { l with lctl := l.lctl ++ [.retrainAck w.nodeId (w.wanted p)] }).enterLeaving p
        (bestSet (w.wanted p &&& wanted) 0) false)) ∧
  (∀ (s u w : State) (p node wanted : Nat) (h : FlitHdr) (r : Retrain), s.isFab p = true → s.rxCheck p h false = (.pass, u) →
    h.crCount = 0 → w = u.ackProcess p h.ack → (w.link p).req = some r → r.forced = false → w.linkState p = lsActive →
    exec (.retrainAckReceive p h node wanted) s = .next (w.enterLeaving p (bestSet (w.wanted p &&& wanted) 0) true)) ∧
  (∀ (s u : State) (p : Nat) (h : FlitHdr), s.isFab p = true → s.rxCheck p h false = (.pass, u) → h.crCount = 0 →
    exec (.quiesceDoneReceive p h) s =
      .next (((u.ackProcess p h.ack).updLink p fun l => { l with quiesceGot := true }).quiesced p)) ∧
  (∀ (s : State) (p : Nat) (r : Retrain), (s.link p).sched = some r → s.linkState p = lsActive →
    s.segmentDown (Plane.other (portPlane p)) = false →
    exec (.plannedRetrainProceed p) s = .next (s.sendReq p r)) ∧
  (∀ (s u : State) (p : Nat) (r : Retrain), s.expire (.req p) = some u → (u.link p).req = some r → r.forced = false →
    Completes (.retrainReqRepeat p) s fun t =>
      (t.link p).lctl = (u.link p).lctl ++ [.retrainReq r.reason u.nodeId r.wanted false] ∧ t.runs (.req p) = true) ∧
  (∀ (s u : State) (p : Nat), s.expire (.rtMove p) = some u → u.linkState p = lsLeaving →
    exec (.rtMoveExpiry p) s = .next (((u.set ML_STATUS_STATE lsQuiesce p).start (.quiesce p) 2000).checkQuiesce p)) ∧
  (∀ (s u : State) (p : Nat), s.expire (.quiesce p) = some u → u.linkState p = lsQuiesce →
    exec (.quiesceTimeout p) s = .next (u.enterRetrain p (u.link p).nextLanes (u.on ML_STATUS_LEADER p))) ∧
  (∀ (s u : State) (p : Nat), s.expire (.retrain p) = some u → u.linkState p = lsRetrain ∨ u.linkState p = lsInit →
    (u.link p).repeated = false →
    Completes (.retrainTimeout p) s fun t =>
      t.linkState p = lsRetrain ∧ (t.link p).repeated = true ∧ t.runs (.retrain p) = true) ∧
  (∀ (s : State) (p : Nat), s.isFab p = true → exec (.mlRetrain p) s = .next (s.schedule p rrFirmware))

/-- What takes a fabric port down or lets it train (R69, R78 to R81, R510): a lost lock, the end of a hold, WIDTH_REQ, FORCE_DOWN, ENABLE. -/
def Obligations.LinkControlCompletes : Prop :=
  (∀ (s u v : State) (p : Nat), s.expire (.lockLoss p) = some u → u.isHeld p = false → (u.link p).up = true →
    v = (u.linkDown p false false).settleHolds → v.isHeld p = false → v.on ML_STATUS_EQ_STORED p = false →
    exec (.locklossExpiry p) s = .next (v.enterDetect p)) ∧
  (∀ (s : State) (p : Nat), s.on ML_ERR_STATUS_FLAP_HOLD p = true → (s.flag ML_ERR_STATUS_FLAP_HOLD false p).isHeld p = true →
    exec (.flapHoldClear p) s = .next ((s.flag ML_ERR_STATUS_FLAP_HOLD false p).enterDetect p)) ∧
  (∀ (s u : State) (p v : Nat), s.isFab p = true → u = s.write ML_CTRL_WIDTH_REQ v p →
    exec (.widthReq p v) s = .next (if u.linkState p = lsActive ∧ u.get ML_STATUS_WIDTH p < u.get ML_CTRL_WIDTH_REQ p
      then u.schedule p rrWidth else u)) ∧
  (∀ (s : State) (p : Nat), s.isFab p = true → Completes (.forceDown p true) s fun t => t.linkState p = lsDown) ∧
  (∀ (s u : State) (p : Nat), s.isFab p = true → u = s.flag ML_CTRL_FORCE_DOWN false p → u.linkState p = lsDown →
    exec (.forceDown p false) s = .next (u.enterDetect p)) ∧
  (∀ (s : State) (p : Nat), s.isFab p = true → s.on ML_CTRL_ENABLE p = false →
    exec (.mlEnable p true) s = .next ((((s.flag ML_CTRL_ENABLE true p).endTests p).takeReserve p
      (advSum (s.advOf p))).pllCheck.enterDetect p)) ∧
  (∀ (s : State) (p : Nat), s.isFab p = true → s.on ML_CTRL_ENABLE p = true →
    exec (.mlEnable p false) s = .next ((((((s.linkDown p true false).stopLink p).stop (.lockLoss p)).set ML_STATUS_STATE lsDown p).flag
      ML_CTRL_ENABLE false p).giveReserve p).pllCheck) ∧
  (∀ (s u : State) (p : Nat), s.expire (.selfFacing p) = some u → u.isHeld p = true → (u.link p).selfFacing = true →
    exec (.selfFacingRelease p) s = .next (u.enterDetect p))

/-- PCI Express links (R84, R137, R278, R279, R300) and the messages of power management (R285). -/
def Obligations.PcieLinksComplete : Prop :=
  (∀ (s : State) (p : Nat), p < 48 → exec (.pxPortEnable p true) s = .next (s.portOn p)) ∧
  (∀ (s : State) (p : Nat), p < 48 → exec (.pxPortEnable p false) s = .next (s.portOff p)) ∧
  (∀ (s : State) (p : Nat), exec (.reserveComplete p) s = .next ((s.collect.establish).initDone p)) ∧
  (∀ (s : State) (p rate w : Nat) (flit : Bool) (partner : List (Option Nat)), p < 48 → s.mayTrainPx p = true → s.dlActive p = false →
    (s.px p).waiting = false → widthFits w (s.formedWidth p) = true → rate ≤ s.get PX_PORT_CFG_RATE_CAP p →
    (flit = true → s.on PX_PORT_CFG_FLIT_EN p = true) → (flit = false → rate ≤ 4) →
    exec (.pcieLinkUp p rate w flit partner) s =
      .next ((((((s.set PX_PORT_STAT_RATE rate p).set PX_PORT_STAT_WIDTH w p).flag PX_PORT_STAT_FLIT flit p).updPx p fun x =>
        { x with partner := partner, full := w }).initFc p).settle)) ∧
  (∀ (s : State) (p : Nat), p < 48 → s.dlActive p = true →
    exec (.pcieLinkDown p false) s = .next (((s.pcieDown p).trainPort p).settle)) ∧
  (∀ (s : State) (p : Nat), p < 48 → s.dlActive p = true →
    exec (.pcieLinkDown p true) s =
      .next ((((s.linkAer p aerSurprise).reportPort (s.pxUnit p) 2 p (0x3000 + aerSurprise)).pcieDown p).trainPort p).settle) ∧
  (∀ (s : State) (p : Nat), s.role p = roleUp → s.dlActive p = true →
    exec (.hotResetReceive p) s = .next (((s.pcieDown p).trainPort p).settle)) ∧
  (∀ (s : State) (id : Nat) (x : AckDue), (s.sc.acksDue.find? fun y => y.id == id) = some x → x.arrived = none →
    exec (.pcieEgressAck id) s = .next { s with sc.acksDue := s.sc.acksDue.filter fun y => y.id != id }) ∧
  (∀ (s : State) (p k : Nat), s.slotOfPort p = some k → s.role p = roleUp → s.dlActive p = true →
    (∃ n < 32, ∃ b, s.bind k n = some b ∧ b.kind = 2) →
    Completes (.pmeTurnOffReceive p) s fun t => t.runs (.pme k) = true ∧ (Tab.get none t.pcie.pme k).isSome = true) ∧
  (∀ (s u : State) (k : Nat), s.expire (.pme k) = some u →
    exec (.pmeToAckTimeout k) s = .next ({ u with pcie.pme := Tab.put none u.pcie.pme k none }.pmeAnswer k))

/-- What comes in on a PCI Express port (R89, R94, R96, R115, R155, R164): a request, a configuration request of a host, a completion. -/
def Obligations.PcieIngressCompletes : Prop :=
  (∀ (s : State) (p : Nat) (t : Tlp), exec (.tlpReceive p t) s = .next (s.receiveTlp p t)) ∧
  (∀ (s : State) (p : Nat) (t : Tlp), isCfg t.kind = true → s.role p = roleUp →
    exec (.configRequestReceive p t) s = .next (s.receiveTlp p t)) ∧
  (∀ (s : State) (p : Nat) (t : Tlp), t.kind = .cpl → exec (.completionReceive p t) s = .next (s.receiveTlp p t))

/-- What a host does to its virtual hierarchy (R89, R95, R104, R116, R117, R289, R291, R296, R298): the dword takes the written bits, and what
the write asks for goes to the node of the port. -/
def Obligations.HostWritesComplete : Prop :=
  (∀ (s : State) (k n v reqId tag : Nat), s.slotUsed k = true → isVdsp n = true →
    exec (.vdspSecondaryBusWrite k n v reqId tag) s =
      .next ((s.cfgStore k n cfgBus v).spreadView k n (s.cfgAck k n reqId tag)).settle ∧
    (s.cfgStore k n cfgBus v).cfg k n cfgBus = merged (s.cfg k n cfgBus) (v % 2 ^ 32) 0xFFFFFF 0 % 2 ^ 32) ∧
  (∀ (s : State) (k n off v reqId tag : Nat), s.slotUsed k = true → isVdsp n = true → behindOff off = true →
    exec (.virtualBarWrite k n off v reqId tag) s =
      .next (s.behindWrite k n off v (.cfg (s.get PART_CTRL_PART_ID k) reqId tag (s.cfg k n cfgBus / 256 % 256 * 256))).settle) ∧
  (∀ (s : State) (k n v reqId tag : Nat), s.slotUsed k = true → isVdsp n = true →
    exec (.bridgeRangeWrite k n 0x20 v reqId tag) s =
      .next ((s.cfgStore k n 0x20 v).spreadView k n (s.cfgAck k n reqId tag)).settle ∧
    (s.cfgStore k n 0x20 v).cfg k n 0x20 = merged (s.cfg k n 0x20) (v % 2 ^ 32) 0xFFF0FFF0 0 % 2 ^ 32) ∧
  (∀ (s : State) (i : Nat), s.liveInst i = true → s.on PART_FN_A_BIND i = false →
    exec (.hostFlr i) s = .next ((s.flrAdvance i).emit (.flr (s.get PART_FN_A_PORT i) (s.get PART_FN_A_PHYS_RID i))).settle) ∧
  (∀ (s : State) (k n : Nat), s.slotUsed k = true → isVdsp n = true →
    exec (.secondaryBusReset k n) s = .next ((s.cfgSet k n 0x3C 22 true).askPort k n opSbr 0).settle ∧
    (∀ on : Bool, exec (.linkDisable k n on) s =
      .next ((s.cfgSet k n cfgLinkCtl 4 on).askPort k n opDisable (if on then 1 else 0)).settle) ∧
    exec (.retrainLinkBit k n) s = .next (s.askPort k n opRetrain 0).settle ∧
    (∀ off : Bool, exec (.powerControllerControl k n off) s = .next (s.pccWrite k n off).settle) ∧
    exec (.dpcTriggerStatusClear k n) s = .next (s.dpcClear k n).settle ∧
    exec (.dpcSoftwareTrigger k n) s = .next (s.dpcSoft k n).settle) ∧
  (∀ (s : State) (k : Nat), s.slotUsed k = true →
    exec (.managementEndpointFlr k) s = .next (s.epFlr k).settle ∧
    (∀ (on : Bool) (reqId tag : Nat), exec (.memorySpaceEnable k on reqId tag) s =
      .next ((s.cfgSet k fnMgmt cfgCommand 1 on).spreadBound k (s.cfgAck k fnMgmt reqId tag)).settle) ∧
    exec (.busMasterEnable k false) s = .next (s.cfgSet k fnMgmt cfgCommand 2 false) ∧
    exec (.busMasterEnable k true) s =
      .next ((s.cfgSet k fnMgmt cfgCommand 2 true).flushMsix.dmHost (s.get PART_CTRL_PART_ID k)))

/-- Link power, margining, SPDM and lane groups (R275 to R277, R286, R292, R293, R301). -/
def Obligations.PciePowerAndLanesComplete : Prop :=
  (∀ (s : State) (p : Nat), s.dlActive p = true → (s.px p).l1Enabled = true → s.on PX_PWR_NO_LP p = false → s.get PX_PORT_STAT_PM p = 0 →
    s.pxIdle p = true →
    Completes (.l1IdleExpiry p) s fun t => t.get PX_PORT_STAT_PM p = 1 ∧ t.out = s.out ++ [.enterL1 p]) ∧
  (∀ (s : State) (p : Nat), s.dlActive p = true → 8 ≤ s.formedWidth p → s.on PX_PORT_STAT_FLIT p = true → s.on PX_PWR_L0P_AUTO p = true →
    s.on PX_PWR_NO_LP p = false → s.get PX_PWR_L0P_MIN p + 2 < s.get PX_PORT_STAT_WIDTH p →
    Completes (.l0pNarrow p) s fun t => .l0p p (2 ^ (s.get PX_PWR_L0P_MIN p + 1)) ∈ t.out) ∧
  (∀ (s : State) (p : Nat), s.dlActive p = true → s.on PX_PORT_STAT_L0P p = true →
    Completes (.l0pWiden p) s fun t => .l0p p (2 ^ ((s.px p).full - 1)) ∈ t.out) ∧
  (∀ (s : State) (p lane rcv cmd pay : Nat), p < 48 → s.dlActive p = true → lane < laneCount (s.get PX_PORT_STAT_WIDTH p) →
    rcv ≠ (if s.role p = roleUp then 6 else 1) →
    exec (.marginCommand p lane rcv cmd pay) s = .next (s.emit (.marginCarry p lane rcv cmd pay))) ∧
  (∀ (s : State) (p lane rcv cmd pay : Nat), p < 48 → s.dlActive p = true → lane < laneCount (s.get PX_PORT_STAT_WIDTH p) →
    rcv = (if s.role p = roleUp then 6 else 1) →
    Completes (.marginCommand p lane rcv cmd pay) s fun t => .marginAnswer p lane (s.marginAnswer p lane cmd pay).1 ∈ t.out) ∧
  (∀ (s : State) (k : Nat), s.slotUsed k = true → s.img.act = none →
    Completes (.spdmRequest k 0x84) s fun t =>
      t.out = s.out ++ [.doe (s.get PART_CTRL_PART_ID k) 0x04 []] ∧ Tab.get 0 t.pcie.spdm k = 1) ∧
  (∀ (s u : State) (g v : Nat), g < 9 → s.groupIdle g = true → v < 64 →
    u = (s.set PX_BIF_H0 (v % 8) g).set PX_BIF_H1 (if g = 8 then 0 else v / 8 % 8) g →
    bifOk g (v % 8) (if g = 8 then 0 else v / 8 % 8) = true → u.numbersOk = true →
    exec (.pxBifWrite g v) s = .next u.pllCheck) ∧
  (∀ (s u : State) (g v : Nat), g < 8 → s.groupIdle g = true →
    u = (List.range 5).foldl (fun s j => s.write (pmapFld j) (v / 64 ^ j) g) s → u.numbersOk = true →
    exec (.pxPmapWrite g v) s = .next u.pllCheck) ∧
  (∀ (s : State), (∀ n < 4, s.portEnabled (44 + n) = false) →
    Completes (.pxDualWrite 15) s fun t => ∃ u : State, t = u.pllCheck ∧ u.get PX_DUAL_FABRIC = 15)

/-- The switch core (R138 to R153, R239): a packet of an ingress reserve moves to its pool when its conditions hold; a record still on the
reserve is refused when its wait ends; holds end; an egress selects; a departed packet gives its segments back; a stalled stream falls back to
the PCI Express rules; one wrong bit is corrected and counted, two make the packet undeliverable. -/
def Obligations.SwitchCoreCompletes : Prop :=
  (∀ (s : State) (i e p : Nat) (vc : VC) (k : Packet),
    (s.sc.pkts.find? fun k => k.src == i && k.egress == e && k.record.vc == vc &&
      onReserve k.charge && (!k.gone || k.entry.isSome)) = some k →
    k.charge = .reserve p → k.entry = none → k.gone = false → s.canCharge i e vc (pktUnits k) = true → s.nextOfVc k = true →
    exec (.chargeMove i e vc) s = .next (s.moveOff k p)) ∧
  (∀ (s u : State) (id : Nat) (k : Packet), s.expire (.refuse id) = some u → s.pkt id = some k → u.arrived k = true →
    k.charge = .reserve (k.inPort.getD 0) → k.pass = .none →
    exec (.refuseWaitExpiry id) s =
      .next (((u.refuse k SC_CNT_REFUSED_COUNT).evtNode 0 5).armRefuse (k.inPort.getD 0) k.record.vc)) ∧
  (∀ (s u : State) (p n q d : Nat), s.expire (.hold p n q d) = some u →
    exec (.holdExpiry p n q d) s =
      .next (u.dropHolds fun h => h.port == p && h.srcNode == n && h.srcPart == q && h.dstNode == d)) ∧
  (∀ (s : State) (e : Nat), e < 48 → s.fabricMode e = true → s.linkCarries e = true → exec (.egressSelect e) s = .next (s.select e)) ∧
  (∀ (s : State) (e : Nat), e < 48 → s.fabricMode e = false → s.dlActive e = true → (s.px e).sending = none →
    exec (.egressSelect e) s = .next (s.select e)) ∧
  (∀ (s : State) (id : Nat) (k : Packet), s.pkt id = some k → k.started = true → k.complete = true → s.fabricMode k.egress = true →
    k.gone = true → exec (.packetDeparture id) s = .next (s.unbuffer k)) ∧
  (∀ (s u : State) (id : Nat) (k q : Packet), s.pkt id = some k → k.started = true → k.complete = true → s.fabricMode k.egress = false →
    (s.px k.egress).sending = some id →
    u = (s.stage id 7).updPx k.egress (fun x => { x with sending := none }) →
    (u.updPkt id fun q => { q with gone := true }).pkt id = some q → exec (.packetDeparture id) s = .next ((u.unbuffer q).refresh k.egress)) ∧
  (∀ (s u : State) (i e t : Nat), u = s.refreshStream i e → u.pcieRules i e = false →
    (((u.stream i e).filter fun k => (u.stream i e).any fun q => q.record.vc != k.record.vc && k.arrival < q.arrival).filterMap
      fun k => k.stalled).min? = some t →
    exec (.stallThresholdExpiry i e) s = .next (((({ u with now := max u.now t, sc.fallback := Tab.put false u.sc.fallback (pairKey i e) true }).bump
      SC_CNT_FALLBACK_COUNT).evtNode 0 3).refreshStream i e)) ∧
  (∀ (s : State) (id : Nat) (k : Packet), s.pkt id = some k →
    exec (.bufferEccError id false) s = .next ((s.bump SC_CNT_ECC_CORR_COUNT).evtNode 0 6)) ∧
  (∀ (s u : State) (id : Nat) (k : Packet), s.pkt id = some k → k.started = false → s.arrived k = true → k.pass = .final → k.src < 48 →
    u = ((((s.bump SC_CNT_ECC_UNCORR_COUNT).evtNode 0 7).report
      { unit := 17, cls := 1, scope := 4, scopeId := k.record.srcPart, cause := 0x5800 }).shaveOff k 3) → u.arrived { k with shaved := false } = true →
    exec (.bufferEccError id true) s = .next ((u.undelivDest k.record 9).unbuffer { k with shaved := false }))

/-- What the journal admits and what it is told (R155, R163, R166, R169 to R171, R174, R187 to R190). -/
def Obligations.JournalRecordsComplete : Prop :=
  (∀ (s u v : State) (x : IntTx) (i : Nat) (e : Entry), pickTx s.intOk s.jnl.intWait [] = some x → x.internalReserve = false →
    x.dmWr = none → x.turn = none → ({ s with jnl.intWait := s.jnl.intWait.erase x }.admitRec x.record .internal x.inst x.cplId) = (i, u) →
    u.entry i = some e →
    v = u.enqueueInternal { id := 0, record := e.record, egress := u.egressOf (recGrp e.record), entry := some i, inst := x.inst, cplId := x.cplId
                            bytes := e.record.len - 16, release := x.release, excess := e.record.excess, dmSegs := x.dmSegs } →
    exec .internalAdmission s = .next v.unpark.establish) ∧
  (∀ (s u : State) (n : Nat) (xs : List JItem), s.takeCtl n ctlReceipt 0 false xs = some u →
    exec (.receiptReceive n xs) s = .next (xs.foldl (fun s x => s.receipt n x) u).establish) ∧
  (∀ (s u : State) (n : Nat) (xs : List JItem), s.takeCtl n ctlGap 0 false xs = some u →
    exec (.gapReceive n xs) s = .next (xs.foldl (fun s x => s.gap n x) u)) ∧
  (∀ (s u : State) (n : Nat) (xs : List JItem), s.takeCtl n ctlUndeliv 0 false xs = some u →
    exec (.undelivReceive n xs) s = .next (xs.foldl (fun s x => s.undeliv n x) u)) ∧
  (∀ (s u : State) (n : Nat) (xs : List JItem), (∀ x ∈ xs, s.leavingUpTo (dedupKey n x.part x.vc) x.seqA = false) →
    s.takeCtl n ctlPurge 0 false xs = some u →
    exec (.purgeReceive n xs) s = .next (xs.foldl (fun s x => s.purgeHere n x) u)) ∧
  (∀ (s u : State) (n : Nat) (a : JItem) (more : List JItem), s.takeSpan n ctlPurgeAck (a :: more) 64 = some u →
    exec (.purgeAckReceive n (a :: more)) s =
      .next ((u.purgeAnswered n a (more.filter fun r => r.dir && r.part == a.part && r.vc == a.vc)).endPurgeCmds.establish)) ∧
  (∀ (s u : State) (n : Nat), s.takeCtl n ctlRewind 0 false [] = some u →
    exec (.rewindReceive n) s = .next ((u.groupsTo n).foldl (fun s g => s.resendGrp g true true) u))

/-- A node that starts cold agrees its flows with the others (R175, R176): an exchange already answered is answered again with what was kept,
a new one purges and answers; the last record of the answer ends the wait for its sender; unanswered requests are sent again. -/
def Obligations.JournalSyncCompletes : Prop :=
  (∀ (s u : State) (n number : Nat) (x : Nat × SyncKept), s.takeCtl n ctlSyncReq number false [] = some u →
    (u.jnl.kept.find? fun x => x.1 == n && x.2.number == number) = some x →
    exec (.syncReqReceive n number) s = .next (u.sendItems n ctlSyncRsp number true x.2.items 128)) ∧
  (∀ (s u : State) (n number : Nat) (xs : List JItem), s.takeCtl n ctlSyncRsp number false xs = some u → number = u.jnl.syncNo →
    n ∈ u.jnl.unsynced →
    exec (.syncRspReceive n number false xs) s = .next (xs.foldl (fun s x => s.syncItem n x) u)) ∧
  (∀ (s u : State), s.expire .syncResend = some u → u.jnl.syncAsked = [] → exec .syncReqResend s = .next u) ∧
  (∀ (s u v : State), s.expire .syncResend = some u → v = u.jnl.syncAsked.foldl (fun s n => s.sendCtl n ctlSyncReq s.jnl.syncNo false []) u →
    v.jnl.syncAsked ≠ [] → exec .syncReqResend s = .next (v.start .syncResend v.heldTmoNs))

/-- The timers of the journal and of its groups, and OMI group 0x08: a quota is set, a destination with nothing to purge answers at once, a flow
is read (R167, R169, R171, R187, R189, R190, R422). -/
def Obligations.JournalTimersComplete : Prop :=
  (∀ (s u : State) (n : Nat), s.expire (.receipt n) = some u → exec (.receiptSend n) s = .next (u.sendReceipts n)) ∧
  (∀ (s u : State) (q d : Nat), s.expire (.rtx (grpKey q d)) = some u →
    exec (.retransmitTimerExpiry q d) s =
      .next (((u.sendPurges (grpKey q d)).resendGrp (grpKey q d) false false).grpTimers (grpKey q d) false)) ∧
  (∀ (s u : State) (q d : Nat), s.expire (.heldTmo (grpKey q d)) = some u →
    exec (.heldTimeout q d) s = .next ((u.resendGrp (grpKey q d) true false).grpTimers (grpKey q d) true)) ∧
  (∀ (s u : State) (q d : Nat), s.expire (.unreach (grpKey q d)) = some u →
    exec (.unreachableTimeout q d) s = .next ((u.purgeGroup (grpKey q d) 5).endPurgeCmds.establish)) ∧
  (∀ (s u : State) (id q : Nat) (e : Entry), s.expire (.cplAge id) = some u → s.entry id = some e → e.seq = some q →
    exec (.cplAgePurge id) s = .next ((u.purge (entryFlow e) q 6 true).endPurgeCmds)) ∧
  (∀ (s u : State) (id : Nat) (e : Entry), s.expire (.cplAge id) = some u → s.entry id = some e → e.seq = none →
    exec (.cplAgePurge id) s = .next ((((u.bump JNL_CNT_PURGE_COUNT).evtNode 2 7).freeEntry e).establish)) ∧
  (∀ (s u : State) (k : Nat) (r : OmiRun), s.runsHere k 0x0802 (s.nodesArg 0) r → u = s.begun r true → r.arg 2 1 < 16 → r.arg 4 4 ≤ 98304 →
    exec (.setJournalQuota k) s = .next ((u.set JNL_DQ_QUOTA (r.arg 4 4) (r.arg 2 1)).finish r.id ok)) ∧
  (∀ (s u : State) (k : Nat) (r : OmiRun), s.runsHere k 0x0803 (nodeArg 0) r → u = s.begun r false → r.arg 1 1 < 16 → r.arg 2 1 = 0xFF →
    r.arg 3 1 = 0 → (∀ e ∈ u.jnl.entries, e.record.dstNode ≠ r.arg 1 1) → (∀ e ∈ u.jnl.entries, e.record.dstNode < 16) →
    exec (.purgeDestination k) s = .next (u.finish r.id ok)) ∧
  (∀ (s u : State) (k : Nat) (r : OmiRun) (f : SrcFlow) (d : Nat), s.runsHere k 0x0804 (nodeArg 0) r → u = s.begun r false → d = r.arg 1 1 → d < 16 →
    r.arg 2 1 < 64 → r.arg 3 1 ≤ 4 → r.arg 4 1 = 0 → f = u.flow (flowKey (r.arg 2 1) d (vcOf (r.arg 3 1))) →
    exec (.readFlow k) s = .next (u.finish r.id (ok (le 4 f.next ++ le 4 f.oldest ++ le 4 f.held ++
      le 4 ((u.jnl.entries.filter fun e => entryFlow e == flowKey (r.arg 2 1) d (vcOf (r.arg 3 1))).map fun e => units e.record.len).sum ++
      [if (u.grp (grpKey (r.arg 2 1) d)).unreachable || !u.reachable d then 0 else 1]))))

/-- Hold-up energy, the power-fail sequence and the feeds (R178, R180 to R183, R484 to R488, R493). -/
def Obligations.PowerFailCompletes : Prop :=
  (∀ s : State, exec .vmaxCompute s = .next s.computeVmax.drainCheck) ∧
  (∀ s : State, exec .powerFailWarning s = .next ((s.set PST_STATUS_PFW 1).pfBegin 1)) ∧
  (∀ s u : State, s.expire .drainMax = some u → u.get JNL_STATUS_PF_PHASE = pfDrain →
    exec .drainMaxExpiry s = .next (u.persistStart (!u.drainEmpty))) ∧
  (∀ s u : State, s.pfPhase = pfPersist → u = ((s.persistCommit.set JNL_STATUS_PF_PHASE pfDone).spPersistOff.portsStop).stopPins →
    exec .persistComplete s =
      .next (if { u with jnl.outputsHeld := true }.warned then { u with jnl.outputsHeld := true } else { u with jnl.outputsHeld := true }.pfFinish)) ∧
  (∀ s : State, exec .powerFailWarningEnd s = .next (s.set PST_STATUS_PFW 0).pfCheckEnd) ∧
  (∀ (s u : State) (b : Bool), s.expire (.feedGood b) = some u → exec (.feedGoodExpiry b) s = .next (u.setFeed b true)) ∧
  (∀ s u : State, s.expire .feedPf = some u → exec .feedPfTimeout s = .next ({ u with pst.feedCause := true }.pfBegin 2)) ∧
  (∀ (s : State) (n : Nat), n ≤ 1 → bit (s.get JNL_STATUS_PST_FITTED) n = true →
    exec (.pstWriteFailure n) s = .next { s.channelFails n with jnl.writing := none }.computeVmax)

/-- Samples of the feeds and of the hold-up bank, the check of the persist channels and the recovery of what they hold (R178, R186, R484,
R486, R488, R492). -/
def Obligations.SamplesAndRecoveryComplete : Prop :=
  (∀ (s u : State) (a b : Nat), s.feedFitted false = true → u = s.feedRead false (senseMv a (s.get PST_FEED_DIV_A)) → u.feedFitted true = true →
    exec (.feedSample a b) s = .next (u.feedRead true (senseMv b (u.get PST_FEED_DIV_B))).feedDetect) ∧
  (∀ (s : State) (v : Nat), senseMv v (s.get PST_HUV_CFG_DIV) / 10 ≤ s.get PST_VLIM_V_TOP * 10 → v < 1188000 →
    exec (.huvSample v) s = .next (((((s.set PST_HUV_MEAS_VHUV (min 65535 (senseMv v (s.get PST_HUV_CFG_DIV) / 10))).flag PST_STATUS_HUV_ERR false).set
      PST_HUV_MEAS_EAVAIL (min 65535 (((s.set PST_HUV_MEAS_VHUV (min 65535 (senseMv v (s.get PST_HUV_CFG_DIV) / 10))).flag
        PST_STATUS_HUV_ERR false).energy / energyUnit))).bankDetect (senseMv v (s.get PST_HUV_CFG_DIV) / 10)).drainCheck)) ∧
  (∀ s : State, s.pst.checked = false → s.jnl.recovered = false → s.on PST_CTRL_CH0_FIT = true → s.on PST_CTRL_CH1_FIT = true →
    exec (.pstChannelCheck (some 8) (some 8)) s = .next { s.set JNL_STATUS_PST_FITTED 3 with pst.checked := true }.computeVmax) ∧
  (∀ s : State, s.pst.checked = true → s.jnl.recovered = false → s.jnl.area0 = none → s.jnl.area1 = none →
    exec (.persistRecovery false) s = .next { s.startCold with jnl.recovered := true }.establish.persistStage)

/-- Link delay and announcements (R195 to R201): a port in ACTIVE asks, a request is answered with the moment of its arrival, a lost answer is
counted; announcements go out, come in and fall silent; a better candidate is adopted once it has settled. -/
def Obligations.TimeExchangesComplete : Prop :=
  (∀ (s u : State) (p : Nat), s.isFab p = true → s.linkState p = lsActive → Tab.get none s.spn.exch p = none →
    u = { s with now := max s.now (match Tab.get none s.spn.lastExch p with | some t => t + s.get SPN_SYNC_SYNC_INT * 1000 | none => s.now) } →
    Completes (.delayExchangeStart p) s fun t =>
      (t.link p).delayDue = (s.link p).delayDue ++ [.delay false s.spn.nextExch 0 0 0 u.timeState u.isGm] ∧ t.now = u.now ∧
      t.spn.nextExch = (s.spn.nextExch + 1) % 65536 ∧ t.fields = s.fields) ∧
  (∀ (s u v : State) (p id t1 st : Nat) (h : FlitHdr) (gm : Bool), s.isFab p = true → s.rxCheck p h false = (.pass, u) →
    v = u.ackProcess p h.ack →
    exec (.delayRequestReceive p h id t1 st gm) s = .next (v.updLink p fun l =>
      { l with delayDue := l.delayDue ++ [.delay true id 0 v.stamp t1 v.timeState v.isGm] })) ∧
  (∀ (s u v : State) (p id t3 t2 t1 st : Nat) (h : FlitHdr) (gm : Bool) (ds : List Int), s.isFab p = true → s.rxCheck p h false = (.pass, u) →
    v = u.ackProcess p h.ack → Tab.get none v.spn.exch p = some (id, t1) → v.spn.parent ≠ some p →
    ds = (((((v.stamp : Int) - t1) - ((t3 : Int) - t2)) / 2) :: Tab.get [] v.spn.delays p).take 8 →
    Completes (.delayResponseReceive p h id t3 t2 t1 st gm) s fun t =>
      t.get SPN_PORT_DELAY p = min 0xFFFF ((ds.sum / (256 * ds.length)).toNat) ∧ Tab.get [] t.spn.delays p = ds ∧
      Tab.get none t.spn.exch p = none) ∧
  (∀ (s u : State) (p : Nat), s.expire (.exch p) = some u →
    Completes (.delayExchangeAbandon p) s fun t =>
      t.get SPN_CNT_DELAY_LOST_COUNT = (u.get SPN_CNT_DELAY_LOST_COUNT + 1) % 2 ^ SPN_CNT_DELAY_LOST_COUNT.width ∧
      Tab.get none t.spn.exch p = none) ∧
  (∀ (s u v : State), u = s.elect →
    v = { u with now := max u.now (if u.spn.sent == some u.ownAnn then u.spn.lastAnn + 1000000 else u.now) } →
    exec .announceTimer s = .next (fabPorts.foldl (fun s p => if s.linkState p == lsActive then s.sendMsg p (.announce v.ownAnn) else s)
      { v with spn.lastAnn := v.now, spn.sent := some v.ownAnn })) ∧
  (∀ (s u v : State) (p : Nat) (m : AnnMsg), s.takeMsg p (.announce m) = some u →
    v = ({ u with spn.seen := Tab.put none u.spn.seen p (some { m := m, at_ := u.now }) }.start (.absent p) 3000000).elect →
    v.spn.parent ≠ some p → exec (.timeAnnouncementReceive p m) s = .next v) ∧
  (∀ (s u : State) (p : Nat), s.expire (.absent p) = some u → exec (.announceAbsent p) s = .next (u.parentLost p)) ∧
  (∀ (s u : State) (c : Cand), s.expire .gmSettle = some u → u.spn.rival = some c → exec .gmCandidateSettle s = .next ((u.adopt c).elect))

/-- What sets or steers the Spindle (R197, R198, R203, R206): the PPS input, Set Spindle, a coordinated step, the host's time; and a
PTM request, answered by the port it came to. -/
def Obligations.TimeSourcesComplete : Prop :=
  (∀ s : State, s.on SPN_CTRL_PPS_IN_EN = true → s.isGm = false → (s.capture 8 true).isGm = false →
    Completes .ppsInEdge s fun t =>
      t.get SPN_PPS_PPS_ERR = ((max (-32767) (min 32767 (ppsError (s.capture 8 true).spindleNs))) % 65536).toNat) ∧
  (∀ (s u : State), s.expire .ppsLoss = some u → u.on SPN_PPS_PPS_LOCK = false →
    exec .ppsInLoss s = .next { u.flag SPN_PPS_PPS_LOCK false with spn.ppsRun := 0, spn.hostSet := false }.elect) ∧
  (∀ (s u : State) (k : Nat) (r : OmiRun) (d : Int), s.runsHere k 0x0602 (fun _ => [(s.spn.gm.map fun g => g.node).getD s.nodeId]) r →
    u = s.begun r false → r.arg 0 1 = 1 → u.isGm = true → u.timeState = spnValid → u.spn.step = none →
    d = ((r.arg 4 2 + r.arg 6 8 * 65536 : Nat) : Int) - u.spindle → d.natAbs ≤ 65536000000 →
    exec (.setSpindle k) s = .next ((({ u.rebase with spn.slew := d, spn.hostSet := true }).showTime).finish r.id
      (ok (le 2 (u.spindle % 65536) ++ le 8 u.spindleNs ++ le 8 0)))) ∧
  (∀ (s u : State) (t : Nat) (d : Int), s.spn.step = some (t, d) → u = { s.until t with spn.step := none } → u.timeGood = false →
    exec .coordinatedStep s = .next u.showTime) ∧
  (∀ (s u : State) (time : Nat), s.on SPN_CTRL_PTM_HOST_EN = true → s.isGm = true → s.role (s.get SPN_CTRL_HOST_PORT) = roleUp →
    s.dlActive (s.get SPN_CTRL_HOST_PORT) = true →
    u = { s with now := max s.now (s.spn.lastPtm + s.get SPN_SYNC_SYNC_INT * 1000)
                 spn.lastPtm := max s.now (s.spn.lastPtm + s.get SPN_SYNC_SYNC_INT * 1000), spn.hostTime := true, spn.hostSet := true } →
    ((time * 65536 : Nat) - (u.spindle : Int)).natAbs ≤ u.stepThr →
    exec (.ptmHostExchange time) s = .next { u.rebase with spn.slew := (time * 65536 : Nat) - (u.spindle : Int) }.elect) ∧
  (∀ (s : State) (p : Nat), s.dlActive p = true → s.role p = roleManaged →
    exec (.ptmRequestReceive p) s = .next (s.emit (.ptm p (if s.timeGood then some s.spindleNs else none)))) ∧
  (∀ s u : State, s.expire .holdover = some u → u.timeState = spnHoldover →
    exec .holdoverTimeout s = .next ((u.setTime spnInvalid).reportNode 26 1 0x6011).follow)

/-- Time pins (R208, R216, R217, R420): an assignment takes the pin for a partition, a pulse ends, an edge is captured, PPS rises and falls. -/
def Obligations.TimePinsComplete : Prop :=
  (∀ (s u : State) (k : Nat) (r : OmiRun), s.runsHere k 0x0608 (s.nodesArg 0) r → u = s.begun r false → r.arg 2 1 = 1 → r.arg 3 1 < 8 →
    r.arg 4 1 < 64 → u.on SPN_PIN_OWN_VALID (r.arg 3 1) = false →
    exec (.assignTimePin k) s = .next ((((u.flag SPN_PIN_OWN_VALID true (r.arg 3 1)).set SPN_PIN_OWNER (r.arg 4 1) (r.arg 3 1)).drainPin
      (r.arg 3 1) 16).finish r.id ok)) ∧
  (∀ (s u : State) (n : Nat), s.expire (.pulse n) = some u →
    Completes (.timeOutPulseFall n) s fun t => t.out = u.out ++ [.timeOut n false] ∧ t.on SPN_PIN_OUT_LEVEL n = false) ∧
  (∀ (s : State) (n : Nat) (rising : Bool), n < 8 → s.get SPN_PIN_CAP_MODE n = 1 → s.get SPN_PIN_CAP_EDGE n = 2 →
    exec (.timeInEdge n rising) s = .next (s.capture n rising)) ∧
  (∀ s : State, s.on SPN_CTRL_PPS_OUT_EN = true → s.timeGood = true → s.spn.ppsHigh = false →
    Completes .ppsOutRise s fun t => t.spn.ppsHigh = true ∧ t.runs .ppsFall = true ∧ .ppsOut true ∈ t.out) ∧
  (∀ s u : State, s.expire .ppsFall = some u →
    Completes .ppsOutFall s fun t => t.spn.ppsHigh = false ∧ t.out = u.out ++ [.ppsOut false] ∧ t.fields = u.fields)

/-- Turns (R207 to R213, R420): a range of free entries takes its owner; the owner writes, arms, disarms and reads an entry; the engine
fetches 2 µs ahead, launches, and drops a timed write that is not admitted. -/
def Obligations.TurnsComplete : Prop :=
  (∀ (s u : State) (k : Nat) (r : OmiRun) (es : List Nat), s.runsHere k 0x0603 (s.nodesArg 0) r → u = s.begun r false → r.arg 2 1 < 64 →
    r.arg 3 1 = 0 → 1 ≤ r.arg 6 2 → r.arg 4 2 + r.arg 6 2 ≤ 1024 → es = (List.range (r.arg 6 2)).map (fun i => r.arg 4 2 + i) →
    (∀ i ∈ es, (u.turn i).armed = false ∧ (u.turn i).owner = none) →
    exec (.assignTurns k) s = .next (((es.foldl (fun s i => s.setTurn i { s.turn i with owner := some (r.arg 2 1) }) u).checkHeld (r.arg 2 1)).finish
      r.id ok)) ∧
  (∀ (s u : State) (k i : Nat) (r : OmiRun) (t x : Turn), s.runsHere k 0x0604 (s.nodesArg 0) r → u = s.begun r false → i = r.arg 2 2 → i < 1024 →
    t = u.turn i → t.owner = some r.part → r.priv = 0 → t.armed = false → x = turnFrom t (r.params.drop 4) → u.turnLegal x (r.arg 4 4) = true →
    exec (.writeTurn k) s = .next ((u.setTurn i x).finish r.id ok)) ∧
  (∀ (s u : State) (k i : Nat) (r : OmiRun) (t : Turn), s.runsHere k 0x0605 (s.nodesArg 0) r → u = s.begun r false → i = r.arg 2 2 → i < 1024 →
    t = u.turn i → r.priv = 1 → u.timeGood = true → t.action ≠ 0 → t.armed = false → t.period = 0 → u.spindleNs + 2000 ≤ t.start →
    exec (.armTurn k) s = .next ((u.setTurn i { t with armed := true, suspended := false, n := 0 }).finish r.id (ok (le 8 t.start)))) ∧
  (∀ (s u : State) (k i : Nat) (r : OmiRun) (t : Turn), s.runsHere k 0x0606 (s.nodesArg 0) r → u = s.begun r false → i = r.arg 2 2 → i < 1024 →
    t = u.turn i → r.priv = 1 →
    exec (.disarmTurn k) s = .next ((u.setTurn i { t with armed := false, suspended := false }).finish r.id (ok (le 2 t.count)))) ∧
  (∀ (s u : State) (k i : Nat) (r : OmiRun), s.runsHere k 0x0607 (s.nodesArg 0) r → u = s.begun r false → i = r.arg 2 2 → i < 1024 →
    r.priv = 2 → exec (.readTurn k) s = .next (u.finish r.id (ok (turnBytes (u.turn i))))) ∧
  (∀ (s u : State) (n : Nat) (t : Turn), t = s.turn n → t.armed = true → t.suspended = false → t.due = none → s.timeGood = true →
    t.writes = false → u = s.until (t.next - 2000) →
    exec (.turnFetch n) s = .next (u.setTurn n { t with due := some t.next, write := none })) ∧
  (∀ (s u : State) (n due : Nat) (t : Turn), t = s.turn n → t.due = some due → s.turnFirst n due = true → u = s.until due →
    u.turnSlot t ≤ u.now →
    exec (.turnLaunch n) s = .next (((({ u with now := u.turnSlot t, spn.launches := (u.turnSlot t :: u.spn.launches).take 4 }.bump
      SPN_CNT_TURN_COUNT).evtNode 3 3).turnAct n due t).turnAdvance n due)) ∧
  (∀ (s u : State) (id : Nat) (x : IntTx) (y : Nat × Nat × Nat), s.expire (.turnWrite id) = some u →
    (u.jnl.intWait.find? fun t => t.turn.any fun x => x.1 == id) = some x → x.turn = some y →
    exec (.timedWriteDrop id) s = .next ({ u with jnl.intWait := u.jnl.intWait.erase x }.dropTurn y.2.1 y.2.2))

/-- Grains (R218 to R227, R420): a Grain begins, reservations are checked again, made, released and recomputed. -/
def Obligations.GrainsComplete : Prop :=
  (∀ (s u : State) (p : Nat), s.isFab p = true → u = s.until (ceilDiv s.spindleNs 64 * 64) → (s.link p).grain = none →
    (u.link p).grain = none → u.timeGood = false →
    Completes (.grainBoundary p) s fun t => (t.link p).grain = none ∧ t.now = u.now ∧ t.fields = u.fields) ∧
  (∀ (s : State) (p : Nat), s.isFab p = true → exec (.reservationRecheck p) s = .next (s.recheck p (s.resvOf p) [])) ∧
  (∀ (s u : State) (k : Nat) (r : OmiRun) (x : Stream), s.runsHere k 0x0609 (nodeArg 0) r → u = s.begun r false →
    x = { stream := (u.nodeId * 64 + r.arg 1 1) * 16 + r.arg 2 1, g0 := r.arg 4 2, period := r.arg 6 2, r := r.arg 3 1 } →
    r.arg 1 1 < 64 → r.arg 2 1 < 16 → r.arg 2 1 ≠ u.nodeId → 1 ≤ r.arg 3 1 → r.arg 4 2 < 1024 → (∃ n ≤ 10, r.arg 6 2 = 2 ^ n) →
    (∀ y ∈ u.spn.streams, y.stream ≠ x.stream) → exec (.reserveGrains k) s = .next (u.reserveStream x (some r.id))) ∧
  (∀ (s u : State) (k key : Nat) (r : OmiRun), s.runsHere k 0x060A (nodeArg 0) r → u = s.begun r false →
    key = (u.nodeId * 64 + r.arg 1 1 % 64) * 16 + r.arg 2 1 % 16 → (∃ y ∈ u.spn.streams, y.stream = key) →
    (∀ j ∈ u.spn.jobs, j.stream ≠ key) → u.transitNodes key = [] →
    exec (.releaseGrains k) s =
      .next (({ u with spn.streams := u.spn.streams.filter fun y => y.stream != key }.dropStream key).finish r.id ok)) ∧
  (∀ s : State, s.spn.streams = [] → exec .grainReservationRecompute s = .next s) ∧
  (∀ (s : State) (x : Stream), s.spn.streams = [x] →
    exec .grainReservationRecompute s = .next (((s.dropStream x.stream).grainSend x.stream 0 s.others).reserveStream x none))

/-- The scheduler (R231 to R238, R242, R244, R419): a refill with nothing pending adds to the meters and ends the commands that waited for it; a
packet is released at its time; a starved stream becomes urgent; credits come back; the tables are written and read. -/
def Obligations.SchedulerCompletes : Prop :=
  (∀ s u : State, u = s.refill → exec .schedulerRefill s = .next (u.sch.cmds.foldl (fun s id => s.finish id ok) { u with sch.cmds := [] })) ∧
  (∀ (s u : State) (id n : Nat) (k : Packet), s.pkt id = some k → k.release = some n →
    u = { s with now := max s.now n }.updPkt id (fun q => { q with release := none }) →
    exec (.packetRelease id) s = .next ((u.stage id 2).refreshStream k.src k.egress)) ∧
  (∀ (s u : State) (i e : Nat), i < 112 → e < 48 → s.schOn SCH_CTRL_STARVE_EN = true → s.quantum (pairKey i e) ≠ 0 → u = s.refreshStream i e →
    (u.ss (pairKey i e)).ready.isSome = true → (u.ss (pairKey i e)).urgent = false →
    Completes (.starvationTimerExpiry i e) s fun t =>
      (t.ss (pairKey i e)).urgent = true ∧ t.get SCH_CNT_STARVE_COUNT = (u.get SCH_CNT_STARVE_COUNT + 1) % 2 ^ SCH_CNT_STARVE_COUNT.width) ∧
  (∀ (s : State) (p h d : Nat), s.dlActive p = true →
    exec (.flowControlCreditReturn p .np h d) s =
      .next ((s.updPx p fun x => { x with partner := giveCr (giveCr x.partner 2 h) 3 d }).refresh p)) ∧
  (∀ (s u : State) (k : Nat) (r : OmiRun), s.runsHere k 0x0502 (s.nodesArg 0) r → u = s.begun r true → tableBad r = false → r.arg 2 1 = 1 →
    (∀ x ∈ tableArgs r, x.2 ≤ 16384) →
    exec (.writeTable k) s = .next (((tableArgs r).foldl (fun s x =>
      { s with sc.pairQuota := Tab.put 1024 s.sc.pairQuota (pairKey x.1 (r.arg 3 1)) x.2 }) u).finish r.id ok)) ∧
  (∀ (s u : State) (k : Nat) (r : OmiRun), s.runsHere k 0x0502 (s.nodesArg 0) r → u = s.begun r true → tableBad r = false → r.arg 2 1 = 2 →
    (∀ x ∈ tableArgs r, x.2 ≤ 1023) →
    Completes (.writeTable k) s fun t => r.id ∈ t.sch.cmds ∧ t.on SCH_STATUS_PEND = true) ∧
  (∀ (s u : State) (k : Nat) (r : OmiRun), s.runsHere k 0x0503 (s.nodesArg 0) r → u = s.begun r false → tableBad r = false →
    exec (.readTable k) s = .next (u.finish r.id (ok ((List.range (r.arg 5 1)).flatMap fun j =>
      le 2 (if r.arg 2 1 = 1 then u.pairQuota (r.arg 4 1 + j) (r.arg 3 1)
        else u.quantum (pairKey (r.arg 4 1 + j) (r.arg 3 1)) / 64)))))

/-- The data mover's registers and commands (R250, R252, R265, R267, R269, R271): an assignment that changes nothing ends at once and one that
does resets the channel; TAIL lies within the ring; start, pause, resume, enable and reset act on the channel. -/
def Obligations.DataMoverControlCompletes : Prop :=
  (∀ (s u : State) (k : Nat) (r : OmiRun), s.runsHere k 0x0702 (nodeArg 0) r → u = s.begun r false → r.arg 1 1 < 64 → r.arg 3 1 ≤ 2 →
    r.arg 4 2 = 0xFFFF → u.homeOf (r.arg 2 1) = some u.nodeId → u.dmOwner (r.arg 1 1) = none →
    exec (.assignChannel k) s = .next (u.dmReset (r.arg 1 1) (some r.id) (some (some (r.arg 2 1, r.arg 3 1))))) ∧
  (∀ (s u : State) (k : Nat) (r : OmiRun), s.runsHere k 0x0703 (nodeArg 0) r → u = s.begun r false → r.arg 1 1 < 64 →
    exec (.releaseChannel k) s = .next ({ u with spn.chan := Tab.put none u.spn.chan (r.arg 1 1) none }.dmReset (r.arg 1 1) (some r.id) (some none))) ∧
  (∀ (s : State) (c v : Nat), exec (.dmTailWrite c v) s = .next ((s.set DM_TAIL_TAIL (min v (s.ringSize c - 1)) c).dmKick c)) ∧
  (∀ (s : State) (c : Nat), exec (.dmStart c) s = .next (s.dmStart c).2) ∧
  (∀ (s : State) (c : Nat), exec (.dmReset c) s = .next (s.dmReset c none none)) ∧
  (∀ (s : State) (c : Nat), s.dmState c = 4 →
    exec (.dmResume c) s = .next (((s.updCh c fun x => { x with halted := false }).dmForm c 64).dmKick c)) ∧
  (∀ (s : State) (c : Nat) (on : Bool), exec (.dmPause c on) s = .next ((s.flag DM_CTRL_PAUSE on c).dmKick c)) ∧
  (∀ (s : State) (c : Nat), (s.dmOwner c).isSome = true → s.dmResetting c = false →
    exec (.dmEnable c true) s = .next ((s.set DM_CTRL_ENABLE 1 c).dmKick c)) ∧
  (∀ (s : State) (c : Nat), s.on DM_CTRL_ENABLE c = true → exec (.dmEnable c false) s = .next (s.dmReset c none none))

/-- The data mover's engine (R252 to R264, R269, R271): fetched descriptors stand in the channel, reads are issued, write data is formed, a
completion's data is taken, a read without completions fails its descriptor, a descriptor completes, a reset ends. -/
def Obligations.DataMoverEngineCompletes : Prop :=
  (∀ (s u v : State) (c n : Nat) (t : DmTag) (x : Nat × Tlp) (ds : List Desc), (s.dm.tags.find? fun t => t.tag == 1984 + c) = some t → s.cplFor t = some x →
    s.dmStale t = false → x.2.status = .sc → x.2.poisoned = false →
    u = { s with dm.cpls := s.dm.cpls.erase x }.dmFreeTag t → { s with dm.cpls := s.dm.cpls.erase x }.dmStale t = false → n = (u.ch c).fetching →
    ds = (List.range n).map (fun i => descFrom ((t.idx + i) % u.ringSize c) ((List.range 8).map fun j => dwordOf x.2.data (8 * i + j))) →
    v = u.updCh c (fun y => { y with fetching := 0, descs := y.descs ++ ds }) →
    exec (.descriptorFetchComplete c) s = .next ((v.set DM_HEAD_HEAD ((t.idx + n) % v.ringSize c) c).dmKick c)) ∧
  (∀ (s : State) (c : Nat), exec (.dmReadIssue c) s = .next ((s.dmIssue c).dmKick c)) ∧
  (∀ (s : State) (c : Nat), exec (.dmFillWriteForm c) s = .next ((s.dmFill c).dmKick c)) ∧
  (∀ (s u : State) (tag : Nat) (x : Tlp) (g : DmTag), tag < 1984 → (s.dm.tags.find? fun x => x.tag == tag) = some g →
    (g.part, x) ∈ s.dm.cpls → x.tag = g.wire → u = { s with dm.cpls := s.dm.cpls.erase (g.part, x) } → u.dmStale g = false →
    x.status = .sc → x.poisoned = false → g.len ≤ g.got + x.bytes →
    exec (.dmReadCompletion tag x) s = .next ((((u.dmTake_ g x).dmFreeTag g).dmForm g.chan 64).dmKick g.chan)) ∧
  (∀ (s u : State) (tag : Nat) (g : DmTag), s.expire (.dmRead tag) = some u → (s.dm.tags.find? fun x => x.tag == tag) = some g → tag < 1984 →
    exec (.dmReadTimeout tag) s = .next (((u.dmRetire g).dmFail g.chan g.idx 5 g.addr).dmKick g.chan)) ∧
  (∀ (s : State) (c : Nat), exec (.descriptorComplete c) s = .next (s.dmComplete c)) ∧
  (∀ (s u v : State) (c p cls : Nat), s.expire (.dmReset c) = some u → (u.ch c).newOwner = some (some (p, cls)) →
    v = ((((((u.set DM_ASSIGN_VALID 1 c).set DM_ASSIGN_OWNER p c).set DM_ASSIGN_CLASS cls c).set DM_STATUS_CLASS cls c).setCh c {}).finishOpt
      (u.ch c).cmd ok) →
    exec (.channelResetComplete c) s = .next (v.set DM_STATUS_STATE (v.dmState c) c))

/-- Partitions come and go (R82 to R84, R103, R105, R416): creation, deletion, reset, the end of a reset; a member installs a record. -/
def Obligations.PartitionLifeCompletes : Prop :=
  (∀ (s u v w : State) (k : Nat) (r : OmiRun) (a : Nat × State) (x : PartRec), s.runsHere k 0x0202 (nodeArg 1) r → u = s.begun r false →
    r.arg 0 1 < 64 → r.arg 1 1 < 16 → r.arg 2 1 < 48 → r.arg 3 1 < 16 → (u.partRec (r.arg 0 1)).present = false →
    u.on PART_CTRL_VALID (r.arg 3 1) = false → u.unusedPort (r.arg 2 1) = true →
    v = u.createPart (r.arg 0 1) (r.arg 2 1) (r.arg 3 1) (r.arg 4 1 % 2) → a = v.awaitAll (.omi r.id) → x = a.2.partRec (r.arg 0 1) →
    w = a.2.fwAll (r.arg 0 1) (.other fwRecord [r.arg 0 1, 1, x.home, x.state, x.upPort, x.homePlane, x.upBus, x.intBus, a.1]) →
    exec (.createPartition k) s = .next (w.portOn (r.arg 2 1)).settle) ∧
  (∀ (s u v w : State) (k j : Nat) (r : OmiRun) (a : Nat × State), s.runsHere k 0x0203 s.homeArg r → u = s.begun r false → r.arg 0 1 < 64 →
    u.slotOf (r.arg 0 1) = some j → u.get PART_CTRL_STATE j ≠ partDeleting → v = u.setPartState j partDeleting →
    v.fmHolder ≠ some (r.arg 0 1) → v.on PART_GLOBAL_STBY_VALID = false → a = v.awaitThese (v.nodeId :: v.others) (.drained j (some r.id)) →
    w = a.2.fwAll (r.arg 0 1) (.other fwPart [4, r.arg 0 1, a.1]) →
    exec (.deletePartition k) s = .next (w.deleteHere (r.arg 0 1) (w.nodeId, a.1)).settle) ∧
  (∀ (s u : State) (k j : Nat) (r : OmiRun), s.runsHere k 0x0204 s.homeArg r → u = s.begun r false → r.arg 0 1 < 64 →
    r.mayOwn (r.arg 0 1) = true → u.slotOf (r.arg 0 1) = some j → u.get PART_CTRL_STATE j ≠ partDeleting → u.get PART_CTRL_STATE j ≠ partFree →
    exec (.resetPartition k) s = .next (u.resetPart j (some r.id)).settle) ∧
  (∀ (s u : State) (k : Nat), k ∈ s.part.resetDone → u = s.resetRestores k → exec (.partitionResetComplete k) s =
    .next (((u.part.rstCmds.filter fun (x : Nat × Nat) => x.1 == k).foldl (fun (s : State) (x : Nat × Nat) => s.finish x.2 ok)
      { u with part.rstCmds := u.part.rstCmds.filter fun (x : Nat × Nat) => x.1 != k }).settle)) ∧
  (∀ (s u : State) (src : Nat) (f : List Nat), s.takeFw src (f.getD 0 0) (.other fwRecord f) = some u → f.getD 1 0 = 1 →
    (u.partRec (f.getD 0 0)).present = false → u.slotOf (f.getD 0 0) = none →
    exec (.partitionRecordInstall src f) s = .next ((u.setRec (f.getD 0 0)
      { present := true, home := f.getD 2 0, state := f.getD 3 0, upPort := f.getD 4 0, homePlane := f.getD 5 0, upBus := f.getD 6 0
        intBus := f.getD 7 0 }).sendAck (f.getD 0 0) src (f.getD 8 0)))

/-- The fabric-management privilege (R85 to R87, R416): a transfer to a partition of this node is confirmed at once, a standby is set at every
member, and the holder's link stays down for FM_TAKEOVER. -/
def Obligations.FabricManagementCompletes : Prop :=
  (∀ (s u : State) (k : Nat) (r : OmiRun), s.runsHere k 0x0205 s.hereArg r → u = s.begun r false → r.arg 0 1 < 64 →
    u.partState (r.arg 0 1) = partActive → u.homeOf (r.arg 0 1) = some u.nodeId →
    exec (.transferFabricManagement k) s = .next (((u.confirmFm (r.arg 0 1) (u.fmHolder.getD r.part)).fmMoved (r.arg 0 1)
      (u.fmHolder.getD r.part) u.nodeId).finish r.id ok)) ∧
  (∀ (s u : State) (k : Nat) (r : OmiRun) (a : Nat × State), s.runsHere k 0x0206 s.hereArg r → u = s.begun r false → r.arg 0 1 < 64 →
    r.arg 1 1 = 0 → u.partState (r.arg 0 1) = partActive → a = (u.setStandbyPart (some (r.arg 0 1))).awaitAll (.omi r.id) →
    exec (.setStandby k) s = .next (a.2.fwAll (r.arg 0 1) (.other fwFm [3, r.arg 0 1, 0, a.1])).settle) ∧
  (∀ (s u : State), s.expire .fmTakeover = some u →
    exec .fmTakeoverExpiry s = .next (u.vacateFm.fwAll 0 (.other fwFm [4, (u.vacateFm.fmHolder.getD 64), fmByte u.fmHolder, u.vacateFm.nodeId])))

/-- Freezes, thaws and reads of a partition (R110, R111, R416). -/
def Obligations.PartitionFreezeCompletes : Prop :=
  (∀ (s u : State) (k : Nat) (r : OmiRun) (a : Nat × State), s.runsHere k 0x0207 s.hereArg r → u = s.begun r false → r.arg 0 1 < 64 →
    u.partState (r.arg 0 1) ≠ partFree → a = u.awaitAll (.omi r.id) →
    exec (.freezePartition k) s = .next ((a.2.fwAll (r.arg 0 1) (.other fwPart [2, r.arg 0 1, a.1, r.arg 1 1 % 2])).freezePartHere (r.arg 0 1)
      (r.arg 1 1 % 2 == 1)).settle) ∧
  (∀ (s u w : State) (k : Nat) (r : OmiRun) (a : Nat × State), s.runsHere k 0x0208 s.hereArg r → u = s.begun r false → r.arg 0 1 < 64 →
    u.partState (r.arg 0 1) ≠ partFree → a = u.awaitThese (u.nodeId :: u.others) (.omi r.id) →
    w = a.2.fwAll (r.arg 0 1) (.other fwPart [3, r.arg 0 1, a.1, r.arg 1 1 % 2]) →
    exec (.thawPartition k) s = .next (w.thawPartHere (r.arg 0 1) (r.arg 1 1 % 2 == 1) (some (w.nodeId, a.1))).settle) ∧
  (∀ (s u : State) (k j : Nat) (r : OmiRun), s.runsHere k 0x0209 s.homeArg r → u = s.begun r false → r.arg 0 1 < 64 →
    r.mayOwn (r.arg 0 1) = true → u.slotOf (r.arg 0 1) = some j → (∀ n < 32, u.bind j n = none) →
    exec (.readPartition k) s = .next (u.finish r.id (ok [r.arg 0 1, u.nodeId, u.get PART_CTRL_UP_PORT j, j, u.get PART_CTRL_STATE j,
      u.get PART_CTRL_FM j + 2 * u.get PART_CTRL_STANDBY j + 4 * u.get PART_CTRL_HOST_FROZEN j + 8 * u.get PART_CTRL_SELF_THAW j, 0, 0])))

/-- Instances (R91, R93, R103, R107, R109, R111, R278, R418): a function is assigned, removed, frozen and thawed, a span set, VFs enabled, a
managed port designated, an instance read. -/
def Obligations.InstanceCommandsComplete : Prop :=
  (∀ (s u : State) (k i owner v p : Nat) (r : OmiRun), s.runsHere k 0x0402 (nodeArg 2) r → u = s.begun r false → owner = r.arg 0 1 → owner < 64 →
    v = r.arg 1 1 → 1 ≤ v → v < 32 → r.arg 2 1 < 16 → p = r.arg 3 1 → p < 48 → r.arg 4 1 = 0 → r.arg 5 1 < 64 → r.arg 6 1 < 3 →
    r.arg 7 1 = 0 → u.partState owner ≠ partFree → u.partState owner ≠ partDeleting → u.vdspFree owner v = true →
    u.fnHeld p (r.arg 8 2) = false → u.role p = roleManaged → (allInst.find? fun i => !u.liveInst i) = some i →
    exec (.assignFunction k) s = .next ((u.writeInst i owner v p (r.arg 8 2) false false).askFill i (some r.id)).settle) ∧
  (∀ (s u : State) (k : Nat) (r : OmiRun), s.runsHere k 0x0403 (nodeArg 0) r → u = s.begun r false → r.arg 0 1 < 16 → r.arg 2 2 < 512 →
    r.arg 1 1 = 0 → r.arg 4 1 = 0 → r.arg 5 1 = 0 → u.removal (r.arg 2 2) = none → u.liveInst (r.arg 2 2) = true →
    exec (.removeFunction k) s = .next (u.removeInst (r.arg 2 2) none (some r.id)).settle) ∧
  (∀ (s u : State) (k : Nat) (r : OmiRun), s.runsHere k 0x0404 (nodeArg 0) r → u = s.begun r false → r.arg 0 1 < 16 → r.arg 2 2 < 512 →
    u.liveInst (r.arg 2 2) = true → r.arg 1 1 = 0 →
    exec (.freezeFunction k) s = .next ((u.freeze (r.arg 2 2) frzCommand).finish r.id ok)) ∧
  (∀ (s u : State) (k : Nat) (r : OmiRun), s.runsHere k 0x0405 (nodeArg 0) r → u = s.begun r false → r.arg 0 1 < 16 → r.arg 2 2 < 512 →
    r.priv = 1 → u.removal (r.arg 2 2) = none → u.liveInst (r.arg 2 2) = true →
    exec (.thawFunction k) s =
      .next (u.thawSome [r.arg 2 2] (r.arg 1 1 % 2 == 1) (u.get PART_FN_A_OWNER (r.arg 2 2)) none (some r.id))) ∧
  (∀ (s u : State) (k i : Nat) (r : OmiRun), s.runsHere k 0x0406 (nodeArg 0) r → u = s.begun r false → r.arg 0 1 < 16 → i = r.arg 2 2 → i < 512 →
    r.arg 1 1 < 64 → u.liveInst i = true → u.on PART_FN_A_BIND i = true → (u.view (u.get PART_FN_A_OWNER i) (u.get PART_FN_B_VDSP i)).kind = 0 →
    exec (.setBusSpan k) s = .next ((u.set PART_FN_B_BUS_SPAN (spanArg (r.arg 1 1)) i).finish r.id ok)) ∧
  (∀ (s u : State) (k p : Nat) (r : OmiRun), s.runsHere k 0x0407 (nodeArg 0) r → u = s.begun r false → r.arg 0 1 < 16 → p = r.arg 1 1 → p < 48 →
    u.role p = roleManaged → (∀ j ∈ u.part.vfJobs, j.port ≠ p) → 1 ≤ r.arg 4 2 → r.arg 4 2 ≤ Config.devTotalVfs (p * 65536 + r.arg 2 2) →
    Completes (.enableVfs k) s fun t => .vfEnable p (r.arg 2 2) (r.arg 4 2) ∈ t.out ∧ t.runs (.vfs p) = true) ∧
  (∀ (s u : State) (p : Nat), s.expire (.vfs p) = some u →
    exec (.enableVfsTimeout p) s = .next ((u.part.vfJobs.filter fun j => j.port == p).foldl (fun s j => s.finish j.cmd (rsp stFailed))
      { u with part.vfJobs := u.part.vfJobs.filter fun j => j.port != p })) ∧
  (∀ (s u : State) (k p : Nat) (r : OmiRun), s.runsHere k 0x0408 (nodeArg 0) r → u = s.begun r false → r.arg 0 1 < 16 → p = r.arg 1 1 → p < 48 →
    r.arg 2 1 = 1 → u.unusedPort p = true →
    exec (.setManagedPort k) s = .next ({ u.set PX_PORT_CFG_ROLE roleManaged p with part.mgJobs := u.part.mgJobs ++ [(p, r.id)] }.portOn p)) ∧
  (∀ (s u : State) (k : Nat) (r : OmiRun), s.runsHere k 0x0409 (nodeArg 0) r → u = s.begun r false → r.arg 0 1 < 16 → r.arg 2 2 < 512 →
    r.priv = 1 → exec (.readInstance k) s = .next (u.finish r.id (ok (
      le 4 ((Reg.PART_FN_A.fields.map fun f => u.get f (r.arg 2 2) * 2 ^ f.lsb).sum) ++
      le 4 ((Reg.PART_FN_B.fields.map fun f => u.get f (r.arg 2 2) * 2 ^ f.lsb).sum) ++
      [if u.part.failed.contains (u.get PART_FN_A_PORT (r.arg 2 2), u.get PART_FN_A_PHYS_RID (r.arg 2 2)) then 1 else 0]))))

/-- The steps of a removal, generations, contexts and tags (R100, R101, R103, R111). -/
def Obligations.RemovalStepsComplete : Prop :=
  (∀ (s : State) (i : Nat) (r : Removal), s.removal i = some r → s.drained r i = true →
    exec (.removalDrainPoint i) s = .next (((((s.stop (.remDrain i)).setRemoval i (some { r with step := 6 }))).advanceGen i).issueReset i)) ∧
  (∀ (s u : State) (i : Nat) (r : Removal), s.expire (.remDrain i) = some u → s.removal i = some r → r.markers = [] → u.queuedFor r i = [] →
    exec (.removalDrainTimeout i) s = .next u) ∧
  (∀ (s u : State) (i : Nat), s.expire (.remWait i) = some u →
    Completes (.removalResetWaitEnd i) s fun t =>
      t.runs (.remFunc i) = true ∧ t.out = u.out ++ [.cfgPoll (u.get PART_FN_A_PORT i) (u.get PART_FN_A_PHYS_RID i)] ∧ t.fields = u.fields) ∧
  (∀ (s u : State) (i : Nat), s.runs (.remFunc i) = true → s.on PART_FN_A_BIND i = false →
    u = { s.stop (.remFunc i) with part.inFlr := s.part.inFlr.filter fun n => n != i } → u.removal i = none →
    exec (.removalFunctionReady i) s = .next (u.jobDone (jobReset (s.get PART_FN_A_OWNER i)) i).settle) ∧
  (∀ (s u v : State) (i : Nat) (r : Removal), s.expire (.remFunc i) = some u → v = { u with part.inFlr := u.part.inFlr.filter fun n => n != i } →
    v.removal i = some r → r.step = 6 →
    exec (.removalFunctionTimeout i) s = .next ((v.removalFail i).jobDone (jobReset (u.get PART_FN_A_OWNER i)) i).settle) ∧
  (∀ (s u : State) (i : Nat), s.expire (.genWait i) = some u → (u.advanceNow i).part.thaws = [] →
    exec (.generationWaitEnd i) s = .next (u.advanceNow i).settle) ∧
  (∀ (s u : State) (n : Nat) (c : Ctx), s.expire (.ctx n) = some u → (s.part.ctxs.find? fun c => c.idx == n) = some c →
    exec (.completionTimeout n) s = .next ((u.bump PART_CNT_TMO_COUNT).retireCtx c)) ∧
  (∀ (s u : State) (p n : Nat), s.expire (.tagQuar p n) = some u → p ≠ 64 →
    exec (.tagQuarantineEnd p n) s = .next { u with part.quar := u.part.quar.erase (p, n) })

/-- Address windows (R118 to R126, R417): an entry goes into the shadow bank and is read back, a commit starts with a check of every copy, the
banks swap and the copy ends it; grants are set. -/
def Obligations.WindowCommandsComplete : Prop :=
  (∀ (s u : State) (k : Nat) (r : OmiRun), s.runsHere k 0x0302 s.allNodes r → u = s.begun r false → u.exists_ (r.arg 0 1) = true →
    128 ≤ r.arg 1 1 → wentLegal (wentArg r 4) = true → u.winBusy (r.arg 0 1) = false →
    exec (.writeWindowEntry k) s = .next ((u.setWent (r.arg 0 1) (1 - u.get WIN_PCTRL_ACT_MANAGED (r.arg 0 1)) (r.arg 1 1)
      (wentFrom (wentArg r 4))).finish r.id ok)) ∧
  (∀ (s u : State) (k : Nat) (r : OmiRun), s.runsHere k 0x0303 (s.nodesArg 4) r → u = s.begun r false → u.exists_ (r.arg 0 1) = true →
    r.arg 2 1 = 0 → u.on WIN_PCTRL_HELD (r.arg 0 1) = true →
    exec (.readWindowEntry k) s = .next (u.finish r.id (ok ((wentWords (u.went (r.arg 0 1) (u.activeBank (r.arg 0 1) (r.arg 1 1))
      (r.arg 1 1))).flatMap fun w => le 4 w)))) ∧
  (∀ (s u : State) (k : Nat) (r : OmiRun) (a : Nat × State), s.runsHere k 0x0304 s.hereArg r → u = s.begun r false →
    u.exists_ (r.arg 0 1) = true → r.mbox ≠ 17 → u.commitCheck (r.arg 0 1) = none → a = u.awaitAll (.goCommit r.id) →
    exec (.commitWindows k) s = .next (a.2.fwAll (r.arg 0 1) (.other fwCheck [r.arg 0 1, a.1])).settle) ∧
  (∀ (s u : State) (q : Nat) (c : Commit), s.expire (.swap q) = some u → (s.win.commits.find? fun c => c.part == q) = some c →
    exec (.commitSwap q) s = .next (((u.swap c).flag WIN_PCTRL_RELOAD_BUSY true q).start (.reload q) 1000)) ∧
  (∀ (s u v : State) (q : Nat) (c : Commit), s.expire (.reload q) = some u → (s.win.commits.find? fun c => c.part == q) = some c →
    c.cmd = none → c.ack = none →
    v = (((({ u with win.commits := u.win.commits.filter fun x => x.part != q }.reload c).flag WIN_PCTRL_RELOAD_BUSY false q).flag
      WIN_PCTRL_COMMIT_BUSY false q).bump WIN_PCTRL_COMMIT_NO q) → v.win.waiting = [] →
    exec (.shadowCopyDone q) s = .next v.settle) ∧
  (∀ (s u : State) (k w x : Nat) (r : OmiRun), s.runsHere k 0x0305 s.allNodes r → u = s.begun r false → r.arg 0 1 < 64 → r.arg 1 1 = 2 →
    w = u.get WIN_GRANT_W_MASK (r.arg 0 1) ||| r.arg 4 8 → x = u.get WIN_GRANT_R_MASK (r.arg 0 1) ||| r.arg 12 8 →
    exec (.setPeerGrant k) s = .next (((u.set WIN_GRANT_W_MASK w (r.arg 0 1)).set WIN_GRANT_R_MASK x (r.arg 0 1)).finish r.id (ok (le 8 w ++ le 8 x))))

/-- The local bus bridge (R303 to R318): it takes a request where it has room, starts the next cycle, ends phases by Table 11.3, retries,
times out, ages its lines and its semaphore, and is enabled, reset and cleared. -/
def Obligations.LocalBusCompletes : Prop :=
  (∀ (s u : State) (k : Packet), u = s.refresh 48 → u.semHeld = false → (u.lb.reqs.filter fun r => r.write).length < 16 →
    (u.lb.reqs.filter fun r => !r.write).length < 4 →
    (((List.range 112).map fun j => (u.lb.rr + 1 + j) % 112).findSome? fun i => u.candidate i 48) = some k →
    exec .lbIntake s = .next ((u.lbTake k).refresh 48)) ∧
  (∀ (s : State) (r : LbReq), s.lb.cyc = none → s.on LB_CTRL_EN = true → s.on LB_STATUS_RESETTING = false → s.lbNext = some r → r.write = true →
    Completes .lbCycleStart s fun t =>
      t.lb.cyc = some { req := r.id, left := phases (2 ^ s.get LB_CS_BURST_MAX r.cs) r.todo } ∧ t.runs .lbPhase = true ∧ t.fields = s.fields) ∧
  (∀ (s : State) (c : LbCyc) (r : LbReq) (v : Nat), s.lb.cyc = some c → (s.lb.reqs.find? fun r => r.id == c.req) = some r →
    exec (.lbPhaseTermination true false v) s = .next (s.phaseDone r c v) ∧
    exec (.lbPhaseTermination true true v) s = .next (s.lbError r 1 ((c.left.headD (r.tlp.addr, 0)).1))) ∧
  (∀ (s u : State) (c : LbCyc) (r : LbReq) (v : Nat), s.lb.cyc = some c → (s.lb.reqs.find? fun r => r.id == c.req) = some r → c.first = true →
    u = (s.bump LB_CNT_RETRY_COUNT).evtNode 5 2 → r.retries + 1 ≤ u.get LB_CS_RETRY_MAX r.cs →
    Completes (.lbPhaseTermination false true v) s fun t => t.runs (.lbGap r.id) = true ∧ t.lb.cyc = none) ∧
  (∀ (s u : State) (id : Nat), s.expire (.lbGap id) = some u →
    exec (.lbRetryGapExpiry id) s = .next (u.updReq id fun r => { r with gap := false })) ∧
  (∀ (s u : State) (c : LbCyc) (r : LbReq), s.expire .lbPhase = some u → s.lb.cyc = some c → (u.lb.reqs.find? fun r => r.id == c.req) = some r →
    exec .lbPhaseTimeout s = .next (u.lbError r 2 ((c.left.headD (r.tlp.addr, 0)).1))) ∧
  (∀ (s u : State) (n : Nat) (l : LbLine), s.expire (.lbLine n) = some u → (s.lb.lines.find? fun l => l.no == n) = some l →
    exec (.prefetchLineExpiry n) s = .next (u.dropLine l)) ∧
  (∀ (s u v : State), s.expire .lbSem = some u → v = ((u.semFree.set LB_INT_STATUS_SEM_FORCED 1).bump LB_CNT_SEM_FORCED_COUNT).evtNode 5 7 →
    (v.get LB_INT_EN_EN).testBit 2 = false →
    exec .semaphoreForcedRelease s = .next (v.raiseEvent (u.get LB_SEM_OWNER)
      (.other 0x71 [6, 0, 0x1F, v.get LB_SEM_CFG_PAGE * 4096, u.get LB_SEM_RID, 0, v.spindleNs % 2 ^ 32]))) ∧
  (∀ s : State, exec .bridgeReset s = .next s.lbReset) ∧
  (∀ s : State, s.on LB_CTRL_EN = false →
    Completes (.lbEnable true) s fun t => t.on LB_CTRL_EN = true ∧ t.on LB_STATUS_RESETTING = true ∧ t.runs .lbRst = true) ∧
  (∀ s : State, s.on LB_CTRL_EN = true → exec (.lbEnable false) s = .next (s.set LB_CTRL_EN 0).lbReset) ∧
  (∀ s u : State, s.expire .lbRst = some u →
    Completes .lbResetRelease s fun t => t.on LB_STATUS_RESETTING = false ∧ t.out = u.out ++ [.lbRst false]) ∧
  (∀ s : State, Completes .elogClr s fun t => t.get LB_STATUS_ELOG_COUNT = 0 ∧ t.on LB_STATUS_ELOG_OVF = false) ∧
  (∀ (s : State) (c n v : Nat), s.lb.lines = [] →
    exec (.lbPregWrite c n v) s = .next ((s.write LB_PREG_BASE (v / 4096) (c * 4 + n)).write LB_PREG_SIZE v (c * 4 + n)))

/-- The lane complex (R321, R322, R326, R332 to R338): a PLL locks and loses its lock, a lane loses and regains symbol lock, a window of
corrected bytes ends, a mark is cleared, a test starts with C0 alone. -/
def Obligations.LanesComplete : Prop :=
  (∀ (s : State) (q : Nat), q < 42 → q ∉ s.ln.quadLock →
    exec (.quadPllLock q) s = .next { s with ln.quadLock := s.ln.quadLock ++ [q] }.pllCheck) ∧
  (∀ (s u : State) (q : Nat), q ∈ s.ln.quadLock → u = { s with ln.quadLock := s.ln.quadLock.filter fun n => n != q } →
    exec (.quadPllLockLoss q) s =
      .next (((u.formed.filter fun x => (u.portQuads x.1).contains q).foldl (fun s x => s.quadLost q x.1) u).pllCheck)) ∧
  (∀ (s : State) (p l : Nat), l < s.formedWidth p → exec (.laneLockLoss p l) s = .next (s.laneLost p l)) ∧
  (∀ (s : State) (p l : Nat), l < s.formedWidth p → s.on LN_LANE_STAT_LOCK (laneKey p l) = false → s.fabricMode p = false →
    Tab.get none s.ln.lostAt (laneKey p l) = none → (s.flag LN_LANE_STAT_LOCK true (laneKey p l)).fabricMode p = false →
    Completes (.laneLockRegain p l) s fun t => t.on LN_LANE_STAT_LOCK (laneKey p l) = true) ∧
  (∀ (s : State) (p l n : Nat), l < s.formedWidth p → s.fabricMode p = true → s.linkState p = lsActive →
    Tab.get 0 (s.link p).winCorr l ≤ s.get LN_FIT_CORR_MAX →
    Completes (.fecWindowEnd p l n) s fun t => Tab.get 0 (t.link p).winCorr l = 0 ∧ t.fields = s.fields) ∧
  (∀ (s : State) (p l : Nat),
    Completes (.clrUnfit p l) s fun t => t.on LN_LANE_STAT_UNFIT (laneKey p l) = false ∧ t.get LN_LANE_STAT_CAUSE (laneKey p l) = 0) ∧
  (∀ (s : State) (p l test : Nat) (loop : Bool), l < s.formedWidth p → s.portEnabled p = false → s.on LN_LANE_CTRL_TEST (laneKey p l) = false →
    test = 1 ∨ test = 2 ∨ test = 3 →
    Completes (.laneTest p l test loop 0) s fun t => ∃ u : State, t = u.pllCheck ∧ u.get LN_LANE_CTRL_TEST (laneKey p l) = test ∧
      u.get LN_LANE_EQ_C_0 (laneKey p l) = 48 ∧ u.get LN_LANE_EQ_C_P1 (laneKey p l) = 0)

/-- Commands of the slot power channels (R344, R346, R359, R423). -/
def Obligations.SlotPowerCommandsComplete : Prop :=
  (∀ (s : State) (c : Nat), c < 12 → exec (.spCmdOn c) s = .next (s.spEnable c) ∧ exec (.spCmdOff c) s = .next (s.spDisable c) ∧
    exec (.spCmdCycle c) s = .next (s.spCycle c).2) ∧
  (∀ (s u : State) (k c : Nat) (r : OmiRun), s.runsHere k 0x0902 (nodeArg 0) r → u = s.begun r false → c = r.arg 1 1 → c < 12 → u.spFitted c = true →
    exec (.enableSlot k) s = .next ((u.spEnable c).finish r.id (ok [(u.spEnable c).spState c]))) ∧
  (∀ (s u : State) (k c : Nat) (r : OmiRun), s.runsHere k 0x0903 (nodeArg 0) r → u = s.begun r false → c = r.arg 1 1 → c < 12 → u.spFitted c = true →
    exec (.disableSlot k) s = .next ((u.spDisable c).finish r.id (ok [(u.spDisable c).spState c]))) ∧
  (∀ (s u : State) (k c : Nat) (r : OmiRun), s.runsHere k 0x0904 (nodeArg 0) r → u = s.begun r false → c = r.arg 1 1 → c < 12 →
    u.spState c = spOn → u.get JNL_STATUS_PF_PHASE = 0 → (u.spc c).cycling = false →
    exec (.cycleSlot k) s = .next ((u.spCycle c).2.finish r.id (ok [(u.spCycle c).2.spState c])))

/-- What happens to a channel (R344 to R355, R359): the rail becomes valid, gates go down, the slot's pins move, a trip, a retry, a feed
change, presence and its timers. -/
def Obligations.SlotPowerEventsComplete : Prop :=
  (∀ (s : State) (c : Nat), (s.spc c).driven = true → s.runs (.spGate c) = true → s.spState c = spRamp →
    exec (.gateCheckPass c) s = .next ((((((s.stop (.spGate c)).setSpState c spOn).start (.spPerst c) (s.spv SP_TIMERS_T_PERST c * 1000000)).start
      (.spClean c) (s.get SP_RETRY_CLEAN c * 1000000000)).spDone c).spFeeds c)) ∧
  (∀ (s u : State) (c : Nat), s.expire (.spGate c) = some u → exec (.gateCheckTimeout c) s = .next (u.spLatch c 3)) ∧
  (∀ (s : State) (c : Nat), s.spState c = spOn → s.feedOk c (s.spc c).feed = true → exec (.gateGoodLoss c) s = .next (s.spLatch c 5)) ∧
  (∀ (s u : State) (c : Nat), s.expire (.spPerst c) = some u → exec (.perstReleaseTimer c) s = .next (u.spPerstSet c false)) ∧
  (∀ (s u : State) (c : Nat), s.expire (.spLead c) = some u → exec (.perstLeadExpiry c) s = .next (u.spGatesDown c)) ∧
  (∀ (s : State) (c : Nat), s.spState c = spStopping → (s.spc c).driven = false → exec (.railBelowOffLevel c) s = .next (s.spIsOff c)) ∧
  (∀ (s u : State) (c : Nat), s.expire (.spOffMax c) = some u →
    exec (.offMaxExpiry c) s = .next (if 40 < u.get SP_MEAS_ISENSE c then u.spLatch c 4 else u.spIsOff c)) ∧
  (∀ (s : State) (c v : Nat), (s.spc c).driven = false → v < 65536 →
    Completes (.shuntSample c v) s fun t => t.get SP_MEAS_ISENSE c = v % 2 ^ SP_MEAS_ISENSE.width ∧ t.sp = s.sp) ∧
  (∀ (s : State) (c : Nat), exec (.fastComparatorTrip c) s = .next (s.spTrip c 1 (s.get SP_STATUS_POINT c))) ∧
  (∀ (s u : State) (c : Nat), s.expire (.spRetry c) = some u → u.on SP_STATUS_PRESENT c = true →
    exec (.retryIntervalExpiry c) s = .next (u.spRetryNow c)) ∧
  (∀ (s u : State) (c : Nat), s.expire (.spClean c) = some u →
    exec (.cleanExpiry c) s = .next (u.set SP_STATUS_RETRIES_LEFT (u.get SP_RETRY_COUNT c) c)) ∧
  (∀ (s : State) (c : Nat) (b : Bool), exec (.presenceDebounced c b) s = .next ((s.updSpc c fun x => { x with pin := b }).spPresence c)) ∧
  (∀ (s u : State) (c : Nat), s.expire (.spEmpty c) = some u → u.spState c = spRetryWait →
    Completes (.emptyTimeout c) s fun t => t.spState c = spOff ∧ t.runs (.spRetry c) = false) ∧
  (∀ (s u : State) (c : Nat), s.expire (.spReturn c) = some u → u.spState c = spOn → u.feedOk c (1 - (u.spc c).feed) = true →
    exec (.feedReturnExpiry c) s = .next (u.spChange c)) ∧
  (∀ (s u : State) (c : Nat), s.expire (.spBbm c) = some u → u.spState c = spSwitch →
    exec (.bbmExpiry c) s = .next (u.spDrive c (u.spc c).feed)) ∧
  (∀ (s u : State) (c : Nat), s.spState c = spOn → s.feedOk c 0 = false → s.feedOk c 1 = false →
    u = (((((s.spStopTimers c).spPerstSet c true).spGates c false).setSpState c spWaitFeed).set SP_STATUS_CAUSE 6 c).spWarnEnd c →
    exec (.railLostTimeout c) s = .next (((u.updSpc c fun x => { x with cycling := false }).spReport c 2 6).spPowerOff c)) ∧
  (∀ (s u : State) (c : Nat), s.expire (.spWarn c) = some u → (u.spc c).pfDone = true → exec (.warnLeadExpiry c) s = .next (u.spPfOff c)) ∧
  (∀ (s u : State) (c : Nat), s.expire (.spCycleOff c) = some u → u.spState c = spCycleWait →
    exec (.cycleOffExpiry c) s = .next (u.spStart c))

/-- The fault collector (R363 to R381, R424): a report is collected, a management restart and a node reset end, a port that has not recovered
is escalated, a contained port is released, faults are injected and records discarded. -/
def Obligations.FaultsComplete : Prop :=
  (∀ (s : State) (r : Report), exec (.faultReport r) s = .next ({ s with reports := s.reports.erase r }.collectReport r).settle) ∧
  (∀ s : State, s.nodeState = 1 →
    exec .managementRestartEnd s = .next (((s.set FC_STATE_NODE_STATE 0).showBusy false false 0).fwReady true)) ∧
  (∀ s u : State, s.expire .nodeReset = some u → u.nodeState = 2 → exec .nodeResetTimeout s = .next (u.reportNode 54 4 0x6003)) ∧
  (∀ (s u : State) (p : Nat), s.expire (.fcRecover p) = some u → u.dlActive p = false → u.on PX_SLOT_VALID p = false →
    exec (.portRecoverTimeout p) s = .next (u.reportPort (u.pxUnit p) 3 p 0x600E)) ∧
  (∀ (s u : State) (p : Nat), s.expire (.fcCycle p) = some u → u.get FC_PORT_RUNG p = 2 →
    exec (.cycleHoldExpiry p) s = .next (u.set FC_PORT_RUNG 0 p)) ∧
  (∀ (s u : State) (p : Nat), s.expire (.fcDpc p) = some u → exec (.managedDpcRelease p) s = .next (u.uncontain p)) ∧
  (∀ (s u : State) (k : Nat) (r : OmiRun), s.runsHere k 0x0A02 (nodeArg 0) r → u = s.begun r false → r.arg 0 1 ≤ 15 → r.arg 1 1 ≤ 47 →
    u.get FC_PORT_RUNG (r.arg 1 1) ≠ 0 → exec (.releasePort k) s = .next ((u.releasePort (r.arg 1 1)).finish r.id ok)) ∧
  (∀ (s : State) (p : Nat), p < 48 → s.get FC_PORT_RUNG p ≠ 0 → exec (.fcPortRel p) s = .next (s.releasePort p)) ∧
  (∀ (s u : State) (k : Nat) (r : OmiRun), s.runsHere k 0x0A03 (nodeArg 0) r → u = s.begun r false → r.arg 0 1 ≤ 15 → r.arg 4 4 < 2 ^ 31 →
    exec (.injectFault k) s = .next ((u.inject (r.arg 4 4)).finish r.id ok)) ∧
  (∀ (s : State) (v : Nat), exec (.fcInjectWrite v) s = .next (s.inject v).settle) ∧
  (∀ (s : State) (v : Nat), exec (.fcStatusClear true v) s =
    .next ((List.range 24).foldl (fun s n => if bit v n then s.setCap (32 + n) none else s) s) ∧
    exec (.fcStatusClear false v) s = .next ((List.range 32).foldl (fun s n => if bit v n then s.setCap n none else s) s))

/-- Mailboxes, event queues and SMBus (R387 to R397): GO, writes of the buffer, the ends of commands, HEAD, a firmware message, a forwarded
command tried again, a session that times out, and the block transfers. -/
def Obligations.MailboxesComplete : Prop :=
  (∀ (s : State) (k : Nat), exec (.mailboxGo k) s = .next (s.boxGo k)) ∧
  (∀ (s : State) (k off : Nat) (xs : List Nat), exec (.commandBufferWrite k off xs) s = .next (s.boxWrite k off xs)) ∧
  (∀ (s : State) (k : Nat), k < 18 → s.fwUp = true → exec (.commandComplete k) s = .next (s.boxComplete k) ∧
    exec (.deferredCommandComplete k) s = .next (s.deferredEnd k)) ∧
  (∀ (s : State) (k v : Nat), k < 16 → s.on PART_CTRL_VALID k = true → exec (.eventQueueHeadWrite k v) s = .next (s.headWrite k v)) ∧
  (∀ (s u : State) (src q n : Nat) (e : Ev), s.takeFw src q (.event q n e) = some u →
    exec (.firmwareMessageReceive src q (.event q n e)) s = .next (u.fwCame src q (.event q n e)).settle) ∧
  (∀ (s : State) (id n : Nat) (x : Nat × Nat × Nat) (w : OmiWork), (s.mb.retry.find? fun x => x.1 == id && x.2.1 == n) = some x →
    s.work id = some w → s.now < x.2.2 → exec (.forwardedCommandRetry id n) s = .next (s.forward w.run n)) ∧
  (∀ s u : State, s.expire .session = some u → exec .sessionTimeout s = .next { u with img.session := none }) ∧
  (∀ (s : State) (off : Nat) (xs : List Nat), off < 0x800 → xs ≠ [] → xs.length ≤ 253 →
    exec (.smbusBlockWrite off xs true) s = .next (s.boxWrite 16 off xs)) ∧
  (∀ (s : State) (off : Nat), off < 0x1000 → Completes (.smbusSetReadPointer off true) s fun t => (t.mbox 16).ptr = off ∧ t.fields = s.fields) ∧
  (∀ (s : State) (n : Nat), (s.mbox 16).ptr + 255 ≤ 0x800 → n ≤ 255 →
    Completes (.smbusBlockRead n) s fun t => (t.mbox 16).ptr = (s.mbox 16).ptr + n ∧
      t.out = s.out ++ [.smbus ((List.range n).map fun i => s.pageByte ((s.mbox 16).ptr + i))])

/-- Groups 0x00 to 0x0F of registers (R413): Read Registers reads a run of dwords of a block; Write Registers with a bad item answers
PARAMETER and changes nothing else. -/
def Obligations.RegisterGroupsComplete : Prop :=
  (∀ (s u : State) (k : Nat) (w : OmiWork) (r : OmiRun) (op : Nat), (s.mbox k).running = some w → op = w.run.opcode → op % 256 = 0 →
    groupBlocks (op / 256) ≠ [] → s.runsHere k op (s.nodesArg 0) r → u = s.begun r false →
    (groupBlocks (op / 256)).contains (r.arg 2 1) = true → r.arg 4 2 % 4 = 0 → r.arg 6 2 = 1 → regAt (r.arg 2 1) (r.arg 4 2) = none →
    exec (.readRegisters k) s = .next (u.finish r.id (ok (le 4 0)))) ∧
  (∀ (s u : State) (k : Nat) (w : OmiWork) (r : OmiRun) (op : Nat) (rg : Reg) (i dw : Nat) (y : Nat × State), (s.mbox k).running = some w →
    op = w.run.opcode → op % 256 = 0 → groupBlocks (op / 256) ≠ [] → s.runsHere k op (s.nodesArg 0) r → u = s.begun r false →
    (groupBlocks (op / 256)).contains (r.arg 2 1) = true → r.arg 4 2 % 4 = 0 → r.arg 6 2 = 1 →
    regAt (r.arg 2 1) (r.arg 4 2) = some (rg, i, dw) → y = u.readDword rg i dw →
    exec (.readRegisters k) s = .next (y.2.finish r.id (ok (le 4 y.1)))) ∧
  (∀ (s u : State) (k : Nat) (w : OmiWork) (r : OmiRun) (op : Nat), (s.mbox k).running = some w → op = w.run.opcode → op % 256 = 1 →
    groupBlocks (op / 256) ≠ [] → s.wrBad w.run = true → s.runsHere k op s.hereArg r → u = s.begun r false →
    exec (.writeRegisters k) s = .next (u.finish r.id (rsp stParameter))) ∧
  (∀ (s u : State) (k : Nat) (w : OmiWork) (r : OmiRun) (op : Nat), (s.mbox k).running = some w → op = w.run.opcode → op % 256 = 1 →
    groupBlocks (op / 256) ≠ [] → s.wrBad w.run = false → s.runsHere k op (s.nodesArg 0) r → u = s.begun r true → r.arg 2 1 ≠ 8 →
    exec (.writeRegisters k) s = .next ((r.wrItems.foldl (fun s x => s.applyItem (r.arg 2 1) x) u).finish r.id ok))

/-- Images and identity (R400 to R403, R415, R427): staging opens, takes data and closes; an activation goes through its phases; a commit, the
fuse, and what is read. -/
def Obligations.ImagesComplete : Prop :=
  (∀ (s u : State) (k : Nat) (r : OmiRun), s.runsHere k 0x0D01 (nodeArg 0) r → u = s.begun r false → u.img.session = none → r.token ≠ 0 →
    r.arg 1 1 ≤ 1 → r.arg 1 1 ≠ u.img.slot →
    exec (.beginStage k) s = .next ((u.setSession { kind := 1, token := r.token, part := r.part, slot := r.arg 1 1 }).finish r.id ok)) ∧
  (∀ (s u : State) (k : Nat) (r : OmiRun) (x : Session), s.runsHere k 0x0D02 (nodeArg 0) r → u = s.begun r false → u.staging r = .ok x →
    r.arg 4 4 + (r.params.drop 8).length ≤ 0x100000 →
    exec (.writeStage k) s = .next ((((u.flashWrite (slotBase x.slot + r.arg 4 4) (r.params.drop 8)).unverify x.slot).setSession x).finish r.id ok)) ∧
  (∀ (s u : State) (k : Nat) (r : OmiRun) (x : Session), s.runsHere k 0x0D03 (nodeArg 0) r → u = s.begun r false → u.staging r = .ok x →
    (r.arg 1 1).testBit 0 = true → exec (.endStage k) s = .next (u.closeSession.finish r.id ok)) ∧
  (∀ (s u : State) (k : Nat) (r : OmiRun), s.runsHere k 0x0D04 (nodeArg 0) r → u = s.begun r false → u.stagingOpen = false → r.arg 1 1 ≤ 1 →
    u.mayActivate (r.arg 1 1) = true →
    exec (.activateImage k) s = .next (({ u with img.act := some { phase := 1, slot := r.arg 1 1, cmd := some r.id } }.showBusy true false 200).start
      .quiesce15 50000000)) ∧
  (∀ (s : State) (a : Activation), s.img.act = some a → a.phase = 1 → (∀ k ∈ boxes, s.boxWaits k = false) →
    exec .activationQuiesceEnd s = .next { boxes.foldl (fun s k => s.abortBox k) (s.stop .quiesce15) with img.act := some { a with phase := 2 } }) ∧
  (∀ (s : State) (a : Activation), s.img.act = some a → a.phase = 2 → s.slotOk a.slot = false →
    exec .activationCheckDone s = .next (s.endAct a false)) ∧
  (∀ (s : State) (a : Activation), s.img.act = some a → a.phase = 2 → s.slotOk a.slot = true →
    exec .activationCheckDone s = .next ({ s with img.act := some { a with phase := 3, hash := s.slotHash a.slot } }.fwReady false)) ∧
  (∀ (s : State) (a : Activation), s.img.act = some a → a.phase = 3 → s.slotHash a.slot = a.hash →
    exec .activationSwitchoverEnd s = .next ((s.runImage a.slot).tellPeers.endAct a true)) ∧
  (∀ (s u : State) (k : Nat) (r : OmiRun), s.runsHere k 0x0D05 (nodeArg 0) r → u = s.begun r false → u.stagingOpen = false →
    r.arg 1 1 ≤ 1 → r.arg 1 1 = u.img.slot →
    exec (.commitImage k) s = .next (({ u.writeSelector (r.arg 1 1) u.img.hdr.version with img.committed := true }.notice92 3).finish r.id ok)) ∧
  (∀ (s u : State) (k : Nat) (r : OmiRun), s.runsHere k 0x0D06 (nodeArg 0) r → u = s.begun r false → u.img.committed = true →
    exec (.advanceSecurityVersion k) s = .next ({ u with img.fuse := max u.img.fuse u.img.hdr.secVer }.finish r.id ok)) ∧
  (∀ (s u : State) (k : Nat) (r : OmiRun), s.runsHere k 0x0D07 (nodeArg 0) r → u = s.begun r false →
    Completes (.readFirmwareStatus k) s fun t => ∃ xs : List Nat, t = u.finish r.id (ok xs) ∧ xs.length = 20 ∧ xs.take 1 = [u.img.slot] ∧
      (xs.drop 2).take 6 = le 3 (u.slotHdr 0).version ++ le 3 (u.slotHdr 1).version ∧ (xs.drop 14).take 2 = le 2 u.img.fuse) ∧
  (∀ (s u : State) (k : Nat) (r : OmiRun), s.runsHere k 0x0101 (s.nodesArg 0) r → u = s.begun r false →
    exec (.getIdentity k) s = .next (u.finish r.id (ok (le 2 0x1FD4 ++ le 2 0x5168 ++ [0, u.nodeId] ++ le 3 u.img.hdr.version ++ [u.img.slot] ++
      le 2 u.fwFeature ++ le 2 u.img.fuse ++ [0, 0] ++ le 8 Config.serial ++ le 2 (u.get RING_MEMBER_A_MEMBERS) ++ le 2 (u.get RING_MEMBER_B_MEMBERS) ++
      [if u.on PART_GLOBAL_FM_VALID then u.get PART_GLOBAL_FM_PART + 128 else 0, 0, 0, 0])))) ∧
  (∀ (s u : State) (k : Nat) (r : OmiRun), s.runsHere k 0x0102 (s.nodesArg 0) r → u = s.begun r false → r.arg 2 1 = 0 → r.arg 6 2 ≤ 2000 →
    exec (.readCertificate k) s = .next (u.finish r.id (ok (le 2 Config.deviceChain.length ++
      le 2 ((Config.deviceChain.drop (r.arg 4 2)).take (r.arg 6 2)).length ++ (Config.deviceChain.drop (r.arg 4 2)).take (r.arg 6 2))))) ∧
  (∀ (s u : State) (k : Nat) (r : OmiRun), s.runsHere k 0x0103 (s.nodesArg 0) r → u = s.begun r false → u.img.session = none → r.token ≠ 0 →
    r.arg 6 2 ≤ 2016 → r.arg 4 2 + r.arg 6 2 ≤ 8192 → r.arg 2 1 = 0 →
    exec (.installOwnerChain k) s = .next ((u.setSession { kind := 2, token := r.token, part := r.part
                                                           data := overlay [] (r.arg 4 2) (r.params.drop 8) }).finish r.id ok))

/-- Group 0x0E and Set Managed ASPM (R41, R42, R73, R292, R336, R426, R428). -/
def Obligations.FabricOmiCompletes : Prop :=
  (∀ (s u : State) (k : Nat) (r : OmiRun), s.runsHere k 0x0E02 (nodeArg 0) r → u = s.begun r false → r.arg 0 1 ≤ 15 → u.get PX_DUAL_FABRIC = 15 →
    exec (.joinFabric k) s = .next (u.startJoin.await r.id .join)) ∧
  (∀ (s u : State) (k : Nat) (r : OmiRun), s.runsHere k 0x0E03 (nodeArg 0) r → u = s.begun r false → r.arg 0 1 ≤ 15 → r.arg 1 1 = 3 →
    exec (.leavePlane k) s = .next (((u.startLeave .a).startLeave .b).await r.id (.leave 3))) ∧
  (∀ (s u : State) (k p : Nat) (r : OmiRun), s.runsHere k 0x0E04 (nodeArg 0) r → u = s.begun r false → r.arg 0 1 ≤ 15 → p = r.arg 1 1 → p ≤ 47 →
    u.fabricMode p = true → u.linkState p = lsActive → exec (.retrainLink k) s = .next ((u.schedule p rrFirmware).finish r.id ok)) ∧
  (∀ (s u : State) (k p : Nat) (r : OmiRun), s.runsHere k 0x0E05 (nodeArg 0) r → u = s.begun r false → r.arg 0 1 ≤ 15 → p = r.arg 1 1 → p ≤ 47 →
    r.arg 3 1 = 1 → r.arg 4 1 ≤ 32 → 1 ≤ r.arg 5 1 → r.arg 5 1 ≤ 8 → r.arg 6 2 = 0 → u.marginable p (r.arg 2 1) = true →
    exec (.marginLane k) s = .next (u.await r.id (.margin p (r.arg 2 1) (u.now + r.arg 5 1 * 1000000)))) ∧
  (∀ (s u : State) (k p : Nat) (r : OmiRun), s.runsHere k 0x0C03 (nodeArg 0) r → u = s.begun r false → r.arg 0 1 ≤ 15 → p = r.arg 1 1 → p ≤ 47 →
    r.arg 2 1 = 1 → u.role p = roleManaged →
    exec (.setManagedAspm k) s = .next ((u.updPx p fun x => { x with l1Enabled := true }).finish r.id ok))

/-- The performance monitor (R431, R432, R436 to R441): counters are read and cleared, a filter is armed, the seed restarts the generator, Shavings
leave the store oldest first, a bandwidth window ends. -/
def Obligations.MonitorCompletes : Prop :=
  (∀ (s u : State) (k : Nat) (r : OmiRun), s.runsHere k 0x0B02 (s.nodesArg 0) r → u = s.begun r false → 1 ≤ r.arg 4 2 → r.arg 4 2 ≤ 252 →
    r.arg 2 2 + r.arg 4 2 ≤ 1472 →
    exec (.readCounters k) s = .next (u.finish r.id (ok (le 8 u.spindleNs ++
      (List.range (r.arg 4 2)).flatMap fun j => le 8 (u.get PMON_EVT_COUNT (r.arg 2 2 + j)))))) ∧
  (∀ s : State, Completes .clrEvt s fun t => ∀ n < 1472, t.get PMON_EVT_COUNT n = 0) ∧
  (∀ s : State, Completes .clrFlt s fun t => ∀ n < 64, t.get FLT_CNT_COUNT n = 0) ∧
  (∀ (s : State) (f v : Nat), f < 64 → Completes (.fltCtrlWrite f v) s fun t => t.get FLT_CNT_COUNT f = 0) ∧
  (∀ (s : State) (v : Nat), 0 < v → v < 2 ^ 32 → Completes (.shvSeedWrite v) s fun t => t.get PMON_SHV_SEED_SEED = v ∧ t.pmon.drawn = 0) ∧
  (∀ (s u : State) (k n : Nat) (r : OmiRun), s.runsHere k 0x0B03 (s.nodesArg 0) r → u = s.begun r false → n = r.arg 2 1 → n ≤ 31 → r.arg 3 1 = 0 →
    Completes (.readShavings k) s fun t => t.pmon.shavings = u.pmon.shavings.drop n) ∧
  (∀ s : State, s.on PMON_BW_CFG_EN = true →
    exec .bwWindowEnd s = .next (s.until ((s.pmon.winStart / (1000 * s.get PMON_BW_CFG_LEN) + 1) * (1000 * s.get PMON_BW_CFG_LEN))).bwEnd) ∧
  (∀ (s : State) (v : Nat), s.on PMON_BW_CFG_EN = false →
    exec (.bwCfgWrite v) s = .next (Reg.PMON_BW_CFG.fields.foldl (fun s x => s.write x (v / 2 ^ x.lsb)) s).bwStart)

/-- Power levels and voltage (R426, R446 to R449, R472, R542): a level is asked for, the voltage is confirmed or not, the clocks ramp, the
temperature is taken. -/
def Obligations.PowerLevelsComplete : Prop :=
  (∀ (s u : State) (k : Nat) (r : OmiRun), s.runsHere k 0x0C02 (s.nodesArg 0) r → u = s.begun r true → r.arg 2 1 ≤ 1 → u.pwState ≠ pwEntering →
    u.pwState ≠ pwAsleep → exec (.setPowerLevel k) s = .next ({ u with pw.cmds := u.pw.cmds ++ [(r.id, r.arg 2 1)] }.plTarget (r.arg 2 1))) ∧
  (∀ (s : State) (v : Nat), exec (.plTargetWrite v) s = .next (s.plTarget (v % 4))) ∧
  (∀ (s u : State) (v : Nat) (m : Move), s.pw.unconfirmed = true → u = s.avsRead v → u.pw.volt ≤ v + 10 → v ≤ u.pw.volt + 10 →
    u.pw.move = some m → m.ramp = false → m.dst < m.src →
    exec (.dvfsReadback (some v)) s = .next { u.stop .vTmo with pw.unconfirmed := false, pw.move := some { m with ramp := true } }) ∧
  (∀ (s : State), s.pw.freq ≠ 0 → s.pw.freq < s.rampTarget → s.pw.move = none →
    Completes .clockRampStep s fun t => t.pw.freq = min s.rampTarget (s.pw.freq + s.rampTarget / 32) ∧ t.fields = s.fields) ∧
  (∀ (s u : State), s.expire .vTmo = some u → u.pw.move = none →
    exec .dvfsTimeout s = .next { u with pw.unconfirmed := false }) ∧
  (∀ (s u : State) (v : Nat), s.asleep < 2 → u = s.avsRead v → 570 ≤ v → u.pw.volt * 95 ≤ v * 100 → v * 100 ≤ u.pw.volt * 105 →
    exec (.avsVoltagePoll (some v)) s = .next { u with pw.outside := none }) ∧
  (∀ (s : State) (v : Int), s.asleep ≠ 3 → 0 ≤ v → v < 135 → v ≤ (s.get FC_POLICY_T_WARN : Int) →
    Completes (.thermalSample [v]) s fun t => t.get PWR_THERM_TJ = (v + 64).toNat % 2 ^ PWR_THERM_TJ.width ∧ t.get PWR_THERM_SENSOR = 0)

/-- Sleep levels (R451 to R457): a sleep is asked for, its steps end, an idle node enters SL1, sources wake it, pads are released, and a wake
ends. -/
def Obligations.SleepCompletes : Prop :=
  (∀ (s u : State) (k : Nat) (r : OmiRun), s.runsHere k 0x0C04 (s.nodesArg 0) r → u = s.begun r false → 1 ≤ r.arg 2 1 → r.arg 2 1 ≤ 3 →
    u.maySleep (r.arg 2 1) = true → exec (.requestSleep k) s = .next (u.sleepAsk (r.arg 2 1) (some r.id))) ∧
  (∀ (s : State) (x : Sleep), s.pw.sleep = some x → x.step = 2 → x.pme = [] →
    exec .sleepPmeWaitEnd s = .next ((s.stop .sleepPme).sleepLinks x)) ∧
  (∀ (s : State) (x : Sleep), s.pw.sleep = some x → x.step = 3 → s.get JNL_OCC_USED = 0 → exec .sleepDrainEnd s = .next (s.sleepCommits x)) ∧
  (∀ (s : State) (x : Sleep), s.pw.sleep = some x → x.step = 4 → x.cmd = none → exec .sleepCommit s = .next (s.sleepLeaves x)) ∧
  (∀ s u : State, s.expire .sl1Idle = some u → u.idleNode = true →
    exec .sl1IdleExpiry s = .next ((u.set PWR_STATUS_STATE pwEntering).sleepLatch { level := 1, step := 5 })) ∧
  (∀ (s : State) (m : Nat), exec (.wakeEvent m) s = .next (s.wakeSources m)) ∧
  (∀ (s u : State) (b : Nat), s.expire .sl3Hold = some u → u.pw.pendWake = some b → u.asleep = 3 →
    exec .sl3HoldEnd s = .next ((u.mainReset true).showWake b)) ∧
  (∀ s u : State, s.expire .wakeTmr = some u → exec .wakeTimerExpiry s = .next (u.wakeSources 16)) ∧
  (∀ (s : State) (v : Nat), exec (.padholdRelease v) s = .next (s.padRelease v)) ∧
  (∀ s : State, s.pwState = pwWaking → s.pw.freq ≠ 0 →
    exec .wakeFirmwareReady s = .next s.wakeDone)

/-- The clock manager (R462, R465 to R475): windows and edges judge the inputs, a reference switch and a lock loss are noted, early boot ends
with the PLLs locked or times out. -/
def Obligations.ClocksComplete : Prop :=
  (∀ (s u : State) (x a b l : Nat), s.asleep = 0 →
    u = [(0, x), (1, a), (2, b), (3, l)].foldl (fun (s : State) y => if s.judges y.1 then s.coarse y.1 y.2 else s) s → u.asleep ≠ 3 →
    exec (.coarseWindowEnd x a b l) s = .next u.clocksChanged) ∧
  (∀ (s : State) (i : Nat), i ≤ 3 → s.ckFitted i = true → s.judges i = true → (s.reject i).asleep ≠ 3 →
    exec (.missingEdge i) s = .next (s.reject i).clocksChanged) ∧
  (∀ (s : State) (a b : Nat), s.ckState 0 ≠ ckRejected → s.on CLK_STATUS_EARLY = false → s.asleep < 2 →
    exec (.fineWindowEnd a b) s =
      .next (s.fine (if s.pairChecked 1 then some a else none) (if s.pairChecked 2 then some b else none)).clocksChanged) ∧
  (∀ (s : State) (pll : Nat) (x : Nat × Nat × Bool), (s.ck.holding.find? fun x => x.1 == pll) = some x → x.2.2 = true →
    exec (.pllReferenceSwitchEnd pll) s =
      .next ((({ s with ck.holding := s.ck.holding.filter fun y => y.1 != pll }.set (pllSrc pll) x.2.1).bump CLK_CNT_SWITCH_COUNT).clocksChanged)) ∧
  (∀ (s : State) (pll : Nat), pll ≤ 2 → s.on (pllLock pll) = true →
    exec (.pllLockLoss pll) s = .next ((s.set (pllLock pll) 0).reportNode 41 4 0x600C)) ∧
  (∀ s u : State, s.expire .earlyBoot = some u → u.on CLK_STATUS_EARLY = true → u.pllChoice = none →
    exec .earlyBootSourceTimeout s = .next (u.reportNode 41 4 0x600C)) ∧
  (∀ (s u : State) (i : Nat), s.pwState ≠ pwWaking → s.on CLK_STATUS_EARLY = true → s.boot.main = true → s.nodeState ≠ 3 → s.pllChoice = some i →
    u = [0, 1, 2].foldl (fun (s : State) n => (s.set (pllSrc n) i).set (pllLock n) 1) s →
    exec .pllsLocked s = .next { ((u.set CLK_STATUS_EARLY 0).set CLK_STATUS_REFDIST_SRC u.distChoice).stop .earlyBoot with
                                 pw.freq := 100 }.clocksChanged)

/-- Reset and bring-up (R481, R496, R499 to R505, R508, R509): both power-on resets, the straps, the boot ROM, an image, the steps of firmware
and the end of a node reset. -/
def Obligations.BringUpCompletes : Prop :=
  (∀ s : State, exec .fullPowerOnReset s = .next s.fullReset) ∧
  (∀ s : State, s.asleep ≠ 3 → s.boot.main = true → exec .mainPowerOnReset s = .next (s.mainReset false)) ∧
  (∀ (s u : State) (v : Nat), s.expire .strap = some u →
    Completes (.strapLatch v) s fun t => t.get MB_STRAP_NODE_ID = v % 16 ∧ t.get MB_STRAP_BOOT_MODE = v / 1024 % 4) ∧
  (∀ s : State, s.boot.main = false → s.runs .strap = false → s.asleep ≠ 3 → s.get MB_STRAP_BOOT_MODE = 0 →
    Completes .mainRailsValid s fun t => t.boot.main = true ∧ t.boot.rom = true ∧ t.runs .earlyBoot = true ∧ t.fields = s.fields) ∧
  (∀ (s u : State) (xs : List (Nat × List Nat)), s.boot.rom = true → s.nodeState ≠ 3 → s.pw.freq ≠ 0 → s.get MB_STRAP_BOOT_MODE = 0 → s.bootImage = some u →
    u.nodeState ≠ 2 → u.record = some xs →
    exec .bootRomImageLoaded s = .next ({ (u.set MB_BOOT_RECORD_OK 1).applyRecord xs with boot.waits := true }.set MB_BOOT_STAGE 2)) ∧
  (∀ s : State, s.boot.rom = true → s.nodeState ≠ 3 → s.pw.freq ≠ 0 → s.get MB_STRAP_BOOT_MODE = 0 → s.bootImage = none →
    exec .bootRomImageLoaded s = .next ({ s with boot.rom := false }.reportNode 38 4 0x6009)) ∧
  (∀ s : State, s.boot.waits = true → s.jnl.recovered = true → s.nodeState ≠ 3 → s.record = none →
    exec .firmwareBringupResume s = .next s.recordInvalid) ∧
  (∀ (s u : State) (xs : List (Nat × List Nat)), s.boot.waits = true → s.jnl.recovered = true → s.nodeState ≠ 3 → s.record = some xs →
    u = ((((((bootChans xs).foldl (fun (s : State) c => s.spEnable c) { s with boot.waits := false }).bootParts xs).admitEn).openPorts.set MB_BOOT_STAGE 5).fwReady
      true).raiseLosses → u.boot.sl3 = false → u.joinAfter xs = none → exec .firmwareBringupResume s = .next u) ∧
  (∀ (s : State) (image : List Nat), s.boot.recovery = true → s.boot.main = true → s.boot.running = false → imageOk s.img.fuse image = true →
    exec (.uartRecoveryImage image []) s =
      .next { s with boot.running := true, img.hdr := imgHdr image, fwFeature := (imgHdr image).feature }) ∧
  (∀ s u : State, s.expire .bootJoin = some u → exec .bootJoinTimer s = .next u.startJoin) ∧
  (∀ s : State, s.nodeState = 2 → s.boot.running = true → s.pfPhase = pfNormal →
    exec (.nodeResetEnd false false) s = .next ((s.stop .nodeReset).reportNode 54 4 0x6003)) ∧
  (∀ (s u : State) (xs : List (Nat × List Nat)), s.nodeState = 2 → s.boot.running = true → s.pfPhase = pfNormal →
    u = (s.stop .nodeReset).set FC_STATE_NODE_STATE 0 → u.record = some xs →
    exec (.nodeResetEnd true true) s = .next (u.nodeResetDone xs))

/-- What a step does: it runs the command at the front of the queue on the rest of the queue. -/
def Obligations.StepRunsFrontCommand : Prop :=
  ∀ (c : Instr) (q : List Instr) (s : State), step { s with pending := c :: q } = exec c { s with pending := q }

/-- On an empty queue a step is one tick: local time moves by one nanosecond, or further where a wait of firmware ends (the model's choice,
see the assumption log under the tick). -/
def Obligations.StepIdleTicks : Prop := ∀ s : State, s.pending = [] → step s = .next s.tick

/-- The state after reset meets the registers' invariant: nothing is listed, so every register reads its reset value. -/
def Obligations.ResetKeepsInvariant : Prop :=
  State.reset.Inv ∧ (∀ (f : Fld) (i : Nat), State.reset.get f i = fieldReset (f.key i)) ∧ State.reset.pending = []

/-- Every step keeps the registers' table canonical and every field within its width (R12), whatever command waits. -/
def Obligations.StepKeepsInvariant : Prop := ∀ s t : State, s.Inv → step s = .next t → t.Inv

/-- Every command completes in every state: none faults and none is refused. -/
def Obligations.NoCommandStops : Prop := ∀ (c : Instr) (s : State), ∃ t, exec c s = .next t

/-- No command touches the queue of waiting commands, and local time never goes back. -/
def Obligations.CommandsKeepQueueAndTime : Prop :=
  ∀ (c : Instr) (s t : State), exec c s = .next t → t.pending = s.pending ∧ s.now ≤ t.now

/-- Frames of commands that write registers alone: everything in the state but the named parts stays, and every field but the named ones
reads as before. -/
def Obligations.RegisterCommandFrames : Prop :=
  (∀ (s t : State) (r : Reg) (i v : Nat), r ∈ plainRegs → exec (.registerWrite r i 0 v) s = .next t →
    (∃ h, t = { s with fields := t.fields, hold := h }) ∧ ∀ (f : Fld) (j : Nat), (∀ g ∈ r.fields, g.key i ≠ f.key j) → t.get f j = s.get f j) ∧
  (∀ (s t : State) (k : Nat), exec (.narrowRegisterWrite (some k)) s = .next t →
    t = { s with fields := t.fields } ∧ ∀ (f : Fld) (j : Nat), f.key j ≠ MB_ACC_ERR_COUNT.key k → t.get f j = s.get f j) ∧
  (∀ (s t : State) (r : Reg) (i : Nat), exec (.wideRegisterRead r i) s = .next t → ∃ h, t = { s with hold := h }) ∧
  (∀ (s t : State), exec .clrEvt s = .next t →
    t = { s with fields := t.fields } ∧ ∀ (f : Fld) (j : Nat), (∀ n < 1472, PMON_EVT_COUNT.key n ≠ f.key j) → t.get f j = s.get f j) ∧
  (∀ (s t : State), exec .clrFlt s = .next t →
    t = { s with fields := t.fields } ∧ ∀ (f : Fld) (j : Nat), (∀ n < 64, FLT_CNT_COUNT.key n ≠ f.key j) → t.get f j = s.get f j) ∧
  (∀ (s t : State) (v : Nat), exec (.shvSeedWrite v) s = .next t →
    (∃ m, t = { s with fields := t.fields, pmon := m }) ∧
    ∀ (f : Fld) (j : Nat), f.key j ≠ PMON_SHV_SEED_SEED.key 0 → t.get f j = s.get f j) ∧
  (∀ (s t : State) (p l : Nat), exec (.clrUnfit p l) s = .next t →
    t = { s with fields := t.fields } ∧ ∀ (f : Fld) (j : Nat), f.key j ≠ LN_LANE_STAT_UNFIT.key (laneKey p l) →
      f.key j ≠ LN_LANE_STAT_CAUSE.key (laneKey p l) → f.key j ≠ LN_PORT_STAT_UNFIT.key p → t.get f j = s.get f j) ∧
  (∀ (s t : State), exec .elogClr s = .next t →
    t = { s with fields := t.fields } ∧ ∀ (f : Fld) (j : Nat), LB_STATUS_ELOG_COUNT.key 0 ≠ f.key j → LB_STATUS_ELOG_OVF.key 0 ≠ f.key j →
      (∀ r ∈ [Reg.LB_ELOG_ADDR, .LB_ELOG_INFO, .LB_ELOG_REQ, .LB_ELOG_TIME], ∀ g ∈ r.fields, ∀ n < 16, g.key n ≠ f.key j) →
      t.get f j = s.get f j) ∧
  (∀ (s u t : State) (v : Nat), s.expire .strap = some u → exec (.strapLatch v) s = .next t →
    t = { u with fields := t.fields } ∧ ∀ (f : Fld) (j : Nat), (∀ g ∈ Reg.MB_STRAP.fields, g.key 0 ≠ f.key j) → t.get f j = s.get f j) ∧
  (∀ (s t : State) (xs : List Int), exec (.thermalSample xs) s = .next t →
    (∃ rs, t = { s with fields := t.fields, reports := rs }) ∧ ∀ (f : Fld) (j : Nat), (∀ g ∈ Reg.PWR_THERM.fields, g.key 0 ≠ f.key j) →
      t.get f j = s.get f j)

/-- A flit is a code word (R45, R52): whatever its 240 bytes and its check sequence, its 256 bytes have syndrome 0 at every root of the
generator. -/
def Obligations.FlitsAreCodeWords : Prop :=
  ∀ (seq : Nat) (xs : List Nat), xs.length = 240 → (∀ b ∈ xs, b < 256) →
    (flitBytes seq xs).length = 256 ∧ (∀ b ∈ flitBytes seq xs, b < 256) ∧ rsOk (flitBytes seq xs) = true

/-- What is written as bytes or dwords is read back whole: little-endian values (R14), a window entry (Table 04.1) and what a Write Turn sets
of a Turn entry (Table 07.7). -/
def Obligations.EntriesReadBack : Prop :=
  (∀ n v : Nat, (le n v).length = n ∧ leNat (le n v) = v % 256 ^ n ∧ unLe (le n v) = v % 256 ^ n) ∧
  (∀ e : WEnt, e.tgtPart < 64 → e.tgtNode < 16 → e.tgtCs < 4 → e.kind < 16 → e.size < 64 → e.tgtInst < 512 → e.base < 2 ^ 64 →
    e.base % 4096 = 0 → e.offset < 2 ^ 64 → e.offset % 4096 = 0 → wentFrom (wentWords e) = e) ∧
  (∀ old t : Turn, t.action < 16 → t.count < 2 ^ 16 → t.start < 2 ^ 64 → t.period < 2 ^ 32 → t.arg < 2 ^ 64 → t.data < 2 ^ 64 →
    (∀ k, t.owner = some k → k < 64) → turnFrom old (turnBytes t) =
      { old with tt := t.tt, action := t.action, count := t.count, start := t.start, period := t.period, arg := t.arg, data := t.data, n := 0 })

/-- What crosses the links stands in its bytes and is read back from them: a flit header (R46), a packet header (R50), a journal control record
(R168), the payload of every flit but a DATA flit (R47, R65, R70, R196, R200, R330). A flit has 240 bytes before its CRC (R45). The lanes carry
every byte of a flit (R48), scrambling twice gives the bits back (R324), twelve consecutive cells use each bank once (R134), and the frame
of an event of 4 to 56 bytes fills a slot (R394). -/
def Obligations.WireLayoutsReadBack : Prop :=
  (∀ f : Flit, f.hdr.ack < 4096 → f.hdr.crCount < 32 → (∀ vc n ps, f.body = .data vc n ps → n < 64) →
    readFlitHdr (flitHdr f) = some ⟨flitType f.body, f.hdr.ack, f.hdr.crVc, f.hdr.crCount,
      (match f.body with | .data vc _ _ => vc | _ => .p), (match f.body with | .data _ n _ => n | _ => 0)⟩) ∧
  (∀ (f : Flit) (xs : List Nat), (flitHdr f ++ payload xs f.body).length = 240) ∧
  (∀ r : Record, r.srcPart < 64 → r.srcNode < 16 → r.dstNode < 16 → r.len < 4096 → r.gen < 256 → r.dstPort < 64 → r.hops < 16 → r.seq < 2 ^ 32 →
    r.admitTs < 2 ^ 32 → r.inst = none → r.cs = 0 → (recordHdr r).length = 16 ∧ readRecordHdr r.body (recordHdr r) = some r) ∧
  (∀ (sub : Nat) (last : Bool) (xs : List JItem), sub < 256 → xs.length ≤ 91 →
    (∀ x ∈ xs, x.part < 64 ∧ x.reason < 256 ∧ x.seqA < 2 ^ 32 ∧ x.seqB < 2 ^ 32) →
    (ctlBytes sub last xs).length = 4 + 12 * xs.length ∧ readCtl (ctlBytes sub last xs) = some (.ctl sub last xs)) ∧
  (∀ (n : Nat) (xs ys : List Nat) (b : FlitBody), readBody n xs = some b → flitType b = n ∧ readBody n (payload ys b) = some b) ∧
  (∀ (w i : Nat) (xs : List Nat), 0 < w → i < xs.length → (laneBytes w (i % w) xs)[i / w]? = xs[i]?) ∧
  (∀ (x : Nat) (bs : List Bool), scramble x (scramble x bs) = bs) ∧
  (∀ c b : Nat, b < 48 → (∃ i j, i < 12 ∧ j < 4 ∧ bankOf (c + i) j = b ∧ ∀ m n, m < 12 → n < 4 → bankOf (c + m) n = b → m = i ∧ n = j)) ∧
  (∀ (f : Frame) (xs : List Nat), evBytes f.ev = some xs → 4 ≤ xs.length ∧ xs.length ≤ 56 ∧ ∃ ys, f.bytes = some ys ∧ ys.length = 64 ∧
    leAt ys 2 1 = xs.length ∧ (ys.drop 8).take xs.length = xs)

/-- Where a hit leads (R119, Table 04.2): a request that an entry lets go leaves with its address plus OFFSET modulo 2^64, its offset in the
4 KiB page unchanged, toward the target of the entry's KIND; KIND 5 denies it. -/
def Obligations.WindowTargets : Prop :=
  (∀ (s u : State) (part i n : Nat) (own : Option Nat) (t : Tlp) (e : WEnt) (g : Tgt) (a : Nat) (x : Bool), s.hit part t.addr = some (.ent i e) →
    s.lookup part own t = (.go g a (some n) x, u) →
    n = i ∧ a = (t.addr + e.offset) % 2 ^ 64 ∧ (e.offset % 4096 = 0 → a % 4096 = t.addr % 4096) ∧ e.kind ≠ 5 ∧
    (e.kind = 0 → g = .host part) ∧ (e.kind = 1 → g = .inst e.tgtNode e.tgtInst (s.vdspOf part e.tgtNode e.tgtInst)) ∧ (e.kind = 2 → g = .mgmt) ∧
    (e.kind = 3 → g = .host e.tgtPart) ∧ (e.kind = 4 → g = .bus e.tgtNode e.tgtCs)) ∧
  (∀ (s : State) (part i : Nat) (own : Option Nat) (t : Tlp) (e : WEnt), s.hit part t.addr = some (.ent i e) → e.kind = 5 →
    s.lookup part own t = (.denied 0xA, s))

/-- A wake from SL3 waits for the end of the first second (R456): step 7 starts one second; a wake source within it is held and the node stays
asleep; at its end the held source wakes the node; after it a source wakes the node at once. -/
def Obligations.WakeHeldForOneSecond : Prop :=
  (∀ (s : State) (x : Sleep), x.level = 3 → x.pfw = false → x.woken = none →
    ∃ v, (s.sleepDown x).expire .sl3Hold = some v ∧ v.now = s.now + 1000000000) ∧
  (∀ (s : State) (b : Nat), s.asleep = 3 → s.runs .sl3Hold = true → s.pw.pendWake = none →
    (s.wakeFrom b).pw.pendWake = some b ∧ (s.wakeFrom b).asleep = 3 ∧ (s.wakeFrom b).timers = s.timers) ∧
  (∀ (s u : State) (b : Nat), s.expire .sl3Hold = some u → u.pw.pendWake = some b → u.asleep = 3 →
    exec .sl3HoldEnd s = .next ((u.mainReset true).showWake b)) ∧
  (∀ (s : State) (b : Nat), s.asleep = 3 → s.runs .sl3Hold = false → s.wakeFrom b = (s.mainReset true).showWake b)

/-- Request Sleep is accepted only when every condition of R451 holds, and is answered STATE otherwise. -/
def Obligations.SleepAcceptedOnlyWhenAllowed : Prop :=
  (∀ (s : State) (level : Nat), s.maySleep level = true → s.pfPhase = pfNormal ∧ s.img.act = none ∧ s.nodeState = 0 ∧ s.armed = [] ∧
    (∀ c < 64, s.dmState c ≠ 1 ∧ s.dmState c ≠ 2) ∧
    (level ≠ 1 → ∀ p < 48, s.role p = roleUp → s.dlActive p = true → s.get PX_PORT_STAT_PM p = 2) ∧
    (level = 3 → s.channels = 0 → s.on PWR_CTRL_SL3_COLD_OK = true)) ∧
  (∀ (s u : State) (k : Nat) (r : OmiRun), s.runsHere k 0x0C04 (s.nodesArg 0) r → u = s.begun r false → 1 ≤ r.arg 2 1 → r.arg 2 1 ≤ 3 →
    u.maySleep (r.arg 2 1) = false → exec (.requestSleep k) s = .next (u.finish r.id (rsp stState)))

/-- The balls (R518, R522, R523): where a tile's ball lies and that it lies in that tile alone, and the nets of the supply band and of the core
field. -/
def Obligations.PackageNets : Prop :=
  (∀ t d w : Nat, t ≤ 43 → 1 ≤ d → d ≤ 8 → 1 ≤ w → w ≤ 5 →
    (t ≤ 10 → tileBall t d w = { row := d, col := 5 * t + w }) ∧
    (11 ≤ t → t ≤ 21 → tileBall t d w = { row := 5 * (t - 11) + w, col := 64 - d }) ∧
    (22 ≤ t → t ≤ 32 → tileBall t d w = { row := 64 - d, col := 64 - (5 * (t - 22) + w) }) ∧
    (33 ≤ t → tileBall t d w = { row := 64 - (5 * (t - 33) + w), col := d }) ∧
    regionOf (tileBall t d w).row (tileBall t d w).col = .tile t d w) ∧
  (∀ r c k : Nat, regionOf r c = .supply → 1 ≤ r → r ≤ 63 → 1 ≤ c → c ≤ 63 → k = min (min (r - 8) (c - 8)) (min (56 - r) (56 - c)) →
    1 ≤ k ∧ k ≤ 4 ∧ ((r + c) % 2 = 1 → netOf r c = .vss) ∧ ((r + c) % 2 = 0 → k ≤ 3 → netOf r c = .vddaSer) ∧
    ((r + c) % 2 = 0 → k = 4 → netOf r c = .vddhSer)) ∧
  (∀ r c : Nat, regionOf r c = .core →
    ((r + c) % 2 = 1 → netOf r c = .vss) ∧ ((r + c) % 2 = 0 → c % 4 = 0 → netOf r c = .vddSram) ∧
    ((r + c) % 2 = 0 → c % 4 ≠ 0 → netOf r c = .vddCore))
end

