-- ==== Sys2Proof/Laws/Tab.lean ====
section
/-! SUPPORT. What the table operations do: a read after a write, other keys untouched, the canonical form kept. -/

namespace Sys2Proof

variable {α : Type}

@[simp] theorem Tab.find?_nil (k : Nat) : Tab.find? ([] : Tab α) k = none := rfl

theorem Tab.find?_insert_same (t : Tab α) (k : Nat) (v : α) : Tab.find? (Tab.insert t k v) k = some v := by
  induction t with
  | nil => simp [Tab.insert, Tab.find?]
  | cons e t ih =>
    obtain ⟨k', v'⟩ := e
    unfold Tab.insert
    split
    · simp [Tab.find?]
    · split
      · simp [Tab.find?]
      · rename_i h1 h2
        simp [Tab.find?, ih, Ne.symm h2]

theorem Tab.find?_insert_other (t : Tab α) {k j : Nat} (v : α) (h : j ≠ k) :
    Tab.find? (Tab.insert t k v) j = Tab.find? t j := by
  induction t with
  | nil => simp [Tab.insert, Tab.find?, Ne.symm h]
  | cons e t ih =>
    obtain ⟨k', v'⟩ := e
    unfold Tab.insert
    split
    · simp [Tab.find?, Ne.symm h]
    · split
      · rename_i h2; subst h2; simp [Tab.find?, Ne.symm h]
      · simp [Tab.find?, ih]

theorem Tab.find?_erase_same (t : Tab α) (k : Nat) : Tab.find? (Tab.erase t k) k = none := by
  induction t with
  | nil => rfl
  | cons e t ih =>
    obtain ⟨k', v'⟩ := e
    unfold Tab.erase
    split
    · exact ih
    · rename_i h; simp [Tab.find?, h, ih]

theorem Tab.find?_erase_other (t : Tab α) {k j : Nat} (h : j ≠ k) :
    Tab.find? (Tab.erase t k) j = Tab.find? t j := by
  induction t with
  | nil => rfl
  | cons e t ih =>
    obtain ⟨k', v'⟩ := e
    unfold Tab.erase
    split
    · rename_i h2; subst h2; simp [Tab.find?, Ne.symm h, ih]
    · simp [Tab.find?, ih]

/-- A key reads as what was written to it. -/
theorem Tab.get_put_same [DecidableEq α] (d : α) (t : Tab α) (k : Nat) (v : α) :
    Tab.get d (Tab.put d t k v) k = v := by
  unfold Tab.get Tab.put
  split
  · rename_i h; simp [Tab.find?_erase_same, h]
  · simp [Tab.find?_insert_same]

/-- A write leaves every other key's value. -/
theorem Tab.get_put_other [DecidableEq α] (d d' : α) (t : Tab α) {k j : Nat} (v : α) (h : j ≠ k) :
    Tab.get d' (Tab.put d t k v) j = Tab.get d' t j := by
  unfold Tab.get Tab.put
  split
  · rw [Tab.find?_erase_other t h]
  · rw [Tab.find?_insert_other t v h]

/-- The canonical form as two facts: keys rise, and every entry differs from its default. -/
theorem Tab.wf_iff [DecidableEq α] (d : Nat → α) (t : Tab α) :
    Tab.wf d t = true ↔ t.Pairwise (fun x y => x.1 < y.1) ∧ ∀ e ∈ t, e.2 ≠ d e.1 := by
  induction t with
  | nil => simp [Tab.wf]
  | cons e t ih =>
    obtain ⟨k, v⟩ := e
    cases t with
    | nil => simp [Tab.wf]
    | cons e' t' =>
      obtain ⟨k', v'⟩ := e'
      simp only [Tab.wf, Bool.and_eq_true, decide_eq_true_eq, ih]
      constructor
      · rintro ⟨⟨h1, h2⟩, h3, h4⟩
        refine ⟨List.pairwise_cons.2 ⟨?_, h3⟩, ?_⟩
        · intro a ha
          rcases List.mem_cons.1 ha with h | h
          · rw [h]; exact h2
          · exact Nat.lt_trans h2 ((List.pairwise_cons.1 h3).1 a h)
        · intro a ha
          rcases List.mem_cons.1 ha with h | h
          · rw [h]; exact h1
          · exact h4 a h
      · rintro ⟨h1, h2⟩
        have h3 := List.pairwise_cons.1 h1
        exact ⟨⟨h2 (k, v) (by simp), h3.1 (k', v') (by simp)⟩, h3.2, fun a ha => h2 a (List.mem_cons_of_mem _ ha)⟩

theorem Tab.mem_insert {t : Tab α} {k : Nat} {v : α} {e : Nat × α} (h : e ∈ Tab.insert t k v) : e = (k, v) ∨ e ∈ t := by
  induction t with
  | nil => simp [Tab.insert] at h; exact .inl h
  | cons a t ih =>
    obtain ⟨k', v'⟩ := a
    unfold Tab.insert at h
    split at h
    · rcases List.mem_cons.1 h with h | h
      · exact .inl h
      · exact .inr h
    · split at h
      · rcases List.mem_cons.1 h with h | h
        · exact .inl h
        · exact .inr (List.mem_cons_of_mem _ h)
      · rcases List.mem_cons.1 h with h | h
        · exact .inr (by rw [h]; exact List.mem_cons_self)
        · rcases ih h with h | h
          · exact .inl h
          · exact .inr (List.mem_cons_of_mem _ h)

theorem Tab.mem_erase {t : Tab α} {k : Nat} {e : Nat × α} (h : e ∈ Tab.erase t k) : e ∈ t := by
  induction t with
  | nil => simp [Tab.erase] at h
  | cons a t ih =>
    obtain ⟨k', v'⟩ := a
    unfold Tab.erase at h
    split at h
    · exact List.mem_cons_of_mem _ (ih h)
    · rcases List.mem_cons.1 h with h | h
      · rw [h]; exact List.mem_cons_self
      · exact List.mem_cons_of_mem _ (ih h)

theorem Tab.insert_sorted {t : Tab α} (k : Nat) (v : α) (h : t.Pairwise (fun x y => x.1 < y.1)) :
    (Tab.insert t k v).Pairwise (fun x y => x.1 < y.1) := by
  induction t with
  | nil => simp [Tab.insert]
  | cons a t ih =>
    obtain ⟨k', v'⟩ := a
    have hc := List.pairwise_cons.1 h
    unfold Tab.insert
    split
    · rename_i hk
      refine List.pairwise_cons.2 ⟨?_, h⟩
      intro e he
      rcases List.mem_cons.1 he with he | he
      · rw [he]; exact hk
      · exact Nat.lt_trans hk (hc.1 e he)
    · split
      · rename_i hk; subst hk
        exact List.pairwise_cons.2 ⟨fun e he => hc.1 e he, hc.2⟩
      · rename_i h1 h2
        refine List.pairwise_cons.2 ⟨?_, ih hc.2⟩
        intro e he
        rcases Tab.mem_insert he with he | he
        · rw [he]; show k' < k; omega
        · exact hc.1 e he

theorem Tab.erase_sorted {t : Tab α} (k : Nat) (h : t.Pairwise (fun x y => x.1 < y.1)) :
    (Tab.erase t k).Pairwise (fun x y => x.1 < y.1) := by
  induction t with
  | nil => simp [Tab.erase]
  | cons a t ih =>
    obtain ⟨k', v'⟩ := a
    have hc := List.pairwise_cons.1 h
    unfold Tab.erase
    split
    · exact ih hc.2
    · exact List.pairwise_cons.2 ⟨fun e he => hc.1 e (Tab.mem_erase he), ih hc.2⟩

/-- A write keeps the canonical form. -/
theorem Tab.put_wf [DecidableEq α] (d : Nat → α) (t : Tab α) (k : Nat) (v : α) (h : Tab.wf d t = true) :
    Tab.wf d (Tab.put (d k) t k v) = true := by
  rw [Tab.wf_iff] at h ⊢
  unfold Tab.put
  split
  · exact ⟨Tab.erase_sorted k h.1, fun e he => h.2 e (Tab.mem_erase he)⟩
  · rename_i hv
    refine ⟨Tab.insert_sorted k v h.1, fun e he => ?_⟩
    rcases Tab.mem_insert he with he | he
    · rw [he]; exact hv
    · exact h.2 e he

/-- Leaving entries out keeps the canonical form. -/
theorem Tab.filter_wf [DecidableEq α] (d : Nat → α) (t : Tab α) (p : Nat × α → Bool) (h : Tab.wf d t = true) :
    Tab.wf d (t.filter p) = true := by
  rw [Tab.wf_iff] at h ⊢
  exact ⟨h.1.filter _, fun e he => h.2 e (List.mem_filter.1 he).1⟩

end Sys2Proof
end

