-- ==== Sys2Proof/Laws/Omi.lean ====
section
/-! SUPPORT. What the operations of the mailboxes do to a command that acts at this node alone. -/

namespace Sys2Proof.Machine

/-- A command that names this node alone runs here and nowhere else; with an outcome it ends. -/
theorem State.omi_here {s : State} {k op : Nat} {multi : Bool} {ns : OmiRun → List Nat} {run : State → OmiRun → State × Option OmiRsp}
    {r : OmiRun} (h : s.runsHere k op ns r) :
    s.omi k op multi ns run =
      match run (s.begun r multi) r with
      | (t, some o) => t.finish r.id o
      | (t, none) => t := by
  obtain ⟨h1, h2⟩ := h
  unfold State.omi State.start_ State.begun
  rw [h1]
  rcases h2 with h2 | h2
  · simp only [h2]
    rcases hr : run (s.updWork r.id fun w => { w with started := true, multi := multi && 17 != 17, waiting := [s.nodeId] }) r with ⟨t, o⟩
    cases o <;> simp_all
  · by_cases hm : r.mbox = 17
    · simp only [hm]
      rcases hr : run (s.updWork r.id fun w => { w with started := true, multi := multi && 17 != 17, waiting := [s.nodeId] }) r with ⟨t, o⟩
      cases o <;> simp_all
    · have hf : (List.filter (fun n => n != s.nodeId) [s.nodeId]) = [] := by simp
      rcases hr : run (s.begun r multi) r with ⟨t, o⟩
      unfold State.begun at hr
      cases o <;> simp_all

end Sys2Proof.Machine
end

