-- ==== Sys2Proof/Laws/State.lean ====
section
/-! SUPPORT. What each update of the state leaves alone, one lemma per update and part of the state, and what a field reads as after a write. -/

namespace Sys2Proof.Machine

variable (s : State)


/-! ### set -/

@[simp] theorem State.set_ring (f : Fld) (v i : Nat) : (s.set f v i).ring = s.ring := rfl
@[simp] theorem State.set_links (f : Fld) (v i : Nat) : (s.set f v i).links = s.links := rfl
@[simp] theorem State.set_ln (f : Fld) (v i : Nat) : (s.set f v i).ln = s.ln := rfl
@[simp] theorem State.set_sc (f : Fld) (v i : Nat) : (s.set f v i).sc = s.sc := rfl
@[simp] theorem State.set_jnl (f : Fld) (v i : Nat) : (s.set f v i).jnl = s.jnl := rfl
@[simp] theorem State.set_spn (f : Fld) (v i : Nat) : (s.set f v i).spn = s.spn := rfl
@[simp] theorem State.set_win (f : Fld) (v i : Nat) : (s.set f v i).win = s.win := rfl
@[simp] theorem State.set_acks (f : Fld) (v i : Nat) : (s.set f v i).acks = s.acks := rfl
@[simp] theorem State.set_nextAck (f : Fld) (v i : Nat) : (s.set f v i).nextAck = s.nextAck := rfl
@[simp] theorem State.set_part (f : Fld) (v i : Nat) : (s.set f v i).part = s.part := rfl
@[simp] theorem State.set_pcie (f : Fld) (v i : Nat) : (s.set f v i).pcie = s.pcie := rfl
@[simp] theorem State.set_mb (f : Fld) (v i : Nat) : (s.set f v i).mb = s.mb := rfl
@[simp] theorem State.set_img (f : Fld) (v i : Nat) : (s.set f v i).img = s.img := rfl
@[simp] theorem State.set_fc (f : Fld) (v i : Nat) : (s.set f v i).fc = s.fc := rfl
@[simp] theorem State.set_boot (f : Fld) (v i : Nat) : (s.set f v i).boot = s.boot := rfl
@[simp] theorem State.set_pw (f : Fld) (v i : Nat) : (s.set f v i).pw = s.pw := rfl
@[simp] theorem State.set_ck (f : Fld) (v i : Nat) : (s.set f v i).ck = s.ck := rfl
@[simp] theorem State.set_pst (f : Fld) (v i : Nat) : (s.set f v i).pst = s.pst := rfl
@[simp] theorem State.set_hold (f : Fld) (v i : Nat) : (s.set f v i).hold = s.hold := rfl
@[simp] theorem State.set_sch (f : Fld) (v i : Nat) : (s.set f v i).sch = s.sch := rfl
@[simp] theorem State.set_dm (f : Fld) (v i : Nat) : (s.set f v i).dm = s.dm := rfl
@[simp] theorem State.set_lb (f : Fld) (v i : Nat) : (s.set f v i).lb = s.lb := rfl
@[simp] theorem State.set_sp (f : Fld) (v i : Nat) : (s.set f v i).sp = s.sp := rfl
@[simp] theorem State.set_pmon (f : Fld) (v i : Nat) : (s.set f v i).pmon = s.pmon := rfl
@[simp] theorem State.set_evq (f : Fld) (v i : Nat) : (s.set f v i).evq = s.evq := rfl
@[simp] theorem State.set_timers (f : Fld) (v i : Nat) : (s.set f v i).timers = s.timers := rfl
@[simp] theorem State.set_inbox (f : Fld) (v i : Nat) : (s.set f v i).inbox = s.inbox := rfl
@[simp] theorem State.set_reports (f : Fld) (v i : Nat) : (s.set f v i).reports = s.reports := rfl
@[simp] theorem State.set_out (f : Fld) (v i : Nat) : (s.set f v i).out = s.out := rfl
@[simp] theorem State.set_now (f : Fld) (v i : Nat) : (s.set f v i).now = s.now := rfl
@[simp] theorem State.set_fwFeature (f : Fld) (v i : Nat) : (s.set f v i).fwFeature = s.fwFeature := rfl
@[simp] theorem State.set_free (f : Fld) (v i : Nat) : (s.set f v i).free = s.free := rfl
@[simp] theorem State.set_pending (f : Fld) (v i : Nat) : (s.set f v i).pending = s.pending := rfl
@[simp] theorem State.link_set (f : Fld) (v i : Nat) (p' : Nat) : (s.set f v i).link p' = s.link p' := rfl
@[simp] theorem State.runs_set (f : Fld) (v i : Nat) (x' : TimerId) : (s.set f v i).runs x' = s.runs x' := rfl

/-! ### flag -/

@[simp] theorem State.flag_ring (f : Fld) (b : Bool) (i : Nat) : (s.flag f b i).ring = s.ring := rfl
@[simp] theorem State.flag_links (f : Fld) (b : Bool) (i : Nat) : (s.flag f b i).links = s.links := rfl
@[simp] theorem State.flag_ln (f : Fld) (b : Bool) (i : Nat) : (s.flag f b i).ln = s.ln := rfl
@[simp] theorem State.flag_sc (f : Fld) (b : Bool) (i : Nat) : (s.flag f b i).sc = s.sc := rfl
@[simp] theorem State.flag_jnl (f : Fld) (b : Bool) (i : Nat) : (s.flag f b i).jnl = s.jnl := rfl
@[simp] theorem State.flag_spn (f : Fld) (b : Bool) (i : Nat) : (s.flag f b i).spn = s.spn := rfl
@[simp] theorem State.flag_win (f : Fld) (b : Bool) (i : Nat) : (s.flag f b i).win = s.win := rfl
@[simp] theorem State.flag_acks (f : Fld) (b : Bool) (i : Nat) : (s.flag f b i).acks = s.acks := rfl
@[simp] theorem State.flag_nextAck (f : Fld) (b : Bool) (i : Nat) : (s.flag f b i).nextAck = s.nextAck := rfl
@[simp] theorem State.flag_part (f : Fld) (b : Bool) (i : Nat) : (s.flag f b i).part = s.part := rfl
@[simp] theorem State.flag_pcie (f : Fld) (b : Bool) (i : Nat) : (s.flag f b i).pcie = s.pcie := rfl
@[simp] theorem State.flag_mb (f : Fld) (b : Bool) (i : Nat) : (s.flag f b i).mb = s.mb := rfl
@[simp] theorem State.flag_img (f : Fld) (b : Bool) (i : Nat) : (s.flag f b i).img = s.img := rfl
@[simp] theorem State.flag_fc (f : Fld) (b : Bool) (i : Nat) : (s.flag f b i).fc = s.fc := rfl
@[simp] theorem State.flag_boot (f : Fld) (b : Bool) (i : Nat) : (s.flag f b i).boot = s.boot := rfl
@[simp] theorem State.flag_pw (f : Fld) (b : Bool) (i : Nat) : (s.flag f b i).pw = s.pw := rfl
@[simp] theorem State.flag_ck (f : Fld) (b : Bool) (i : Nat) : (s.flag f b i).ck = s.ck := rfl
@[simp] theorem State.flag_pst (f : Fld) (b : Bool) (i : Nat) : (s.flag f b i).pst = s.pst := rfl
@[simp] theorem State.flag_hold (f : Fld) (b : Bool) (i : Nat) : (s.flag f b i).hold = s.hold := rfl
@[simp] theorem State.flag_sch (f : Fld) (b : Bool) (i : Nat) : (s.flag f b i).sch = s.sch := rfl
@[simp] theorem State.flag_dm (f : Fld) (b : Bool) (i : Nat) : (s.flag f b i).dm = s.dm := rfl
@[simp] theorem State.flag_lb (f : Fld) (b : Bool) (i : Nat) : (s.flag f b i).lb = s.lb := rfl
@[simp] theorem State.flag_sp (f : Fld) (b : Bool) (i : Nat) : (s.flag f b i).sp = s.sp := rfl
@[simp] theorem State.flag_pmon (f : Fld) (b : Bool) (i : Nat) : (s.flag f b i).pmon = s.pmon := rfl
@[simp] theorem State.flag_evq (f : Fld) (b : Bool) (i : Nat) : (s.flag f b i).evq = s.evq := rfl
@[simp] theorem State.flag_timers (f : Fld) (b : Bool) (i : Nat) : (s.flag f b i).timers = s.timers := rfl
@[simp] theorem State.flag_inbox (f : Fld) (b : Bool) (i : Nat) : (s.flag f b i).inbox = s.inbox := rfl
@[simp] theorem State.flag_reports (f : Fld) (b : Bool) (i : Nat) : (s.flag f b i).reports = s.reports := rfl
@[simp] theorem State.flag_out (f : Fld) (b : Bool) (i : Nat) : (s.flag f b i).out = s.out := rfl
@[simp] theorem State.flag_now (f : Fld) (b : Bool) (i : Nat) : (s.flag f b i).now = s.now := rfl
@[simp] theorem State.flag_fwFeature (f : Fld) (b : Bool) (i : Nat) : (s.flag f b i).fwFeature = s.fwFeature := rfl
@[simp] theorem State.flag_free (f : Fld) (b : Bool) (i : Nat) : (s.flag f b i).free = s.free := rfl
@[simp] theorem State.flag_pending (f : Fld) (b : Bool) (i : Nat) : (s.flag f b i).pending = s.pending := rfl
@[simp] theorem State.link_flag (f : Fld) (b : Bool) (i : Nat) (p' : Nat) : (s.flag f b i).link p' = s.link p' := rfl
@[simp] theorem State.runs_flag (f : Fld) (b : Bool) (i : Nat) (x' : TimerId) : (s.flag f b i).runs x' = s.runs x' := rfl

/-! ### bump -/

@[simp] theorem State.bump_ring (f : Fld) (i n : Nat) : (s.bump f i n).ring = s.ring := rfl
@[simp] theorem State.bump_links (f : Fld) (i n : Nat) : (s.bump f i n).links = s.links := rfl
@[simp] theorem State.bump_ln (f : Fld) (i n : Nat) : (s.bump f i n).ln = s.ln := rfl
@[simp] theorem State.bump_sc (f : Fld) (i n : Nat) : (s.bump f i n).sc = s.sc := rfl
@[simp] theorem State.bump_jnl (f : Fld) (i n : Nat) : (s.bump f i n).jnl = s.jnl := rfl
@[simp] theorem State.bump_spn (f : Fld) (i n : Nat) : (s.bump f i n).spn = s.spn := rfl
@[simp] theorem State.bump_win (f : Fld) (i n : Nat) : (s.bump f i n).win = s.win := rfl
@[simp] theorem State.bump_acks (f : Fld) (i n : Nat) : (s.bump f i n).acks = s.acks := rfl
@[simp] theorem State.bump_nextAck (f : Fld) (i n : Nat) : (s.bump f i n).nextAck = s.nextAck := rfl
@[simp] theorem State.bump_part (f : Fld) (i n : Nat) : (s.bump f i n).part = s.part := rfl
@[simp] theorem State.bump_pcie (f : Fld) (i n : Nat) : (s.bump f i n).pcie = s.pcie := rfl
@[simp] theorem State.bump_mb (f : Fld) (i n : Nat) : (s.bump f i n).mb = s.mb := rfl
@[simp] theorem State.bump_img (f : Fld) (i n : Nat) : (s.bump f i n).img = s.img := rfl
@[simp] theorem State.bump_fc (f : Fld) (i n : Nat) : (s.bump f i n).fc = s.fc := rfl
@[simp] theorem State.bump_boot (f : Fld) (i n : Nat) : (s.bump f i n).boot = s.boot := rfl
@[simp] theorem State.bump_pw (f : Fld) (i n : Nat) : (s.bump f i n).pw = s.pw := rfl
@[simp] theorem State.bump_ck (f : Fld) (i n : Nat) : (s.bump f i n).ck = s.ck := rfl
@[simp] theorem State.bump_pst (f : Fld) (i n : Nat) : (s.bump f i n).pst = s.pst := rfl
@[simp] theorem State.bump_hold (f : Fld) (i n : Nat) : (s.bump f i n).hold = s.hold := rfl
@[simp] theorem State.bump_sch (f : Fld) (i n : Nat) : (s.bump f i n).sch = s.sch := rfl
@[simp] theorem State.bump_dm (f : Fld) (i n : Nat) : (s.bump f i n).dm = s.dm := rfl
@[simp] theorem State.bump_lb (f : Fld) (i n : Nat) : (s.bump f i n).lb = s.lb := rfl
@[simp] theorem State.bump_sp (f : Fld) (i n : Nat) : (s.bump f i n).sp = s.sp := rfl
@[simp] theorem State.bump_pmon (f : Fld) (i n : Nat) : (s.bump f i n).pmon = s.pmon := rfl
@[simp] theorem State.bump_evq (f : Fld) (i n : Nat) : (s.bump f i n).evq = s.evq := rfl
@[simp] theorem State.bump_timers (f : Fld) (i n : Nat) : (s.bump f i n).timers = s.timers := rfl
@[simp] theorem State.bump_inbox (f : Fld) (i n : Nat) : (s.bump f i n).inbox = s.inbox := rfl
@[simp] theorem State.bump_reports (f : Fld) (i n : Nat) : (s.bump f i n).reports = s.reports := rfl
@[simp] theorem State.bump_out (f : Fld) (i n : Nat) : (s.bump f i n).out = s.out := rfl
@[simp] theorem State.bump_now (f : Fld) (i n : Nat) : (s.bump f i n).now = s.now := rfl
@[simp] theorem State.bump_fwFeature (f : Fld) (i n : Nat) : (s.bump f i n).fwFeature = s.fwFeature := rfl
@[simp] theorem State.bump_free (f : Fld) (i n : Nat) : (s.bump f i n).free = s.free := rfl
@[simp] theorem State.bump_pending (f : Fld) (i n : Nat) : (s.bump f i n).pending = s.pending := rfl
@[simp] theorem State.link_bump (f : Fld) (i n : Nat) (p' : Nat) : (s.bump f i n).link p' = s.link p' := rfl
@[simp] theorem State.runs_bump (f : Fld) (i n : Nat) (x' : TimerId) : (s.bump f i n).runs x' = s.runs x' := rfl

/-! ### bumpSat -/

@[simp] theorem State.bumpSat_ring (f : Fld) (i : Nat) : (s.bumpSat f i).ring = s.ring := rfl
@[simp] theorem State.bumpSat_links (f : Fld) (i : Nat) : (s.bumpSat f i).links = s.links := rfl
@[simp] theorem State.bumpSat_ln (f : Fld) (i : Nat) : (s.bumpSat f i).ln = s.ln := rfl
@[simp] theorem State.bumpSat_sc (f : Fld) (i : Nat) : (s.bumpSat f i).sc = s.sc := rfl
@[simp] theorem State.bumpSat_jnl (f : Fld) (i : Nat) : (s.bumpSat f i).jnl = s.jnl := rfl
@[simp] theorem State.bumpSat_spn (f : Fld) (i : Nat) : (s.bumpSat f i).spn = s.spn := rfl
@[simp] theorem State.bumpSat_win (f : Fld) (i : Nat) : (s.bumpSat f i).win = s.win := rfl
@[simp] theorem State.bumpSat_acks (f : Fld) (i : Nat) : (s.bumpSat f i).acks = s.acks := rfl
@[simp] theorem State.bumpSat_nextAck (f : Fld) (i : Nat) : (s.bumpSat f i).nextAck = s.nextAck := rfl
@[simp] theorem State.bumpSat_part (f : Fld) (i : Nat) : (s.bumpSat f i).part = s.part := rfl
@[simp] theorem State.bumpSat_pcie (f : Fld) (i : Nat) : (s.bumpSat f i).pcie = s.pcie := rfl
@[simp] theorem State.bumpSat_mb (f : Fld) (i : Nat) : (s.bumpSat f i).mb = s.mb := rfl
@[simp] theorem State.bumpSat_img (f : Fld) (i : Nat) : (s.bumpSat f i).img = s.img := rfl
@[simp] theorem State.bumpSat_fc (f : Fld) (i : Nat) : (s.bumpSat f i).fc = s.fc := rfl
@[simp] theorem State.bumpSat_boot (f : Fld) (i : Nat) : (s.bumpSat f i).boot = s.boot := rfl
@[simp] theorem State.bumpSat_pw (f : Fld) (i : Nat) : (s.bumpSat f i).pw = s.pw := rfl
@[simp] theorem State.bumpSat_ck (f : Fld) (i : Nat) : (s.bumpSat f i).ck = s.ck := rfl
@[simp] theorem State.bumpSat_pst (f : Fld) (i : Nat) : (s.bumpSat f i).pst = s.pst := rfl
@[simp] theorem State.bumpSat_hold (f : Fld) (i : Nat) : (s.bumpSat f i).hold = s.hold := rfl
@[simp] theorem State.bumpSat_sch (f : Fld) (i : Nat) : (s.bumpSat f i).sch = s.sch := rfl
@[simp] theorem State.bumpSat_dm (f : Fld) (i : Nat) : (s.bumpSat f i).dm = s.dm := rfl
@[simp] theorem State.bumpSat_lb (f : Fld) (i : Nat) : (s.bumpSat f i).lb = s.lb := rfl
@[simp] theorem State.bumpSat_sp (f : Fld) (i : Nat) : (s.bumpSat f i).sp = s.sp := rfl
@[simp] theorem State.bumpSat_pmon (f : Fld) (i : Nat) : (s.bumpSat f i).pmon = s.pmon := rfl
@[simp] theorem State.bumpSat_evq (f : Fld) (i : Nat) : (s.bumpSat f i).evq = s.evq := rfl
@[simp] theorem State.bumpSat_timers (f : Fld) (i : Nat) : (s.bumpSat f i).timers = s.timers := rfl
@[simp] theorem State.bumpSat_inbox (f : Fld) (i : Nat) : (s.bumpSat f i).inbox = s.inbox := rfl
@[simp] theorem State.bumpSat_reports (f : Fld) (i : Nat) : (s.bumpSat f i).reports = s.reports := rfl
@[simp] theorem State.bumpSat_out (f : Fld) (i : Nat) : (s.bumpSat f i).out = s.out := rfl
@[simp] theorem State.bumpSat_now (f : Fld) (i : Nat) : (s.bumpSat f i).now = s.now := rfl
@[simp] theorem State.bumpSat_fwFeature (f : Fld) (i : Nat) : (s.bumpSat f i).fwFeature = s.fwFeature := rfl
@[simp] theorem State.bumpSat_free (f : Fld) (i : Nat) : (s.bumpSat f i).free = s.free := rfl
@[simp] theorem State.bumpSat_pending (f : Fld) (i : Nat) : (s.bumpSat f i).pending = s.pending := rfl
@[simp] theorem State.link_bumpSat (f : Fld) (i : Nat) (p' : Nat) : (s.bumpSat f i).link p' = s.link p' := rfl
@[simp] theorem State.runs_bumpSat (f : Fld) (i : Nat) (x' : TimerId) : (s.bumpSat f i).runs x' = s.runs x' := rfl

/-! ### unset -/

@[simp] theorem State.unset_ring (f : Fld) (i : Nat) : (s.unset f i).ring = s.ring := rfl
@[simp] theorem State.unset_links (f : Fld) (i : Nat) : (s.unset f i).links = s.links := rfl
@[simp] theorem State.unset_ln (f : Fld) (i : Nat) : (s.unset f i).ln = s.ln := rfl
@[simp] theorem State.unset_sc (f : Fld) (i : Nat) : (s.unset f i).sc = s.sc := rfl
@[simp] theorem State.unset_jnl (f : Fld) (i : Nat) : (s.unset f i).jnl = s.jnl := rfl
@[simp] theorem State.unset_spn (f : Fld) (i : Nat) : (s.unset f i).spn = s.spn := rfl
@[simp] theorem State.unset_win (f : Fld) (i : Nat) : (s.unset f i).win = s.win := rfl
@[simp] theorem State.unset_acks (f : Fld) (i : Nat) : (s.unset f i).acks = s.acks := rfl
@[simp] theorem State.unset_nextAck (f : Fld) (i : Nat) : (s.unset f i).nextAck = s.nextAck := rfl
@[simp] theorem State.unset_part (f : Fld) (i : Nat) : (s.unset f i).part = s.part := rfl
@[simp] theorem State.unset_pcie (f : Fld) (i : Nat) : (s.unset f i).pcie = s.pcie := rfl
@[simp] theorem State.unset_mb (f : Fld) (i : Nat) : (s.unset f i).mb = s.mb := rfl
@[simp] theorem State.unset_img (f : Fld) (i : Nat) : (s.unset f i).img = s.img := rfl
@[simp] theorem State.unset_fc (f : Fld) (i : Nat) : (s.unset f i).fc = s.fc := rfl
@[simp] theorem State.unset_boot (f : Fld) (i : Nat) : (s.unset f i).boot = s.boot := rfl
@[simp] theorem State.unset_pw (f : Fld) (i : Nat) : (s.unset f i).pw = s.pw := rfl
@[simp] theorem State.unset_ck (f : Fld) (i : Nat) : (s.unset f i).ck = s.ck := rfl
@[simp] theorem State.unset_pst (f : Fld) (i : Nat) : (s.unset f i).pst = s.pst := rfl
@[simp] theorem State.unset_hold (f : Fld) (i : Nat) : (s.unset f i).hold = s.hold := rfl
@[simp] theorem State.unset_sch (f : Fld) (i : Nat) : (s.unset f i).sch = s.sch := rfl
@[simp] theorem State.unset_dm (f : Fld) (i : Nat) : (s.unset f i).dm = s.dm := rfl
@[simp] theorem State.unset_lb (f : Fld) (i : Nat) : (s.unset f i).lb = s.lb := rfl
@[simp] theorem State.unset_sp (f : Fld) (i : Nat) : (s.unset f i).sp = s.sp := rfl
@[simp] theorem State.unset_pmon (f : Fld) (i : Nat) : (s.unset f i).pmon = s.pmon := rfl
@[simp] theorem State.unset_evq (f : Fld) (i : Nat) : (s.unset f i).evq = s.evq := rfl
@[simp] theorem State.unset_timers (f : Fld) (i : Nat) : (s.unset f i).timers = s.timers := rfl
@[simp] theorem State.unset_inbox (f : Fld) (i : Nat) : (s.unset f i).inbox = s.inbox := rfl
@[simp] theorem State.unset_reports (f : Fld) (i : Nat) : (s.unset f i).reports = s.reports := rfl
@[simp] theorem State.unset_out (f : Fld) (i : Nat) : (s.unset f i).out = s.out := rfl
@[simp] theorem State.unset_now (f : Fld) (i : Nat) : (s.unset f i).now = s.now := rfl
@[simp] theorem State.unset_fwFeature (f : Fld) (i : Nat) : (s.unset f i).fwFeature = s.fwFeature := rfl
@[simp] theorem State.unset_free (f : Fld) (i : Nat) : (s.unset f i).free = s.free := rfl
@[simp] theorem State.unset_pending (f : Fld) (i : Nat) : (s.unset f i).pending = s.pending := rfl
@[simp] theorem State.link_unset (f : Fld) (i : Nat) (p' : Nat) : (s.unset f i).link p' = s.link p' := rfl
@[simp] theorem State.runs_unset (f : Fld) (i : Nat) (x' : TimerId) : (s.unset f i).runs x' = s.runs x' := rfl

/-! ### evt -/

@[simp] theorem State.evt_ring (n k : Nat) : (s.evt n k).ring = s.ring := rfl
@[simp] theorem State.evt_links (n k : Nat) : (s.evt n k).links = s.links := rfl
@[simp] theorem State.evt_ln (n k : Nat) : (s.evt n k).ln = s.ln := rfl
@[simp] theorem State.evt_sc (n k : Nat) : (s.evt n k).sc = s.sc := rfl
@[simp] theorem State.evt_jnl (n k : Nat) : (s.evt n k).jnl = s.jnl := rfl
@[simp] theorem State.evt_spn (n k : Nat) : (s.evt n k).spn = s.spn := rfl
@[simp] theorem State.evt_win (n k : Nat) : (s.evt n k).win = s.win := rfl
@[simp] theorem State.evt_acks (n k : Nat) : (s.evt n k).acks = s.acks := rfl
@[simp] theorem State.evt_nextAck (n k : Nat) : (s.evt n k).nextAck = s.nextAck := rfl
@[simp] theorem State.evt_part (n k : Nat) : (s.evt n k).part = s.part := rfl
@[simp] theorem State.evt_pcie (n k : Nat) : (s.evt n k).pcie = s.pcie := rfl
@[simp] theorem State.evt_mb (n k : Nat) : (s.evt n k).mb = s.mb := rfl
@[simp] theorem State.evt_img (n k : Nat) : (s.evt n k).img = s.img := rfl
@[simp] theorem State.evt_fc (n k : Nat) : (s.evt n k).fc = s.fc := rfl
@[simp] theorem State.evt_boot (n k : Nat) : (s.evt n k).boot = s.boot := rfl
@[simp] theorem State.evt_pw (n k : Nat) : (s.evt n k).pw = s.pw := rfl
@[simp] theorem State.evt_ck (n k : Nat) : (s.evt n k).ck = s.ck := rfl
@[simp] theorem State.evt_pst (n k : Nat) : (s.evt n k).pst = s.pst := rfl
@[simp] theorem State.evt_hold (n k : Nat) : (s.evt n k).hold = s.hold := rfl
@[simp] theorem State.evt_sch (n k : Nat) : (s.evt n k).sch = s.sch := rfl
@[simp] theorem State.evt_dm (n k : Nat) : (s.evt n k).dm = s.dm := rfl
@[simp] theorem State.evt_lb (n k : Nat) : (s.evt n k).lb = s.lb := rfl
@[simp] theorem State.evt_sp (n k : Nat) : (s.evt n k).sp = s.sp := rfl
@[simp] theorem State.evt_pmon (n k : Nat) : (s.evt n k).pmon = s.pmon := rfl
@[simp] theorem State.evt_evq (n k : Nat) : (s.evt n k).evq = s.evq := rfl
@[simp] theorem State.evt_timers (n k : Nat) : (s.evt n k).timers = s.timers := rfl
@[simp] theorem State.evt_inbox (n k : Nat) : (s.evt n k).inbox = s.inbox := rfl
@[simp] theorem State.evt_reports (n k : Nat) : (s.evt n k).reports = s.reports := rfl
@[simp] theorem State.evt_out (n k : Nat) : (s.evt n k).out = s.out := rfl
@[simp] theorem State.evt_now (n k : Nat) : (s.evt n k).now = s.now := rfl
@[simp] theorem State.evt_fwFeature (n k : Nat) : (s.evt n k).fwFeature = s.fwFeature := rfl
@[simp] theorem State.evt_free (n k : Nat) : (s.evt n k).free = s.free := rfl
@[simp] theorem State.evt_pending (n k : Nat) : (s.evt n k).pending = s.pending := rfl
@[simp] theorem State.link_evt (n k : Nat) (p' : Nat) : (s.evt n k).link p' = s.link p' := rfl
@[simp] theorem State.runs_evt (n k : Nat) (x' : TimerId) : (s.evt n k).runs x' = s.runs x' := rfl

/-! ### evtPort -/

@[simp] theorem State.evtPort_ring (p j k : Nat) : (s.evtPort p j k).ring = s.ring := rfl
@[simp] theorem State.evtPort_links (p j k : Nat) : (s.evtPort p j k).links = s.links := rfl
@[simp] theorem State.evtPort_ln (p j k : Nat) : (s.evtPort p j k).ln = s.ln := rfl
@[simp] theorem State.evtPort_sc (p j k : Nat) : (s.evtPort p j k).sc = s.sc := rfl
@[simp] theorem State.evtPort_jnl (p j k : Nat) : (s.evtPort p j k).jnl = s.jnl := rfl
@[simp] theorem State.evtPort_spn (p j k : Nat) : (s.evtPort p j k).spn = s.spn := rfl
@[simp] theorem State.evtPort_win (p j k : Nat) : (s.evtPort p j k).win = s.win := rfl
@[simp] theorem State.evtPort_acks (p j k : Nat) : (s.evtPort p j k).acks = s.acks := rfl
@[simp] theorem State.evtPort_nextAck (p j k : Nat) : (s.evtPort p j k).nextAck = s.nextAck := rfl
@[simp] theorem State.evtPort_part (p j k : Nat) : (s.evtPort p j k).part = s.part := rfl
@[simp] theorem State.evtPort_pcie (p j k : Nat) : (s.evtPort p j k).pcie = s.pcie := rfl
@[simp] theorem State.evtPort_mb (p j k : Nat) : (s.evtPort p j k).mb = s.mb := rfl
@[simp] theorem State.evtPort_img (p j k : Nat) : (s.evtPort p j k).img = s.img := rfl
@[simp] theorem State.evtPort_fc (p j k : Nat) : (s.evtPort p j k).fc = s.fc := rfl
@[simp] theorem State.evtPort_boot (p j k : Nat) : (s.evtPort p j k).boot = s.boot := rfl
@[simp] theorem State.evtPort_pw (p j k : Nat) : (s.evtPort p j k).pw = s.pw := rfl
@[simp] theorem State.evtPort_ck (p j k : Nat) : (s.evtPort p j k).ck = s.ck := rfl
@[simp] theorem State.evtPort_pst (p j k : Nat) : (s.evtPort p j k).pst = s.pst := rfl
@[simp] theorem State.evtPort_hold (p j k : Nat) : (s.evtPort p j k).hold = s.hold := rfl
@[simp] theorem State.evtPort_sch (p j k : Nat) : (s.evtPort p j k).sch = s.sch := rfl
@[simp] theorem State.evtPort_dm (p j k : Nat) : (s.evtPort p j k).dm = s.dm := rfl
@[simp] theorem State.evtPort_lb (p j k : Nat) : (s.evtPort p j k).lb = s.lb := rfl
@[simp] theorem State.evtPort_sp (p j k : Nat) : (s.evtPort p j k).sp = s.sp := rfl
@[simp] theorem State.evtPort_pmon (p j k : Nat) : (s.evtPort p j k).pmon = s.pmon := rfl
@[simp] theorem State.evtPort_evq (p j k : Nat) : (s.evtPort p j k).evq = s.evq := rfl
@[simp] theorem State.evtPort_timers (p j k : Nat) : (s.evtPort p j k).timers = s.timers := rfl
@[simp] theorem State.evtPort_inbox (p j k : Nat) : (s.evtPort p j k).inbox = s.inbox := rfl
@[simp] theorem State.evtPort_reports (p j k : Nat) : (s.evtPort p j k).reports = s.reports := rfl
@[simp] theorem State.evtPort_out (p j k : Nat) : (s.evtPort p j k).out = s.out := rfl
@[simp] theorem State.evtPort_now (p j k : Nat) : (s.evtPort p j k).now = s.now := rfl
@[simp] theorem State.evtPort_fwFeature (p j k : Nat) : (s.evtPort p j k).fwFeature = s.fwFeature := rfl
@[simp] theorem State.evtPort_free (p j k : Nat) : (s.evtPort p j k).free = s.free := rfl
@[simp] theorem State.evtPort_pending (p j k : Nat) : (s.evtPort p j k).pending = s.pending := rfl
@[simp] theorem State.link_evtPort (p j k : Nat) (p' : Nat) : (s.evtPort p j k).link p' = s.link p' := rfl
@[simp] theorem State.runs_evtPort (p j k : Nat) (x' : TimerId) : (s.evtPort p j k).runs x' = s.runs x' := rfl

/-! ### evtFab -/

@[simp] theorem State.evtFab_ring (p j k : Nat) : (s.evtFab p j k).ring = s.ring := rfl
@[simp] theorem State.evtFab_links (p j k : Nat) : (s.evtFab p j k).links = s.links := rfl
@[simp] theorem State.evtFab_ln (p j k : Nat) : (s.evtFab p j k).ln = s.ln := rfl
@[simp] theorem State.evtFab_sc (p j k : Nat) : (s.evtFab p j k).sc = s.sc := rfl
@[simp] theorem State.evtFab_jnl (p j k : Nat) : (s.evtFab p j k).jnl = s.jnl := rfl
@[simp] theorem State.evtFab_spn (p j k : Nat) : (s.evtFab p j k).spn = s.spn := rfl
@[simp] theorem State.evtFab_win (p j k : Nat) : (s.evtFab p j k).win = s.win := rfl
@[simp] theorem State.evtFab_acks (p j k : Nat) : (s.evtFab p j k).acks = s.acks := rfl
@[simp] theorem State.evtFab_nextAck (p j k : Nat) : (s.evtFab p j k).nextAck = s.nextAck := rfl
@[simp] theorem State.evtFab_part (p j k : Nat) : (s.evtFab p j k).part = s.part := rfl
@[simp] theorem State.evtFab_pcie (p j k : Nat) : (s.evtFab p j k).pcie = s.pcie := rfl
@[simp] theorem State.evtFab_mb (p j k : Nat) : (s.evtFab p j k).mb = s.mb := rfl
@[simp] theorem State.evtFab_img (p j k : Nat) : (s.evtFab p j k).img = s.img := rfl
@[simp] theorem State.evtFab_fc (p j k : Nat) : (s.evtFab p j k).fc = s.fc := rfl
@[simp] theorem State.evtFab_boot (p j k : Nat) : (s.evtFab p j k).boot = s.boot := rfl
@[simp] theorem State.evtFab_pw (p j k : Nat) : (s.evtFab p j k).pw = s.pw := rfl
@[simp] theorem State.evtFab_ck (p j k : Nat) : (s.evtFab p j k).ck = s.ck := rfl
@[simp] theorem State.evtFab_pst (p j k : Nat) : (s.evtFab p j k).pst = s.pst := rfl
@[simp] theorem State.evtFab_hold (p j k : Nat) : (s.evtFab p j k).hold = s.hold := rfl
@[simp] theorem State.evtFab_sch (p j k : Nat) : (s.evtFab p j k).sch = s.sch := rfl
@[simp] theorem State.evtFab_dm (p j k : Nat) : (s.evtFab p j k).dm = s.dm := rfl
@[simp] theorem State.evtFab_lb (p j k : Nat) : (s.evtFab p j k).lb = s.lb := rfl
@[simp] theorem State.evtFab_sp (p j k : Nat) : (s.evtFab p j k).sp = s.sp := rfl
@[simp] theorem State.evtFab_pmon (p j k : Nat) : (s.evtFab p j k).pmon = s.pmon := rfl
@[simp] theorem State.evtFab_evq (p j k : Nat) : (s.evtFab p j k).evq = s.evq := rfl
@[simp] theorem State.evtFab_timers (p j k : Nat) : (s.evtFab p j k).timers = s.timers := rfl
@[simp] theorem State.evtFab_inbox (p j k : Nat) : (s.evtFab p j k).inbox = s.inbox := rfl
@[simp] theorem State.evtFab_reports (p j k : Nat) : (s.evtFab p j k).reports = s.reports := rfl
@[simp] theorem State.evtFab_out (p j k : Nat) : (s.evtFab p j k).out = s.out := rfl
@[simp] theorem State.evtFab_now (p j k : Nat) : (s.evtFab p j k).now = s.now := rfl
@[simp] theorem State.evtFab_fwFeature (p j k : Nat) : (s.evtFab p j k).fwFeature = s.fwFeature := rfl
@[simp] theorem State.evtFab_free (p j k : Nat) : (s.evtFab p j k).free = s.free := rfl
@[simp] theorem State.evtFab_pending (p j k : Nat) : (s.evtFab p j k).pending = s.pending := rfl
@[simp] theorem State.link_evtFab (p j k : Nat) (p' : Nat) : (s.evtFab p j k).link p' = s.link p' := rfl
@[simp] theorem State.runs_evtFab (p j k : Nat) (x' : TimerId) : (s.evtFab p j k).runs x' = s.runs x' := rfl

/-! ### evtPart -/

@[simp] theorem State.evtPart_ring (p j k : Nat) : (s.evtPart p j k).ring = s.ring := rfl
@[simp] theorem State.evtPart_links (p j k : Nat) : (s.evtPart p j k).links = s.links := rfl
@[simp] theorem State.evtPart_ln (p j k : Nat) : (s.evtPart p j k).ln = s.ln := rfl
@[simp] theorem State.evtPart_sc (p j k : Nat) : (s.evtPart p j k).sc = s.sc := rfl
@[simp] theorem State.evtPart_jnl (p j k : Nat) : (s.evtPart p j k).jnl = s.jnl := rfl
@[simp] theorem State.evtPart_spn (p j k : Nat) : (s.evtPart p j k).spn = s.spn := rfl
@[simp] theorem State.evtPart_win (p j k : Nat) : (s.evtPart p j k).win = s.win := rfl
@[simp] theorem State.evtPart_acks (p j k : Nat) : (s.evtPart p j k).acks = s.acks := rfl
@[simp] theorem State.evtPart_nextAck (p j k : Nat) : (s.evtPart p j k).nextAck = s.nextAck := rfl
@[simp] theorem State.evtPart_part (p j k : Nat) : (s.evtPart p j k).part = s.part := rfl
@[simp] theorem State.evtPart_pcie (p j k : Nat) : (s.evtPart p j k).pcie = s.pcie := rfl
@[simp] theorem State.evtPart_mb (p j k : Nat) : (s.evtPart p j k).mb = s.mb := rfl
@[simp] theorem State.evtPart_img (p j k : Nat) : (s.evtPart p j k).img = s.img := rfl
@[simp] theorem State.evtPart_fc (p j k : Nat) : (s.evtPart p j k).fc = s.fc := rfl
@[simp] theorem State.evtPart_boot (p j k : Nat) : (s.evtPart p j k).boot = s.boot := rfl
@[simp] theorem State.evtPart_pw (p j k : Nat) : (s.evtPart p j k).pw = s.pw := rfl
@[simp] theorem State.evtPart_ck (p j k : Nat) : (s.evtPart p j k).ck = s.ck := rfl
@[simp] theorem State.evtPart_pst (p j k : Nat) : (s.evtPart p j k).pst = s.pst := rfl
@[simp] theorem State.evtPart_hold (p j k : Nat) : (s.evtPart p j k).hold = s.hold := rfl
@[simp] theorem State.evtPart_sch (p j k : Nat) : (s.evtPart p j k).sch = s.sch := rfl
@[simp] theorem State.evtPart_dm (p j k : Nat) : (s.evtPart p j k).dm = s.dm := rfl
@[simp] theorem State.evtPart_lb (p j k : Nat) : (s.evtPart p j k).lb = s.lb := rfl
@[simp] theorem State.evtPart_sp (p j k : Nat) : (s.evtPart p j k).sp = s.sp := rfl
@[simp] theorem State.evtPart_pmon (p j k : Nat) : (s.evtPart p j k).pmon = s.pmon := rfl
@[simp] theorem State.evtPart_evq (p j k : Nat) : (s.evtPart p j k).evq = s.evq := rfl
@[simp] theorem State.evtPart_timers (p j k : Nat) : (s.evtPart p j k).timers = s.timers := rfl
@[simp] theorem State.evtPart_inbox (p j k : Nat) : (s.evtPart p j k).inbox = s.inbox := rfl
@[simp] theorem State.evtPart_reports (p j k : Nat) : (s.evtPart p j k).reports = s.reports := rfl
@[simp] theorem State.evtPart_out (p j k : Nat) : (s.evtPart p j k).out = s.out := rfl
@[simp] theorem State.evtPart_now (p j k : Nat) : (s.evtPart p j k).now = s.now := rfl
@[simp] theorem State.evtPart_fwFeature (p j k : Nat) : (s.evtPart p j k).fwFeature = s.fwFeature := rfl
@[simp] theorem State.evtPart_free (p j k : Nat) : (s.evtPart p j k).free = s.free := rfl
@[simp] theorem State.evtPart_pending (p j k : Nat) : (s.evtPart p j k).pending = s.pending := rfl
@[simp] theorem State.link_evtPart (p j k : Nat) (p' : Nat) : (s.evtPart p j k).link p' = s.link p' := rfl
@[simp] theorem State.runs_evtPart (p j k : Nat) (x' : TimerId) : (s.evtPart p j k).runs x' = s.runs x' := rfl

/-! ### evtJnl -/

@[simp] theorem State.evtJnl_ring (p j k : Nat) : (s.evtJnl p j k).ring = s.ring := rfl
@[simp] theorem State.evtJnl_links (p j k : Nat) : (s.evtJnl p j k).links = s.links := rfl
@[simp] theorem State.evtJnl_ln (p j k : Nat) : (s.evtJnl p j k).ln = s.ln := rfl
@[simp] theorem State.evtJnl_sc (p j k : Nat) : (s.evtJnl p j k).sc = s.sc := rfl
@[simp] theorem State.evtJnl_jnl (p j k : Nat) : (s.evtJnl p j k).jnl = s.jnl := rfl
@[simp] theorem State.evtJnl_spn (p j k : Nat) : (s.evtJnl p j k).spn = s.spn := rfl
@[simp] theorem State.evtJnl_win (p j k : Nat) : (s.evtJnl p j k).win = s.win := rfl
@[simp] theorem State.evtJnl_acks (p j k : Nat) : (s.evtJnl p j k).acks = s.acks := rfl
@[simp] theorem State.evtJnl_nextAck (p j k : Nat) : (s.evtJnl p j k).nextAck = s.nextAck := rfl
@[simp] theorem State.evtJnl_part (p j k : Nat) : (s.evtJnl p j k).part = s.part := rfl
@[simp] theorem State.evtJnl_pcie (p j k : Nat) : (s.evtJnl p j k).pcie = s.pcie := rfl
@[simp] theorem State.evtJnl_mb (p j k : Nat) : (s.evtJnl p j k).mb = s.mb := rfl
@[simp] theorem State.evtJnl_img (p j k : Nat) : (s.evtJnl p j k).img = s.img := rfl
@[simp] theorem State.evtJnl_fc (p j k : Nat) : (s.evtJnl p j k).fc = s.fc := rfl
@[simp] theorem State.evtJnl_boot (p j k : Nat) : (s.evtJnl p j k).boot = s.boot := rfl
@[simp] theorem State.evtJnl_pw (p j k : Nat) : (s.evtJnl p j k).pw = s.pw := rfl
@[simp] theorem State.evtJnl_ck (p j k : Nat) : (s.evtJnl p j k).ck = s.ck := rfl
@[simp] theorem State.evtJnl_pst (p j k : Nat) : (s.evtJnl p j k).pst = s.pst := rfl
@[simp] theorem State.evtJnl_hold (p j k : Nat) : (s.evtJnl p j k).hold = s.hold := rfl
@[simp] theorem State.evtJnl_sch (p j k : Nat) : (s.evtJnl p j k).sch = s.sch := rfl
@[simp] theorem State.evtJnl_dm (p j k : Nat) : (s.evtJnl p j k).dm = s.dm := rfl
@[simp] theorem State.evtJnl_lb (p j k : Nat) : (s.evtJnl p j k).lb = s.lb := rfl
@[simp] theorem State.evtJnl_sp (p j k : Nat) : (s.evtJnl p j k).sp = s.sp := rfl
@[simp] theorem State.evtJnl_pmon (p j k : Nat) : (s.evtJnl p j k).pmon = s.pmon := rfl
@[simp] theorem State.evtJnl_evq (p j k : Nat) : (s.evtJnl p j k).evq = s.evq := rfl
@[simp] theorem State.evtJnl_timers (p j k : Nat) : (s.evtJnl p j k).timers = s.timers := rfl
@[simp] theorem State.evtJnl_inbox (p j k : Nat) : (s.evtJnl p j k).inbox = s.inbox := rfl
@[simp] theorem State.evtJnl_reports (p j k : Nat) : (s.evtJnl p j k).reports = s.reports := rfl
@[simp] theorem State.evtJnl_out (p j k : Nat) : (s.evtJnl p j k).out = s.out := rfl
@[simp] theorem State.evtJnl_now (p j k : Nat) : (s.evtJnl p j k).now = s.now := rfl
@[simp] theorem State.evtJnl_fwFeature (p j k : Nat) : (s.evtJnl p j k).fwFeature = s.fwFeature := rfl
@[simp] theorem State.evtJnl_free (p j k : Nat) : (s.evtJnl p j k).free = s.free := rfl
@[simp] theorem State.evtJnl_pending (p j k : Nat) : (s.evtJnl p j k).pending = s.pending := rfl
@[simp] theorem State.link_evtJnl (p j k : Nat) (p' : Nat) : (s.evtJnl p j k).link p' = s.link p' := rfl
@[simp] theorem State.runs_evtJnl (p j k : Nat) (x' : TimerId) : (s.evtJnl p j k).runs x' = s.runs x' := rfl

/-! ### evtNode -/

@[simp] theorem State.evtNode_ring (p j k : Nat) : (s.evtNode p j k).ring = s.ring := rfl
@[simp] theorem State.evtNode_links (p j k : Nat) : (s.evtNode p j k).links = s.links := rfl
@[simp] theorem State.evtNode_ln (p j k : Nat) : (s.evtNode p j k).ln = s.ln := rfl
@[simp] theorem State.evtNode_sc (p j k : Nat) : (s.evtNode p j k).sc = s.sc := rfl
@[simp] theorem State.evtNode_jnl (p j k : Nat) : (s.evtNode p j k).jnl = s.jnl := rfl
@[simp] theorem State.evtNode_spn (p j k : Nat) : (s.evtNode p j k).spn = s.spn := rfl
@[simp] theorem State.evtNode_win (p j k : Nat) : (s.evtNode p j k).win = s.win := rfl
@[simp] theorem State.evtNode_acks (p j k : Nat) : (s.evtNode p j k).acks = s.acks := rfl
@[simp] theorem State.evtNode_nextAck (p j k : Nat) : (s.evtNode p j k).nextAck = s.nextAck := rfl
@[simp] theorem State.evtNode_part (p j k : Nat) : (s.evtNode p j k).part = s.part := rfl
@[simp] theorem State.evtNode_pcie (p j k : Nat) : (s.evtNode p j k).pcie = s.pcie := rfl
@[simp] theorem State.evtNode_mb (p j k : Nat) : (s.evtNode p j k).mb = s.mb := rfl
@[simp] theorem State.evtNode_img (p j k : Nat) : (s.evtNode p j k).img = s.img := rfl
@[simp] theorem State.evtNode_fc (p j k : Nat) : (s.evtNode p j k).fc = s.fc := rfl
@[simp] theorem State.evtNode_boot (p j k : Nat) : (s.evtNode p j k).boot = s.boot := rfl
@[simp] theorem State.evtNode_pw (p j k : Nat) : (s.evtNode p j k).pw = s.pw := rfl
@[simp] theorem State.evtNode_ck (p j k : Nat) : (s.evtNode p j k).ck = s.ck := rfl
@[simp] theorem State.evtNode_pst (p j k : Nat) : (s.evtNode p j k).pst = s.pst := rfl
@[simp] theorem State.evtNode_hold (p j k : Nat) : (s.evtNode p j k).hold = s.hold := rfl
@[simp] theorem State.evtNode_sch (p j k : Nat) : (s.evtNode p j k).sch = s.sch := rfl
@[simp] theorem State.evtNode_dm (p j k : Nat) : (s.evtNode p j k).dm = s.dm := rfl
@[simp] theorem State.evtNode_lb (p j k : Nat) : (s.evtNode p j k).lb = s.lb := rfl
@[simp] theorem State.evtNode_sp (p j k : Nat) : (s.evtNode p j k).sp = s.sp := rfl
@[simp] theorem State.evtNode_pmon (p j k : Nat) : (s.evtNode p j k).pmon = s.pmon := rfl
@[simp] theorem State.evtNode_evq (p j k : Nat) : (s.evtNode p j k).evq = s.evq := rfl
@[simp] theorem State.evtNode_timers (p j k : Nat) : (s.evtNode p j k).timers = s.timers := rfl
@[simp] theorem State.evtNode_inbox (p j k : Nat) : (s.evtNode p j k).inbox = s.inbox := rfl
@[simp] theorem State.evtNode_reports (p j k : Nat) : (s.evtNode p j k).reports = s.reports := rfl
@[simp] theorem State.evtNode_out (p j k : Nat) : (s.evtNode p j k).out = s.out := rfl
@[simp] theorem State.evtNode_now (p j k : Nat) : (s.evtNode p j k).now = s.now := rfl
@[simp] theorem State.evtNode_fwFeature (p j k : Nat) : (s.evtNode p j k).fwFeature = s.fwFeature := rfl
@[simp] theorem State.evtNode_free (p j k : Nat) : (s.evtNode p j k).free = s.free := rfl
@[simp] theorem State.evtNode_pending (p j k : Nat) : (s.evtNode p j k).pending = s.pending := rfl
@[simp] theorem State.link_evtNode (p j k : Nat) (p' : Nat) : (s.evtNode p j k).link p' = s.link p' := rfl
@[simp] theorem State.runs_evtNode (p j k : Nat) (x' : TimerId) : (s.evtNode p j k).runs x' = s.runs x' := rfl

/-! ### stop -/

@[simp] theorem State.stop_fields (x : TimerId) : (s.stop x).fields = s.fields := rfl
@[simp] theorem State.stop_ring (x : TimerId) : (s.stop x).ring = s.ring := rfl
@[simp] theorem State.stop_links (x : TimerId) : (s.stop x).links = s.links := rfl
@[simp] theorem State.stop_ln (x : TimerId) : (s.stop x).ln = s.ln := rfl
@[simp] theorem State.stop_sc (x : TimerId) : (s.stop x).sc = s.sc := rfl
@[simp] theorem State.stop_jnl (x : TimerId) : (s.stop x).jnl = s.jnl := rfl
@[simp] theorem State.stop_spn (x : TimerId) : (s.stop x).spn = s.spn := rfl
@[simp] theorem State.stop_win (x : TimerId) : (s.stop x).win = s.win := rfl
@[simp] theorem State.stop_acks (x : TimerId) : (s.stop x).acks = s.acks := rfl
@[simp] theorem State.stop_nextAck (x : TimerId) : (s.stop x).nextAck = s.nextAck := rfl
@[simp] theorem State.stop_part (x : TimerId) : (s.stop x).part = s.part := rfl
@[simp] theorem State.stop_pcie (x : TimerId) : (s.stop x).pcie = s.pcie := rfl
@[simp] theorem State.stop_mb (x : TimerId) : (s.stop x).mb = s.mb := rfl
@[simp] theorem State.stop_img (x : TimerId) : (s.stop x).img = s.img := rfl
@[simp] theorem State.stop_fc (x : TimerId) : (s.stop x).fc = s.fc := rfl
@[simp] theorem State.stop_boot (x : TimerId) : (s.stop x).boot = s.boot := rfl
@[simp] theorem State.stop_pw (x : TimerId) : (s.stop x).pw = s.pw := rfl
@[simp] theorem State.stop_ck (x : TimerId) : (s.stop x).ck = s.ck := rfl
@[simp] theorem State.stop_pst (x : TimerId) : (s.stop x).pst = s.pst := rfl
@[simp] theorem State.stop_hold (x : TimerId) : (s.stop x).hold = s.hold := rfl
@[simp] theorem State.stop_sch (x : TimerId) : (s.stop x).sch = s.sch := rfl
@[simp] theorem State.stop_dm (x : TimerId) : (s.stop x).dm = s.dm := rfl
@[simp] theorem State.stop_lb (x : TimerId) : (s.stop x).lb = s.lb := rfl
@[simp] theorem State.stop_sp (x : TimerId) : (s.stop x).sp = s.sp := rfl
@[simp] theorem State.stop_pmon (x : TimerId) : (s.stop x).pmon = s.pmon := rfl
@[simp] theorem State.stop_evq (x : TimerId) : (s.stop x).evq = s.evq := rfl
@[simp] theorem State.stop_inbox (x : TimerId) : (s.stop x).inbox = s.inbox := rfl
@[simp] theorem State.stop_reports (x : TimerId) : (s.stop x).reports = s.reports := rfl
@[simp] theorem State.stop_out (x : TimerId) : (s.stop x).out = s.out := rfl
@[simp] theorem State.stop_now (x : TimerId) : (s.stop x).now = s.now := rfl
@[simp] theorem State.stop_fwFeature (x : TimerId) : (s.stop x).fwFeature = s.fwFeature := rfl
@[simp] theorem State.stop_free (x : TimerId) : (s.stop x).free = s.free := rfl
@[simp] theorem State.stop_pending (x : TimerId) : (s.stop x).pending = s.pending := rfl
@[simp] theorem State.get_stop (x : TimerId) (f' : Fld) (j : Nat) : (s.stop x).get f' j = s.get f' j := rfl
@[simp] theorem State.on_stop (x : TimerId) (f' : Fld) (j : Nat) : (s.stop x).on f' j = s.on f' j := rfl
@[simp] theorem State.link_stop (x : TimerId) (p' : Nat) : (s.stop x).link p' = s.link p' := rfl

/-! ### start -/

@[simp] theorem State.start_fields (x : TimerId) (ns : Nat) : (s.start x ns).fields = s.fields := rfl
@[simp] theorem State.start_ring (x : TimerId) (ns : Nat) : (s.start x ns).ring = s.ring := rfl
@[simp] theorem State.start_links (x : TimerId) (ns : Nat) : (s.start x ns).links = s.links := rfl
@[simp] theorem State.start_ln (x : TimerId) (ns : Nat) : (s.start x ns).ln = s.ln := rfl
@[simp] theorem State.start_sc (x : TimerId) (ns : Nat) : (s.start x ns).sc = s.sc := rfl
@[simp] theorem State.start_jnl (x : TimerId) (ns : Nat) : (s.start x ns).jnl = s.jnl := rfl
@[simp] theorem State.start_spn (x : TimerId) (ns : Nat) : (s.start x ns).spn = s.spn := rfl
@[simp] theorem State.start_win (x : TimerId) (ns : Nat) : (s.start x ns).win = s.win := rfl
@[simp] theorem State.start_acks (x : TimerId) (ns : Nat) : (s.start x ns).acks = s.acks := rfl
@[simp] theorem State.start_nextAck (x : TimerId) (ns : Nat) : (s.start x ns).nextAck = s.nextAck := rfl
@[simp] theorem State.start_part (x : TimerId) (ns : Nat) : (s.start x ns).part = s.part := rfl
@[simp] theorem State.start_pcie (x : TimerId) (ns : Nat) : (s.start x ns).pcie = s.pcie := rfl
@[simp] theorem State.start_mb (x : TimerId) (ns : Nat) : (s.start x ns).mb = s.mb := rfl
@[simp] theorem State.start_img (x : TimerId) (ns : Nat) : (s.start x ns).img = s.img := rfl
@[simp] theorem State.start_fc (x : TimerId) (ns : Nat) : (s.start x ns).fc = s.fc := rfl
@[simp] theorem State.start_boot (x : TimerId) (ns : Nat) : (s.start x ns).boot = s.boot := rfl
@[simp] theorem State.start_pw (x : TimerId) (ns : Nat) : (s.start x ns).pw = s.pw := rfl
@[simp] theorem State.start_ck (x : TimerId) (ns : Nat) : (s.start x ns).ck = s.ck := rfl
@[simp] theorem State.start_pst (x : TimerId) (ns : Nat) : (s.start x ns).pst = s.pst := rfl
@[simp] theorem State.start_hold (x : TimerId) (ns : Nat) : (s.start x ns).hold = s.hold := rfl
@[simp] theorem State.start_sch (x : TimerId) (ns : Nat) : (s.start x ns).sch = s.sch := rfl
@[simp] theorem State.start_dm (x : TimerId) (ns : Nat) : (s.start x ns).dm = s.dm := rfl
@[simp] theorem State.start_lb (x : TimerId) (ns : Nat) : (s.start x ns).lb = s.lb := rfl
@[simp] theorem State.start_sp (x : TimerId) (ns : Nat) : (s.start x ns).sp = s.sp := rfl
@[simp] theorem State.start_pmon (x : TimerId) (ns : Nat) : (s.start x ns).pmon = s.pmon := rfl
@[simp] theorem State.start_evq (x : TimerId) (ns : Nat) : (s.start x ns).evq = s.evq := rfl
@[simp] theorem State.start_inbox (x : TimerId) (ns : Nat) : (s.start x ns).inbox = s.inbox := rfl
@[simp] theorem State.start_reports (x : TimerId) (ns : Nat) : (s.start x ns).reports = s.reports := rfl
@[simp] theorem State.start_out (x : TimerId) (ns : Nat) : (s.start x ns).out = s.out := rfl
@[simp] theorem State.start_now (x : TimerId) (ns : Nat) : (s.start x ns).now = s.now := rfl
@[simp] theorem State.start_fwFeature (x : TimerId) (ns : Nat) : (s.start x ns).fwFeature = s.fwFeature := rfl
@[simp] theorem State.start_free (x : TimerId) (ns : Nat) : (s.start x ns).free = s.free := rfl
@[simp] theorem State.start_pending (x : TimerId) (ns : Nat) : (s.start x ns).pending = s.pending := rfl
@[simp] theorem State.get_start (x : TimerId) (ns : Nat) (f' : Fld) (j : Nat) : (s.start x ns).get f' j = s.get f' j := rfl
@[simp] theorem State.on_start (x : TimerId) (ns : Nat) (f' : Fld) (j : Nat) : (s.start x ns).on f' j = s.on f' j := rfl
@[simp] theorem State.link_start (x : TimerId) (ns : Nat) (p' : Nat) : (s.start x ns).link p' = s.link p' := rfl

/-! ### emit -/

@[simp] theorem State.emit_fields (e : Emit) : (s.emit e).fields = s.fields := rfl
@[simp] theorem State.emit_ring (e : Emit) : (s.emit e).ring = s.ring := rfl
@[simp] theorem State.emit_links (e : Emit) : (s.emit e).links = s.links := rfl
@[simp] theorem State.emit_ln (e : Emit) : (s.emit e).ln = s.ln := rfl
@[simp] theorem State.emit_sc (e : Emit) : (s.emit e).sc = s.sc := rfl
@[simp] theorem State.emit_jnl (e : Emit) : (s.emit e).jnl = s.jnl := rfl
@[simp] theorem State.emit_spn (e : Emit) : (s.emit e).spn = s.spn := rfl
@[simp] theorem State.emit_win (e : Emit) : (s.emit e).win = s.win := rfl
@[simp] theorem State.emit_acks (e : Emit) : (s.emit e).acks = s.acks := rfl
@[simp] theorem State.emit_nextAck (e : Emit) : (s.emit e).nextAck = s.nextAck := rfl
@[simp] theorem State.emit_part (e : Emit) : (s.emit e).part = s.part := rfl
@[simp] theorem State.emit_pcie (e : Emit) : (s.emit e).pcie = s.pcie := rfl
@[simp] theorem State.emit_mb (e : Emit) : (s.emit e).mb = s.mb := rfl
@[simp] theorem State.emit_img (e : Emit) : (s.emit e).img = s.img := rfl
@[simp] theorem State.emit_fc (e : Emit) : (s.emit e).fc = s.fc := rfl
@[simp] theorem State.emit_boot (e : Emit) : (s.emit e).boot = s.boot := rfl
@[simp] theorem State.emit_pw (e : Emit) : (s.emit e).pw = s.pw := rfl
@[simp] theorem State.emit_ck (e : Emit) : (s.emit e).ck = s.ck := rfl
@[simp] theorem State.emit_pst (e : Emit) : (s.emit e).pst = s.pst := rfl
@[simp] theorem State.emit_hold (e : Emit) : (s.emit e).hold = s.hold := rfl
@[simp] theorem State.emit_sch (e : Emit) : (s.emit e).sch = s.sch := rfl
@[simp] theorem State.emit_dm (e : Emit) : (s.emit e).dm = s.dm := rfl
@[simp] theorem State.emit_lb (e : Emit) : (s.emit e).lb = s.lb := rfl
@[simp] theorem State.emit_sp (e : Emit) : (s.emit e).sp = s.sp := rfl
@[simp] theorem State.emit_pmon (e : Emit) : (s.emit e).pmon = s.pmon := rfl
@[simp] theorem State.emit_evq (e : Emit) : (s.emit e).evq = s.evq := rfl
@[simp] theorem State.emit_timers (e : Emit) : (s.emit e).timers = s.timers := rfl
@[simp] theorem State.emit_inbox (e : Emit) : (s.emit e).inbox = s.inbox := rfl
@[simp] theorem State.emit_reports (e : Emit) : (s.emit e).reports = s.reports := rfl
@[simp] theorem State.emit_now (e : Emit) : (s.emit e).now = s.now := rfl
@[simp] theorem State.emit_fwFeature (e : Emit) : (s.emit e).fwFeature = s.fwFeature := rfl
@[simp] theorem State.emit_free (e : Emit) : (s.emit e).free = s.free := rfl
@[simp] theorem State.emit_pending (e : Emit) : (s.emit e).pending = s.pending := rfl
@[simp] theorem State.get_emit (e : Emit) (f' : Fld) (j : Nat) : (s.emit e).get f' j = s.get f' j := rfl
@[simp] theorem State.on_emit (e : Emit) (f' : Fld) (j : Nat) : (s.emit e).on f' j = s.on f' j := rfl
@[simp] theorem State.link_emit (e : Emit) (p' : Nat) : (s.emit e).link p' = s.link p' := rfl
@[simp] theorem State.runs_emit (e : Emit) (x' : TimerId) : (s.emit e).runs x' = s.runs x' := rfl

/-! ### report -/

@[simp] theorem State.report_fields (r : Report) : (s.report r).fields = s.fields := rfl
@[simp] theorem State.report_ring (r : Report) : (s.report r).ring = s.ring := rfl
@[simp] theorem State.report_links (r : Report) : (s.report r).links = s.links := rfl
@[simp] theorem State.report_ln (r : Report) : (s.report r).ln = s.ln := rfl
@[simp] theorem State.report_sc (r : Report) : (s.report r).sc = s.sc := rfl
@[simp] theorem State.report_jnl (r : Report) : (s.report r).jnl = s.jnl := rfl
@[simp] theorem State.report_spn (r : Report) : (s.report r).spn = s.spn := rfl
@[simp] theorem State.report_win (r : Report) : (s.report r).win = s.win := rfl
@[simp] theorem State.report_acks (r : Report) : (s.report r).acks = s.acks := rfl
@[simp] theorem State.report_nextAck (r : Report) : (s.report r).nextAck = s.nextAck := rfl
@[simp] theorem State.report_part (r : Report) : (s.report r).part = s.part := rfl
@[simp] theorem State.report_pcie (r : Report) : (s.report r).pcie = s.pcie := rfl
@[simp] theorem State.report_mb (r : Report) : (s.report r).mb = s.mb := rfl
@[simp] theorem State.report_img (r : Report) : (s.report r).img = s.img := rfl
@[simp] theorem State.report_fc (r : Report) : (s.report r).fc = s.fc := rfl
@[simp] theorem State.report_boot (r : Report) : (s.report r).boot = s.boot := rfl
@[simp] theorem State.report_pw (r : Report) : (s.report r).pw = s.pw := rfl
@[simp] theorem State.report_ck (r : Report) : (s.report r).ck = s.ck := rfl
@[simp] theorem State.report_pst (r : Report) : (s.report r).pst = s.pst := rfl
@[simp] theorem State.report_hold (r : Report) : (s.report r).hold = s.hold := rfl
@[simp] theorem State.report_sch (r : Report) : (s.report r).sch = s.sch := rfl
@[simp] theorem State.report_dm (r : Report) : (s.report r).dm = s.dm := rfl
@[simp] theorem State.report_lb (r : Report) : (s.report r).lb = s.lb := rfl
@[simp] theorem State.report_sp (r : Report) : (s.report r).sp = s.sp := rfl
@[simp] theorem State.report_pmon (r : Report) : (s.report r).pmon = s.pmon := rfl
@[simp] theorem State.report_evq (r : Report) : (s.report r).evq = s.evq := rfl
@[simp] theorem State.report_timers (r : Report) : (s.report r).timers = s.timers := rfl
@[simp] theorem State.report_inbox (r : Report) : (s.report r).inbox = s.inbox := rfl
@[simp] theorem State.report_out (r : Report) : (s.report r).out = s.out := rfl
@[simp] theorem State.report_now (r : Report) : (s.report r).now = s.now := rfl
@[simp] theorem State.report_fwFeature (r : Report) : (s.report r).fwFeature = s.fwFeature := rfl
@[simp] theorem State.report_free (r : Report) : (s.report r).free = s.free := rfl
@[simp] theorem State.report_pending (r : Report) : (s.report r).pending = s.pending := rfl
@[simp] theorem State.get_report (r : Report) (f' : Fld) (j : Nat) : (s.report r).get f' j = s.get f' j := rfl
@[simp] theorem State.on_report (r : Report) (f' : Fld) (j : Nat) : (s.report r).on f' j = s.on f' j := rfl
@[simp] theorem State.link_report (r : Report) (p' : Nat) : (s.report r).link p' = s.link p' := rfl
@[simp] theorem State.runs_report (r : Report) (x' : TimerId) : (s.report r).runs x' = s.runs x' := rfl

/-! ### reportPort -/

@[simp] theorem State.reportPort_fields (unit cls port cause : Nat) : (s.reportPort unit cls port cause).fields = s.fields := rfl
@[simp] theorem State.reportPort_ring (unit cls port cause : Nat) : (s.reportPort unit cls port cause).ring = s.ring := rfl
@[simp] theorem State.reportPort_links (unit cls port cause : Nat) : (s.reportPort unit cls port cause).links = s.links := rfl
@[simp] theorem State.reportPort_ln (unit cls port cause : Nat) : (s.reportPort unit cls port cause).ln = s.ln := rfl
@[simp] theorem State.reportPort_sc (unit cls port cause : Nat) : (s.reportPort unit cls port cause).sc = s.sc := rfl
@[simp] theorem State.reportPort_jnl (unit cls port cause : Nat) : (s.reportPort unit cls port cause).jnl = s.jnl := rfl
@[simp] theorem State.reportPort_spn (unit cls port cause : Nat) : (s.reportPort unit cls port cause).spn = s.spn := rfl
@[simp] theorem State.reportPort_win (unit cls port cause : Nat) : (s.reportPort unit cls port cause).win = s.win := rfl
@[simp] theorem State.reportPort_acks (unit cls port cause : Nat) : (s.reportPort unit cls port cause).acks = s.acks := rfl
@[simp] theorem State.reportPort_nextAck (unit cls port cause : Nat) : (s.reportPort unit cls port cause).nextAck = s.nextAck := rfl
@[simp] theorem State.reportPort_part (unit cls port cause : Nat) : (s.reportPort unit cls port cause).part = s.part := rfl
@[simp] theorem State.reportPort_pcie (unit cls port cause : Nat) : (s.reportPort unit cls port cause).pcie = s.pcie := rfl
@[simp] theorem State.reportPort_mb (unit cls port cause : Nat) : (s.reportPort unit cls port cause).mb = s.mb := rfl
@[simp] theorem State.reportPort_img (unit cls port cause : Nat) : (s.reportPort unit cls port cause).img = s.img := rfl
@[simp] theorem State.reportPort_fc (unit cls port cause : Nat) : (s.reportPort unit cls port cause).fc = s.fc := rfl
@[simp] theorem State.reportPort_boot (unit cls port cause : Nat) : (s.reportPort unit cls port cause).boot = s.boot := rfl
@[simp] theorem State.reportPort_pw (unit cls port cause : Nat) : (s.reportPort unit cls port cause).pw = s.pw := rfl
@[simp] theorem State.reportPort_ck (unit cls port cause : Nat) : (s.reportPort unit cls port cause).ck = s.ck := rfl
@[simp] theorem State.reportPort_pst (unit cls port cause : Nat) : (s.reportPort unit cls port cause).pst = s.pst := rfl
@[simp] theorem State.reportPort_hold (unit cls port cause : Nat) : (s.reportPort unit cls port cause).hold = s.hold := rfl
@[simp] theorem State.reportPort_sch (unit cls port cause : Nat) : (s.reportPort unit cls port cause).sch = s.sch := rfl
@[simp] theorem State.reportPort_dm (unit cls port cause : Nat) : (s.reportPort unit cls port cause).dm = s.dm := rfl
@[simp] theorem State.reportPort_lb (unit cls port cause : Nat) : (s.reportPort unit cls port cause).lb = s.lb := rfl
@[simp] theorem State.reportPort_sp (unit cls port cause : Nat) : (s.reportPort unit cls port cause).sp = s.sp := rfl
@[simp] theorem State.reportPort_pmon (unit cls port cause : Nat) : (s.reportPort unit cls port cause).pmon = s.pmon := rfl
@[simp] theorem State.reportPort_evq (unit cls port cause : Nat) : (s.reportPort unit cls port cause).evq = s.evq := rfl
@[simp] theorem State.reportPort_timers (unit cls port cause : Nat) : (s.reportPort unit cls port cause).timers = s.timers := rfl
@[simp] theorem State.reportPort_inbox (unit cls port cause : Nat) : (s.reportPort unit cls port cause).inbox = s.inbox := rfl
@[simp] theorem State.reportPort_out (unit cls port cause : Nat) : (s.reportPort unit cls port cause).out = s.out := rfl
@[simp] theorem State.reportPort_now (unit cls port cause : Nat) : (s.reportPort unit cls port cause).now = s.now := rfl
@[simp] theorem State.reportPort_fwFeature (unit cls port cause : Nat) : (s.reportPort unit cls port cause).fwFeature = s.fwFeature := rfl
@[simp] theorem State.reportPort_free (unit cls port cause : Nat) : (s.reportPort unit cls port cause).free = s.free := rfl
@[simp] theorem State.reportPort_pending (unit cls port cause : Nat) : (s.reportPort unit cls port cause).pending = s.pending := rfl
@[simp] theorem State.get_reportPort (unit cls port cause : Nat) (f' : Fld) (j : Nat) : (s.reportPort unit cls port cause).get f' j = s.get f' j := rfl
@[simp] theorem State.on_reportPort (unit cls port cause : Nat) (f' : Fld) (j : Nat) : (s.reportPort unit cls port cause).on f' j = s.on f' j := rfl
@[simp] theorem State.link_reportPort (unit cls port cause : Nat) (p' : Nat) : (s.reportPort unit cls port cause).link p' = s.link p' := rfl
@[simp] theorem State.runs_reportPort (unit cls port cause : Nat) (x' : TimerId) : (s.reportPort unit cls port cause).runs x' = s.runs x' := rfl

/-! ### reportNode -/

@[simp] theorem State.reportNode_fields (unit cls cause : Nat) : (s.reportNode unit cls cause).fields = s.fields := rfl
@[simp] theorem State.reportNode_ring (unit cls cause : Nat) : (s.reportNode unit cls cause).ring = s.ring := rfl
@[simp] theorem State.reportNode_links (unit cls cause : Nat) : (s.reportNode unit cls cause).links = s.links := rfl
@[simp] theorem State.reportNode_ln (unit cls cause : Nat) : (s.reportNode unit cls cause).ln = s.ln := rfl
@[simp] theorem State.reportNode_sc (unit cls cause : Nat) : (s.reportNode unit cls cause).sc = s.sc := rfl
@[simp] theorem State.reportNode_jnl (unit cls cause : Nat) : (s.reportNode unit cls cause).jnl = s.jnl := rfl
@[simp] theorem State.reportNode_spn (unit cls cause : Nat) : (s.reportNode unit cls cause).spn = s.spn := rfl
@[simp] theorem State.reportNode_win (unit cls cause : Nat) : (s.reportNode unit cls cause).win = s.win := rfl
@[simp] theorem State.reportNode_acks (unit cls cause : Nat) : (s.reportNode unit cls cause).acks = s.acks := rfl
@[simp] theorem State.reportNode_nextAck (unit cls cause : Nat) : (s.reportNode unit cls cause).nextAck = s.nextAck := rfl
@[simp] theorem State.reportNode_part (unit cls cause : Nat) : (s.reportNode unit cls cause).part = s.part := rfl
@[simp] theorem State.reportNode_pcie (unit cls cause : Nat) : (s.reportNode unit cls cause).pcie = s.pcie := rfl
@[simp] theorem State.reportNode_mb (unit cls cause : Nat) : (s.reportNode unit cls cause).mb = s.mb := rfl
@[simp] theorem State.reportNode_img (unit cls cause : Nat) : (s.reportNode unit cls cause).img = s.img := rfl
@[simp] theorem State.reportNode_fc (unit cls cause : Nat) : (s.reportNode unit cls cause).fc = s.fc := rfl
@[simp] theorem State.reportNode_boot (unit cls cause : Nat) : (s.reportNode unit cls cause).boot = s.boot := rfl
@[simp] theorem State.reportNode_pw (unit cls cause : Nat) : (s.reportNode unit cls cause).pw = s.pw := rfl
@[simp] theorem State.reportNode_ck (unit cls cause : Nat) : (s.reportNode unit cls cause).ck = s.ck := rfl
@[simp] theorem State.reportNode_pst (unit cls cause : Nat) : (s.reportNode unit cls cause).pst = s.pst := rfl
@[simp] theorem State.reportNode_hold (unit cls cause : Nat) : (s.reportNode unit cls cause).hold = s.hold := rfl
@[simp] theorem State.reportNode_sch (unit cls cause : Nat) : (s.reportNode unit cls cause).sch = s.sch := rfl
@[simp] theorem State.reportNode_dm (unit cls cause : Nat) : (s.reportNode unit cls cause).dm = s.dm := rfl
@[simp] theorem State.reportNode_lb (unit cls cause : Nat) : (s.reportNode unit cls cause).lb = s.lb := rfl
@[simp] theorem State.reportNode_sp (unit cls cause : Nat) : (s.reportNode unit cls cause).sp = s.sp := rfl
@[simp] theorem State.reportNode_pmon (unit cls cause : Nat) : (s.reportNode unit cls cause).pmon = s.pmon := rfl
@[simp] theorem State.reportNode_evq (unit cls cause : Nat) : (s.reportNode unit cls cause).evq = s.evq := rfl
@[simp] theorem State.reportNode_timers (unit cls cause : Nat) : (s.reportNode unit cls cause).timers = s.timers := rfl
@[simp] theorem State.reportNode_inbox (unit cls cause : Nat) : (s.reportNode unit cls cause).inbox = s.inbox := rfl
@[simp] theorem State.reportNode_out (unit cls cause : Nat) : (s.reportNode unit cls cause).out = s.out := rfl
@[simp] theorem State.reportNode_now (unit cls cause : Nat) : (s.reportNode unit cls cause).now = s.now := rfl
@[simp] theorem State.reportNode_fwFeature (unit cls cause : Nat) : (s.reportNode unit cls cause).fwFeature = s.fwFeature := rfl
@[simp] theorem State.reportNode_free (unit cls cause : Nat) : (s.reportNode unit cls cause).free = s.free := rfl
@[simp] theorem State.reportNode_pending (unit cls cause : Nat) : (s.reportNode unit cls cause).pending = s.pending := rfl
@[simp] theorem State.get_reportNode (unit cls cause : Nat) (f' : Fld) (j : Nat) : (s.reportNode unit cls cause).get f' j = s.get f' j := rfl
@[simp] theorem State.on_reportNode (unit cls cause : Nat) (f' : Fld) (j : Nat) : (s.reportNode unit cls cause).on f' j = s.on f' j := rfl
@[simp] theorem State.link_reportNode (unit cls cause : Nat) (p' : Nat) : (s.reportNode unit cls cause).link p' = s.link p' := rfl
@[simp] theorem State.runs_reportNode (unit cls cause : Nat) (x' : TimerId) : (s.reportNode unit cls cause).runs x' = s.runs x' := rfl

/-! ### updLink -/

@[simp] theorem State.updLink_fields (p : Nat) (g : Link → Link) : (s.updLink p g).fields = s.fields := rfl
@[simp] theorem State.updLink_ring (p : Nat) (g : Link → Link) : (s.updLink p g).ring = s.ring := rfl
@[simp] theorem State.updLink_ln (p : Nat) (g : Link → Link) : (s.updLink p g).ln = s.ln := rfl
@[simp] theorem State.updLink_sc (p : Nat) (g : Link → Link) : (s.updLink p g).sc = s.sc := rfl
@[simp] theorem State.updLink_jnl (p : Nat) (g : Link → Link) : (s.updLink p g).jnl = s.jnl := rfl
@[simp] theorem State.updLink_spn (p : Nat) (g : Link → Link) : (s.updLink p g).spn = s.spn := rfl
@[simp] theorem State.updLink_win (p : Nat) (g : Link → Link) : (s.updLink p g).win = s.win := rfl
@[simp] theorem State.updLink_acks (p : Nat) (g : Link → Link) : (s.updLink p g).acks = s.acks := rfl
@[simp] theorem State.updLink_nextAck (p : Nat) (g : Link → Link) : (s.updLink p g).nextAck = s.nextAck := rfl
@[simp] theorem State.updLink_part (p : Nat) (g : Link → Link) : (s.updLink p g).part = s.part := rfl
@[simp] theorem State.updLink_pcie (p : Nat) (g : Link → Link) : (s.updLink p g).pcie = s.pcie := rfl
@[simp] theorem State.updLink_mb (p : Nat) (g : Link → Link) : (s.updLink p g).mb = s.mb := rfl
@[simp] theorem State.updLink_img (p : Nat) (g : Link → Link) : (s.updLink p g).img = s.img := rfl
@[simp] theorem State.updLink_fc (p : Nat) (g : Link → Link) : (s.updLink p g).fc = s.fc := rfl
@[simp] theorem State.updLink_boot (p : Nat) (g : Link → Link) : (s.updLink p g).boot = s.boot := rfl
@[simp] theorem State.updLink_pw (p : Nat) (g : Link → Link) : (s.updLink p g).pw = s.pw := rfl
@[simp] theorem State.updLink_ck (p : Nat) (g : Link → Link) : (s.updLink p g).ck = s.ck := rfl
@[simp] theorem State.updLink_pst (p : Nat) (g : Link → Link) : (s.updLink p g).pst = s.pst := rfl
@[simp] theorem State.updLink_hold (p : Nat) (g : Link → Link) : (s.updLink p g).hold = s.hold := rfl
@[simp] theorem State.updLink_sch (p : Nat) (g : Link → Link) : (s.updLink p g).sch = s.sch := rfl
@[simp] theorem State.updLink_dm (p : Nat) (g : Link → Link) : (s.updLink p g).dm = s.dm := rfl
@[simp] theorem State.updLink_lb (p : Nat) (g : Link → Link) : (s.updLink p g).lb = s.lb := rfl
@[simp] theorem State.updLink_sp (p : Nat) (g : Link → Link) : (s.updLink p g).sp = s.sp := rfl
@[simp] theorem State.updLink_pmon (p : Nat) (g : Link → Link) : (s.updLink p g).pmon = s.pmon := rfl
@[simp] theorem State.updLink_evq (p : Nat) (g : Link → Link) : (s.updLink p g).evq = s.evq := rfl
@[simp] theorem State.updLink_timers (p : Nat) (g : Link → Link) : (s.updLink p g).timers = s.timers := rfl
@[simp] theorem State.updLink_inbox (p : Nat) (g : Link → Link) : (s.updLink p g).inbox = s.inbox := rfl
@[simp] theorem State.updLink_reports (p : Nat) (g : Link → Link) : (s.updLink p g).reports = s.reports := rfl
@[simp] theorem State.updLink_out (p : Nat) (g : Link → Link) : (s.updLink p g).out = s.out := rfl
@[simp] theorem State.updLink_now (p : Nat) (g : Link → Link) : (s.updLink p g).now = s.now := rfl
@[simp] theorem State.updLink_fwFeature (p : Nat) (g : Link → Link) : (s.updLink p g).fwFeature = s.fwFeature := rfl
@[simp] theorem State.updLink_free (p : Nat) (g : Link → Link) : (s.updLink p g).free = s.free := rfl
@[simp] theorem State.updLink_pending (p : Nat) (g : Link → Link) : (s.updLink p g).pending = s.pending := rfl
@[simp] theorem State.get_updLink (p : Nat) (g : Link → Link) (f' : Fld) (j : Nat) : (s.updLink p g).get f' j = s.get f' j := rfl
@[simp] theorem State.on_updLink (p : Nat) (g : Link → Link) (f' : Fld) (j : Nat) : (s.updLink p g).on f' j = s.on f' j := rfl
@[simp] theorem State.runs_updLink (p : Nat) (g : Link → Link) (x' : TimerId) : (s.updLink p g).runs x' = s.runs x' := rfl

/-! ### updPkt -/

@[simp] theorem State.updPkt_fields (id : Nat) (g : Packet → Packet) : (s.updPkt id g).fields = s.fields := rfl
@[simp] theorem State.updPkt_ring (id : Nat) (g : Packet → Packet) : (s.updPkt id g).ring = s.ring := rfl
@[simp] theorem State.updPkt_links (id : Nat) (g : Packet → Packet) : (s.updPkt id g).links = s.links := rfl
@[simp] theorem State.updPkt_ln (id : Nat) (g : Packet → Packet) : (s.updPkt id g).ln = s.ln := rfl
@[simp] theorem State.updPkt_jnl (id : Nat) (g : Packet → Packet) : (s.updPkt id g).jnl = s.jnl := rfl
@[simp] theorem State.updPkt_spn (id : Nat) (g : Packet → Packet) : (s.updPkt id g).spn = s.spn := rfl
@[simp] theorem State.updPkt_win (id : Nat) (g : Packet → Packet) : (s.updPkt id g).win = s.win := rfl
@[simp] theorem State.updPkt_acks (id : Nat) (g : Packet → Packet) : (s.updPkt id g).acks = s.acks := rfl
@[simp] theorem State.updPkt_nextAck (id : Nat) (g : Packet → Packet) : (s.updPkt id g).nextAck = s.nextAck := rfl
@[simp] theorem State.updPkt_part (id : Nat) (g : Packet → Packet) : (s.updPkt id g).part = s.part := rfl
@[simp] theorem State.updPkt_pcie (id : Nat) (g : Packet → Packet) : (s.updPkt id g).pcie = s.pcie := rfl
@[simp] theorem State.updPkt_mb (id : Nat) (g : Packet → Packet) : (s.updPkt id g).mb = s.mb := rfl
@[simp] theorem State.updPkt_img (id : Nat) (g : Packet → Packet) : (s.updPkt id g).img = s.img := rfl
@[simp] theorem State.updPkt_fc (id : Nat) (g : Packet → Packet) : (s.updPkt id g).fc = s.fc := rfl
@[simp] theorem State.updPkt_boot (id : Nat) (g : Packet → Packet) : (s.updPkt id g).boot = s.boot := rfl
@[simp] theorem State.updPkt_pw (id : Nat) (g : Packet → Packet) : (s.updPkt id g).pw = s.pw := rfl
@[simp] theorem State.updPkt_ck (id : Nat) (g : Packet → Packet) : (s.updPkt id g).ck = s.ck := rfl
@[simp] theorem State.updPkt_pst (id : Nat) (g : Packet → Packet) : (s.updPkt id g).pst = s.pst := rfl
@[simp] theorem State.updPkt_hold (id : Nat) (g : Packet → Packet) : (s.updPkt id g).hold = s.hold := rfl
@[simp] theorem State.updPkt_sch (id : Nat) (g : Packet → Packet) : (s.updPkt id g).sch = s.sch := rfl
@[simp] theorem State.updPkt_dm (id : Nat) (g : Packet → Packet) : (s.updPkt id g).dm = s.dm := rfl
@[simp] theorem State.updPkt_lb (id : Nat) (g : Packet → Packet) : (s.updPkt id g).lb = s.lb := rfl
@[simp] theorem State.updPkt_sp (id : Nat) (g : Packet → Packet) : (s.updPkt id g).sp = s.sp := rfl
@[simp] theorem State.updPkt_pmon (id : Nat) (g : Packet → Packet) : (s.updPkt id g).pmon = s.pmon := rfl
@[simp] theorem State.updPkt_evq (id : Nat) (g : Packet → Packet) : (s.updPkt id g).evq = s.evq := rfl
@[simp] theorem State.updPkt_timers (id : Nat) (g : Packet → Packet) : (s.updPkt id g).timers = s.timers := rfl
@[simp] theorem State.updPkt_inbox (id : Nat) (g : Packet → Packet) : (s.updPkt id g).inbox = s.inbox := rfl
@[simp] theorem State.updPkt_reports (id : Nat) (g : Packet → Packet) : (s.updPkt id g).reports = s.reports := rfl
@[simp] theorem State.updPkt_out (id : Nat) (g : Packet → Packet) : (s.updPkt id g).out = s.out := rfl
@[simp] theorem State.updPkt_now (id : Nat) (g : Packet → Packet) : (s.updPkt id g).now = s.now := rfl
@[simp] theorem State.updPkt_fwFeature (id : Nat) (g : Packet → Packet) : (s.updPkt id g).fwFeature = s.fwFeature := rfl
@[simp] theorem State.updPkt_free (id : Nat) (g : Packet → Packet) : (s.updPkt id g).free = s.free := rfl
@[simp] theorem State.updPkt_pending (id : Nat) (g : Packet → Packet) : (s.updPkt id g).pending = s.pending := rfl
@[simp] theorem State.get_updPkt (id : Nat) (g : Packet → Packet) (f' : Fld) (j : Nat) : (s.updPkt id g).get f' j = s.get f' j := rfl
@[simp] theorem State.on_updPkt (id : Nat) (g : Packet → Packet) (f' : Fld) (j : Nat) : (s.updPkt id g).on f' j = s.on f' j := rfl
@[simp] theorem State.link_updPkt (id : Nat) (g : Packet → Packet) (p' : Nat) : (s.updPkt id g).link p' = s.link p' := rfl
@[simp] theorem State.runs_updPkt (id : Nat) (g : Packet → Packet) (x' : TimerId) : (s.updPkt id g).runs x' = s.runs x' := rfl

/-! ### rmPkt -/

@[simp] theorem State.rmPkt_fields (id : Nat) : (s.rmPkt id).fields = s.fields := rfl
@[simp] theorem State.rmPkt_ring (id : Nat) : (s.rmPkt id).ring = s.ring := rfl
@[simp] theorem State.rmPkt_links (id : Nat) : (s.rmPkt id).links = s.links := rfl
@[simp] theorem State.rmPkt_ln (id : Nat) : (s.rmPkt id).ln = s.ln := rfl
@[simp] theorem State.rmPkt_jnl (id : Nat) : (s.rmPkt id).jnl = s.jnl := rfl
@[simp] theorem State.rmPkt_spn (id : Nat) : (s.rmPkt id).spn = s.spn := rfl
@[simp] theorem State.rmPkt_win (id : Nat) : (s.rmPkt id).win = s.win := rfl
@[simp] theorem State.rmPkt_acks (id : Nat) : (s.rmPkt id).acks = s.acks := rfl
@[simp] theorem State.rmPkt_nextAck (id : Nat) : (s.rmPkt id).nextAck = s.nextAck := rfl
@[simp] theorem State.rmPkt_part (id : Nat) : (s.rmPkt id).part = s.part := rfl
@[simp] theorem State.rmPkt_pcie (id : Nat) : (s.rmPkt id).pcie = s.pcie := rfl
@[simp] theorem State.rmPkt_mb (id : Nat) : (s.rmPkt id).mb = s.mb := rfl
@[simp] theorem State.rmPkt_img (id : Nat) : (s.rmPkt id).img = s.img := rfl
@[simp] theorem State.rmPkt_fc (id : Nat) : (s.rmPkt id).fc = s.fc := rfl
@[simp] theorem State.rmPkt_boot (id : Nat) : (s.rmPkt id).boot = s.boot := rfl
@[simp] theorem State.rmPkt_pw (id : Nat) : (s.rmPkt id).pw = s.pw := rfl
@[simp] theorem State.rmPkt_ck (id : Nat) : (s.rmPkt id).ck = s.ck := rfl
@[simp] theorem State.rmPkt_pst (id : Nat) : (s.rmPkt id).pst = s.pst := rfl
@[simp] theorem State.rmPkt_hold (id : Nat) : (s.rmPkt id).hold = s.hold := rfl
@[simp] theorem State.rmPkt_sch (id : Nat) : (s.rmPkt id).sch = s.sch := rfl
@[simp] theorem State.rmPkt_dm (id : Nat) : (s.rmPkt id).dm = s.dm := rfl
@[simp] theorem State.rmPkt_lb (id : Nat) : (s.rmPkt id).lb = s.lb := rfl
@[simp] theorem State.rmPkt_sp (id : Nat) : (s.rmPkt id).sp = s.sp := rfl
@[simp] theorem State.rmPkt_pmon (id : Nat) : (s.rmPkt id).pmon = s.pmon := rfl
@[simp] theorem State.rmPkt_evq (id : Nat) : (s.rmPkt id).evq = s.evq := rfl
@[simp] theorem State.rmPkt_timers (id : Nat) : (s.rmPkt id).timers = s.timers := rfl
@[simp] theorem State.rmPkt_inbox (id : Nat) : (s.rmPkt id).inbox = s.inbox := rfl
@[simp] theorem State.rmPkt_reports (id : Nat) : (s.rmPkt id).reports = s.reports := rfl
@[simp] theorem State.rmPkt_out (id : Nat) : (s.rmPkt id).out = s.out := rfl
@[simp] theorem State.rmPkt_now (id : Nat) : (s.rmPkt id).now = s.now := rfl
@[simp] theorem State.rmPkt_fwFeature (id : Nat) : (s.rmPkt id).fwFeature = s.fwFeature := rfl
@[simp] theorem State.rmPkt_free (id : Nat) : (s.rmPkt id).free = s.free := rfl
@[simp] theorem State.rmPkt_pending (id : Nat) : (s.rmPkt id).pending = s.pending := rfl
@[simp] theorem State.get_rmPkt (id : Nat) (f' : Fld) (j : Nat) : (s.rmPkt id).get f' j = s.get f' j := rfl
@[simp] theorem State.on_rmPkt (id : Nat) (f' : Fld) (j : Nat) : (s.rmPkt id).on f' j = s.on f' j := rfl
@[simp] theorem State.link_rmPkt (id : Nat) (p' : Nat) : (s.rmPkt id).link p' = s.link p' := rfl
@[simp] theorem State.runs_rmPkt (id : Nat) (x' : TimerId) : (s.rmPkt id).runs x' = s.runs x' := rfl

/-! ### setReserve -/

@[simp] theorem State.setReserve_fields (p : Nat) (r : Reserve) : (s.setReserve p r).fields = s.fields := rfl
@[simp] theorem State.setReserve_ring (p : Nat) (r : Reserve) : (s.setReserve p r).ring = s.ring := rfl
@[simp] theorem State.setReserve_links (p : Nat) (r : Reserve) : (s.setReserve p r).links = s.links := rfl
@[simp] theorem State.setReserve_ln (p : Nat) (r : Reserve) : (s.setReserve p r).ln = s.ln := rfl
@[simp] theorem State.setReserve_jnl (p : Nat) (r : Reserve) : (s.setReserve p r).jnl = s.jnl := rfl
@[simp] theorem State.setReserve_spn (p : Nat) (r : Reserve) : (s.setReserve p r).spn = s.spn := rfl
@[simp] theorem State.setReserve_win (p : Nat) (r : Reserve) : (s.setReserve p r).win = s.win := rfl
@[simp] theorem State.setReserve_acks (p : Nat) (r : Reserve) : (s.setReserve p r).acks = s.acks := rfl
@[simp] theorem State.setReserve_nextAck (p : Nat) (r : Reserve) : (s.setReserve p r).nextAck = s.nextAck := rfl
@[simp] theorem State.setReserve_part (p : Nat) (r : Reserve) : (s.setReserve p r).part = s.part := rfl
@[simp] theorem State.setReserve_pcie (p : Nat) (r : Reserve) : (s.setReserve p r).pcie = s.pcie := rfl
@[simp] theorem State.setReserve_mb (p : Nat) (r : Reserve) : (s.setReserve p r).mb = s.mb := rfl
@[simp] theorem State.setReserve_img (p : Nat) (r : Reserve) : (s.setReserve p r).img = s.img := rfl
@[simp] theorem State.setReserve_fc (p : Nat) (r : Reserve) : (s.setReserve p r).fc = s.fc := rfl
@[simp] theorem State.setReserve_boot (p : Nat) (r : Reserve) : (s.setReserve p r).boot = s.boot := rfl
@[simp] theorem State.setReserve_pw (p : Nat) (r : Reserve) : (s.setReserve p r).pw = s.pw := rfl
@[simp] theorem State.setReserve_ck (p : Nat) (r : Reserve) : (s.setReserve p r).ck = s.ck := rfl
@[simp] theorem State.setReserve_pst (p : Nat) (r : Reserve) : (s.setReserve p r).pst = s.pst := rfl
@[simp] theorem State.setReserve_hold (p : Nat) (r : Reserve) : (s.setReserve p r).hold = s.hold := rfl
@[simp] theorem State.setReserve_sch (p : Nat) (r : Reserve) : (s.setReserve p r).sch = s.sch := rfl
@[simp] theorem State.setReserve_dm (p : Nat) (r : Reserve) : (s.setReserve p r).dm = s.dm := rfl
@[simp] theorem State.setReserve_lb (p : Nat) (r : Reserve) : (s.setReserve p r).lb = s.lb := rfl
@[simp] theorem State.setReserve_sp (p : Nat) (r : Reserve) : (s.setReserve p r).sp = s.sp := rfl
@[simp] theorem State.setReserve_pmon (p : Nat) (r : Reserve) : (s.setReserve p r).pmon = s.pmon := rfl
@[simp] theorem State.setReserve_evq (p : Nat) (r : Reserve) : (s.setReserve p r).evq = s.evq := rfl
@[simp] theorem State.setReserve_timers (p : Nat) (r : Reserve) : (s.setReserve p r).timers = s.timers := rfl
@[simp] theorem State.setReserve_inbox (p : Nat) (r : Reserve) : (s.setReserve p r).inbox = s.inbox := rfl
@[simp] theorem State.setReserve_reports (p : Nat) (r : Reserve) : (s.setReserve p r).reports = s.reports := rfl
@[simp] theorem State.setReserve_out (p : Nat) (r : Reserve) : (s.setReserve p r).out = s.out := rfl
@[simp] theorem State.setReserve_now (p : Nat) (r : Reserve) : (s.setReserve p r).now = s.now := rfl
@[simp] theorem State.setReserve_fwFeature (p : Nat) (r : Reserve) : (s.setReserve p r).fwFeature = s.fwFeature := rfl
@[simp] theorem State.setReserve_free (p : Nat) (r : Reserve) : (s.setReserve p r).free = s.free := rfl
@[simp] theorem State.setReserve_pending (p : Nat) (r : Reserve) : (s.setReserve p r).pending = s.pending := rfl
@[simp] theorem State.get_setReserve (p : Nat) (r : Reserve) (f' : Fld) (j : Nat) : (s.setReserve p r).get f' j = s.get f' j := rfl
@[simp] theorem State.on_setReserve (p : Nat) (r : Reserve) (f' : Fld) (j : Nat) : (s.setReserve p r).on f' j = s.on f' j := rfl
@[simp] theorem State.link_setReserve (p : Nat) (r : Reserve) (p' : Nat) : (s.setReserve p r).link p' = s.link p' := rfl
@[simp] theorem State.runs_setReserve (p : Nat) (r : Reserve) (x' : TimerId) : (s.setReserve p r).runs x' = s.runs x' := rfl

/-! ### setAdmitRes -/

@[simp] theorem State.setAdmitRes_fields (p : Nat) (r : Reserve) : (s.setAdmitRes p r).fields = s.fields := rfl
@[simp] theorem State.setAdmitRes_ring (p : Nat) (r : Reserve) : (s.setAdmitRes p r).ring = s.ring := rfl
@[simp] theorem State.setAdmitRes_links (p : Nat) (r : Reserve) : (s.setAdmitRes p r).links = s.links := rfl
@[simp] theorem State.setAdmitRes_ln (p : Nat) (r : Reserve) : (s.setAdmitRes p r).ln = s.ln := rfl
@[simp] theorem State.setAdmitRes_sc (p : Nat) (r : Reserve) : (s.setAdmitRes p r).sc = s.sc := rfl
@[simp] theorem State.setAdmitRes_spn (p : Nat) (r : Reserve) : (s.setAdmitRes p r).spn = s.spn := rfl
@[simp] theorem State.setAdmitRes_win (p : Nat) (r : Reserve) : (s.setAdmitRes p r).win = s.win := rfl
@[simp] theorem State.setAdmitRes_acks (p : Nat) (r : Reserve) : (s.setAdmitRes p r).acks = s.acks := rfl
@[simp] theorem State.setAdmitRes_nextAck (p : Nat) (r : Reserve) : (s.setAdmitRes p r).nextAck = s.nextAck := rfl
@[simp] theorem State.setAdmitRes_part (p : Nat) (r : Reserve) : (s.setAdmitRes p r).part = s.part := rfl
@[simp] theorem State.setAdmitRes_pcie (p : Nat) (r : Reserve) : (s.setAdmitRes p r).pcie = s.pcie := rfl
@[simp] theorem State.setAdmitRes_mb (p : Nat) (r : Reserve) : (s.setAdmitRes p r).mb = s.mb := rfl
@[simp] theorem State.setAdmitRes_img (p : Nat) (r : Reserve) : (s.setAdmitRes p r).img = s.img := rfl
@[simp] theorem State.setAdmitRes_fc (p : Nat) (r : Reserve) : (s.setAdmitRes p r).fc = s.fc := rfl
@[simp] theorem State.setAdmitRes_boot (p : Nat) (r : Reserve) : (s.setAdmitRes p r).boot = s.boot := rfl
@[simp] theorem State.setAdmitRes_pw (p : Nat) (r : Reserve) : (s.setAdmitRes p r).pw = s.pw := rfl
@[simp] theorem State.setAdmitRes_ck (p : Nat) (r : Reserve) : (s.setAdmitRes p r).ck = s.ck := rfl
@[simp] theorem State.setAdmitRes_pst (p : Nat) (r : Reserve) : (s.setAdmitRes p r).pst = s.pst := rfl
@[simp] theorem State.setAdmitRes_hold (p : Nat) (r : Reserve) : (s.setAdmitRes p r).hold = s.hold := rfl
@[simp] theorem State.setAdmitRes_sch (p : Nat) (r : Reserve) : (s.setAdmitRes p r).sch = s.sch := rfl
@[simp] theorem State.setAdmitRes_dm (p : Nat) (r : Reserve) : (s.setAdmitRes p r).dm = s.dm := rfl
@[simp] theorem State.setAdmitRes_lb (p : Nat) (r : Reserve) : (s.setAdmitRes p r).lb = s.lb := rfl
@[simp] theorem State.setAdmitRes_sp (p : Nat) (r : Reserve) : (s.setAdmitRes p r).sp = s.sp := rfl
@[simp] theorem State.setAdmitRes_pmon (p : Nat) (r : Reserve) : (s.setAdmitRes p r).pmon = s.pmon := rfl
@[simp] theorem State.setAdmitRes_evq (p : Nat) (r : Reserve) : (s.setAdmitRes p r).evq = s.evq := rfl
@[simp] theorem State.setAdmitRes_timers (p : Nat) (r : Reserve) : (s.setAdmitRes p r).timers = s.timers := rfl
@[simp] theorem State.setAdmitRes_inbox (p : Nat) (r : Reserve) : (s.setAdmitRes p r).inbox = s.inbox := rfl
@[simp] theorem State.setAdmitRes_reports (p : Nat) (r : Reserve) : (s.setAdmitRes p r).reports = s.reports := rfl
@[simp] theorem State.setAdmitRes_out (p : Nat) (r : Reserve) : (s.setAdmitRes p r).out = s.out := rfl
@[simp] theorem State.setAdmitRes_now (p : Nat) (r : Reserve) : (s.setAdmitRes p r).now = s.now := rfl
@[simp] theorem State.setAdmitRes_fwFeature (p : Nat) (r : Reserve) : (s.setAdmitRes p r).fwFeature = s.fwFeature := rfl
@[simp] theorem State.setAdmitRes_free (p : Nat) (r : Reserve) : (s.setAdmitRes p r).free = s.free := rfl
@[simp] theorem State.setAdmitRes_pending (p : Nat) (r : Reserve) : (s.setAdmitRes p r).pending = s.pending := rfl
@[simp] theorem State.get_setAdmitRes (p : Nat) (r : Reserve) (f' : Fld) (j : Nat) : (s.setAdmitRes p r).get f' j = s.get f' j := rfl
@[simp] theorem State.on_setAdmitRes (p : Nat) (r : Reserve) (f' : Fld) (j : Nat) : (s.setAdmitRes p r).on f' j = s.on f' j := rfl
@[simp] theorem State.link_setAdmitRes (p : Nat) (r : Reserve) (p' : Nat) : (s.setAdmitRes p r).link p' = s.link p' := rfl
@[simp] theorem State.runs_setAdmitRes (p : Nat) (r : Reserve) (x' : TimerId) : (s.setAdmitRes p r).runs x' = s.runs x' := rfl

/-! ### addFree -/

@[simp] theorem State.addFree_ring (n : Nat) : (s.addFree n).ring = s.ring := rfl
@[simp] theorem State.addFree_links (n : Nat) : (s.addFree n).links = s.links := rfl
@[simp] theorem State.addFree_ln (n : Nat) : (s.addFree n).ln = s.ln := rfl
@[simp] theorem State.addFree_sc (n : Nat) : (s.addFree n).sc = s.sc := rfl
@[simp] theorem State.addFree_jnl (n : Nat) : (s.addFree n).jnl = s.jnl := rfl
@[simp] theorem State.addFree_spn (n : Nat) : (s.addFree n).spn = s.spn := rfl
@[simp] theorem State.addFree_win (n : Nat) : (s.addFree n).win = s.win := rfl
@[simp] theorem State.addFree_acks (n : Nat) : (s.addFree n).acks = s.acks := rfl
@[simp] theorem State.addFree_nextAck (n : Nat) : (s.addFree n).nextAck = s.nextAck := rfl
@[simp] theorem State.addFree_part (n : Nat) : (s.addFree n).part = s.part := rfl
@[simp] theorem State.addFree_pcie (n : Nat) : (s.addFree n).pcie = s.pcie := rfl
@[simp] theorem State.addFree_mb (n : Nat) : (s.addFree n).mb = s.mb := rfl
@[simp] theorem State.addFree_img (n : Nat) : (s.addFree n).img = s.img := rfl
@[simp] theorem State.addFree_fc (n : Nat) : (s.addFree n).fc = s.fc := rfl
@[simp] theorem State.addFree_boot (n : Nat) : (s.addFree n).boot = s.boot := rfl
@[simp] theorem State.addFree_pw (n : Nat) : (s.addFree n).pw = s.pw := rfl
@[simp] theorem State.addFree_ck (n : Nat) : (s.addFree n).ck = s.ck := rfl
@[simp] theorem State.addFree_pst (n : Nat) : (s.addFree n).pst = s.pst := rfl
@[simp] theorem State.addFree_hold (n : Nat) : (s.addFree n).hold = s.hold := rfl
@[simp] theorem State.addFree_sch (n : Nat) : (s.addFree n).sch = s.sch := rfl
@[simp] theorem State.addFree_dm (n : Nat) : (s.addFree n).dm = s.dm := rfl
@[simp] theorem State.addFree_lb (n : Nat) : (s.addFree n).lb = s.lb := rfl
@[simp] theorem State.addFree_sp (n : Nat) : (s.addFree n).sp = s.sp := rfl
@[simp] theorem State.addFree_pmon (n : Nat) : (s.addFree n).pmon = s.pmon := rfl
@[simp] theorem State.addFree_evq (n : Nat) : (s.addFree n).evq = s.evq := rfl
@[simp] theorem State.addFree_timers (n : Nat) : (s.addFree n).timers = s.timers := rfl
@[simp] theorem State.addFree_inbox (n : Nat) : (s.addFree n).inbox = s.inbox := rfl
@[simp] theorem State.addFree_reports (n : Nat) : (s.addFree n).reports = s.reports := rfl
@[simp] theorem State.addFree_out (n : Nat) : (s.addFree n).out = s.out := rfl
@[simp] theorem State.addFree_now (n : Nat) : (s.addFree n).now = s.now := rfl
@[simp] theorem State.addFree_fwFeature (n : Nat) : (s.addFree n).fwFeature = s.fwFeature := rfl
@[simp] theorem State.addFree_free (n : Nat) : (s.addFree n).free = s.free := rfl
@[simp] theorem State.addFree_pending (n : Nat) : (s.addFree n).pending = s.pending := rfl
@[simp] theorem State.link_addFree (n : Nat) (p' : Nat) : (s.addFree n).link p' = s.link p' := rfl
@[simp] theorem State.runs_addFree (n : Nat) (x' : TimerId) : (s.addFree n).runs x' = s.runs x' := rfl

/-! ### takeFree -/

@[simp] theorem State.takeFree_ring (n : Nat) : (s.takeFree n).ring = s.ring := rfl
@[simp] theorem State.takeFree_links (n : Nat) : (s.takeFree n).links = s.links := rfl
@[simp] theorem State.takeFree_ln (n : Nat) : (s.takeFree n).ln = s.ln := rfl
@[simp] theorem State.takeFree_sc (n : Nat) : (s.takeFree n).sc = s.sc := rfl
@[simp] theorem State.takeFree_jnl (n : Nat) : (s.takeFree n).jnl = s.jnl := rfl
@[simp] theorem State.takeFree_spn (n : Nat) : (s.takeFree n).spn = s.spn := rfl
@[simp] theorem State.takeFree_win (n : Nat) : (s.takeFree n).win = s.win := rfl
@[simp] theorem State.takeFree_acks (n : Nat) : (s.takeFree n).acks = s.acks := rfl
@[simp] theorem State.takeFree_nextAck (n : Nat) : (s.takeFree n).nextAck = s.nextAck := rfl
@[simp] theorem State.takeFree_part (n : Nat) : (s.takeFree n).part = s.part := rfl
@[simp] theorem State.takeFree_pcie (n : Nat) : (s.takeFree n).pcie = s.pcie := rfl
@[simp] theorem State.takeFree_mb (n : Nat) : (s.takeFree n).mb = s.mb := rfl
@[simp] theorem State.takeFree_img (n : Nat) : (s.takeFree n).img = s.img := rfl
@[simp] theorem State.takeFree_fc (n : Nat) : (s.takeFree n).fc = s.fc := rfl
@[simp] theorem State.takeFree_boot (n : Nat) : (s.takeFree n).boot = s.boot := rfl
@[simp] theorem State.takeFree_pw (n : Nat) : (s.takeFree n).pw = s.pw := rfl
@[simp] theorem State.takeFree_ck (n : Nat) : (s.takeFree n).ck = s.ck := rfl
@[simp] theorem State.takeFree_pst (n : Nat) : (s.takeFree n).pst = s.pst := rfl
@[simp] theorem State.takeFree_hold (n : Nat) : (s.takeFree n).hold = s.hold := rfl
@[simp] theorem State.takeFree_sch (n : Nat) : (s.takeFree n).sch = s.sch := rfl
@[simp] theorem State.takeFree_dm (n : Nat) : (s.takeFree n).dm = s.dm := rfl
@[simp] theorem State.takeFree_lb (n : Nat) : (s.takeFree n).lb = s.lb := rfl
@[simp] theorem State.takeFree_sp (n : Nat) : (s.takeFree n).sp = s.sp := rfl
@[simp] theorem State.takeFree_pmon (n : Nat) : (s.takeFree n).pmon = s.pmon := rfl
@[simp] theorem State.takeFree_evq (n : Nat) : (s.takeFree n).evq = s.evq := rfl
@[simp] theorem State.takeFree_timers (n : Nat) : (s.takeFree n).timers = s.timers := rfl
@[simp] theorem State.takeFree_inbox (n : Nat) : (s.takeFree n).inbox = s.inbox := rfl
@[simp] theorem State.takeFree_reports (n : Nat) : (s.takeFree n).reports = s.reports := rfl
@[simp] theorem State.takeFree_out (n : Nat) : (s.takeFree n).out = s.out := rfl
@[simp] theorem State.takeFree_now (n : Nat) : (s.takeFree n).now = s.now := rfl
@[simp] theorem State.takeFree_fwFeature (n : Nat) : (s.takeFree n).fwFeature = s.fwFeature := rfl
@[simp] theorem State.takeFree_free (n : Nat) : (s.takeFree n).free = s.free := rfl
@[simp] theorem State.takeFree_pending (n : Nat) : (s.takeFree n).pending = s.pending := rfl
@[simp] theorem State.link_takeFree (n : Nat) (p' : Nat) : (s.takeFree n).link p' = s.link p' := rfl
@[simp] theorem State.runs_takeFree (n : Nat) (x' : TimerId) : (s.takeFree n).runs x' = s.runs x' := rfl

/-! ### setUsed -/

@[simp] theorem State.setUsed_ring (n : Nat) : (s.setUsed n).ring = s.ring := rfl
@[simp] theorem State.setUsed_links (n : Nat) : (s.setUsed n).links = s.links := rfl
@[simp] theorem State.setUsed_ln (n : Nat) : (s.setUsed n).ln = s.ln := rfl
@[simp] theorem State.setUsed_sc (n : Nat) : (s.setUsed n).sc = s.sc := rfl
@[simp] theorem State.setUsed_jnl (n : Nat) : (s.setUsed n).jnl = s.jnl := rfl
@[simp] theorem State.setUsed_spn (n : Nat) : (s.setUsed n).spn = s.spn := rfl
@[simp] theorem State.setUsed_win (n : Nat) : (s.setUsed n).win = s.win := rfl
@[simp] theorem State.setUsed_acks (n : Nat) : (s.setUsed n).acks = s.acks := rfl
@[simp] theorem State.setUsed_nextAck (n : Nat) : (s.setUsed n).nextAck = s.nextAck := rfl
@[simp] theorem State.setUsed_part (n : Nat) : (s.setUsed n).part = s.part := rfl
@[simp] theorem State.setUsed_pcie (n : Nat) : (s.setUsed n).pcie = s.pcie := rfl
@[simp] theorem State.setUsed_mb (n : Nat) : (s.setUsed n).mb = s.mb := rfl
@[simp] theorem State.setUsed_img (n : Nat) : (s.setUsed n).img = s.img := rfl
@[simp] theorem State.setUsed_fc (n : Nat) : (s.setUsed n).fc = s.fc := rfl
@[simp] theorem State.setUsed_boot (n : Nat) : (s.setUsed n).boot = s.boot := rfl
@[simp] theorem State.setUsed_pw (n : Nat) : (s.setUsed n).pw = s.pw := rfl
@[simp] theorem State.setUsed_ck (n : Nat) : (s.setUsed n).ck = s.ck := rfl
@[simp] theorem State.setUsed_pst (n : Nat) : (s.setUsed n).pst = s.pst := rfl
@[simp] theorem State.setUsed_hold (n : Nat) : (s.setUsed n).hold = s.hold := rfl
@[simp] theorem State.setUsed_sch (n : Nat) : (s.setUsed n).sch = s.sch := rfl
@[simp] theorem State.setUsed_dm (n : Nat) : (s.setUsed n).dm = s.dm := rfl
@[simp] theorem State.setUsed_lb (n : Nat) : (s.setUsed n).lb = s.lb := rfl
@[simp] theorem State.setUsed_sp (n : Nat) : (s.setUsed n).sp = s.sp := rfl
@[simp] theorem State.setUsed_pmon (n : Nat) : (s.setUsed n).pmon = s.pmon := rfl
@[simp] theorem State.setUsed_evq (n : Nat) : (s.setUsed n).evq = s.evq := rfl
@[simp] theorem State.setUsed_timers (n : Nat) : (s.setUsed n).timers = s.timers := rfl
@[simp] theorem State.setUsed_inbox (n : Nat) : (s.setUsed n).inbox = s.inbox := rfl
@[simp] theorem State.setUsed_reports (n : Nat) : (s.setUsed n).reports = s.reports := rfl
@[simp] theorem State.setUsed_out (n : Nat) : (s.setUsed n).out = s.out := rfl
@[simp] theorem State.setUsed_now (n : Nat) : (s.setUsed n).now = s.now := rfl
@[simp] theorem State.setUsed_fwFeature (n : Nat) : (s.setUsed n).fwFeature = s.fwFeature := rfl
@[simp] theorem State.setUsed_free (n : Nat) : (s.setUsed n).free = s.free := rfl
@[simp] theorem State.setUsed_pending (n : Nat) : (s.setUsed n).pending = s.pending := rfl
@[simp] theorem State.link_setUsed (n : Nat) (p' : Nat) : (s.setUsed n).link p' = s.link p' := rfl
@[simp] theorem State.runs_setUsed (n : Nat) (x' : TimerId) : (s.setUsed n).runs x' = s.runs x' := rfl

/-! ### setResv -/

@[simp] theorem State.setResv_ring (n : Nat) : (s.setResv n).ring = s.ring := rfl
@[simp] theorem State.setResv_links (n : Nat) : (s.setResv n).links = s.links := rfl
@[simp] theorem State.setResv_ln (n : Nat) : (s.setResv n).ln = s.ln := rfl
@[simp] theorem State.setResv_sc (n : Nat) : (s.setResv n).sc = s.sc := rfl
@[simp] theorem State.setResv_jnl (n : Nat) : (s.setResv n).jnl = s.jnl := rfl
@[simp] theorem State.setResv_spn (n : Nat) : (s.setResv n).spn = s.spn := rfl
@[simp] theorem State.setResv_win (n : Nat) : (s.setResv n).win = s.win := rfl
@[simp] theorem State.setResv_acks (n : Nat) : (s.setResv n).acks = s.acks := rfl
@[simp] theorem State.setResv_nextAck (n : Nat) : (s.setResv n).nextAck = s.nextAck := rfl
@[simp] theorem State.setResv_part (n : Nat) : (s.setResv n).part = s.part := rfl
@[simp] theorem State.setResv_pcie (n : Nat) : (s.setResv n).pcie = s.pcie := rfl
@[simp] theorem State.setResv_mb (n : Nat) : (s.setResv n).mb = s.mb := rfl
@[simp] theorem State.setResv_img (n : Nat) : (s.setResv n).img = s.img := rfl
@[simp] theorem State.setResv_fc (n : Nat) : (s.setResv n).fc = s.fc := rfl
@[simp] theorem State.setResv_boot (n : Nat) : (s.setResv n).boot = s.boot := rfl
@[simp] theorem State.setResv_pw (n : Nat) : (s.setResv n).pw = s.pw := rfl
@[simp] theorem State.setResv_ck (n : Nat) : (s.setResv n).ck = s.ck := rfl
@[simp] theorem State.setResv_pst (n : Nat) : (s.setResv n).pst = s.pst := rfl
@[simp] theorem State.setResv_hold (n : Nat) : (s.setResv n).hold = s.hold := rfl
@[simp] theorem State.setResv_sch (n : Nat) : (s.setResv n).sch = s.sch := rfl
@[simp] theorem State.setResv_dm (n : Nat) : (s.setResv n).dm = s.dm := rfl
@[simp] theorem State.setResv_lb (n : Nat) : (s.setResv n).lb = s.lb := rfl
@[simp] theorem State.setResv_sp (n : Nat) : (s.setResv n).sp = s.sp := rfl
@[simp] theorem State.setResv_pmon (n : Nat) : (s.setResv n).pmon = s.pmon := rfl
@[simp] theorem State.setResv_evq (n : Nat) : (s.setResv n).evq = s.evq := rfl
@[simp] theorem State.setResv_timers (n : Nat) : (s.setResv n).timers = s.timers := rfl
@[simp] theorem State.setResv_inbox (n : Nat) : (s.setResv n).inbox = s.inbox := rfl
@[simp] theorem State.setResv_reports (n : Nat) : (s.setResv n).reports = s.reports := rfl
@[simp] theorem State.setResv_out (n : Nat) : (s.setResv n).out = s.out := rfl
@[simp] theorem State.setResv_now (n : Nat) : (s.setResv n).now = s.now := rfl
@[simp] theorem State.setResv_fwFeature (n : Nat) : (s.setResv n).fwFeature = s.fwFeature := rfl
@[simp] theorem State.setResv_free (n : Nat) : (s.setResv n).free = s.free := rfl
@[simp] theorem State.setResv_pending (n : Nat) : (s.setResv n).pending = s.pending := rfl
@[simp] theorem State.link_setResv (n : Nat) (p' : Nat) : (s.setResv n).link p' = s.link p' := rfl
@[simp] theorem State.runs_setResv (n : Nat) (x' : TimerId) : (s.setResv n).runs x' = s.runs x' := rfl

/-! ### raise -/

@[simp] theorem State.raise_fields (x : IntTx) : (s.raise x).fields = s.fields := rfl
@[simp] theorem State.raise_ring (x : IntTx) : (s.raise x).ring = s.ring := rfl
@[simp] theorem State.raise_links (x : IntTx) : (s.raise x).links = s.links := rfl
@[simp] theorem State.raise_ln (x : IntTx) : (s.raise x).ln = s.ln := rfl
@[simp] theorem State.raise_sc (x : IntTx) : (s.raise x).sc = s.sc := rfl
@[simp] theorem State.raise_spn (x : IntTx) : (s.raise x).spn = s.spn := rfl
@[simp] theorem State.raise_win (x : IntTx) : (s.raise x).win = s.win := rfl
@[simp] theorem State.raise_acks (x : IntTx) : (s.raise x).acks = s.acks := rfl
@[simp] theorem State.raise_nextAck (x : IntTx) : (s.raise x).nextAck = s.nextAck := rfl
@[simp] theorem State.raise_part (x : IntTx) : (s.raise x).part = s.part := rfl
@[simp] theorem State.raise_pcie (x : IntTx) : (s.raise x).pcie = s.pcie := rfl
@[simp] theorem State.raise_mb (x : IntTx) : (s.raise x).mb = s.mb := rfl
@[simp] theorem State.raise_img (x : IntTx) : (s.raise x).img = s.img := rfl
@[simp] theorem State.raise_fc (x : IntTx) : (s.raise x).fc = s.fc := rfl
@[simp] theorem State.raise_boot (x : IntTx) : (s.raise x).boot = s.boot := rfl
@[simp] theorem State.raise_pw (x : IntTx) : (s.raise x).pw = s.pw := rfl
@[simp] theorem State.raise_ck (x : IntTx) : (s.raise x).ck = s.ck := rfl
@[simp] theorem State.raise_pst (x : IntTx) : (s.raise x).pst = s.pst := rfl
@[simp] theorem State.raise_hold (x : IntTx) : (s.raise x).hold = s.hold := rfl
@[simp] theorem State.raise_sch (x : IntTx) : (s.raise x).sch = s.sch := rfl
@[simp] theorem State.raise_dm (x : IntTx) : (s.raise x).dm = s.dm := rfl
@[simp] theorem State.raise_lb (x : IntTx) : (s.raise x).lb = s.lb := rfl
@[simp] theorem State.raise_sp (x : IntTx) : (s.raise x).sp = s.sp := rfl
@[simp] theorem State.raise_pmon (x : IntTx) : (s.raise x).pmon = s.pmon := rfl
@[simp] theorem State.raise_evq (x : IntTx) : (s.raise x).evq = s.evq := rfl
@[simp] theorem State.raise_timers (x : IntTx) : (s.raise x).timers = s.timers := rfl
@[simp] theorem State.raise_inbox (x : IntTx) : (s.raise x).inbox = s.inbox := rfl
@[simp] theorem State.raise_reports (x : IntTx) : (s.raise x).reports = s.reports := rfl
@[simp] theorem State.raise_out (x : IntTx) : (s.raise x).out = s.out := rfl
@[simp] theorem State.raise_now (x : IntTx) : (s.raise x).now = s.now := rfl
@[simp] theorem State.raise_fwFeature (x : IntTx) : (s.raise x).fwFeature = s.fwFeature := rfl
@[simp] theorem State.raise_free (x : IntTx) : (s.raise x).free = s.free := rfl
@[simp] theorem State.raise_pending (x : IntTx) : (s.raise x).pending = s.pending := rfl
@[simp] theorem State.get_raise (x : IntTx) (f' : Fld) (j : Nat) : (s.raise x).get f' j = s.get f' j := rfl
@[simp] theorem State.on_raise (x : IntTx) (f' : Fld) (j : Nat) : (s.raise x).on f' j = s.on f' j := rfl
@[simp] theorem State.link_raise (x : IntTx) (p' : Nat) : (s.raise x).link p' = s.link p' := rfl
@[simp] theorem State.runs_raise (x : IntTx) (x' : TimerId) : (s.raise x).runs x' = s.runs x' := rfl

/-! ### What a field reads as after a write -/

/-- A field reads as what was set, cut to its width (R12). -/
@[simp] theorem State.get_set_same (f : Fld) (v i : Nat) : (s.set f v i).get f i = v % 2 ^ f.width := by
  unfold State.get State.set
  exact Tab.get_put_same _ _ _ _

/-- Another field, or the field at another index, is unchanged. -/
theorem State.get_set_other {f g : Fld} {v i j : Nat} (h : g.key j ≠ f.key i) : (s.set f v i).get g j = s.get g j := by
  unfold State.get State.set
  exact Tab.get_put_other _ _ _ _ h

/-- A field of another register is unchanged; `by decide` discharges the condition on two named fields. -/
theorem State.get_set_reg {f g : Fld} {v i j : Nat}
    (h : (g.reg.ctorIdx < 512 ∧ f.reg.ctorIdx < 512) ∧ g.reg.ctorIdx ≠ f.reg.ctorIdx) : (s.set f v i).get g j = s.get g j := by
  apply State.get_set_other
  unfold Fld.key
  omega

/-- A field at another place of its register is unchanged. -/
theorem State.get_set_lsb {f g : Fld} {v i j : Nat}
    (h : (g.reg.ctorIdx < 512 ∧ f.reg.ctorIdx < 512) ∧ (g.lsb < 128 ∧ f.lsb < 128) ∧ g.lsb ≠ f.lsb) :
    (s.set f v i).get g j = s.get g j := by
  apply State.get_set_other
  unfold Fld.key
  omega

/-- A field at another index is unchanged. -/
theorem State.get_set_index {f g : Fld} {v i j : Nat}
    (h : (g.reg.ctorIdx < 512 ∧ f.reg.ctorIdx < 512) ∧ (g.lsb < 128 ∧ f.lsb < 128)) (hj : j ≠ i) :
    (s.set f v i).get g j = s.get g j := by
  apply State.get_set_other
  unfold Fld.key
  omega

/-- A timer that has been started runs. -/
@[simp] theorem State.runs_start_same (x : TimerId) (ns : Nat) : (s.start x ns).runs x = true := by
  simp [State.start, State.runs]

/-- A timer that has been stopped does not run. -/
@[simp] theorem State.runs_stop_same (x : TimerId) : (s.stop x).runs x = false := by
  simp [State.stop, State.runs]

theorem State.runs_stop_other {x y : TimerId} (h : y ≠ x) : (s.stop x).runs y = s.runs y := by
  have : (y == x) = false := by simpa using h
  simp only [State.stop, State.runs, List.any_filter]
  congr 1; funext z
  by_cases hz : z.1 = y <;> simp [hz, h]

theorem State.runs_start_other {x y : TimerId} (ns : Nat) (h : y ≠ x) : (s.start x ns).runs y = s.runs y := by
  have h' : (x == y) = false := by simpa using Ne.symm h
  rw [← State.runs_stop_other s h]
  simp [State.start, State.runs, h']

/-- A port's link reads as what it was updated to. -/
@[simp] theorem State.link_updLink_same (p : Nat) (g : Link → Link) : (s.updLink p g).link p = g (s.link p) := by
  unfold State.link State.updLink
  exact Tab.get_put_same _ _ _ _

end Sys2Proof.Machine
end

