-- ==== Sys2Proof/Laws/Wire.lean ====
section
/-! SUPPORT. Small lemmas of the layouts: bit fields side by side, bytes at an offset, padding. -/

namespace Sys2Proof.Laws

open Sys2Proof.Machine

@[simp] theorem padTo_length (n : Nat) (xs : List Nat) : (padTo n xs).length = n := by simp [padTo]

@[simp] theorem le_length : ∀ n v : Nat, (le n v).length = n
  | 0, _ => rfl
  | n + 1, v => by simp [le, le_length n]

/-- The field at bit 0. -/
theorem bitsAt_packBits_zero (w v : Nat) (fs : List (Nat × Nat)) : bitsAt (packBits ((w, v) :: fs)) 0 w = v % 2 ^ w := by
  simp [bitsAt, packBits, Nat.add_mod]

/-- A field above the first is found that much lower among the others. -/
theorem bitsAt_packBits_add (w v l n : Nat) (fs : List (Nat × Nat)) : bitsAt (packBits ((w, v) :: fs)) (w + l) n = bitsAt (packBits fs) l n := by
  show (v % 2 ^ w + 2 ^ w * packBits fs) / 2 ^ (w + l) % 2 ^ n = packBits fs / 2 ^ l % 2 ^ n
  rw [Nat.pow_add, ← Nat.div_div_eq_div_mul, Nat.add_mul_div_left _ _ (Nat.two_pow_pos w), Nat.div_eq_of_lt (Nat.mod_lt _ (Nat.two_pow_pos w)), Nat.zero_add]

/-- Bytes of the left part of a list. -/
theorem leAt_append_left (xs ys : List Nat) (off n : Nat) (h : off + n ≤ xs.length) : leAt (xs ++ ys) off n = leAt xs off n := by
  unfold leAt
  rw [List.drop_append_of_le_length (by omega), List.take_append_of_le_length (by simp; omega)]

/-- Bytes of the right part of a list. -/
theorem leAt_append_right (xs ys : List Nat) (off n : Nat) : leAt (xs ++ ys) (xs.length + off) n = leAt ys off n := by
  unfold leAt
  rw [← List.drop_drop, List.drop_left]

end Sys2Proof.Laws
end

