-- ==== Sys2Proof/WellFormed.lean ====
section
/-! DEFINITION. Which operands of the commands the spec admits: the numbers of ports, nodes, partitions, slots, channels and
instances it gives the hardware. A command with others names nothing that exists. -/

namespace Sys2Proof

/-- Ports 0 to 47, of them the fabric ports 44 to 47 (R2). -/
def portOk (p : Nat) : Bool := p < 48
def fabOk (p : Nat) : Bool := 44 ≤ p && p < 48

/-- Node IDs, partition IDs, local slots and vDSPs (R3, R4, R89). -/
def nodeOk (n : Nat) : Bool := n < 16
def partOk (p : Nat) : Bool := p < 64
def slotOk (k : Nat) : Bool := k < 16
def vdspOk (n : Nat) : Bool := 1 ≤ n && n < 32

/-- Mailboxes of the hosts, of the management controller and of firmware itself (R385, R387). -/
def boxOk (k : Nat) : Bool := k < 18

/-- Instance entries (R93), data mover channels (R251), slot power channels (R340). -/
def instOk (i : Nat) : Bool := i < 512
def chanOk (c : Nat) : Bool := c < 64
def slotChanOk (c : Nat) : Bool := c < 12

/-- A TLP as it can stand on a link: 16-bit IDs, 14-bit tags, a header with prefixes of 12 to 80 bytes (R136), a payload that
fits what it says of it. -/
def tlpOk (t : Tlp) : Bool :=
  t.reqId < 65536 && t.cplId < 65536 && t.target < 65536 && t.tag < 16384 && t.addr < 2 ^ 64 && t.tc < 8 &&
    12 ≤ t.hdrBytes && t.hdrBytes ≤ 80 && t.bytes ≤ 4096 && t.firstBe < 16 && t.lastBe < 16 && t.data.length ≤ t.bytes

/-- The operands of a command are ones the hardware has. -/
def Instr.wf : Instr → Bool
  | .registerWrite r _ dw _ => dw < r.dwords
  | .narrowRegisterWrite ep => (ep.all fun k => slotOk k)
  | .wideRegisterRead _ _ | .wideRegisterHighWrite _ _ _ | .discoveryTimeout _ | .join | .joinHoldRaise _ | .leaveA
  | .leaveB | .leaveWaitExpiry _ | .sleepPlaneBLeave | .pcieEgressAck _ | .pxDualWrite _ | .refuseWaitExpiry _
  | .packetDeparture _ | .bufferEccError _ _ | .internalAdmission | .syncReqResend | .cplAgePurge _ | .vmaxCompute
  | .powerFailWarning | .drainMaxExpiry | .persistComplete | .powerFailWarningEnd | .persistRecovery _ | .announceTimer
  | .gmCandidateSettle | .ppsInEdge | .ppsInLoss | .coordinatedStep | .ptmHostExchange _ | .holdoverTimeout
  | .timedWriteDrop _ | .ppsOutRise | .ppsOutFall | .grainReservationRecompute | .schedulerRefill | .packetRelease _
  | .dmReadTimeout _ | .fmTakeoverExpiry | .lbIntake | .lbCycleStart | .lbPhaseTermination _ _ _ | .lbRetryGapExpiry _
  | .lbPhaseTimeout | .prefetchLineExpiry _ | .semaphoreForcedRelease | .bridgeReset | .lbEnable _ | .lbResetRelease
  | .elogClr | .faultReport _ | .managementRestartEnd | .nodeResetEnd _ _ | .nodeResetTimeout | .fcInjectWrite _
  | .fcStatusClear _ _ | .forwardedCommandRetry _ _ | .sessionTimeout | .smbusSetReadPointer _ _ | .smbusBlockRead _
  | .activationQuiesceEnd | .activationCheckDone | .activationSwitchoverEnd | .clrEvt | .clrFlt | .shvSeedWrite _
  | .bwWindowEnd | .bwCfgWrite _ | .plTargetWrite _ | .dvfsReadback _ | .clockRampStep | .dvfsTimeout | .sleepPmeWaitEnd
  | .sleepDrainEnd | .sleepCommit | .sl1IdleExpiry | .wakeEvent _ | .sl3HoldEnd | .wakeTimerExpiry | .padholdRelease _
  | .coarseWindowEnd _ _ _ _ | .fineWindowEnd _ _ | .avsVoltagePoll _ | .earlyBootSourceTimeout | .fullPowerOnReset
  | .mainPowerOnReset | .feedSample _ _ | .feedGoodExpiry _ | .feedPfTimeout | .huvSample _ | .pstChannelCheck _ _
  | .pstWriteFailure _ | .strapLatch _ | .bootRomImageLoaded | .firmwareBringupResume | .uartRecoveryImage _ _
  | .bootJoinTimer | .thermalSample _ | .mainRailsValid | .pllsLocked | .wakeFirmwareReady => true
  | .discoveryMessageReceive p _ | .linkStateMessageReceive p _ | .flitSlot p | .auditDue p | .dataFlitReceive p _ _ _ _
  | .idleFlitReceive p _ | .msgFlitReceive p _ _ | .auditFlitReceive p _ _ | .replayFlitReceive p _ _ | .replayTimerExpiry p
  | .rateGoReceive p _ _ _ _ | .equaliseTimeout p | .initReceive p _ _ _ _ | .initDoneReceive p _
  | .retrainReqReceive p _ _ _ _ _ | .retrainAckReceive p _ _ _ | .quiesceDoneReceive p _ | .plannedRetrainProceed p
  | .retrainReqRepeat p | .rtMoveExpiry p | .quiesceTimeout p | .retrainTimeout p | .locklossExpiry p | .flapHoldClear p
  | .widthReq p _ | .mlRetrain p | .forceDown p _ | .mlEnable p _ | .delayExchangeStart p | .delayRequestReceive p _ _ _ _ _
  | .delayResponseReceive p _ _ _ _ _ _ _ | .delayExchangeAbandon p | .timeAnnouncementReceive p _ | .announceAbsent p
  | .grainBoundary p | .reservationRecheck p | .selfFacingRelease p => fabOk p
  | .returnCleanExpiry part dst | .returnDrainComplete part dst | .returnDrainAbort part dst
  | .retransmitTimerExpiry part dst | .heldTimeout part dst | .unreachableTimeout part dst => partOk part && nodeOk dst
  | .ts1Receive p _ lane _ | .ts2Receive p _ lane _ | .eqFlitReceive p _ lane _ | .eqAdaptEnd p lane
  | .eqMeasureEnd p lane _ | .fecWindowEnd p lane _ => fabOk p && lane < 16
  | .pxPortEnable p _ | .reserveComplete p | .pcieLinkDown p _ | .hotResetReceive p | .pmeTurnOffReceive p | .l1IdleExpiry p
  | .l0pNarrow p | .l0pWiden p | .ptmRequestReceive p | .portRecoverTimeout p | .cycleHoldExpiry p | .managedDpcRelease p
  | .fcPortRel p | .flowControlCreditReturn p _ _ _ => portOk p
  | .tlpReceive p t | .configRequestReceive p t | .completionReceive p t => portOk p && tlpOk t
  | .vdspSecondaryBusWrite k n _ _ _ | .secondaryBusReset k n | .linkDisable k n _ | .retrainLinkBit k n
  | .powerControllerControl k n _ | .dpcTriggerStatusClear k n | .dpcSoftwareTrigger k n => slotOk k && vdspOk n
  | .virtualBarWrite k n off _ _ _ | .bridgeRangeWrite k n off _ _ _ => slotOk k && vdspOk n && off % 4 == 0
  | .hostFlr i | .generationWaitEnd i | .removalDrainPoint i | .removalDrainTimeout i | .removalResetWaitEnd i
  | .removalFunctionReady i | .removalFunctionTimeout i => instOk i
  | .managementEndpointFlr k | .memorySpaceEnable k _ _ _ | .busMasterEnable k _ | .pmeToAckTimeout k | .spdmRequest k _
  | .partitionResetComplete k | .eventQueueHeadWrite k _ => slotOk k
  | .pcieLinkUp p rate width _ partner => portOk p && rate < 6 && 1 ≤ width && width < 6 && partner.length == 6
  | .marginCommand p lane _ _ _ | .laneLockLoss p lane | .laneLockRegain p lane | .clrUnfit p lane | .laneTest p lane _ _ _ =>
    portOk p && lane < 16
  | .pxBifWrite g _ | .pxPmapWrite g _ => g < 9
  | .chargeMove i e _ | .stallThresholdExpiry i e | .starvationTimerExpiry i e => i < 112 && e < 49
  | .holdExpiry port srcNode srcPart dstNode => fabOk port && nodeOk srcNode && partOk srcPart && nodeOk dstNode
  | .egressSelect e => e < 49
  | .receiptReceive src _ | .gapReceive src _ | .undelivReceive src _ | .purgeReceive src _ | .purgeAckReceive src _
  | .rewindReceive src | .syncReqReceive src _ | .syncRspReceive src _ _ _ | .partitionRecordInstall src _
  | .firmwareMessageReceive src _ _ => nodeOk src
  | .receiptSend n => nodeOk n
  | .setSpindle k | .assignTurns k | .writeTurn k | .armTurn k | .disarmTurn k | .readTurn k | .assignTimePin k
  | .reserveGrains k | .releaseGrains k | .assignChannel k | .releaseChannel k | .createPartition k | .deletePartition k
  | .resetPartition k | .transferFabricManagement k | .setStandby k | .freezePartition k | .thawPartition k
  | .readPartition k | .assignFunction k | .removeFunction k | .freezeFunction k | .thawFunction k | .setBusSpan k
  | .enableVfs k | .setManagedPort k | .readInstance k | .writeWindowEntry k | .readWindowEntry k | .commitWindows k
  | .setPeerGrant k | .enableSlot k | .disableSlot k | .cycleSlot k | .releasePort k | .injectFault k | .mailboxGo k
  | .commandBufferWrite k _ _ | .commandComplete k | .deferredCommandComplete k | .beginStage k | .writeStage k
  | .endStage k | .activateImage k | .commitImage k | .advanceSecurityVersion k | .readFirmwareStatus k | .readRegisters k
  | .writeRegisters k | .getIdentity k | .readCertificate k | .installOwnerChain k | .writeTable k | .readTable k
  | .setJournalQuota k | .purgeDestination k | .readFlow k | .readCounters k | .readShavings k | .setPowerLevel k
  | .setManagedAspm k | .requestSleep k | .joinFabric k | .leavePlane k | .retrainLink k | .marginLane k => boxOk k
  | .turnFetch n | .turnLaunch n => n < 1024
  | .timeOutPulseFall n | .timeInEdge n _ => n < 8
  | .dmTailWrite c _ | .dmStart c | .dmReset c | .dmResume c | .dmPause c _ | .dmEnable c _ | .descriptorFetchComplete c
  | .dmReadIssue c | .dmFillWriteForm c | .descriptorComplete c | .channelResetComplete c => chanOk c
  | .dmReadCompletion _ t => tlpOk t
  | .completionTimeout idx => idx < 16384
  | .tagQuarantineEnd port _ => (portOk port || port == 64)
  | .enableVfsTimeout port => portOk port
  | .commitSwap part | .shadowCopyDone part => partOk part
  | .lbPregWrite c _ _ => c < 4
  | .quadPllLock q | .quadPllLockLoss q => q < 42
  | .spCmdOn c | .spCmdOff c | .spCmdCycle c | .gateCheckPass c | .gateCheckTimeout c | .gateGoodLoss c
  | .perstReleaseTimer c | .perstLeadExpiry c | .railBelowOffLevel c | .offMaxExpiry c | .shuntSample c _
  | .fastComparatorTrip c | .retryIntervalExpiry c | .cleanExpiry c | .presenceDebounced c _ | .emptyTimeout c
  | .feedReturnExpiry c | .bbmExpiry c | .railLostTimeout c | .warnLeadExpiry c | .cycleOffExpiry c => slotChanOk c
  | .smbusBlockWrite _ data _ => data.length ≤ 253
  | .fltCtrlWrite f _ => f < 64
  | .missingEdge i => i < 4
  | .pllReferenceSwitchEnd pll | .pllLockLoss pll => pll < 3

end Sys2Proof
end

