-- ==== Sys2Proof/Tests/Slice0.lean ====
section
/-! SUPPORT. Tests: a state and operands that meet the hypotheses of every clause of every statement; ill-formed commands that the check
refuses; values the spec gives as examples. -/

namespace Sys2Proof.Tests

open Sys2Proof Sys2Proof.Machine

/-- A state with the named fields set. -/
def st (xs : List (Fld × Nat × Nat)) : State := xs.foldl (fun (s : State) x => s.set x.1 x.2.1 x.2.2) State.reset

/-- Port 44 as a fabric port whose controller is in the named state. -/
def lnk (state : Nat) : State := st [(PX_DUAL_FABRIC, 15, 0), (ML_STATUS_STATE, state, 44)]

/-- A state with a timer that runs. -/
def tmr (s : State) (t : TimerId) : State := s.start t 5

/-- A command taken by mailbox 0, of the fabric manager, with its parameters. -/
def run (op : Nat) (ps : List Nat) : OmiRun := { id := 1, opcode := op, params := ps, priv := 1, token := 7 }

/-- A state in which mailbox 0 runs a command. -/
def box (s : State) (r : OmiRun) : State := s.setMbox 0 { running := some { run := r } }

/-- A flash with a board configuration record without items, and the same image of four bytes in both slots. -/
def flashed : State := { State.reset with img.flash := [
    (0x10000, 0x47), (0x10001, 0x46), (0x10002, 0x43), (0x10003, 0x42), (0x10004, 0x01), (0x10005, 0x00), (0x10006, 0x00),
    (0x10007, 0x00), (0x10008, 0x00), (0x10009, 0x00), (0x1000A, 0x00), (0x1000B, 0x00), (0x1000C, 0x80), (0x1000D, 0x00),
    (0x1000E, 0x00), (0x1000F, 0x00), (0x10010, 0x00), (0x10011, 0x00), (0x10012, 0x00), (0x10013, 0x00), (0x10014, 0x00),
    (0x10015, 0x00), (0x10016, 0x00), (0x10017, 0x00), (0x10018, 0x7C), (0x10019, 0x25), (0x1001A, 0x94), (0x1001B, 0x37),
    (0x1001C, 0x62), (0x1001D, 0xDD), (0x1001E, 0x5A), (0x1001F, 0x13), (0x100000, 0x46), (0x100001, 0x49), (0x100002, 0x4D),
    (0x100003, 0x4F), (0x100010, 0x04), (0x100011, 0x00), (0x100012, 0x00), (0x100013, 0x00), (0x200000, 0x46), (0x200001, 0x49),
    (0x200002, 0x4D), (0x200003, 0x4F), (0x200010, 0x04), (0x200011, 0x00), (0x200012, 0x00), (0x200013, 0x00)] }

/-- That flash with the magic number of both images wrong. -/
def spoiled : State := { State.reset with img.flash := flashed.img.flash.filter fun x => x.1 != slotBase 0 && x.1 != slotBase 1 }

theorem imageOk_of {fuse : Nat} {xs : List Nat} (h0 : leAt xs 0 4 = 0x4F4D4946 ∧ 4 ≤ leAt xs 16 4 ∧ leAt xs 16 4 ≤ 917504 ∧
    xs.length = 512 + leAt xs 16 4 ∧ fuse ≤ (imgHdr xs).secVer) (h1 : Config.sha384 (xs.drop 512) = (xs.drop 20).take 48)
    (h2 : Config.signed (xs.take 256) ((xs.drop 256).take 96) = true) : imageOk fuse xs = true := by
  simp [imageOk, h0, h1, h2]

/-- The digest and the signature of the two images hold. The spec leaves both functions open, so it is an assumption here. -/
def Signed : Prop := ∀ n < 2, Config.sha384 ((flashed.imageBytes n).drop 512) = ((flashed.imageBytes n).drop 20).take 48 ∧
  Config.signed ((flashed.imageBytes n).take 256) (((flashed.imageBytes n).drop 256).take 96) = true

/-- A state whose flash is that one holds a valid image in either slot. -/
theorem flashed_slot {s : State} (hf : s.img.flash = flashed.img.flash) (hz : s.img.fuse = 0) (h : Signed) (n : Nat) (hn : n < 2) :
    s.slotOk n = true := by
  have e : s.imageBytes n = flashed.imageBytes n := by simp [State.imageBytes, State.flashBytes, State.flashByte, hf]
  have g : leAt (flashed.imageBytes n) 0 4 = 0x4F4D4946 ∧ 4 ≤ leAt (flashed.imageBytes n) 16 4 ∧
      leAt (flashed.imageBytes n) 16 4 ≤ 917504 ∧ (flashed.imageBytes n).length = 512 + leAt (flashed.imageBytes n) 16 4 ∧
      0 ≤ (imgHdr (flashed.imageBytes n)).secVer := by
    obtain rfl | rfl : n = 0 ∨ n = 1 := by omega
    · decide +kernel
    · decide +kernel
  rw [State.slotOk, e, hz]
  exact imageOk_of g (h n hn).1 (h n hn).2

theorem flashed_ok (h : Signed) : imageOk flashed.img.fuse (flashed.imageBytes 1) = true :=
  flashed_slot (s := flashed) rfl (by decide +kernel) h 1 (by decide)

theorem slotHash_of {s u : State} (h : s.img.flash = u.img.flash) (n : Nat) : s.slotHash n = u.slotHash n := by
  simp [State.slotHash, State.imageBytes, State.flashBytes, State.flashByte, h]

/-- The boot ROM's state with that flash. -/
def booting : State := { flashed with boot.rom := true, pw.freq := 1 }

/-- It runs an image, whichever slot it takes first, and the record is valid. -/
theorem booting_runs (h : Signed) :
    ∃ u, booting.bootImage = some u ∧ u.nodeState ≠ 2 ∧ u.record = some [] := by
  have hs : booting.newestSelector = none := by decide +kernel
  have hk : ∀ n < 2, ({ booting with free := 1 } : State).slotOk n = true := fun n hn =>
    flashed_slot (by decide +kernel) (by decide +kernel) h n hn
  have hf : booting.fresh.2 = { booting with free := 1 } := rfl
  have hb : booting.bootImage = some ({ ({ booting with free := 1 } : State).runImage (booting.fresh.1 % 2) with
      boot.rom := false, boot.running := true }.set MB_BOOT_STAGE 1) := by
    simp only [State.bootImage, hs, hf, hk _ (Nat.mod_lt _ (by decide)), if_true]
  refine ⟨_, hb, ?_⟩
  have : booting.fresh.1 % 2 = 0 ∨ booting.fresh.1 % 2 = 1 := by omega
  rcases this with e | e <;> rw [e] <;> decide +kernel

/-- The boot ROM's state with no valid image. -/
def stopping : State := { spoiled with boot.rom := true, pw.freq := 1 }

theorem stopping_stops : stopping.bootImage = none := by
  have hs : stopping.newestSelector = none := by decide +kernel
  have hk : ∀ n, n < 2 → ({ stopping with free := 1 } : State).slotOk n = false := by
    intro n hn
    obtain rfl | rfl : n = 0 ∨ n = 1 := by omega
    · decide +kernel
    · decide +kernel
  have hf : stopping.fresh.2 = { stopping with free := 1 } := rfl
  have hm : stopping.fresh.1 % 2 < 2 := Nat.mod_lt _ (by decide)
  simp only [State.bootImage, hs, hf, hk _ hm, hk (1 - stopping.fresh.1 % 2) (by omega), Bool.false_eq_true, if_false]

/-- Meets the hypotheses of `Obligations.RegisterCommandsComplete`, clause by clause. -/
theorem witness_RegisterCommandsComplete :
    (∃ (f : Fld) (v : Nat), f.reg ∈ plainRegs ∧ f ∈ f.reg.fields ∧ f.acc = .rw ∧ v < 2 ^ 32) ∧
    (∃ (f : Fld) (v : Nat), f.reg ∈ plainRegs ∧ f ∈ f.reg.fields ∧ f.acc = .rw ∧ v < 2 ^ 32) ∧
    (∃ (k : Nat), k < 16) ∧
    (∃ (r : Reg) (d : Nat), isLaneReg r = false ∧ 1 ≤ d ∧ d < r.dwords) ∧
    (∃ (s : State) (lo : Nat) (v : Nat), Tab.get none s.hold.staged (holdKey .SPN_TT_PART 0 0) = some lo ∧ lo < 2 ^ 32 ∧ v < 2 ^ 32) :=
  ⟨⟨RING_TIMERS_DISC_TIMEOUT, 0, by decide, by decide, by decide, by decide⟩,
   ⟨SP_TIMERS_OFF_MAX, 4294967295, by decide, by decide, by decide, by decide⟩,
   ⟨15, by decide⟩,
   ⟨.SPN_TIME, 2, by decide, by decide, by decide⟩,
   ⟨{ State.reset with hold.staged := [(holdKey .SPN_TT_PART 0 0, some 4294967295)] }, 4294967295, 4294967295, by decide, by decide, by decide⟩⟩

/-- Meets the hypotheses of `Obligations.RingMessagesComplete`, clause by clause. -/
theorem witness_RingMessagesComplete :
    (∃ (s : State) (p : Nat) (m : DiscMsg), s.inbox.contains (.mg p (.disc m)) = true ∧ m.origin ≠ s.nodeId ∧ m.turned = false ∧ m.recs.length < 16 ∧
      s.linkCarries (portOpp p) = true) ∧
    (∃ (s : State) (u : State) (pl : Plane) (d : DiscRun), s.expire (.disc pl) = some u ∧ s.discOf pl = some d) ∧
    (∃ (s : State) (u : State) (p : Nat) (m : LsMsg) (st : SegState), s.inbox.contains (.mg p (.linkState m)) = true ∧ m.state = some st ∧
      s.newer m = true ∧ m.reporter ≠ s.nodeId ∧ u = ({ s with inbox := s.inbox.erase (.mg p (.linkState m)) }.keepSeen
      { plane := m.plane, segment := m.segment, reporter := m.reporter, epoch := m.epoch, state := st }).sendMsg (portOpp p) (.linkState m)) :=
  ⟨⟨{ lnk lsActive with inbox := [.mg 45 (.disc { plane := .a, launch := .east, origin := 3, run := 1, recs := [] })] }, 45,
    { plane := .a, launch := .east, origin := 3, run := 1, recs := [] }, by decide, by decide, by decide, by decide, by decide⟩,
   ⟨tmr ({ State.reset with ring.discA := some { run := 1 } }) (.disc .a), _, .a, _, rfl, rfl⟩,
   ⟨{ State.reset with inbox := [.mg 44 (.linkState { plane := .a, segment := 1, state := some .up, epoch := 1, reporter := 2 })] }, _, 44,
     { plane := .a, segment := 1, state := some .up, epoch := 1, reporter := 2 }, _, by decide, rfl, by decide, by decide, rfl⟩⟩

/-- Meets the hypotheses of `Obligations.RouteGroupTimersComplete`, clause by clause. -/
theorem witness_RouteGroupTimersComplete :
    (∃ (s : State) (u : State) (part : Nat) (dst : Nat), s.expire (.returnClean (grpKey part dst)) = some u ∧
      (u.grp (grpKey part dst)).unreachable = false ∧ ((u.grp (grpKey part dst)).plane ≠ (u.homePath part dst).1 ∨ (u.grp (grpKey part dst)).dir ≠
      (u.homePath part dst).2) ∧ u.on RING_CTRL_RETURN_EN = true ∧ u.pathUp dst (u.homePath part dst).1 (u.homePath part dst).2 = true ∧
      (∀ x ∈ u.ring.groups, x.2.draining = false) ∧ u.ring.lastDrain = none) ∧
    (∃ (s : State) (part : Nat) (dst : Nat) (x : Grp) (h : Plane × Dir), x = s.grp (grpKey part dst) ∧ h = s.homePath part dst ∧ x.draining = true ∧
      s.groupDrained (grpKey part dst) = true ∧ s.pathUp dst h.1 h.2 = true) ∧
    (∃ (s : State) (u : State) (part : Nat) (dst : Nat), s.expire (.drain (grpKey part dst)) = some u) :=
  ⟨⟨tmr
    ({ st [(RING_CTRL_RETURN_EN, 1, 0), (RING_STATUS_STATE_A, 2, 0), (RING_STATUS_STATE_B, 2, 0), (RING_MEMBER_A_MEMBERS, 3, 0), (RING_MEMBER_B_MEMBERS, 3, 0), (RING_MEMBER_A_SEG_UP, 3, 0), (RING_MEMBER_B_SEG_UP, 3, 0)] with ring.groups := [(grpKey 0 1, { placed := true, plane := .b, dir := .west })] })
    (.returnClean (grpKey 0 1)), _, 0, 1, rfl, by decide, by decide, by decide, by decide, by decide, by decide⟩,
   ⟨{ st [(RING_CTRL_RETURN_EN, 1, 0), (RING_STATUS_STATE_A, 2, 0), (RING_STATUS_STATE_B, 2, 0), (RING_MEMBER_A_MEMBERS, 3, 0), (RING_MEMBER_B_MEMBERS, 3, 0), (RING_MEMBER_A_SEG_UP, 3, 0), (RING_MEMBER_B_SEG_UP, 3, 0)] with ring.groups := [(grpKey 0 1, { placed := true, plane := .b, dir := .west, draining := true })] },
     0, 1, _, _, rfl, rfl, by decide, by decide, by decide⟩,
   ⟨tmr (State.reset) (.drain (grpKey 0 1)), _, 0, 1, rfl⟩⟩

/-- Meets the hypotheses of `Obligations.JoinAndLeaveComplete`, clause by clause. -/
theorem witness_JoinAndLeaveComplete :
    (∃ (s : State), s.ring.join = none ∧ s.holdAllowed .a = true ∧ s.on RING_STATUS_HOLD_A = false) ∧
    (∃ (s : State) (j : JoinRun), s.ring.join = some j ∧ j.step = .waitOther ∧ s.holdAllowed j.plane = true ∧ s.quiet (Plane.other j.plane) = true) ∧
    (∃ (s : State), s.on RING_STATUS_HOLD_A = true) ∧
    (∃ (s : State), s.on RING_STATUS_HOLD_B = true) ∧
    (∃ (s : State) (u : State), s.expire (.leaveWait .b) = some u) ∧
    (∃ (s : State) (u : State), s.expire (.leaveWait .a) = some u ∧ ({ u with ring.leavingA := false }.dropHold .a).ring.sleepLeave = true) ∧
    (∃ (s : State) (u : State), s.expire .sleepPlaneB = some u) :=
  ⟨⟨st [(PX_DUAL_FABRIC, 15, 0), (RING_CTRL_HOLD_A_EN, 1, 0)], by decide, by decide, by decide⟩,
   ⟨{ st [(PX_DUAL_FABRIC, 15, 0), (RING_CTRL_HOLD_A_EN, 1, 0)] with ring.join := some { plane := .a, step := .waitOther, thenB := false } }, _, rfl,
     by decide, by decide, by decide⟩,
   ⟨st [(RING_STATUS_HOLD_A, 1, 0)], by decide⟩,
   ⟨st [(RING_STATUS_HOLD_B, 1, 0)], by decide⟩,
   ⟨tmr (State.reset) (.leaveWait .b), _, rfl⟩,
   ⟨tmr ({ State.reset with ring.sleepLeave := true }) (.leaveWait .a), _, rfl, by decide⟩,
   ⟨tmr (State.reset) (.sleepPlaneB), _, rfl⟩⟩

/-- Meets the hypotheses of `Obligations.LinkFlitsComplete`, clause by clause. -/
theorem witness_LinkFlitsComplete :
    (∃ (s : State) (p : Nat), s.isFab p = true) ∧
    (∃ (s : State) (p : Nat), s.isFab p = true ∧ s.linkCarries p = true ∧ 65535 ≤ (s.link p).sinceAudit) ∧
    (∃ (s : State) (u : State) (p : Nat) (h : FlitHdr) (vc : VC) (ps : List Piece), s.isFab p = true ∧ s.rxCheck p h true = (.pass, u) ∧
      u.overrun p vc ((startsOf ps).takeWhile lenOk) = false ∧ (((u.accept p).ackProcess p h.ack).takeReturn p h).linkListens p = true) ∧
    (∃ (s : State) (u : State) (p : Nat) (h : FlitHdr), s.isFab p = true ∧ h.crCount = 0 ∧ s.rxCheck p h false = (.pass, u)) ∧
    (∃ (s : State) (u : State) (p : Nat) (h : FlitHdr), s.isFab p = true ∧ s.rxCheck p h true = (.pass, u)) ∧
    (∃ (s : State) (u : State) (w : State) (p : Nat) (h : FlitHdr) (a : Audit), s.isFab p = true ∧ s.rxCheck p h true = (.pass, u) ∧
      w = (u.accept p).ackProcess p h.ack ∧ (∀ v, w.leak p a v = 0) ∧ (∀ v, perVc a.advEcho v = perVc (w.link p).adv v) ∧
      (w.takeReturn p h).linkListens p = true ∧ h.crCount = 0) ∧
    (∃ (s : State) (u : State) (p : Nat) (h : FlitHdr) (start : Nat), s.isFab p = true ∧ s.rsDecode p h = (true, u) ∧ h.seq = start ∧ h.crCount = 0 ∧
      u.linkListens p = true ∧ subMod 4096 (u.link p).e start ≤ 1024) ∧
    (∃ (s : State) (u : State) (p : Nat), s.expire (.replay p) = some u ∧ (u.link p).replay ≠ [] ∧ u.linkListens p = true ∧
      (u.link p).consec + 1 ≤ u.get ML_LIMITS_REPLAY_LIMIT p) :=
  ⟨⟨lnk lsActive, 44, by decide⟩,
   ⟨((lnk lsActive).updLink 44 fun l => { l with sinceAudit := 65535 }), 44, by decide, by decide, by decide⟩,
   ⟨lnk lsActive, _, 44, {}, .p, [], by decide, rfl, by decide, by decide⟩,
   ⟨lnk lsActive, _, 44, {}, by decide, by decide, rfl⟩,
   ⟨lnk lsActive, _, 44, {}, by decide, rfl⟩,
   ⟨lnk lsActive, _, _, 44, {}, {}, by decide, rfl, rfl, by intro v; cases v <;> rfl, by intro v; cases v <;> rfl, by decide, by decide⟩,
   ⟨lnk lsActive, _, 44, {}, 0, by decide, rfl, by decide, by decide, by decide, by decide⟩,
   ⟨tmr (((lnk lsActive).updLink 44 fun l => { l with replay := [{}] })) (.replay 44), _, 44, rfl, by decide, by decide, by decide⟩⟩

/-- Meets the hypotheses of `Obligations.LinkTrainingCompletes`, clause by clause. -/
theorem witness_LinkTrainingCompletes :
    (∃ (s : State) (u : State) (p : Nat) (lane : Nat) (h : FlitHdr), s.isFab p = true ∧ lane < 8 ∧ s.trainCheck p h = (true, u) ∧
      u.linkState p = lsDetect) ∧
    (∃ (s : State) (u : State) (p : Nat) (lane : Nat) (h : FlitHdr), s.isFab p = true ∧ lane < 8 ∧ s.trainCheck p h = (true, u) ∧
      u.linkState p = lsConfig) ∧
    (∃ (s : State) (u : State) (p : Nat) (rate : Nat) (left : Nat) (h : FlitHdr), s.isFab p = true ∧ s.trainCheck p h = (true, u) ∧
      u.linkState p = lsConfig ∧ (u.link p).peer.isSome = true ∧ u.on ML_STATUS_LEADER p = false ∧ rate ≤ 2 ∧ 1 ≤ left ∧ left ≤ 64) ∧
    (∃ (s : State) (u : State) (p : Nat) (lane : Nat) (h : FlitHdr) (e : EqMsg), s.isFab p = true ∧ lane < 8 ∧ s.trainCheck p h = (true, u) ∧
      u.linkState p = lsEqualise ∧ e.op = .presetReq ∧ e.preset ≤ 5) ∧
    (∃ (s : State) (u : State) (p : Nat) (lane : Nat), s.expire (.adapt p lane) = some u ∧ u.linkState p = lsEqualise) ∧
    (∃ (s : State) (u : State) (p : Nat) (lane : Nat) (n : Nat), s.expire (.measure p lane) = some u ∧ (laneOf (u.link p) lane).trying = some n ∧
      n < 4 ∧ (laneOf (u.link p) lane).final = false) ∧
    (∃ (s : State) (u : State) (p : Nat), s.expire (.equalise p) = some u ∧ u.linkState p = lsEqualise ∧ u.get ML_STATUS_RATE p ≠ 0 ∧
      u.on ML_STATUS_LEADER p = false) ∧
    (∃ (s : State) (u : State) (p : Nat) (h : FlitHdr), s.isFab p = true ∧ s.trainCheck p h = (true, u) ∧ u.linkState p = lsInit) ∧
    (∃ (s : State) (u : State) (p : Nat) (h : FlitHdr), s.isFab p = true ∧ s.trainCheck p h = (true, u) ∧ u.linkState p = lsInit ∧
      (u.link p).initGot = true ∧ (u.link p).initSent = true) :=
  ⟨⟨lnk lsDetect, _, 44, 7, {}, by decide, by decide, rfl, by decide⟩,
   ⟨lnk lsConfig, _, 44, 7, {}, by decide, by decide, rfl, by decide⟩,
   ⟨((lnk lsConfig).updLink 44 fun l =>
     { l with peer := some { node := 1, plane := .a, west := true, lane := 0, usable := 255, rateCap := 2, feature := 1, eqValid := false } }), _, 44,
     2, 64, {}, by decide, rfl, by decide, by decide, by decide, by decide, by decide, by decide⟩,
   ⟨lnk lsEqualise, _, 44, 7, {}, { op := .presetReq, preset := 5 }, by decide, by decide, rfl, by decide, by decide, by decide⟩,
   ⟨tmr (lnk lsEqualise) (.adapt 44 7), _, 44, 7, rfl, by decide⟩,
   ⟨tmr ((lnk lsEqualise).updLane 44 7 fun x => { x with trying := some 3 }) (.measure 44 7), _, 44, 7, _, rfl, rfl, by decide, by decide⟩,
   ⟨tmr (st [(PX_DUAL_FABRIC, 15, 0), (ML_STATUS_STATE, lsEqualise, 44), (ML_STATUS_RATE, 1, 44)]) (.equalise 44), _, 44, rfl, by decide, by decide,
     by decide⟩,
   ⟨lnk lsInit, _, 44, {}, by decide, rfl, by decide⟩,
   ⟨((lnk lsInit).updLink 44 fun l => { l with initGot := true, initSent := true }), _, 44, {}, by decide, rfl, by decide, by decide, by decide⟩⟩

/-- Meets the hypotheses of `Obligations.RetrainsComplete`, clause by clause. -/
theorem witness_RetrainsComplete :
    (∃ (s : State) (u : State) (w : State) (p : Nat) (h : FlitHdr), s.isFab p = true ∧ s.rxCheck p h false = (.pass, u) ∧ s.linkState p ≠ lsRetrain ∧
      h.crCount = 0 ∧ w = u.ackProcess p h.ack ∧ (w.link p).req = none ∧ w.linkState p = lsActive) ∧
    (∃ (s : State) (u : State) (w : State) (p : Nat) (h : FlitHdr) (r : Retrain), s.isFab p = true ∧ s.rxCheck p h false = (.pass, u) ∧ h.crCount = 0
      ∧ w = u.ackProcess p h.ack ∧ (w.link p).req = some r ∧ r.forced = false ∧ w.linkState p = lsActive) ∧
    (∃ (s : State) (u : State) (p : Nat) (h : FlitHdr), s.isFab p = true ∧ s.rxCheck p h false = (.pass, u) ∧ h.crCount = 0) ∧
    (∃ (s : State) (p : Nat) (r : Retrain), (s.link p).sched = some r ∧ s.linkState p = lsActive ∧ s.segmentDown (Plane.other (portPlane p)) = false)
      ∧
    (∃ (s : State) (u : State) (p : Nat) (r : Retrain), s.expire (.req p) = some u ∧ (u.link p).req = some r ∧ r.forced = false) ∧
    (∃ (s : State) (u : State) (p : Nat), s.expire (.rtMove p) = some u ∧ u.linkState p = lsLeaving) ∧
    (∃ (s : State) (u : State) (p : Nat), s.expire (.quiesce p) = some u ∧ u.linkState p = lsQuiesce) ∧
    (∃ (s : State) (u : State) (p : Nat), s.expire (.retrain p) = some u ∧ (u.linkState p = lsRetrain ∨ u.linkState p = lsInit) ∧
      (u.link p).repeated = false) ∧
    (∃ (s : State) (p : Nat), s.isFab p = true) :=
  ⟨⟨lnk lsActive, _, _, 44, {}, by decide, rfl, by decide, by decide, rfl, by decide, by decide⟩,
   ⟨((lnk lsActive).updLink 44 fun l => { l with req := some { reason := 1, wanted := 255, forced := false } }), _, _, 44, {}, _, by decide, rfl,
     by decide, rfl, rfl, by decide, by decide⟩,
   ⟨lnk lsActive, _, 44, {}, by decide, rfl, by decide⟩,
   ⟨((lnk lsActive).updLink 44 fun l => { l with sched := some { reason := 1, wanted := 255, forced := false } }), 44, _, rfl, by decide, by decide⟩,
   ⟨tmr (((lnk lsActive).updLink 44 fun l => { l with req := some { reason := 1, wanted := 255, forced := false } })) (.req 44), _, 44, _, rfl, rfl,
     by decide⟩,
   ⟨tmr (lnk lsLeaving) (.rtMove 44), _, 44, rfl, by decide⟩,
   ⟨tmr (lnk lsQuiesce) (.quiesce 44), _, 44, rfl, by decide⟩,
   ⟨tmr (lnk lsRetrain) (.retrain 44), _, 44, rfl, by decide, by decide⟩,
   ⟨lnk lsActive, 44, by decide⟩⟩

/-- Meets the hypotheses of `Obligations.LinkControlCompletes`, clause by clause. -/
theorem witness_LinkControlCompletes :
    (∃ (s : State) (u : State) (v : State) (p : Nat), s.expire (.lockLoss p) = some u ∧ u.isHeld p = false ∧ (u.link p).up = true ∧
      v = (u.linkDown p false false).settleHolds ∧ v.isHeld p = false ∧ v.on ML_STATUS_EQ_STORED p = false) ∧
    (∃ (s : State) (p : Nat), s.on ML_ERR_STATUS_FLAP_HOLD p = true ∧ (s.flag ML_ERR_STATUS_FLAP_HOLD false p).isHeld p = true) ∧
    (∃ (s : State) (u : State) (p : Nat) (v : Nat), s.isFab p = true ∧ u = s.write ML_CTRL_WIDTH_REQ v p) ∧
    (∃ (s : State) (p : Nat), s.isFab p = true) ∧
    (∃ (s : State) (u : State) (p : Nat), s.isFab p = true ∧ u = s.flag ML_CTRL_FORCE_DOWN false p ∧ u.linkState p = lsDown) ∧
    (∃ (s : State) (p : Nat), s.isFab p = true ∧ s.on ML_CTRL_ENABLE p = false) ∧
    (∃ (s : State) (p : Nat), s.isFab p = true ∧ s.on ML_CTRL_ENABLE p = true) ∧
    (∃ (s : State) (u : State) (p : Nat), s.expire (.selfFacing p) = some u ∧ u.isHeld p = true ∧ (u.link p).selfFacing = true) :=
  ⟨⟨tmr (((lnk lsActive).updLink 44 fun l => { l with up := true })) (.lockLoss 44), _, _, 44, rfl, by decide +kernel, by decide +kernel, rfl,
    by decide +kernel, by decide +kernel⟩,
   ⟨st [(ML_ERR_STATUS_FLAP_HOLD, 1, 44), (ML_STATUS_STATE, lsHeld, 44)], 44, by decide, by decide⟩,
   ⟨lnk lsActive, _, 44, 0, by decide, rfl⟩,
   ⟨lnk lsActive, 44, by decide⟩,
   ⟨lnk lsDown, _, 44, by decide, rfl, by decide⟩,
   ⟨st [(PX_DUAL_FABRIC, 15, 0), (ML_CTRL_ENABLE, 0, 44)], 44, by decide, by decide⟩,
   ⟨st [(PX_DUAL_FABRIC, 15, 0), (ML_CTRL_ENABLE, 1, 44)], 44, by decide, by decide⟩,
   ⟨tmr (((lnk lsHeld).updLink 44 fun l => { l with selfFacing := true })) (.selfFacing 44), _, 44, rfl, by decide, by decide⟩⟩

/-- Meets the hypotheses of `Obligations.PcieLinksComplete`, clause by clause. -/
theorem witness_PcieLinksComplete :
    (∃ (p : Nat), p < 48) ∧
    (∃ (p : Nat), p < 48) ∧
    (∃ (s : State) (p : Nat) (rate : Nat) (w : Nat) (flit : Bool), p < 48 ∧ s.mayTrainPx p = true ∧ s.dlActive p = false ∧ (s.px p).waiting = false ∧
      widthFits w (s.formedWidth p) = true ∧ rate ≤ s.get PX_PORT_CFG_RATE_CAP p ∧ (flit = true → s.on PX_PORT_CFG_FLIT_EN p = true) ∧
      (flit = false → rate ≤ 4)) ∧
    (∃ (s : State) (p : Nat) (rate : Nat) (w : Nat) (flit : Bool), p < 48 ∧ s.mayTrainPx p = true ∧ s.dlActive p = false ∧ (s.px p).waiting = false ∧
      widthFits w (s.formedWidth p) = true ∧ rate ≤ s.get PX_PORT_CFG_RATE_CAP p ∧ (flit = true → s.on PX_PORT_CFG_FLIT_EN p = true) ∧
      (flit = false → rate ≤ 4)) ∧
    (∃ (s : State) (p : Nat), p < 48 ∧ s.dlActive p = true) ∧
    (∃ (s : State) (p : Nat), p < 48 ∧ s.dlActive p = true) ∧
    (∃ (s : State) (p : Nat), s.role p = roleUp ∧ s.dlActive p = true) ∧
    (∃ (s : State) (id : Nat) (x : AckDue), (s.sc.acksDue.find? fun y => y.id == id) = some x ∧ x.arrived = none) ∧
    (∃ (s : State) (p : Nat) (k : Nat), s.slotOfPort p = some k ∧ s.role p = roleUp ∧ s.dlActive p = true ∧ (∃ n < 32, ∃ b, s.bind k n = some b ∧
      b.kind = 2)) ∧
    (∃ (s : State) (u : State) (k : Nat), s.expire (.pme k) = some u) :=
  ⟨⟨47, by decide⟩,
   ⟨47, by decide⟩,
   ⟨st [(PX_PORT_CFG_ENABLE, 1, 0), (PX_PORT_CFG_ROLE, 1, 0), (PX_PORT_CFG_RATE_CAP, 4, 0)], 0, 4, 1, false, by decide, by decide, by decide,
     by decide, by decide, by decide, by decide, by decide⟩,
   ⟨st [(PX_PORT_CFG_ENABLE, 1, 0), (PX_PORT_CFG_ROLE, 1, 0), (PX_PORT_CFG_RATE_CAP, 5, 0), (PX_PORT_CFG_FLIT_EN, 1, 0)], 0, 5, 1, true, by decide,
     by decide, by decide, by decide, by decide, by decide, by decide, by decide⟩,
   ⟨st [(PX_PORT_STAT_DL_ACTIVE, 1, 0)], 0, by decide, by decide⟩,
   ⟨st [(PX_PORT_STAT_DL_ACTIVE, 1, 0)], 0, by decide, by decide⟩,
   ⟨st [(PX_PORT_STAT_DL_ACTIVE, 1, 0), (PX_PORT_CFG_ROLE, 1, 0)], 0, by decide, by decide⟩,
   ⟨{ State.reset with sc.acksDue := [{ id := 1, port := 0, record := {} }] }, 1, _, rfl, by decide⟩,
   ⟨(st [(PX_PORT_STAT_DL_ACTIVE, 1, 0), (PX_PORT_CFG_ROLE, 1, 0), (PART_CTRL_VALID, 1, 0)]).setBind 0 1 (some
     { kind := 2, node := 0, inst := 0, port := 1 }), 0, _, rfl, by decide, by decide, ⟨1, by decide, _, rfl, rfl⟩⟩,
   ⟨tmr (State.reset) (.pme 0), _, 0, rfl⟩⟩

/-- Meets the hypotheses of `Obligations.PcieIngressCompletes`, clause by clause. -/
theorem witness_PcieIngressCompletes :
    (∃ (s : State) (p : Nat) (t : Tlp), isCfg t.kind = true ∧ s.role p = roleUp) ∧
    (∃ (t : Tlp), t.kind = .cpl) :=
  ⟨⟨st [(PX_PORT_CFG_ROLE, 1, 0)], 0, { kind := .cfgRead0 }, by decide, by decide⟩,
   ⟨{ kind := .cpl }, by decide⟩⟩

/-- Meets the hypotheses of `Obligations.HostWritesComplete`, clause by clause. -/
theorem witness_HostWritesComplete :
    (∃ (s : State) (k : Nat) (n : Nat), s.slotUsed k = true ∧ isVdsp n = true) ∧
    (∃ (s : State) (k : Nat) (n : Nat) (off : Nat), s.slotUsed k = true ∧ isVdsp n = true ∧ behindOff off = true) ∧
    (∃ (s : State) (k : Nat) (n : Nat), s.slotUsed k = true ∧ isVdsp n = true) ∧
    (∃ (s : State) (i : Nat), s.liveInst i = true ∧ s.on PART_FN_A_BIND i = false) ∧
    (∃ (s : State) (k : Nat) (n : Nat), s.slotUsed k = true ∧ isVdsp n = true) ∧
    (∃ (s : State) (k : Nat), s.slotUsed k = true) :=
  ⟨⟨st [(PART_CTRL_VALID, 1, 15)], 15, 31, by decide, by decide⟩,
   ⟨st [(PART_CTRL_VALID, 1, 0)], 0, 1, 0x10, by decide, by decide, by decide⟩,
   ⟨st [(PART_CTRL_VALID, 1, 0)], 0, 1, by decide, by decide⟩,
   ⟨st [(PART_FN_A_VALID, 1, 511)], 511, by decide, by decide⟩,
   ⟨st [(PART_CTRL_VALID, 1, 0)], 0, 1, by decide, by decide⟩,
   ⟨st [(PART_CTRL_VALID, 1, 0)], 0, by decide⟩⟩

/-- Meets the hypotheses of `Obligations.PciePowerAndLanesComplete`, clause by clause. -/
theorem witness_PciePowerAndLanesComplete :
    (∃ (s : State) (p : Nat), s.dlActive p = true ∧ (s.px p).l1Enabled = true ∧ s.on PX_PWR_NO_LP p = false ∧ s.get PX_PORT_STAT_PM p = 0 ∧
      s.pxIdle p = true) ∧
    (∃ (s : State) (p : Nat), s.dlActive p = true ∧ 8 ≤ s.formedWidth p ∧ s.on PX_PORT_STAT_FLIT p = true ∧ s.on PX_PWR_L0P_AUTO p = true ∧
      s.on PX_PWR_NO_LP p = false ∧ (s.get PX_PWR_L0P_MIN p + 2 < s.get PX_PORT_STAT_WIDTH p)) ∧
    (∃ (s : State) (p : Nat), s.dlActive p = true ∧ s.on PX_PORT_STAT_L0P p = true) ∧
    (∃ (s : State) (p : Nat) (lane : Nat) (rcv : Nat), p < 48 ∧ s.dlActive p = true ∧ lane < laneCount (s.get PX_PORT_STAT_WIDTH p) ∧
      rcv ≠ (if s.role p = roleUp then 6 else 1)) ∧
    (∃ (s : State) (p : Nat) (lane : Nat) (rcv : Nat), p < 48 ∧ s.dlActive p = true ∧ lane < laneCount (s.get PX_PORT_STAT_WIDTH p) ∧
      rcv = (if s.role p = roleUp then 6 else 1)) ∧
    (∃ (s : State) (k : Nat), s.slotUsed k = true ∧ s.img.act = none) ∧
    (∃ (s : State) (u : State) (g : Nat) (v : Nat), g < 9 ∧ s.groupIdle g = true ∧ v < 64 ∧ u = (s.set PX_BIF_H0 (v % 8) g).set PX_BIF_H1 (if g = 8
      then 0 else v / 8 % 8) g ∧ (bifOk g (v % 8) (if g = 8 then 0 else v / 8 % 8) = true) ∧ u.numbersOk = true) ∧
    (∃ (s : State) (u : State) (g : Nat) (v : Nat), g < 8 ∧ s.groupIdle g = true ∧ u = (List.range 5).foldl (fun s j => s.write (pmapFld j) (v / 64 ^
      j) g) s ∧ u.numbersOk = true) ∧
    (∃ (s : State), (∀ n < 4, s.portEnabled (44 + n) = false)) :=
  ⟨⟨(st [(PX_PORT_STAT_DL_ACTIVE, 1, 0)]).updPx 0 fun x => { x with l1Enabled := true }, 0, by decide, by decide, by decide, by decide, by decide⟩,
   ⟨st [(PX_PORT_STAT_DL_ACTIVE, 1, 0), (PX_BIF_H0, 1, 0), (PX_BIF_H1, 1, 0), (PX_PORT_STAT_FLIT, 1, 0), (PX_PWR_L0P_AUTO, 1, 0), (PX_PORT_STAT_WIDTH,
     4, 0)], 0, by decide, by decide, by decide, by decide, by decide, by decide⟩,
   ⟨st [(PX_PORT_STAT_DL_ACTIVE, 1, 0), (PX_PORT_STAT_L0P, 1, 0)], 0, by decide, by decide⟩,
   ⟨st [(PX_PORT_STAT_DL_ACTIVE, 1, 0), (PX_PORT_STAT_WIDTH, 5, 0)], 0, 15, 0, by decide, by decide, by decide, by decide⟩,
   ⟨st [(PX_PORT_STAT_DL_ACTIVE, 1, 0), (PX_PORT_STAT_WIDTH, 5, 0), (PX_PORT_CFG_ROLE, 1, 0)], 0, 15, 6, by decide, by decide, by decide, by decide⟩,
   ⟨st [(PART_CTRL_VALID, 1, 0)], 0, by decide, by decide⟩,
   ⟨State.reset, _, 8, 1, by decide +kernel, by decide +kernel, by decide +kernel, rfl, by decide +kernel, by decide +kernel⟩,
   ⟨State.reset, _, 0, 0, by decide +kernel, by decide +kernel, rfl, by decide +kernel⟩,
   ⟨State.reset, by decide⟩⟩

/-- Meets the hypotheses of `Obligations.SwitchCoreCompletes`, clause by clause. -/
theorem witness_SwitchCoreCompletes :
    (∃ (s : State) (i : Nat) (e : Nat) (p : Nat) (vc : VC) (k : Packet), (s.sc.pkts.find? fun k => k.src == i && k.egress == e && k.record.vc == vc &&
      onReserve k.charge && (!k.gone || k.entry.isSome)) = some k ∧ k.charge = .reserve p ∧ k.entry = none ∧ k.gone = false ∧
      s.canCharge i e vc (pktUnits k) = true ∧ s.nextOfVc k = true) ∧
    (∃ (s : State) (u : State) (id : Nat) (k : Packet), s.expire (.refuse id) = some u ∧ s.pkt id = some k ∧ u.arrived k = true ∧
      k.charge = .reserve (k.inPort.getD 0) ∧ k.pass = .none) ∧
    (∃ (s : State) (u : State) (p : Nat) (n : Nat) (q : Nat) (d : Nat), s.expire (.hold p n q d) = some u) ∧
    (∃ (s : State) (e : Nat), e < 48 ∧ s.fabricMode e = true ∧ s.linkCarries e = true) ∧
    (∃ (s : State) (e : Nat), e < 48 ∧ s.fabricMode e = false ∧ s.dlActive e = true ∧ (s.px e).sending = none) ∧
    (∃ (s : State) (id : Nat) (k : Packet), s.pkt id = some k ∧ k.started = true ∧ k.complete = true ∧ s.fabricMode k.egress = true ∧ k.gone = true) ∧
    (∃ (s : State) (u : State) (id : Nat) (k : Packet) (q : Packet), s.pkt id = some k ∧ k.started = true ∧ k.complete = true ∧
      s.fabricMode k.egress = false ∧ (s.px k.egress).sending = some id ∧ u = (s.stage id 7).updPx k.egress (fun x => { x with sending := none }) ∧
      (u.updPkt id fun q => { q with gone := true }).pkt id = some q) ∧
    (∃ (s : State) (u : State) (i : Nat) (e : Nat) (t : Nat), u = s.refreshStream i e ∧ u.pcieRules i e = false ∧
      (((u.stream i e).filter fun k => (u.stream i e).any fun q => q.record.vc != k.record.vc && k.arrival < q.arrival).filterMap fun k =>
      k.stalled).min? = some t) ∧
    (∃ (s : State) (id : Nat) (k : Packet), s.pkt id = some k) ∧
    (∃ (s : State) (u : State) (id : Nat) (k : Packet), s.pkt id = some k ∧ k.started = false ∧ s.arrived k = true ∧ k.pass = .final ∧ k.src < 48 ∧
      u = ((((s.bump SC_CNT_ECC_UNCORR_COUNT).evtNode 0 7).report
      { unit := 17, cls := 1, scope := 4, scopeId := k.record.srcPart, cause := 0x5800 }).shaveOff k 3) ∧
      (u.arrived { k with shaved := false } = true)) :=
  ⟨⟨{ State.reset with sc.pkts := [{ id := 1, record := {}, charge := .reserve 0 }] }, 0, 0, 0, .p, _, rfl, by decide, by decide, by decide,
    by decide, by decide⟩,
   ⟨tmr ({ st [(PX_DUAL_FABRIC, 15, 0)] with sc.pkts := [{ id := 1, record := {}, inPort := some 44, charge := .reserve 44 }] }) (.refuse 1), _, 1, _,
     rfl, rfl, by decide, by decide, by decide⟩,
   ⟨tmr (State.reset) (.hold 44 1 2 3), _, 44, 1, 2, 3, rfl⟩,
   ⟨lnk lsActive, 44, by decide, by decide, by decide⟩,
   ⟨st [(PX_PORT_STAT_DL_ACTIVE, 1, 0)], 0, by decide, by decide, by decide, by decide⟩,
   ⟨{ st [(PX_DUAL_FABRIC, 15, 0)] with sc.pkts := [{ id := 1, record := {}, egress := 44, started := true, gone := true }] }, 1, _, rfl, by decide,
     by decide, by decide, by decide⟩,
   ⟨({ State.reset with sc.pkts := [{ id := 1, record := {}, started := true }] }).updPx 0 fun x => { x with sending := some 1 }, _, 1, _, _, rfl,
     by decide, by decide, by decide, by decide, rfl, rfl⟩,
   ⟨{ st [(PX_PORT_STAT_DL_ACTIVE, 1, 0)] with sc.pkts := [{ id := 1, record := {}, charge := .shared, stalled := some 5 }, { id := 2, record := { vc := .np }, arrival := 1, charge := .shared, stalled := some 5 }] },
     _, 0, 0, _, rfl, by decide, rfl⟩,
   ⟨{ State.reset with sc.pkts := [{ id := 1, record := {} }] }, 1, _, rfl⟩,
   ⟨{ st [(PX_DUAL_FABRIC, 15, 0)] with sc.pkts := [{ id := 1, record := {}, inPort := some 44, src := 44, pass := .final }] }, _, 1, _, rfl,
     by decide, by decide, by decide, by decide, rfl, by decide⟩⟩

/-- Meets the hypotheses of `Obligations.JournalRecordsComplete`, clause by clause. -/
theorem witness_JournalRecordsComplete :
    (∃ (s : State) (u : State) (v : State) (x : IntTx) (i : Nat) (e : Entry), (pickTx s.intOk s.jnl.intWait [] = some x) ∧ x.internalReserve = false ∧
      x.dmWr = none ∧ x.turn = none ∧ ({ s with jnl.intWait := s.jnl.intWait.erase x }.admitRec x.record .internal x.inst x.cplId) = (i, u) ∧
      u.entry i = some e ∧ v = u.enqueueInternal
      { id := 0, record := e.record, egress := u.egressOf (recGrp e.record), entry := some i, inst := x.inst, cplId := x.cplId, bytes := e.record.len - 16, release := x.release, excess := e.record.excess, dmSegs := x.dmSegs })
      ∧
    (∃ (s : State) (u : State) (n : Nat) (xs : List JItem), s.takeCtl n ctlReceipt 0 false xs = some u) ∧
    (∃ (s : State) (u : State) (n : Nat) (xs : List JItem), s.takeCtl n ctlGap 0 false xs = some u) ∧
    (∃ (s : State) (u : State) (n : Nat) (xs : List JItem), s.takeCtl n ctlUndeliv 0 false xs = some u) ∧
    (∃ (s : State) (u : State) (n : Nat) (xs : List JItem), (∀ x ∈ xs, s.leavingUpTo (dedupKey n x.part x.vc) x.seqA = false) ∧
      s.takeCtl n ctlPurge 0 false xs = some u) ∧
    (∃ (s : State) (u : State) (n : Nat) (a : JItem) (more : List JItem), (s.takeSpan n ctlPurgeAck (a :: more) 64 = some u)) ∧
    (∃ (s : State) (u : State) (n : Nat), (s.takeCtl n ctlRewind 0 false [] = some u)) :=
  ⟨⟨{ st [(JNL_CTRL_E_GATE, 0, 0)] with jnl.recovered := true, jnl.intWait := [{ record := {}, internalReserve := false }] }, _, _, _, 0, _, rfl,
    by decide, by decide, by decide, rfl, rfl, rfl⟩,
   ⟨{ State.reset with inbox := [.ctl 1 ctlReceipt 0 false [{ part := 1, vc := .p }]] }, _, 1, [{ part := 1, vc := .p }], rfl⟩,
   ⟨{ State.reset with inbox := [.ctl 1 ctlGap 0 false [{ part := 1, vc := .p }]] }, _, 1, [{ part := 1, vc := .p }], rfl⟩,
   ⟨{ State.reset with inbox := [.ctl 1 ctlUndeliv 0 false [{ part := 1, vc := .p }]] }, _, 1, [{ part := 1, vc := .p }], rfl⟩,
   ⟨{ State.reset with inbox := [.ctl 1 ctlPurge 0 false [{ part := 1, vc := .p }]] }, _, 1, [{ part := 1, vc := .p }], by decide, rfl⟩,
   ⟨{ State.reset with inbox := [.ctl 1 ctlPurgeAck 0 true [{ part := 1, vc := .p }]] }, _, 1, { part := 1, vc := .p }, {}, rfl⟩,
   ⟨{ State.reset with inbox := [.ctl 1 ctlRewind 0 false []] }, _, 1, rfl⟩⟩

/-- Meets the hypotheses of `Obligations.JournalSyncCompletes`, clause by clause. -/
theorem witness_JournalSyncCompletes :
    (∃ (s : State) (u : State) (n : Nat) (number : Nat) (x : Nat × SyncKept), (s.takeCtl n ctlSyncReq number false [] = some u) ∧
      (u.jnl.kept.find? fun x => x.1 == n && x.2.number == number) = some x) ∧
    (∃ (s : State) (u : State) (n : Nat) (number : Nat) (xs : List JItem), s.takeCtl n ctlSyncRsp number false xs = some u ∧ number = u.jnl.syncNo ∧
      n ∈ u.jnl.unsynced) ∧
    (∃ (s : State) (u : State), s.expire .syncResend = some u ∧ u.jnl.syncAsked = []) ∧
    (∃ (s : State) (u : State) (v : State), s.expire .syncResend = some u ∧ v = u.jnl.syncAsked.foldl (fun s n => s.sendCtl n ctlSyncReq s.jnl.syncNo
      false []) u ∧ v.jnl.syncAsked ≠ []) :=
  ⟨⟨{ { State.reset with jnl.kept := [(1, { number := 5, items := [] })] } with inbox := [.ctl 1 ctlSyncReq 5 false []] }, _, 1, 5, _, rfl, rfl⟩,
   ⟨{ { State.reset with jnl.unsynced := [1] } with inbox := [.ctl 1 ctlSyncRsp 0 false [{ part := 1, vc := .p }]] }, _, 1, 0,
     [{ part := 1, vc := .p }], rfl, by decide, by decide⟩,
   ⟨tmr (State.reset) (.syncResend), _, rfl, by decide⟩,
   ⟨tmr ({ State.reset with jnl.syncAsked := [1] }) (.syncResend), _, _, rfl, rfl, by decide⟩⟩

/-- Meets the hypotheses of `Obligations.JournalTimersComplete`, clause by clause. -/
theorem witness_JournalTimersComplete :
    (∃ (s : State) (u : State) (n : Nat), s.expire (.receipt n) = some u) ∧
    (∃ (s : State) (u : State) (q : Nat) (d : Nat), s.expire (.rtx (grpKey q d)) = some u) ∧
    (∃ (s : State) (u : State) (q : Nat) (d : Nat), s.expire (.heldTmo (grpKey q d)) = some u) ∧
    (∃ (s : State) (u : State) (q : Nat) (d : Nat), s.expire (.unreach (grpKey q d)) = some u) ∧
    (∃ (s : State) (u : State) (id : Nat) (q : Nat) (e : Entry), s.expire (.cplAge id) = some u ∧ s.entry id = some e ∧ e.seq = some q) ∧
    (∃ (s : State) (u : State) (id : Nat) (e : Entry), s.expire (.cplAge id) = some u ∧ s.entry id = some e ∧ e.seq = none) ∧
    (∃ (s : State) (u : State) (k : Nat) (r : OmiRun), (s.runsHere k 0x0802 (s.nodesArg 0) r) ∧ u = s.begun r true ∧ r.arg 2 1 < 16 ∧
      r.arg 4 4 ≤ 98304) ∧
    (∃ (s : State) (u : State) (k : Nat) (r : OmiRun), (s.runsHere k 0x0803 (nodeArg 0) r) ∧ u = s.begun r false ∧ r.arg 1 1 < 16 ∧ r.arg 2 1 = 0xFF ∧
      r.arg 3 1 = 0 ∧ (∀ e ∈ u.jnl.entries, e.record.dstNode ≠ r.arg 1 1) ∧ (∀ e ∈ u.jnl.entries, e.record.dstNode < 16)) ∧
    (∃ (s : State) (u : State) (k : Nat) (r : OmiRun) (f : SrcFlow) (d : Nat), (s.runsHere k 0x0804 (nodeArg 0) r) ∧ u = s.begun r false ∧
      d = r.arg 1 1 ∧ d < 16 ∧ r.arg 2 1 < 64 ∧ r.arg 3 1 ≤ 4 ∧ r.arg 4 1 = 0 ∧ f = u.flow (flowKey (r.arg 2 1) d (vcOf (r.arg 3 1)))) :=
  ⟨⟨tmr (State.reset) (.receipt 1), _, 1, rfl⟩,
   ⟨tmr (State.reset) (.rtx (grpKey 63 15)), _, 63, 15, rfl⟩,
   ⟨tmr (State.reset) (.heldTmo (grpKey 63 15)), _, 63, 15, rfl⟩,
   ⟨tmr (State.reset) (.unreach (grpKey 63 15)), _, 63, 15, rfl⟩,
   ⟨tmr ({ State.reset with jnl.entries := [{ id := 1, record := {}, seq := some 9 }] }) (.cplAge 1), _, 1, _, _, rfl, rfl, rfl⟩,
   ⟨tmr ({ State.reset with jnl.entries := [{ id := 1, record := {}, seq := none }] }) (.cplAge 1), _, 1, _, rfl, rfl, by decide⟩,
   ⟨box (State.reset) (run 0x0802 [0, 0, 15, 0, 0, 128, 1, 0]), _, 0, (run 0x0802 [0, 0, 15, 0, 0, 128, 1, 0]), ⟨rfl, .inr (by decide)⟩, rfl,
     by decide, by decide⟩,
   ⟨box (State.reset) (run 0x0803 [0, 1, 255, 0]), _, 0, (run 0x0803 [0, 1, 255, 0]), ⟨rfl, .inr (by decide)⟩, rfl, by decide, by decide, by decide,
     by decide, by decide⟩,
   ⟨box (State.reset) (run 0x0804 [0, 15, 63, 4, 0]), _, 0, (run 0x0804 [0, 15, 63, 4, 0]), _, _, ⟨rfl, .inr (by decide)⟩, rfl, rfl, by decide,
     by decide, by decide, by decide, rfl⟩⟩

/-- Meets the hypotheses of `Obligations.PowerFailCompletes`, clause by clause. -/
theorem witness_PowerFailCompletes :
    (∃ (s : State) (u : State), s.expire .drainMax = some u ∧ u.get JNL_STATUS_PF_PHASE = pfDrain) ∧
    (∃ (s : State) (u : State), s.pfPhase = pfPersist ∧ u = ((s.persistCommit.set JNL_STATUS_PF_PHASE pfDone).spPersistOff.portsStop).stopPins) ∧
    (∃ (s : State) (u : State) (b : Bool), s.expire (.feedGood b) = some u) ∧
    (∃ (s : State) (u : State), s.expire .feedPf = some u) ∧
    (∃ (s : State) (n : Nat), n ≤ 1 ∧ bit (s.get JNL_STATUS_PST_FITTED) n = true) :=
  ⟨⟨tmr (st [(JNL_STATUS_PF_PHASE, pfDrain, 0)]) (.drainMax), _, rfl, by decide⟩,
   ⟨st [(JNL_STATUS_PF_PHASE, pfPersist, 0)], _, by decide, rfl⟩,
   ⟨tmr (State.reset) (.feedGood true), _, true, rfl⟩,
   ⟨tmr (State.reset) (.feedPf), _, rfl⟩,
   ⟨st [(JNL_STATUS_PST_FITTED, 3, 0)], 1, by decide, by decide⟩⟩

/-- Meets the hypotheses of `Obligations.SamplesAndRecoveryComplete`, clause by clause. -/
theorem witness_SamplesAndRecoveryComplete :
    (∃ (s : State) (u : State) (a : Nat), s.feedFitted false = true ∧ u = s.feedRead false (senseMv a (s.get PST_FEED_DIV_A)) ∧
      u.feedFitted true = true) ∧
    (∃ (s : State) (v : Nat), (senseMv v (s.get PST_HUV_CFG_DIV) / 10 ≤ s.get PST_VLIM_V_TOP * 10) ∧ v < 1188000) ∧
    (∃ (s : State), s.pst.checked = false ∧ s.jnl.recovered = false ∧ s.on PST_CTRL_CH0_FIT = true ∧ s.on PST_CTRL_CH1_FIT = true) ∧
    (∃ (s : State), s.pst.checked = true ∧ s.jnl.recovered = false ∧ s.jnl.area0 = none ∧ s.jnl.area1 = none) :=
  ⟨⟨st [(PST_CTRL_FEED_A_FIT, 1, 0), (PST_CTRL_FEED_B_FIT, 1, 0)], _, 12000, by decide, rfl, by decide⟩,
   ⟨State.reset, 100, by decide, by decide⟩,
   ⟨st [(PST_CTRL_CH0_FIT, 1, 0), (PST_CTRL_CH1_FIT, 1, 0)], by decide, by decide, by decide, by decide⟩,
   ⟨{ State.reset with pst.checked := true }, by decide, by decide, by decide, by decide⟩⟩

/-- Meets the hypotheses of `Obligations.TimeExchangesComplete`, clause by clause. -/
theorem witness_TimeExchangesComplete :
    (∃ (s : State) (u : State) (p : Nat), s.isFab p = true ∧ s.linkState p = lsActive ∧ Tab.get none s.spn.exch p = none ∧
      u = { s with now := max s.now (match Tab.get none s.spn.lastExch p with | some t => t + s.get SPN_SYNC_SYNC_INT * 1000 | none => s.now) }) ∧
    (∃ (s : State) (u : State) (v : State) (p : Nat) (h : FlitHdr), s.isFab p = true ∧ s.rxCheck p h false = (.pass, u) ∧ v = u.ackProcess p h.ack) ∧
    (∃ (s : State) (u : State) (v : State) (p : Nat) (id : Nat) (t3 : Nat) (t2 : Nat) (t1 : Nat) (h : FlitHdr) (ds : List Int), s.isFab p = true ∧
      s.rxCheck p h false = (.pass, u) ∧ v = u.ackProcess p h.ack ∧ Tab.get none v.spn.exch p = some (id, t1) ∧ v.spn.parent ≠ some p ∧
      ds = (((((v.stamp : Int) - t1) - ((t3 : Int) - t2)) / 2) :: Tab.get [] v.spn.delays p).take 8) ∧
    (∃ (s : State) (u : State) (p : Nat), s.expire (.exch p) = some u) ∧
    (∃ (s : State) (u : State) (v : State), u = s.elect ∧ v =
      { u with now := max u.now (if u.spn.sent == some u.ownAnn then u.spn.lastAnn + 1000000 else u.now) }) ∧
    (∃ (s : State) (u : State) (v : State) (p : Nat) (m : AnnMsg), s.takeMsg p (.announce m) = some u ∧
      v = ({ u with spn.seen := Tab.put none u.spn.seen p (some { m := m, at_ := u.now }) }.start (.absent p) 3000000).elect ∧ v.spn.parent ≠ some p)
      ∧
    (∃ (s : State) (u : State) (p : Nat), s.expire (.absent p) = some u) ∧
    (∃ (s : State) (u : State) (c : Cand), s.expire .gmSettle = some u ∧ u.spn.rival = some c) :=
  ⟨⟨lnk lsActive, _, 44, by decide, by decide, by decide, rfl⟩,
   ⟨lnk lsActive, _, _, 44, {}, by decide, rfl, rfl⟩,
   ⟨{ lnk lsActive with spn.exch := [(44, some (1, 0))] }, _, _, 44, _, 0, 0, _, {}, _, by decide, rfl, rfl, rfl, by decide, rfl⟩,
   ⟨tmr (State.reset) (.exch 44), _, 44, rfl⟩,
   ⟨lnk lsActive, _, _, rfl, rfl⟩,
   ⟨{ lnk lsActive with inbox := [.mg 44 (.announce { gmId := 0, gmClass := 0, gmPrio := 5, gmEpoch := 0, hops := 0 })] }, _, _, 44,
     { gmId := 0, gmClass := 0, gmPrio := 5, gmEpoch := 0, hops := 0 }, rfl, rfl, by decide⟩,
   ⟨tmr (State.reset) (.absent 44), _, 44, rfl⟩,
   ⟨tmr ({ State.reset with spn.rival := some { node := 1, cls := 1, prio := 1 } }) (.gmSettle), _, _, rfl, rfl⟩⟩

/-- Meets the hypotheses of `Obligations.TimeSourcesComplete`, clause by clause. -/
theorem witness_TimeSourcesComplete :
    (∃ (s : State), s.on SPN_CTRL_PPS_IN_EN = true ∧ s.isGm = false ∧ (s.capture 8 true).isGm = false) ∧
    (∃ (s : State) (u : State), s.expire .ppsLoss = some u ∧ u.on SPN_PPS_PPS_LOCK = false) ∧
    (∃ (s : State) (u : State) (k : Nat) (r : OmiRun) (d : Int), (s.runsHere k 0x0602 (fun _ => [(s.spn.gm.map fun g => g.node).getD s.nodeId]) r) ∧
      u = s.begun r false ∧ r.arg 0 1 = 1 ∧ u.isGm = true ∧ u.timeState = spnValid ∧ u.spn.step = none ∧
      d = ((r.arg 4 2 + r.arg 6 8 * 65536 : Nat) : Int) - u.spindle ∧ d.natAbs ≤ 65536000000) ∧
    (∃ (s : State) (u : State) (t : Nat) (d : Int), s.spn.step = some (t, d) ∧ u = { s.until t with spn.step := none } ∧ u.timeGood = false) ∧
    (∃ (s : State) (u : State) (time : Nat), s.on SPN_CTRL_PTM_HOST_EN = true ∧ s.isGm = true ∧ s.role (s.get SPN_CTRL_HOST_PORT) = roleUp ∧
      s.dlActive (s.get SPN_CTRL_HOST_PORT) = true ∧ u =
      { s with now := max s.now (s.spn.lastPtm + s.get SPN_SYNC_SYNC_INT * 1000), spn.lastPtm := max s.now (s.spn.lastPtm + s.get SPN_SYNC_SYNC_INT * 1000), spn.hostTime := true, spn.hostSet := true }
      ∧ ((time * 65536 : Nat) - (u.spindle : Int)).natAbs ≤ u.stepThr) ∧
    (∃ (s : State) (p : Nat), s.dlActive p = true ∧ s.role p = roleManaged) ∧
    (∃ (s : State) (u : State), s.expire .holdover = some u ∧ u.timeState = spnHoldover) :=
  ⟨⟨st [(SPN_CTRL_PPS_IN_EN, 1, 0)], by decide, by decide, by decide⟩,
   ⟨tmr (State.reset) (.ppsLoss), _, rfl, by decide⟩,
   ⟨box ({ st [(SPN_STATUS_STATE, spnValid, 0)] with spn.gm := some { node := 0, cls := 0, prio := 0 } }) (run 0x0602 [1, 0, 0, 0, 0, 0, 0, 0, 0, 0,
     0, 0, 0, 0]), _, 0, (run 0x0602 [1, 0, 0, 0, 0, 0, 0, 0, 0, 0, 0, 0, 0, 0]), _, ⟨rfl, .inr (by decide)⟩, rfl, by decide, by decide, by decide,
     by decide, rfl, by decide⟩,
   ⟨{ State.reset with spn.step := some (5, 7) }, _, _, _, rfl, rfl, by decide⟩,
   ⟨{ st [(SPN_CTRL_PTM_HOST_EN, 1, 0), (PX_PORT_CFG_ROLE, roleUp, 0), (PX_PORT_STAT_DL_ACTIVE, 1, 0)] with spn.gm := some { node := 0, cls := 0, prio := 0 } },
     _, 125000, by decide, by decide, by decide, by decide, rfl, by decide⟩,
   ⟨st [(PX_PORT_STAT_DL_ACTIVE, 1, 0), (PX_PORT_CFG_ROLE, roleManaged, 0)], 0, by decide, by decide⟩,
   ⟨tmr (st [(SPN_STATUS_STATE, spnHoldover, 0)]) (.holdover), _, rfl, by decide⟩⟩

/-- Meets the hypotheses of `Obligations.TimePinsComplete`, clause by clause. -/
theorem witness_TimePinsComplete :
    (∃ (s : State) (u : State) (k : Nat) (r : OmiRun), (s.runsHere k 0x0608 (s.nodesArg 0) r) ∧ u = s.begun r false ∧ r.arg 2 1 = 1 ∧ r.arg 3 1 < 8 ∧
      r.arg 4 1 < 64 ∧ u.on SPN_PIN_OWN_VALID (r.arg 3 1) = false) ∧
    (∃ (s : State) (u : State) (n : Nat), s.expire (.pulse n) = some u) ∧
    (∃ (s : State) (n : Nat), n < 8 ∧ s.get SPN_PIN_CAP_MODE n = 1 ∧ s.get SPN_PIN_CAP_EDGE n = 2) ∧
    (∃ (s : State), s.on SPN_CTRL_PPS_OUT_EN = true ∧ s.timeGood = true ∧ s.spn.ppsHigh = false) ∧
    (∃ (s : State) (u : State), s.expire .ppsFall = some u) :=
  ⟨⟨box (State.reset) (run 0x0608 [0, 0, 1, 7, 63]), _, 0, (run 0x0608 [0, 0, 1, 7, 63]), ⟨rfl, .inr (by decide)⟩, rfl, by decide, by decide,
    by decide, by decide⟩,
   ⟨tmr (State.reset) (.pulse 7), _, 7, rfl⟩,
   ⟨st [(SPN_PIN_CAP_MODE, 1, 7), (SPN_PIN_CAP_EDGE, 2, 7)], 7, by decide, by decide, by decide⟩,
   ⟨st [(SPN_STATUS_STATE, spnValid, 0), (SPN_CTRL_PPS_OUT_EN, 1, 0)], by decide, by decide, by decide⟩,
   ⟨tmr (State.reset) (.ppsFall), _, rfl⟩⟩

/-- Meets the hypotheses of `Obligations.TurnsComplete`, clause by clause. -/
theorem witness_TurnsComplete :
    (∃ (s : State) (u : State) (k : Nat) (r : OmiRun) (es : List Nat), (s.runsHere k 0x0603 (s.nodesArg 0) r) ∧ u = s.begun r false ∧ r.arg 2 1 < 64 ∧
      r.arg 3 1 = 0 ∧ 1 ≤ r.arg 6 2 ∧ (r.arg 4 2 + r.arg 6 2 ≤ 1024) ∧ es = (List.range (r.arg 6 2)).map (fun i => r.arg 4 2 + i) ∧ (∀ i ∈ es,
      (u.turn i).armed = false ∧ (u.turn i).owner = none)) ∧
    (∃ (s : State) (u : State) (k : Nat) (i : Nat) (r : OmiRun) (t : Turn) (x : Turn), (s.runsHere k 0x0604 (s.nodesArg 0) r) ∧ u = s.begun r false ∧
      i = r.arg 2 2 ∧ i < 1024 ∧ t = u.turn i ∧ t.owner = some r.part ∧ r.priv = 0 ∧ t.armed = false ∧ x = turnFrom t (r.params.drop 4) ∧
      u.turnLegal x (r.arg 4 4) = true) ∧
    (∃ (s : State) (u : State) (k : Nat) (i : Nat) (r : OmiRun) (t : Turn), (s.runsHere k 0x0605 (s.nodesArg 0) r) ∧ u = s.begun r false ∧
      i = r.arg 2 2 ∧ i < 1024 ∧ t = u.turn i ∧ r.priv = 1 ∧ u.timeGood = true ∧ t.action ≠ 0 ∧ t.armed = false ∧ t.period = 0 ∧
      (u.spindleNs + 2000 ≤ t.start)) ∧
    (∃ (s : State) (u : State) (k : Nat) (i : Nat) (r : OmiRun) (t : Turn), (s.runsHere k 0x0606 (s.nodesArg 0) r) ∧ u = s.begun r false ∧
      i = r.arg 2 2 ∧ i < 1024 ∧ t = u.turn i ∧ r.priv = 1) ∧
    (∃ (s : State) (u : State) (k : Nat) (i : Nat) (r : OmiRun), (s.runsHere k 0x0607 (s.nodesArg 0) r) ∧ u = s.begun r false ∧ i = r.arg 2 2 ∧
      i < 1024 ∧ r.priv = 2) ∧
    (∃ (s : State) (u : State) (n : Nat) (t : Turn), t = s.turn n ∧ t.armed = true ∧ t.suspended = false ∧ t.due = none ∧ s.timeGood = true ∧
      t.writes = false ∧ u = s.until (t.next - 2000)) ∧
    (∃ (s : State) (u : State) (n : Nat) (due : Nat) (t : Turn), t = s.turn n ∧ t.due = some due ∧ s.turnFirst n due = true ∧ u = s.until due ∧
      u.turnSlot t ≤ u.now) ∧
    (∃ (s : State) (u : State) (id : Nat) (x : IntTx) (y : Nat × Nat × Nat), s.expire (.turnWrite id) = some u ∧
      (u.jnl.intWait.find? fun t => t.turn.any fun x => x.1 == id) = some x ∧ x.turn = some y) :=
  ⟨⟨box (State.reset) (run 0x0603 [0, 0, 63, 0, 254, 3, 2, 0]), _, 0, (run 0x0603 [0, 0, 63, 0, 254, 3, 2, 0]), _, ⟨rfl, .inr (by decide)⟩, rfl,
    by decide, by decide, by decide, by decide, rfl, by decide⟩,
   ⟨box ({ State.reset with spn.turns := [(5, { owner := some 0 })] }) { run 0x0604 [0, 0, 5, 0] with priv := 0 }, _, 0, _,
     { run 0x0604 [0, 0, 5, 0] with priv := 0 }, _, _, ⟨rfl, .inr (by decide)⟩, rfl, rfl, by decide, rfl, by decide, by decide, by decide, rfl,
     by decide⟩,
   ⟨box ({ st [(SPN_STATUS_STATE, spnValid, 0)] with spn.turns := [(5, { action := 1, start := 5000000 })] }) (run 0x0605 [0, 0, 5, 0]), _, 0, _,
     (run 0x0605 [0, 0, 5, 0]), _, ⟨rfl, .inr (by decide)⟩, rfl, rfl, by decide, rfl, by decide, by decide, by decide, by decide, by decide,
     by decide⟩,
   ⟨box (State.reset) (run 0x0606 [0, 0, 255, 3]), _, 0, _, (run 0x0606 [0, 0, 255, 3]), _, ⟨rfl, .inr (by decide)⟩, rfl, rfl, by decide, rfl,
     by decide⟩,
   ⟨box (State.reset) { run 0x0607 [0, 0, 255, 3] with priv := 2 }, _, 0, _, { run 0x0607 [0, 0, 255, 3] with priv := 2 }, ⟨rfl, .inr (by decide)⟩,
     rfl, rfl, by decide, by decide⟩,
   ⟨{ st [(SPN_STATUS_STATE, spnValid, 0)] with spn.turns := [(5, { armed := true, action := 4, start := 5000000 })] }, _, 5, _, rfl, by decide,
     by decide, by decide, by decide, by decide, rfl⟩,
   ⟨{ st [(SPN_STATUS_STATE, spnValid, 0)] with spn.turns := [(5, { armed := true, action := 4, start := 5000, due := some 5000 })] }, _, 5, 5000, _,
     rfl, by decide, by decide, rfl, by decide⟩,
   ⟨tmr ({ State.reset with jnl.intWait := [{ record := {}, internalReserve := false, turn := some (3, 0, 0) }] }) (.turnWrite 3), _, 3, _, _, rfl,
     rfl, rfl⟩⟩

/-- Meets the hypotheses of `Obligations.GrainsComplete`, clause by clause. -/
theorem witness_GrainsComplete :
    (∃ (s : State) (u : State) (p : Nat), s.isFab p = true ∧ u = s.until (ceilDiv s.spindleNs 64 * 64) ∧ (s.link p).grain = none ∧
      (u.link p).grain = none ∧ u.timeGood = false) ∧
    (∃ (s : State) (p : Nat), s.isFab p = true) ∧
    (∃ (s : State) (u : State) (k : Nat) (r : OmiRun) (x : Stream), (s.runsHere k 0x0609 (nodeArg 0) r) ∧ u = s.begun r false ∧
      x = { stream := (u.nodeId * 64 + r.arg 1 1) * 16 + r.arg 2 1, g0 := r.arg 4 2, period := r.arg 6 2, r := r.arg 3 1 } ∧ r.arg 1 1 < 64 ∧
      r.arg 2 1 < 16 ∧ r.arg 2 1 ≠ u.nodeId ∧ 1 ≤ r.arg 3 1 ∧ r.arg 4 2 < 1024 ∧ (∃ n ≤ 10, r.arg 6 2 = 2 ^ n) ∧ (∀ y ∈ u.spn.streams,
      y.stream ≠ x.stream)) ∧
    (∃ (s : State) (u : State) (k : Nat) (key : Nat) (r : OmiRun), (s.runsHere k 0x060A (nodeArg 0) r) ∧ u = s.begun r false ∧
      key = (u.nodeId * 64 + r.arg 1 1 % 64) * 16 + r.arg 2 1 % 16 ∧ (∃ y ∈ u.spn.streams, y.stream = key) ∧ (∀ j ∈ u.spn.jobs, j.stream ≠ key) ∧
      u.transitNodes key = []) ∧
    (∃ (s : State), s.spn.streams = []) ∧
    (∃ (s : State) (x : Stream), s.spn.streams = [x]) :=
  ⟨⟨st [(PX_DUAL_FABRIC, 15, 0)], _, 47, by decide, rfl, by decide, by decide, by decide⟩,
   ⟨st [(PX_DUAL_FABRIC, 15, 0)], 47, by decide⟩,
   ⟨box (State.reset) (run 0x0609 [0, 63, 15, 1, 255, 3, 0, 4]), _, 0, (run 0x0609 [0, 63, 15, 1, 255, 3, 0, 4]), _, ⟨rfl, .inr (by decide)⟩, rfl,
     rfl, by decide, by decide, by decide, by decide, by decide, ⟨10, by decide, by decide⟩, by decide⟩,
   ⟨box ({ State.reset with spn.streams := [{ stream := 1023, g0 := 0, period := 1, r := 1 }] }) (run 0x060A [0, 63, 15]), _, 0, _, (run 0x060A [0,
     63, 15]), ⟨rfl, .inr (by decide)⟩, rfl, rfl, ⟨_, .head _, rfl⟩, by decide, by decide⟩,
   ⟨State.reset, by decide⟩,
   ⟨{ State.reset with spn.streams := [{ stream := 1023, g0 := 0, period := 1, r := 1 }] }, { stream := 1023, g0 := 0, period := 1, r := 1 },
     by decide⟩⟩

/-- Meets the hypotheses of `Obligations.SchedulerCompletes`, clause by clause. -/
theorem witness_SchedulerCompletes :
    (∃ (s : State) (u : State), u = s.refill) ∧
    (∃ (s : State) (u : State) (id : Nat) (n : Nat) (k : Packet), s.pkt id = some k ∧ k.release = some n ∧
      u = { s with now := max s.now n }.updPkt id (fun q => { q with release := none })) ∧
    (∃ (s : State) (u : State) (i : Nat) (e : Nat), i < 112 ∧ e < 48 ∧ s.schOn SCH_CTRL_STARVE_EN = true ∧ s.quantum (pairKey i e) ≠ 0 ∧
      u = s.refreshStream i e ∧ (u.ss (pairKey i e)).ready.isSome = true ∧ (u.ss (pairKey i e)).urgent = false) ∧
    (∃ (s : State) (p : Nat), s.dlActive p = true) ∧
    (∃ (s : State) (u : State) (k : Nat) (r : OmiRun), (s.runsHere k 0x0502 (s.nodesArg 0) r) ∧ u = s.begun r true ∧ tableBad r = false ∧
      r.arg 2 1 = 1 ∧ (∀ x ∈ tableArgs r, x.2 ≤ 16384)) ∧
    (∃ (s : State) (u : State) (k : Nat) (r : OmiRun), (s.runsHere k 0x0502 (s.nodesArg 0) r) ∧ u = s.begun r true ∧ tableBad r = false ∧
      r.arg 2 1 = 2 ∧ (∀ x ∈ tableArgs r, x.2 ≤ 1023)) ∧
    (∃ (s : State) (u : State) (k : Nat) (r : OmiRun), (s.runsHere k 0x0503 (s.nodesArg 0) r) ∧ u = s.begun r false ∧ tableBad r = false) :=
  ⟨⟨State.reset, _, rfl⟩,
   ⟨{ State.reset with sc.pkts := [{ id := 1, record := {}, release := some 100 }] }, _, 1, _, _, rfl, rfl, rfl⟩,
   ⟨({ st [(PX_PORT_STAT_DL_ACTIVE, 1, 0), (SCH_CTRL_STARVE_EN, 1, 0)] with sc.pkts := [{ id := 1, record := {}, charge := .shared }] }).updPx 0 fun x
     => { x with partner := List.replicate 6 none }, _, 0, 0, by decide +kernel, by decide +kernel, by decide +kernel, by decide +kernel, rfl,
     by decide +kernel, by decide +kernel⟩,
   ⟨st [(PX_PORT_STAT_DL_ACTIVE, 1, 0)], 0, by decide⟩,
   ⟨box (State.reset) (run 0x0502 [0, 0, 1, 47, 111, 1, 0, 0, 0, 64]), _, 0, (run 0x0502 [0, 0, 1, 47, 111, 1, 0, 0, 0, 64]), ⟨rfl, .inr (by decide)⟩,
     rfl, by decide, by decide, by decide⟩,
   ⟨box (State.reset) (run 0x0502 [0, 0, 2, 47, 111, 1, 0, 0, 255, 3]), _, 0, (run 0x0502 [0, 0, 2, 47, 111, 1, 0, 0, 255, 3]), ⟨rfl,
     .inr (by decide)⟩, rfl, by decide, by decide, by decide⟩,
   ⟨box (State.reset) (run 0x0503 [0, 0, 2, 47, 0, 112]), _, 0, (run 0x0503 [0, 0, 2, 47, 0, 112]), ⟨rfl, .inr (by decide)⟩, rfl, by decide⟩⟩

/-- Meets the hypotheses of `Obligations.DataMoverControlCompletes`, clause by clause. -/
theorem witness_DataMoverControlCompletes :
    (∃ (s : State) (u : State) (k : Nat) (r : OmiRun), (s.runsHere k 0x0702 (nodeArg 0) r) ∧ u = s.begun r false ∧ r.arg 1 1 < 64 ∧ r.arg 3 1 ≤ 2 ∧
      r.arg 4 2 = 0xFFFF ∧ u.homeOf (r.arg 2 1) = some u.nodeId ∧ u.dmOwner (r.arg 1 1) = none) ∧
    (∃ (s : State) (u : State) (k : Nat) (r : OmiRun), (s.runsHere k 0x0703 (nodeArg 0) r) ∧ u = s.begun r false ∧ r.arg 1 1 < 64) ∧
    (∃ (s : State) (c : Nat), s.dmState c = 4) ∧
    (∃ (s : State) (c : Nat), (s.dmOwner c).isSome = true ∧ s.dmResetting c = false) ∧
    (∃ (s : State) (c : Nat), s.on DM_CTRL_ENABLE c = true) :=
  ⟨⟨box (st [(PART_CTRL_VALID, 1, 15), (PART_CTRL_PART_ID, 63, 15), (PART_CTRL_STATE, partActive, 15)]) (run 0x0702 [0, 5, 63, 2, 255, 255]), _, 0,
    (run 0x0702 [0, 5, 63, 2, 255, 255]), ⟨rfl, .inr (by decide)⟩, rfl, by decide, by decide, by decide, by decide, by decide⟩,
   ⟨box (State.reset) (run 0x0703 [0, 63]), _, 0, (run 0x0703 [0, 63]), ⟨rfl, .inr (by decide)⟩, rfl, by decide⟩,
   ⟨{ st [(DM_CTRL_ENABLE, 1, 5)] with dm.chans := [(5, { halted := true })] }, 5, by decide⟩,
   ⟨st [(DM_ASSIGN_VALID, 1, 63)], 63, by decide, by decide⟩,
   ⟨st [(DM_CTRL_ENABLE, 1, 63)], 63, by decide⟩⟩

/-- Meets the hypotheses of `Obligations.DataMoverEngineCompletes`, clause by clause. -/
theorem witness_DataMoverEngineCompletes :
    (∃ (s : State) (u : State) (v : State) (c : Nat) (n : Nat) (t : DmTag) (x : Nat × Tlp) (ds : List Desc),
      (s.dm.tags.find? fun t => t.tag == 1984 + c) = some t ∧ s.cplFor t = some x ∧ s.dmStale t = false ∧ x.2.status = .sc ∧ x.2.poisoned = false ∧
      u = { s with dm.cpls := s.dm.cpls.erase x }.dmFreeTag t ∧ ({ s with dm.cpls := s.dm.cpls.erase x }.dmStale t = false) ∧ n = (u.ch c).fetching ∧
      ds = (List.range n).map (fun i => descFrom ((t.idx + i) % u.ringSize c) ((List.range 8).map fun j => dwordOf x.2.data (8 * i + j))) ∧
      v = u.updCh c (fun y => { y with fetching := 0, descs := y.descs ++ ds })) ∧
    (∃ (s : State) (u : State) (tag : Nat) (x : Tlp) (g : DmTag), tag < 1984 ∧ (s.dm.tags.find? fun x => x.tag == tag) = some g ∧ (g.part,
      x) ∈ s.dm.cpls ∧ x.tag = g.wire ∧ u = { s with dm.cpls := s.dm.cpls.erase (g.part, x) } ∧ u.dmStale g = false ∧ x.status = .sc ∧
      x.poisoned = false ∧ g.len ≤ g.got + x.bytes) ∧
    (∃ (s : State) (u : State) (tag : Nat) (g : DmTag), s.expire (.dmRead tag) = some u ∧ (s.dm.tags.find? fun x => x.tag == tag) = some g ∧
      tag < 1984) ∧
    (∃ (s : State) (u : State) (v : State) (c : Nat) (p : Nat) (cls : Nat), s.expire (.dmReset c) = some u ∧ (u.ch c).newOwner = some (some (p, cls))
      ∧ v = ((((((u.set DM_ASSIGN_VALID 1 c).set DM_ASSIGN_OWNER p c).set DM_ASSIGN_CLASS cls c).set DM_STATUS_CLASS cls c).setCh c {}).finishOpt
      (u.ch c).cmd ok)) :=
  ⟨⟨{ State.reset with dm.tags := [{ tag := 1984, wire := 7, part := 0, chan := 0, gen := 1, idx := 0, addr := 0, off := 0, len := 32 }], dm.chans := [(0, { fetching := 1 })], dm.cpls := [(0, { kind := .cpl, tag := 7 })] },
    _, _, 0, _, _, _, _, rfl, rfl, by decide, by decide, by decide, rfl, by decide, rfl, rfl, rfl⟩,
   ⟨{ State.reset with dm.tags := [{ tag := 1983, wire := 7, part := 0, chan := 0, gen := 1, idx := 0, addr := 0, off := 0, len := 64 }], dm.cpls := [(0, { kind := .cpl, tag := 7, bytes := 64 })] },
     _, 1983, { kind := .cpl, tag := 7, bytes := 64 }, _, by decide, rfl, by decide, by decide, rfl, by decide, by decide, by decide, by decide⟩,
   ⟨tmr ({ State.reset with dm.tags := [{ tag := 1983, wire := 7, part := 0, chan := 0, gen := 1, idx := 0, addr := 0, off := 0, len := 64 }] })
     (.dmRead 1983), _, 1983, _, rfl, rfl, by decide⟩,
   ⟨tmr ({ State.reset with dm.chans := [(5, { newOwner := some (some (3, 1)) })] }) (.dmReset 5), _, _, 5, 3, 1, rfl, by decide, rfl⟩⟩

/-- Meets the hypotheses of `Obligations.PartitionLifeCompletes`, clause by clause. -/
theorem witness_PartitionLifeCompletes :
    (∃ (s : State) (u : State) (v : State) (w : State) (k : Nat) (r : OmiRun) (a : Nat × State) (x : PartRec), (s.runsHere k 0x0202 (nodeArg 1) r) ∧
      u = s.begun r false ∧ r.arg 0 1 < 64 ∧ r.arg 1 1 < 16 ∧ r.arg 2 1 < 48 ∧ r.arg 3 1 < 16 ∧ (u.partRec (r.arg 0 1)).present = false ∧
      u.on PART_CTRL_VALID (r.arg 3 1) = false ∧ u.unusedPort (r.arg 2 1) = true ∧ v = u.createPart (r.arg 0 1) (r.arg 2 1) (r.arg 3 1) (r.arg 4 1 %
      2) ∧ a = v.awaitAll (.omi r.id) ∧ x = a.2.partRec (r.arg 0 1) ∧ w = a.2.fwAll (r.arg 0 1) (.other fwRecord [r.arg 0 1, 1, x.home, x.state,
      x.upPort, x.homePlane, x.upBus, x.intBus, a.1])) ∧
    (∃ (s : State) (u : State) (v : State) (w : State) (k : Nat) (j : Nat) (r : OmiRun) (a : Nat × State), (s.runsHere k 0x0203 s.homeArg r) ∧
      u = s.begun r false ∧ r.arg 0 1 < 64 ∧ u.slotOf (r.arg 0 1) = some j ∧ u.get PART_CTRL_STATE j ≠ partDeleting ∧
      v = u.setPartState j partDeleting ∧ v.fmHolder ≠ some (r.arg 0 1) ∧ v.on PART_GLOBAL_STBY_VALID = false ∧
      a = v.awaitThese (v.nodeId :: v.others) (.drained j (some r.id)) ∧ w = a.2.fwAll (r.arg 0 1) (.other fwPart [4, r.arg 0 1, a.1])) ∧
    (∃ (s : State) (u : State) (k : Nat) (j : Nat) (r : OmiRun), (s.runsHere k 0x0204 s.homeArg r) ∧ u = s.begun r false ∧ r.arg 0 1 < 64 ∧
      r.mayOwn (r.arg 0 1) = true ∧ u.slotOf (r.arg 0 1) = some j ∧ u.get PART_CTRL_STATE j ≠ partDeleting ∧ u.get PART_CTRL_STATE j ≠ partFree) ∧
    (∃ (s : State) (u : State) (k : Nat), k ∈ s.part.resetDone ∧ u = s.resetRestores k) ∧
    (∃ (s : State) (u : State) (src : Nat) (f : List Nat), s.takeFw src (f.getD 0 0) (.other fwRecord f) = some u ∧ f.getD 1 0 = 1 ∧
      (u.partRec (f.getD 0 0)).present = false ∧ u.slotOf (f.getD 0 0) = none) :=
  ⟨⟨box (State.reset) (run 0x0202 [63, 0, 0, 15, 1]), _, _, _, 0, (run 0x0202 [63, 0, 0, 15, 1]), _, _, ⟨rfl, .inr (by decide +kernel)⟩, rfl,
    by decide +kernel, by decide +kernel, by decide +kernel, by decide +kernel, by decide +kernel, by decide +kernel, by decide +kernel, rfl, rfl,
    rfl, rfl⟩,
   ⟨box (st [(PART_CTRL_VALID, 1, 15), (PART_CTRL_PART_ID, 63, 15), (PART_CTRL_STATE, partActive, 15)]) (run 0x0203 [63]), _, _, _, 0, _,
     (run 0x0203 [63]), _, ⟨rfl, .inr (by decide)⟩, rfl, by decide, rfl, by decide, rfl, by decide, by decide, rfl, rfl⟩,
   ⟨box (st [(PART_CTRL_VALID, 1, 15), (PART_CTRL_PART_ID, 63, 15), (PART_CTRL_STATE, partActive, 15)]) (run 0x0204 [63]), _, 0, _, (run 0x0204 [63]),
     ⟨rfl, .inr (by decide)⟩, rfl, by decide, by decide, rfl, by decide, by decide⟩,
   ⟨{ State.reset with part.resetDone := [15] }, _, 15, by decide, rfl⟩,
   ⟨{ State.reset with inbox := [.fw 1 63 (.other fwRecord [63, 1, 1, 2, 0, 0, 0, 0, 9]) 0] }, _, 1, [63, 1, 1, 2, 0, 0, 0, 0, 9], rfl, by decide,
     by decide, by decide⟩⟩

/-- Meets the hypotheses of `Obligations.FabricManagementCompletes`, clause by clause. -/
theorem witness_FabricManagementCompletes :
    (∃ (s : State) (u : State) (k : Nat) (r : OmiRun), (s.runsHere k 0x0205 s.hereArg r) ∧ u = s.begun r false ∧ r.arg 0 1 < 64 ∧
      u.partState (r.arg 0 1) = partActive ∧ u.homeOf (r.arg 0 1) = some u.nodeId) ∧
    (∃ (s : State) (u : State) (k : Nat) (r : OmiRun) (a : Nat × State), (s.runsHere k 0x0206 s.hereArg r) ∧ u = s.begun r false ∧ r.arg 0 1 < 64 ∧
      r.arg 1 1 = 0 ∧ u.partState (r.arg 0 1) = partActive ∧ a = (u.setStandbyPart (some (r.arg 0 1))).awaitAll (.omi r.id)) ∧
    (∃ (s : State) (u : State), s.expire .fmTakeover = some u) :=
  ⟨⟨box (st [(PART_CTRL_VALID, 1, 15), (PART_CTRL_PART_ID, 63, 15), (PART_CTRL_STATE, partActive, 15)]) (run 0x0205 [63]), _, 0, (run 0x0205 [63]),
    ⟨rfl, .inr (by decide)⟩, rfl, by decide, by decide, by decide⟩,
   ⟨box (st [(PART_CTRL_VALID, 1, 15), (PART_CTRL_PART_ID, 63, 15), (PART_CTRL_STATE, partActive, 15)]) (run 0x0206 [63]), _, 0, (run 0x0206 [63]), _,
     ⟨rfl, .inr (by decide)⟩, rfl, by decide, by decide, by decide, rfl⟩,
   ⟨tmr (State.reset) (.fmTakeover), _, rfl⟩⟩

/-- Meets the hypotheses of `Obligations.PartitionFreezeCompletes`, clause by clause. -/
theorem witness_PartitionFreezeCompletes :
    (∃ (s : State) (u : State) (k : Nat) (r : OmiRun) (a : Nat × State), (s.runsHere k 0x0207 s.hereArg r) ∧ u = s.begun r false ∧ r.arg 0 1 < 64 ∧
      u.partState (r.arg 0 1) ≠ partFree ∧ a = u.awaitAll (.omi r.id)) ∧
    (∃ (s : State) (u : State) (w : State) (k : Nat) (r : OmiRun) (a : Nat × State), (s.runsHere k 0x0208 s.hereArg r) ∧ u = s.begun r false ∧
      r.arg 0 1 < 64 ∧ u.partState (r.arg 0 1) ≠ partFree ∧ a = u.awaitThese (u.nodeId :: u.others) (.omi r.id) ∧
      w = a.2.fwAll (r.arg 0 1) (.other fwPart [3, r.arg 0 1, a.1, r.arg 1 1 % 2])) ∧
    (∃ (s : State) (u : State) (k : Nat) (j : Nat) (r : OmiRun), (s.runsHere k 0x0209 s.homeArg r) ∧ u = s.begun r false ∧ r.arg 0 1 < 64 ∧
      r.mayOwn (r.arg 0 1) = true ∧ u.slotOf (r.arg 0 1) = some j ∧ (∀ n < 32, u.bind j n = none)) :=
  ⟨⟨box (st [(PART_CTRL_VALID, 1, 15), (PART_CTRL_PART_ID, 63, 15), (PART_CTRL_STATE, partActive, 15)]) (run 0x0207 [63]), _, 0, (run 0x0207 [63]), _,
    ⟨rfl, .inr (by decide)⟩, rfl, by decide, by decide, rfl⟩,
   ⟨box (st [(PART_CTRL_VALID, 1, 15), (PART_CTRL_PART_ID, 63, 15), (PART_CTRL_STATE, partActive, 15)]) (run 0x0208 [63]), _, _, 0, (run 0x0208 [63]),
     _, ⟨rfl, .inr (by decide)⟩, rfl, by decide, by decide, rfl, rfl⟩,
   ⟨box (st [(PART_CTRL_VALID, 1, 15), (PART_CTRL_PART_ID, 63, 15), (PART_CTRL_STATE, partActive, 15)]) (run 0x0209 [63]), _, 0, _, (run 0x0209 [63]),
     ⟨rfl, .inr (by decide)⟩, rfl, by decide, by decide, rfl, by decide⟩⟩

/-- Meets the hypotheses of `Obligations.InstanceCommandsComplete`, clause by clause. -/
theorem witness_InstanceCommandsComplete :
    (∃ (s : State) (u : State) (k : Nat) (i : Nat) (owner : Nat) (v : Nat) (p : Nat) (r : OmiRun), (s.runsHere k 0x0402 (nodeArg 2) r) ∧
      u = s.begun r false ∧ owner = r.arg 0 1 ∧ owner < 64 ∧ v = r.arg 1 1 ∧ 1 ≤ v ∧ v < 32 ∧ r.arg 2 1 < 16 ∧ p = r.arg 3 1 ∧ p < 48 ∧ r.arg 4 1 = 0
      ∧ r.arg 5 1 < 64 ∧ r.arg 6 1 < 3 ∧ r.arg 7 1 = 0 ∧ u.partState owner ≠ partFree ∧ u.partState owner ≠ partDeleting ∧ u.vdspFree owner v = true ∧
      u.fnHeld p (r.arg 8 2) = false ∧ u.role p = roleManaged ∧ (allInst.find? fun i => !u.liveInst i) = some i) ∧
    (∃ (s : State) (u : State) (k : Nat) (r : OmiRun), (s.runsHere k 0x0403 (nodeArg 0) r) ∧ u = s.begun r false ∧ r.arg 0 1 < 16 ∧ r.arg 2 2 < 512 ∧
      r.arg 1 1 = 0 ∧ r.arg 4 1 = 0 ∧ r.arg 5 1 = 0 ∧ u.removal (r.arg 2 2) = none ∧ u.liveInst (r.arg 2 2) = true) ∧
    (∃ (s : State) (u : State) (k : Nat) (r : OmiRun), (s.runsHere k 0x0404 (nodeArg 0) r) ∧ u = s.begun r false ∧ r.arg 0 1 < 16 ∧ r.arg 2 2 < 512 ∧
      u.liveInst (r.arg 2 2) = true ∧ r.arg 1 1 = 0) ∧
    (∃ (s : State) (u : State) (k : Nat) (r : OmiRun), (s.runsHere k 0x0405 (nodeArg 0) r) ∧ u = s.begun r false ∧ r.arg 0 1 < 16 ∧ r.arg 2 2 < 512 ∧
      r.priv = 1 ∧ u.removal (r.arg 2 2) = none ∧ u.liveInst (r.arg 2 2) = true) ∧
    (∃ (s : State) (u : State) (k : Nat) (i : Nat) (r : OmiRun), (s.runsHere k 0x0406 (nodeArg 0) r) ∧ u = s.begun r false ∧ r.arg 0 1 < 16 ∧
      i = r.arg 2 2 ∧ i < 512 ∧ r.arg 1 1 < 64 ∧ u.liveInst i = true ∧ u.on PART_FN_A_BIND i = true ∧
      (u.view (u.get PART_FN_A_OWNER i) (u.get PART_FN_B_VDSP i)).kind = 0) ∧
    (1 ≤ Config.devTotalVfs (43 * 65536) → (∃ (s : State) (u : State) (k : Nat) (p : Nat) (r : OmiRun), (s.runsHere k 0x0407 (nodeArg 0) r) ∧
      u = s.begun r false ∧ r.arg 0 1 < 16 ∧ p = r.arg 1 1 ∧ p < 48 ∧ u.role p = roleManaged ∧ (∀ j ∈ u.part.vfJobs, j.port ≠ p) ∧ 1 ≤ r.arg 4 2 ∧
      r.arg 4 2 ≤ Config.devTotalVfs (p * 65536 + r.arg 2 2))) ∧
    (∃ (s : State) (u : State) (p : Nat), s.expire (.vfs p) = some u) ∧
    (∃ (s : State) (u : State) (k : Nat) (p : Nat) (r : OmiRun), (s.runsHere k 0x0408 (nodeArg 0) r) ∧ u = s.begun r false ∧ r.arg 0 1 < 16 ∧
      p = r.arg 1 1 ∧ p < 48 ∧ r.arg 2 1 = 1 ∧ u.unusedPort p = true) ∧
    (∃ (s : State) (u : State) (k : Nat) (r : OmiRun), (s.runsHere k 0x0409 (nodeArg 0) r) ∧ u = s.begun r false ∧ r.arg 0 1 < 16 ∧ r.arg 2 2 < 512 ∧
      r.priv = 1) :=
  ⟨⟨box (st [(PART_CTRL_VALID, 1, 15), (PART_CTRL_PART_ID, 63, 15), (PART_CTRL_STATE, partActive, 15), (PX_PORT_CFG_ROLE, roleManaged,
    43)]) (run 0x0402 [63, 31, 0, 43, 0, 0, 2, 0, 0, 1]), _, 0, 0, _, _, _, (run 0x0402 [63, 31, 0, 43, 0, 0, 2, 0, 0, 1]), ⟨rfl,
    .inr (by decide +kernel)⟩, rfl, rfl, by decide +kernel, rfl, by decide +kernel, by decide +kernel, by decide +kernel, rfl, by decide +kernel,
    by decide +kernel, by decide +kernel, by decide +kernel, by decide +kernel, by decide +kernel, by decide +kernel, by decide +kernel,
    by decide +kernel, by decide +kernel, by decide +kernel⟩,
   ⟨box (st [(PART_FN_A_VALID, 1, 511)]) (run 0x0403 [0, 0, 255, 1, 0, 0]), _, 0, (run 0x0403 [0, 0, 255, 1, 0, 0]), ⟨rfl, .inr (by decide)⟩, rfl,
     by decide, by decide, by decide, by decide, by decide, by decide, by decide⟩,
   ⟨box (st [(PART_FN_A_VALID, 1, 511)]) (run 0x0404 [0, 0, 255, 1]), _, 0, (run 0x0404 [0, 0, 255, 1]), ⟨rfl, .inr (by decide)⟩, rfl, by decide,
     by decide, by decide, by decide⟩,
   ⟨box (st [(PART_FN_A_VALID, 1, 511)]) (run 0x0405 [0, 0, 255, 1]), _, 0, (run 0x0405 [0, 0, 255, 1]), ⟨rfl, .inr (by decide)⟩, rfl, by decide,
     by decide, by decide, by decide, by decide⟩,
   ⟨box (st [(PART_FN_A_VALID, 1, 511), (PART_FN_A_BIND, 1, 511)]) (run 0x0406 [0, 63, 255, 1, 9]), _, 0, _, (run 0x0406 [0, 63, 255, 1, 9]), ⟨rfl,
     .inr (by decide)⟩, rfl, by decide, rfl, by decide, by decide, by decide, by decide, by decide⟩,
   fun h => ⟨box (st [(PX_PORT_CFG_ROLE, roleManaged, 43)]) (run 0x0407 [0, 43, 0, 0, 1, 0]), _, 0, _, (run 0x0407 [0, 43, 0, 0, 1, 0]), ⟨rfl,
     .inr (by decide)⟩, rfl, by decide, rfl, by decide, by decide, by decide, by decide, h⟩,
   ⟨tmr (State.reset) (.vfs 43), _, 43, rfl⟩,
   ⟨box (State.reset) (run 0x0408 [0, 0, 1]), _, 0, _, (run 0x0408 [0, 0, 1]), ⟨rfl, .inr (by decide +kernel)⟩, rfl, by decide +kernel, rfl,
     by decide +kernel, by decide +kernel, by decide +kernel⟩,
   ⟨box (State.reset) (run 0x0409 [0, 0, 255, 1]), _, 0, (run 0x0409 [0, 0, 255, 1]), ⟨rfl, .inr (by decide)⟩, rfl, by decide, by decide, by decide⟩⟩

/-- Meets the hypotheses of `Obligations.RemovalStepsComplete`, clause by clause. -/
theorem witness_RemovalStepsComplete :
    (∃ (s : State) (i : Nat) (r : Removal), s.removal i = some r ∧ s.drained r i = true) ∧
    (∃ (s : State) (u : State) (i : Nat) (r : Removal), s.expire (.remDrain i) = some u ∧ s.removal i = some r ∧ r.markers = [] ∧
      u.queuedFor r i = []) ∧
    (∃ (s : State) (u : State) (i : Nat), s.expire (.remWait i) = some u) ∧
    (∃ (s : State) (u : State) (i : Nat), s.runs (.remFunc i) = true ∧ s.on PART_FN_A_BIND i = false ∧
      u = { s.stop (.remFunc i) with part.inFlr := s.part.inFlr.filter fun n => n != i } ∧ u.removal i = none) ∧
    (∃ (s : State) (u : State) (v : State) (i : Nat) (r : Removal), s.expire (.remFunc i) = some u ∧ v =
      { u with part.inFlr := u.part.inFlr.filter fun n => n != i } ∧ v.removal i = some r ∧ r.step = 6) ∧
    (∃ (s : State) (u : State) (i : Nat), s.expire (.genWait i) = some u ∧ (u.advanceNow i).part.thaws = []) ∧
    (∃ (s : State) (u : State) (n : Nat) (c : Ctx), s.expire (.ctx n) = some u ∧ (s.part.ctxs.find? fun c => c.idx == n) = some c) ∧
    (∃ (s : State) (u : State) (p : Nat) (n : Nat), s.expire (.tagQuar p n) = some u ∧ p ≠ 64) :=
  ⟨⟨{ State.reset with part.removals := [(5, some { step := 4, owner := 1 })] }, 5, _, rfl, by decide⟩,
   ⟨tmr ({ State.reset with part.removals := [(5, some { step := 4, owner := 1 })] }) (.remDrain 5), _, 5, _, rfl, rfl, by decide, by decide⟩,
   ⟨tmr (State.reset) (.remWait 5), _, 5, rfl⟩,
   ⟨tmr (State.reset) (.remFunc 5), _, 5, by decide, by decide, rfl, by decide⟩,
   ⟨tmr ({ State.reset with part.removals := [(5, some { step := 6, owner := 1 })] }) (.remFunc 5), _, _, 5, _, rfl, rfl, rfl, by decide⟩,
   ⟨tmr (State.reset) (.genWait 5), _, 5, rfl, by decide⟩,
   ⟨tmr ({ State.reset with part.ctxs := [{ idx := 7, port := 0, tag := 0, proxy := false, reqId := 0, tag0 := 0, srcNode := 0, srcPart := 0 }] })
     (.ctx 7), _, 7, _, rfl, rfl⟩,
   ⟨tmr (State.reset) (.tagQuar 43 9), _, 43, 9, rfl, by decide⟩⟩

/-- Meets the hypotheses of `Obligations.WindowCommandsComplete`, clause by clause. -/
theorem witness_WindowCommandsComplete :
    (∃ (s : State) (u : State) (k : Nat) (r : OmiRun), (s.runsHere k 0x0302 s.allNodes r) ∧ u = s.begun r false ∧ u.exists_ (r.arg 0 1) = true ∧
      128 ≤ r.arg 1 1 ∧ wentLegal (wentArg r 4) = true ∧ u.winBusy (r.arg 0 1) = false) ∧
    (∃ (s : State) (u : State) (k : Nat) (r : OmiRun), (s.runsHere k 0x0303 (s.nodesArg 4) r) ∧ u = s.begun r false ∧ u.exists_ (r.arg 0 1) = true ∧
      r.arg 2 1 = 0 ∧ u.on WIN_PCTRL_HELD (r.arg 0 1) = true) ∧
    (∃ (s : State) (u : State) (k : Nat) (r : OmiRun) (a : Nat × State), (s.runsHere k 0x0304 s.hereArg r) ∧ u = s.begun r false ∧
      u.exists_ (r.arg 0 1) = true ∧ r.mbox ≠ 17 ∧ u.commitCheck (r.arg 0 1) = none ∧ a = u.awaitAll (.goCommit r.id)) ∧
    (∃ (s : State) (u : State) (q : Nat) (c : Commit), s.expire (.swap q) = some u ∧ (s.win.commits.find? fun c => c.part == q) = some c) ∧
    (∃ (s : State) (u : State) (v : State) (q : Nat) (c : Commit), s.expire (.reload q) = some u ∧ (s.win.commits.find? fun c => c.part == q) = some c
      ∧ c.cmd = none ∧ c.ack = none ∧ v = (((({ u with win.commits := u.win.commits.filter fun x => x.part != q }.reload c).flag WIN_PCTRL_RELOAD_BUSY
      false q).flag WIN_PCTRL_COMMIT_BUSY false q).bump WIN_PCTRL_COMMIT_NO q) ∧ v.win.waiting = []) ∧
    (∃ (s : State) (u : State) (k : Nat) (w : Nat) (x : Nat) (r : OmiRun), (s.runsHere k 0x0305 s.allNodes r) ∧ u = s.begun r false ∧ r.arg 0 1 < 64 ∧
      r.arg 1 1 = 2 ∧ w = u.get WIN_GRANT_W_MASK (r.arg 0 1) ||| r.arg 4 8 ∧ x = u.get WIN_GRANT_R_MASK (r.arg 0 1) ||| r.arg 12 8) :=
  ⟨⟨box (st [(PART_CTRL_VALID, 1, 15), (PART_CTRL_PART_ID, 63, 15), (PART_CTRL_STATE, partActive, 15)]) (run 0x0302 [63, 255]), _, 0, (run 0x0302 [63,
    255]), ⟨rfl, .inr (by decide)⟩, rfl, by decide, by decide, by decide, by decide⟩,
   ⟨box (st [(PART_CTRL_VALID, 1, 15), (PART_CTRL_PART_ID, 63, 15), (PART_CTRL_STATE, partActive, 15), (WIN_PCTRL_HELD, 1, 63)]) (run 0x0303 [63,
     255]), _, 0, (run 0x0303 [63, 255]), ⟨rfl, .inr (by decide)⟩, rfl, by decide, by decide, by decide⟩,
   ⟨box (st [(PART_CTRL_VALID, 1, 15), (PART_CTRL_PART_ID, 63, 15), (PART_CTRL_STATE, partActive, 15)]) (run 0x0304 [63]), _, 0, (run 0x0304 [63]), _,
     ⟨rfl, .inr (by decide)⟩, rfl, by decide, by decide, by decide, rfl⟩,
   ⟨tmr ({ State.reset with win.commits := [{ part := 63, bound := true, managed := false }] }) (.swap 63), _, 63, _, rfl, rfl⟩,
   ⟨tmr ({ State.reset with win.commits := [{ part := 63, bound := true, managed := false }] }) (.reload 63), _, _, 63, _, rfl, rfl, by decide,
     by decide, rfl, by decide⟩,
   ⟨box (State.reset) (run 0x0305 [63, 2]), _, 0, _, _, (run 0x0305 [63, 2]), ⟨rfl, .inr (by decide)⟩, rfl, by decide, by decide, rfl, rfl⟩⟩

/-- Meets the hypotheses of `Obligations.LocalBusCompletes`, clause by clause. -/
theorem witness_LocalBusCompletes :
    (∃ (s : State) (u : State) (k : Packet), u = s.refresh 48 ∧ u.semHeld = false ∧ (u.lb.reqs.filter fun r => r.write).length < 16 ∧
      (u.lb.reqs.filter fun r => !r.write).length < 4 ∧ (((List.range 112).map fun j => (u.lb.rr + 1 + j) % 112).findSome? fun i => u.candidate i 48)
      = some k) ∧
    (∃ (s : State) (r : LbReq), s.lb.cyc = none ∧ s.on LB_CTRL_EN = true ∧ s.on LB_STATUS_RESETTING = false ∧ s.lbNext = some r ∧ r.write = true) ∧
    (∃ (s : State) (c : LbCyc) (r : LbReq), s.lb.cyc = some c ∧ (s.lb.reqs.find? fun r => r.id == c.req) = some r) ∧
    (∃ (s : State) (u : State) (c : LbCyc) (r : LbReq), s.lb.cyc = some c ∧ (s.lb.reqs.find? fun r => r.id == c.req) = some r ∧ c.first = true ∧
      u = (s.bump LB_CNT_RETRY_COUNT).evtNode 5 2 ∧ (r.retries + 1 ≤ u.get LB_CS_RETRY_MAX r.cs)) ∧
    (∃ (s : State) (u : State) (id : Nat), s.expire (.lbGap id) = some u) ∧
    (∃ (s : State) (u : State) (c : LbCyc) (r : LbReq), s.expire .lbPhase = some u ∧ s.lb.cyc = some c ∧
      (u.lb.reqs.find? fun r => r.id == c.req) = some r) ∧
    (∃ (s : State) (u : State) (n : Nat) (l : LbLine), s.expire (.lbLine n) = some u ∧ (s.lb.lines.find? fun l => l.no == n) = some l) ∧
    (∃ (s : State) (u : State) (v : State), s.expire .lbSem = some u ∧ v = ((u.semFree.set LB_INT_STATUS_SEM_FORCED 1).bump
      LB_CNT_SEM_FORCED_COUNT).evtNode 5 7 ∧ (v.get LB_INT_EN_EN).testBit 2 = false) ∧
    (∃ (s : State), s.on LB_CTRL_EN = false) ∧
    (∃ (s : State), s.on LB_CTRL_EN = true) ∧
    (∃ (s : State) (u : State), s.expire .lbRst = some u) ∧
    (∃ (s : State), s.lb.lines = []) :=
  ⟨⟨{ State.reset with sc.pkts := [{ id := 1, record := { body := .tlp { kind := .memWrite, bytes := 4 } }, egress := 48, charge := .shared }] }, _,
    _, rfl, by decide, by decide, by decide, rfl⟩,
   ⟨{ st [(LB_CTRL_EN, 1, 0)] with lb.reqs := [{ id := 1, write := true, record := {}, tlp := { kind := .memWrite }, todo := [(0, 15)] }] }, _,
     by decide, by decide, by decide, rfl, by decide⟩,
   ⟨{ State.reset with lb.reqs := [{ id := 1, write := true, record := {}, tlp := { kind := .memWrite }, todo := [(0, 15)] }], lb.cyc := some { req := 1, left := [(0, 15)] } },
     _, _, rfl, rfl⟩,
   ⟨{ st [(LB_CS_RETRY_MAX, 1, 0)] with lb.reqs := [{ id := 1, write := true, record := {}, tlp := { kind := .memWrite }, todo := [(0, 15)] }], lb.cyc := some { req := 1, left := [(0, 15)] } },
     _, _, _, rfl, rfl, by decide, rfl, by decide⟩,
   ⟨tmr (State.reset) (.lbGap 1), _, 1, rfl⟩,
   ⟨tmr
     ({ State.reset with lb.reqs := [{ id := 1, write := true, record := {}, tlp := { kind := .memWrite }, todo := [(0, 15)] }], lb.cyc := some { req := 1, left := [(0, 15)] } })
     (.lbPhase), _, _, _, rfl, rfl, rfl⟩,
   ⟨tmr ({ State.reset with lb.lines := [{ no := 3, cs := 0, part := 0, block := 0, start := 0, stop := 4, data := [] }] }) (.lbLine 3), _, 3, _, rfl,
     rfl⟩,
   ⟨tmr (st [(LB_INT_EN_EN, 0, 0)]) (.lbSem), _, _, rfl, rfl, by decide⟩,
   ⟨st [(LB_CTRL_EN, 0, 0)], by decide⟩,
   ⟨st [(LB_CTRL_EN, 1, 0)], by decide⟩,
   ⟨tmr (State.reset) (.lbRst), _, rfl⟩,
   ⟨State.reset, by decide⟩⟩

/-- Meets the hypotheses of `Obligations.LanesComplete`, clause by clause. -/
theorem witness_LanesComplete :
    (∃ (s : State) (q : Nat), q < 42 ∧ (q ∉ s.ln.quadLock)) ∧
    (∃ (s : State) (u : State) (q : Nat), q ∈ s.ln.quadLock ∧ u = { s with ln.quadLock := s.ln.quadLock.filter fun n => n != q }) ∧
    (∃ (s : State) (p : Nat) (l : Nat), l < s.formedWidth p) ∧
    (∃ (s : State) (p : Nat) (l : Nat), l < s.formedWidth p ∧ s.on LN_LANE_STAT_LOCK (laneKey p l) = false ∧ s.fabricMode p = false ∧
      Tab.get none s.ln.lostAt (laneKey p l) = none ∧ (s.flag LN_LANE_STAT_LOCK true (laneKey p l)).fabricMode p = false) ∧
    (∃ (s : State) (p : Nat) (l : Nat), l < s.formedWidth p ∧ s.fabricMode p = true ∧ s.linkState p = lsActive ∧
      Tab.get 0 (s.link p).winCorr l ≤ s.get LN_FIT_CORR_MAX) ∧
    (∃ (s : State) (p : Nat) (l : Nat) (test : Nat), l < s.formedWidth p ∧ s.portEnabled p = false ∧ s.on LN_LANE_CTRL_TEST (laneKey p l) = false ∧
      (test = 1 ∨ test = 2 ∨ test = 3)) :=
  ⟨⟨State.reset, 41, by decide, by decide⟩,
   ⟨{ State.reset with ln.quadLock := [41] }, _, 41, by decide +kernel, rfl⟩,
   ⟨State.reset, 47, 7, by decide +kernel⟩,
   ⟨State.reset, 0, 0, by decide, by decide, by decide, by decide, by decide⟩,
   ⟨lnk lsActive, 44, 7, by decide +kernel, by decide +kernel, by decide +kernel, by decide +kernel⟩,
   ⟨State.reset, 0, 0, 1, by decide, by decide, by decide, by decide⟩⟩

/-- Meets the hypotheses of `Obligations.SlotPowerCommandsComplete`, clause by clause. -/
theorem witness_SlotPowerCommandsComplete :
    (∃ (c : Nat), c < 12) ∧
    (∃ (s : State) (u : State) (k : Nat) (c : Nat) (r : OmiRun), (s.runsHere k 0x0902 (nodeArg 0) r) ∧ u = s.begun r false ∧ c = r.arg 1 1 ∧ c < 12 ∧
      u.spFitted c = true) ∧
    (∃ (s : State) (u : State) (k : Nat) (c : Nat) (r : OmiRun), (s.runsHere k 0x0903 (nodeArg 0) r) ∧ u = s.begun r false ∧ c = r.arg 1 1 ∧ c < 12 ∧
      u.spFitted c = true) ∧
    (∃ (s : State) (u : State) (k : Nat) (c : Nat) (r : OmiRun), (s.runsHere k 0x0904 (nodeArg 0) r) ∧ u = s.begun r false ∧ c = r.arg 1 1 ∧ c < 12 ∧
      u.spState c = spOn ∧ u.get JNL_STATUS_PF_PHASE = 0 ∧ (u.spc c).cycling = false) :=
  ⟨⟨11, by decide⟩,
   ⟨box (st [(SP_CFG_FEED_A, 1, 11)]) (run 0x0902 [0, 11]), _, 0, _, (run 0x0902 [0, 11]), ⟨rfl, .inr (by decide)⟩, rfl, rfl, by decide, by decide⟩,
   ⟨box (st [(SP_CFG_FEED_B, 1, 11)]) (run 0x0903 [0, 11]), _, 0, _, (run 0x0903 [0, 11]), ⟨rfl, .inr (by decide)⟩, rfl, rfl, by decide, by decide⟩,
   ⟨box (st [(SP_STATUS_STATE, spOn, 11)]) (run 0x0904 [0, 11]), _, 0, _, (run 0x0904 [0, 11]), ⟨rfl, .inr (by decide)⟩, rfl, rfl, by decide,
     by decide, by decide, by decide⟩⟩

/-- Meets the hypotheses of `Obligations.SlotPowerEventsComplete`, clause by clause. -/
theorem witness_SlotPowerEventsComplete :
    (∃ (s : State) (c : Nat), (s.spc c).driven = true ∧ s.runs (.spGate c) = true ∧ s.spState c = spRamp) ∧
    (∃ (s : State) (u : State) (c : Nat), s.expire (.spGate c) = some u) ∧
    (∃ (s : State) (c : Nat), s.spState c = spOn ∧ s.feedOk c (s.spc c).feed = true) ∧
    (∃ (s : State) (u : State) (c : Nat), s.expire (.spPerst c) = some u) ∧
    (∃ (s : State) (u : State) (c : Nat), s.expire (.spLead c) = some u) ∧
    (∃ (s : State) (c : Nat), s.spState c = spStopping ∧ (s.spc c).driven = false) ∧
    (∃ (s : State) (u : State) (c : Nat), s.expire (.spOffMax c) = some u) ∧
    (∃ (s : State) (c : Nat) (v : Nat), (s.spc c).driven = false ∧ v < 65536) ∧
    (∃ (s : State) (u : State) (c : Nat), s.expire (.spRetry c) = some u ∧ u.on SP_STATUS_PRESENT c = true) ∧
    (∃ (s : State) (u : State) (c : Nat), s.expire (.spClean c) = some u) ∧
    (∃ (s : State) (u : State) (c : Nat), s.expire (.spEmpty c) = some u ∧ u.spState c = spRetryWait) ∧
    (∃ (s : State) (u : State) (c : Nat), s.expire (.spReturn c) = some u ∧ u.spState c = spOn ∧ (u.feedOk c (1 - (u.spc c).feed) = true)) ∧
    (∃ (s : State) (u : State) (c : Nat), s.expire (.spBbm c) = some u ∧ u.spState c = spSwitch) ∧
    (∃ (s : State) (u : State) (c : Nat), s.spState c = spOn ∧ s.feedOk c 0 = false ∧ s.feedOk c 1 = false ∧
      u = (((((s.spStopTimers c).spPerstSet c true).spGates c false).setSpState c spWaitFeed).set SP_STATUS_CAUSE 6 c).spWarnEnd c) ∧
    (∃ (s : State) (u : State) (c : Nat), s.expire (.spWarn c) = some u ∧ (u.spc c).pfDone = true) ∧
    (∃ (s : State) (u : State) (c : Nat), s.expire (.spCycleOff c) = some u ∧ u.spState c = spCycleWait) :=
  ⟨⟨tmr ({ st [(SP_STATUS_STATE, spRamp, 11)] with sp := [(11, { driven := true })] }) (.spGate 11), 11, by decide, by decide, by decide⟩,
   ⟨tmr (State.reset) (.spGate 11), _, 11, rfl⟩,
   ⟨{ st [(SP_STATUS_STATE, spOn, 11), (PST_STATUS_FEED_A_GOOD, 1, 0)] with sp := [(11, { latched := [(SP_CFG_FEED_A.key 11, 1)] })] }, 11, by decide,
     by decide⟩,
   ⟨tmr (State.reset) (.spPerst 11), _, 11, rfl⟩,
   ⟨tmr (State.reset) (.spLead 11), _, 11, rfl⟩,
   ⟨st [(SP_STATUS_STATE, spStopping, 11)], 11, by decide, by decide⟩,
   ⟨tmr (State.reset) (.spOffMax 11), _, 11, rfl⟩,
   ⟨State.reset, 11, 65535, by decide, by decide⟩,
   ⟨tmr (st [(SP_STATUS_PRESENT, 1, 11)]) (.spRetry 11), _, 11, rfl, by decide⟩,
   ⟨tmr (State.reset) (.spClean 11), _, 11, rfl⟩,
   ⟨tmr (st [(SP_STATUS_STATE, spRetryWait, 11)]) (.spEmpty 11), _, 11, rfl, by decide⟩,
   ⟨tmr ({ st [(SP_STATUS_STATE, spOn, 11), (PST_STATUS_FEED_B_GOOD, 1, 0)] with sp := [(11, { latched := [(SP_CFG_FEED_B.key 11, 1)] })] })
     (.spReturn 11), _, 11, rfl, by decide, by decide⟩,
   ⟨tmr (st [(SP_STATUS_STATE, spSwitch, 11)]) (.spBbm 11), _, 11, rfl, by decide⟩,
   ⟨st [(SP_STATUS_STATE, spOn, 11)], _, 11, by decide, by decide, by decide, rfl⟩,
   ⟨tmr ({ State.reset with sp := [(11, { pfDone := true })] }) (.spWarn 11), _, 11, rfl, by decide⟩,
   ⟨tmr (st [(SP_STATUS_STATE, spCycleWait, 11)]) (.spCycleOff 11), _, 11, rfl, by decide⟩⟩

/-- Meets the hypotheses of `Obligations.FaultsComplete`, clause by clause. -/
theorem witness_FaultsComplete :
    (∃ (s : State), s.nodeState = 1) ∧
    (∃ (s : State) (u : State), s.expire .nodeReset = some u ∧ u.nodeState = 2) ∧
    (∃ (s : State) (u : State) (p : Nat), s.expire (.fcRecover p) = some u ∧ u.dlActive p = false ∧ u.on PX_SLOT_VALID p = false) ∧
    (∃ (s : State) (u : State) (p : Nat), s.expire (.fcCycle p) = some u ∧ u.get FC_PORT_RUNG p = 2) ∧
    (∃ (s : State) (u : State) (p : Nat), s.expire (.fcDpc p) = some u) ∧
    (∃ (s : State) (u : State) (k : Nat) (r : OmiRun), (s.runsHere k 0x0A02 (nodeArg 0) r) ∧ u = s.begun r false ∧ r.arg 0 1 ≤ 15 ∧ r.arg 1 1 ≤ 47 ∧
      u.get FC_PORT_RUNG (r.arg 1 1) ≠ 0) ∧
    (∃ (s : State) (p : Nat), p < 48 ∧ s.get FC_PORT_RUNG p ≠ 0) ∧
    (∃ (s : State) (u : State) (k : Nat) (r : OmiRun), (s.runsHere k 0x0A03 (nodeArg 0) r) ∧ u = s.begun r false ∧ r.arg 0 1 ≤ 15 ∧
      r.arg 4 4 < 2 ^ 31) :=
  ⟨⟨st [(FC_STATE_NODE_STATE, 1, 0)], by decide⟩,
   ⟨tmr (st [(FC_STATE_NODE_STATE, 2, 0)]) (.nodeReset), _, rfl, by decide⟩,
   ⟨tmr (State.reset) (.fcRecover 47), _, 47, rfl, by decide, by decide⟩,
   ⟨tmr (st [(FC_PORT_RUNG, 2, 47)]) (.fcCycle 47), _, 47, rfl, by decide⟩,
   ⟨tmr (State.reset) (.fcDpc 47), _, 47, rfl⟩,
   ⟨box (st [(FC_PORT_RUNG, 1, 47)]) (run 0x0A02 [0, 47]), _, 0, (run 0x0A02 [0, 47]), ⟨rfl, .inr (by decide)⟩, rfl, by decide, by decide, by decide⟩,
   ⟨st [(FC_PORT_RUNG, 1, 47)], 47, by decide, by decide⟩,
   ⟨box (State.reset) (run 0x0A03 [0, 0, 0, 0, 0, 0, 0, 64]), _, 0, (run 0x0A03 [0, 0, 0, 0, 0, 0, 0, 64]), ⟨rfl, .inr (by decide)⟩, rfl, by decide,
     by decide⟩⟩

/-- Meets the hypotheses of `Obligations.MailboxesComplete`, clause by clause. -/
theorem witness_MailboxesComplete :
    (∃ (s : State) (k : Nat), k < 18 ∧ s.fwUp = true) ∧
    (∃ (s : State) (k : Nat), k < 16 ∧ s.on PART_CTRL_VALID k = true) ∧
    (∃ (s : State) (u : State) (src : Nat) (q : Nat) (n : Nat) (e : Ev), s.takeFw src q (.event q n e) = some u) ∧
    (∃ (s : State) (id : Nat) (n : Nat) (x : Nat × Nat × Nat) (w : OmiWork), (s.mb.retry.find? fun x => x.1 == id && x.2.1 == n) = some x ∧
      s.work id = some w ∧ s.now < x.2.2) ∧
    (∃ (s : State) (u : State), s.expire .session = some u) ∧
    (∃ (off : Nat) (xs : List Nat), off < 0x800 ∧ xs ≠ [] ∧ xs.length ≤ 253) ∧
    (∃ (off : Nat), off < 0x1000) ∧
    (∃ (s : State) (n : Nat), (s.mbox 16).ptr + 255 ≤ 0x800 ∧ n ≤ 255) :=
  ⟨⟨st [(MB_STATUS_FW_READY, 1, 16)], 17, by decide, by decide⟩,
   ⟨st [(PART_CTRL_VALID, 1, 15)], 15, by decide, by decide⟩,
   ⟨{ State.reset with inbox := [.fw 1 2 (.event 2 3 (.other 4 [])) 0] }, _, 1, 2, 3, .other 4 [], rfl⟩,
   ⟨box ({ State.reset with mb.retry := [(1, 2, 100)] }) (run 0x0802 []), 1, 2, _, _, rfl, rfl, by decide⟩,
   ⟨tmr (State.reset) (.session), _, rfl⟩,
   ⟨0x7FF, [1], by decide, by decide, by decide⟩,
   ⟨0xFFF, by decide⟩,
   ⟨State.reset, 255, by decide, by decide⟩⟩

/-- Meets the hypotheses of `Obligations.RegisterGroupsComplete`, clause by clause. -/
theorem witness_RegisterGroupsComplete :
    (∃ (s : State) (u : State) (k : Nat) (w : OmiWork) (r : OmiRun) (op : Nat), (s.mbox k).running = some w ∧ op = w.run.opcode ∧ (op % 256 = 0) ∧
      (groupBlocks (op / 256) ≠ []) ∧ (s.runsHere k op (s.nodesArg 0) r) ∧ u = s.begun r false ∧ (groupBlocks (op / 256)).contains (r.arg 2 1) = true
      ∧ (r.arg 4 2 % 4 = 0) ∧ r.arg 6 2 = 1 ∧ regAt (r.arg 2 1) (r.arg 4 2) = none) ∧
    (∃ (s : State) (u : State) (k : Nat) (w : OmiWork) (r : OmiRun) (op : Nat) (rg : Reg) (i : Nat) (dw : Nat) (y : Nat × State),
      (s.mbox k).running = some w ∧ op = w.run.opcode ∧ (op % 256 = 0) ∧ (groupBlocks (op / 256) ≠ []) ∧ (s.runsHere k op (s.nodesArg 0) r) ∧
      u = s.begun r false ∧ (groupBlocks (op / 256)).contains (r.arg 2 1) = true ∧ (r.arg 4 2 % 4 = 0) ∧ r.arg 6 2 = 1 ∧
      regAt (r.arg 2 1) (r.arg 4 2) = some (rg, i, dw) ∧ y = u.readDword rg i dw) ∧
    (∃ (s : State) (u : State) (k : Nat) (w : OmiWork) (r : OmiRun) (op : Nat), (s.mbox k).running = some w ∧ op = w.run.opcode ∧ (op % 256 = 1) ∧
      (groupBlocks (op / 256) ≠ []) ∧ s.wrBad w.run = true ∧ (s.runsHere k op s.hereArg r) ∧ u = s.begun r false) ∧
    (∃ (s : State) (u : State) (k : Nat) (w : OmiWork) (r : OmiRun) (op : Nat), (s.mbox k).running = some w ∧ op = w.run.opcode ∧ (op % 256 = 1) ∧
      (groupBlocks (op / 256) ≠ []) ∧ s.wrBad w.run = false ∧ (s.runsHere k op (s.nodesArg 0) r) ∧ u = s.begun r true ∧ r.arg 2 1 ≠ 8) :=
  ⟨⟨box (State.reset) (run 0x0200 [0, 0, 5, 0, 252, 15, 1, 0]), _, 0, _, (run 0x0200 [0, 0, 5, 0, 252, 15, 1, 0]), _, rfl, rfl, by decide, by decide,
    ⟨rfl, .inr (by decide)⟩, rfl, by decide, by decide, by decide, by decide⟩,
   ⟨box (State.reset) (run 0x0200 [0, 0, 5, 0, 0, 0, 1, 0]), _, 0, _, (run 0x0200 [0, 0, 5, 0, 0, 0, 1, 0]), _, _, _, _, _, rfl, rfl, by decide,
     by decide, ⟨rfl, .inr (by decide)⟩, rfl, by decide, by decide, by decide, rfl, rfl⟩,
   ⟨box (State.reset) (run 0x0201 [0, 0, 4, 1]), _, 0, _, (run 0x0201 [0, 0, 4, 1]), _, rfl, rfl, by decide, by decide, by decide, ⟨rfl,
     .inr (by decide)⟩, rfl⟩,
   ⟨box (State.reset) (run 0x0201 [0, 0, 5, 1]), _, 0, _, (run 0x0201 [0, 0, 5, 1]), _, rfl, rfl, by decide, by decide, by decide, ⟨rfl,
     .inr (by decide)⟩, rfl, by decide⟩⟩

/-- Meets the hypotheses of `Obligations.ImagesComplete`, clause by clause. -/
theorem witness_ImagesComplete :
    (∃ (s : State) (u : State) (k : Nat) (r : OmiRun), (s.runsHere k 0x0D01 (nodeArg 0) r) ∧ u = s.begun r false ∧ u.img.session = none ∧ r.token ≠ 0
      ∧ r.arg 1 1 ≤ 1 ∧ r.arg 1 1 ≠ u.img.slot) ∧
    (∃ (s : State) (u : State) (k : Nat) (r : OmiRun) (x : Session), (s.runsHere k 0x0D02 (nodeArg 0) r) ∧ u = s.begun r false ∧ u.staging r = .ok x ∧
      (r.arg 4 4 + (r.params.drop 8).length ≤ 0x100000)) ∧
    (∃ (s : State) (u : State) (k : Nat) (r : OmiRun) (x : Session), (s.runsHere k 0x0D03 (nodeArg 0) r) ∧ u = s.begun r false ∧ u.staging r = .ok x ∧
      (r.arg 1 1).testBit 0 = true) ∧
    (∃ (s : State) (u : State) (k : Nat) (r : OmiRun), (s.runsHere k 0x0D04 (nodeArg 0) r) ∧ u = s.begun r false ∧ u.stagingOpen = false ∧
      r.arg 1 1 ≤ 1 ∧ u.mayActivate (r.arg 1 1) = true) ∧
    (∃ (s : State) (a : Activation), s.img.act = some a ∧ a.phase = 1 ∧ (∀ k ∈ boxes, s.boxWaits k = false)) ∧
    (∃ (s : State) (a : Activation), s.img.act = some a ∧ a.phase = 2 ∧ s.slotOk a.slot = false) ∧
    (Signed → (∃ (s : State) (a : Activation), s.img.act = some a ∧ a.phase = 2 ∧ s.slotOk a.slot = true)) ∧
    (∃ (s : State) (a : Activation), s.img.act = some a ∧ a.phase = 3 ∧ s.slotHash a.slot = a.hash) ∧
    (∃ (s : State) (u : State) (k : Nat) (r : OmiRun), (s.runsHere k 0x0D05 (nodeArg 0) r) ∧ u = s.begun r false ∧ u.stagingOpen = false ∧
      r.arg 1 1 ≤ 1 ∧ r.arg 1 1 = u.img.slot) ∧
    (∃ (s : State) (u : State) (k : Nat) (r : OmiRun), (s.runsHere k 0x0D06 (nodeArg 0) r) ∧ u = s.begun r false ∧ u.img.committed = true) ∧
    (∃ (s : State) (u : State) (k : Nat) (r : OmiRun), (s.runsHere k 0x0D07 (nodeArg 0) r) ∧ u = s.begun r false) ∧
    (∃ (s : State) (u : State) (k : Nat) (r : OmiRun), (s.runsHere k 0x0101 (s.nodesArg 0) r) ∧ u = s.begun r false) ∧
    (∃ (s : State) (u : State) (k : Nat) (r : OmiRun), (s.runsHere k 0x0102 (s.nodesArg 0) r) ∧ u = s.begun r false ∧ r.arg 2 1 = 0 ∧
      r.arg 6 2 ≤ 2000) ∧
    (∃ (s : State) (u : State) (k : Nat) (r : OmiRun), (s.runsHere k 0x0103 (s.nodesArg 0) r) ∧ u = s.begun r false ∧ u.img.session = none ∧
      r.token ≠ 0 ∧ r.arg 6 2 ≤ 2016 ∧ (r.arg 4 2 + r.arg 6 2 ≤ 8192) ∧ r.arg 2 1 = 0) :=
  ⟨⟨box (State.reset) (run 0x0D01 [0, 1]), _, 0, (run 0x0D01 [0, 1]), ⟨rfl, .inr (by decide)⟩, rfl, by decide, by decide, by decide, by decide⟩,
   ⟨box ({ State.reset with img.session := some { kind := 1, token := 7, part := 0, slot := 1 } }) (run 0x0D02 [0, 0, 0, 0, 0, 0, 0, 0, 9]), _, 0,
     (run 0x0D02 [0, 0, 0, 0, 0, 0, 0, 0, 9]), _, ⟨rfl, .inr (by decide)⟩, rfl, rfl, by decide⟩,
   ⟨box ({ State.reset with img.session := some { kind := 1, token := 7, part := 0, slot := 1 } }) (run 0x0D03 [0, 1]), _, 0, (run 0x0D03 [0, 1]), _,
     ⟨rfl, .inr (by decide)⟩, rfl, rfl, by decide⟩,
   ⟨box ({ State.reset with img.verified := [1] }) (run 0x0D04 [0, 1]), _, 0, (run 0x0D04 [0, 1]), ⟨rfl, .inr (by decide +kernel)⟩, rfl,
     by decide +kernel, by decide +kernel, by decide +kernel⟩,
   ⟨{ State.reset with img.act := some { phase := 1, slot := 1 } }, _, rfl, by decide, by decide⟩,
   ⟨{ spoiled with img.act := some { phase := 2, slot := 1 } }, _, rfl, by decide +kernel, by decide +kernel⟩,
   fun h => ⟨{ flashed with img.act := some { phase := 2, slot := 1 } }, _, rfl, by decide +kernel, flashed_slot (by decide +kernel) (by
     decide +kernel) h 1 (by decide)⟩,
   ⟨{ State.reset with img.act := some { phase := 3, slot := 1, hash := State.reset.slotHash 1 } },
     { phase := 3, slot := 1, hash := State.reset.slotHash 1 }, rfl, by decide, slotHash_of (by decide +kernel) 1⟩,
   ⟨box (State.reset) (run 0x0D05 [0, 0]), _, 0, (run 0x0D05 [0, 0]), ⟨rfl, .inr (by decide)⟩, rfl, by decide, by decide, by decide⟩,
   ⟨box ({ State.reset with img.committed := true }) (run 0x0D06 [0]), _, 0, (run 0x0D06 [0]), ⟨rfl, .inr (by decide)⟩, rfl, by decide⟩,
   ⟨box (State.reset) (run 0x0D07 [0]), _, 0, (run 0x0D07 [0]), ⟨rfl, .inr (by decide)⟩, rfl⟩,
   ⟨box (State.reset) (run 0x0101 [0, 0]), _, 0, (run 0x0101 [0, 0]), ⟨rfl, .inr (by decide)⟩, rfl⟩,
   ⟨box (State.reset) (run 0x0102 [0, 0, 0, 0, 0, 0, 208, 7]), _, 0, (run 0x0102 [0, 0, 0, 0, 0, 0, 208, 7]), ⟨rfl, .inr (by decide)⟩, rfl, by decide,
     by decide⟩,
   ⟨box (State.reset) (run 0x0103 [0, 0, 0, 0, 32, 24, 224, 7]), _, 0, (run 0x0103 [0, 0, 0, 0, 32, 24, 224, 7]), ⟨rfl, .inr (by decide)⟩, rfl,
     by decide, by decide, by decide, by decide, by decide⟩⟩

/-- Meets the hypotheses of `Obligations.FabricOmiCompletes`, clause by clause. -/
theorem witness_FabricOmiCompletes :
    (∃ (s : State) (u : State) (k : Nat) (r : OmiRun), (s.runsHere k 0x0E02 (nodeArg 0) r) ∧ u = s.begun r false ∧ r.arg 0 1 ≤ 15 ∧
      u.get PX_DUAL_FABRIC = 15) ∧
    (∃ (s : State) (u : State) (k : Nat) (r : OmiRun), (s.runsHere k 0x0E03 (nodeArg 0) r) ∧ u = s.begun r false ∧ r.arg 0 1 ≤ 15 ∧ r.arg 1 1 = 3) ∧
    (∃ (s : State) (u : State) (k : Nat) (p : Nat) (r : OmiRun), (s.runsHere k 0x0E04 (nodeArg 0) r) ∧ u = s.begun r false ∧ r.arg 0 1 ≤ 15 ∧
      p = r.arg 1 1 ∧ p ≤ 47 ∧ u.fabricMode p = true ∧ u.linkState p = lsActive) ∧
    (∃ (s : State) (u : State) (k : Nat) (p : Nat) (r : OmiRun), (s.runsHere k 0x0E05 (nodeArg 0) r) ∧ u = s.begun r false ∧ r.arg 0 1 ≤ 15 ∧
      p = r.arg 1 1 ∧ p ≤ 47 ∧ r.arg 3 1 = 1 ∧ r.arg 4 1 ≤ 32 ∧ 1 ≤ r.arg 5 1 ∧ r.arg 5 1 ≤ 8 ∧ r.arg 6 2 = 0 ∧ u.marginable p (r.arg 2 1) = true) ∧
    (∃ (s : State) (u : State) (k : Nat) (p : Nat) (r : OmiRun), (s.runsHere k 0x0C03 (nodeArg 0) r) ∧ u = s.begun r false ∧ r.arg 0 1 ≤ 15 ∧
      p = r.arg 1 1 ∧ p ≤ 47 ∧ r.arg 2 1 = 1 ∧ u.role p = roleManaged) :=
  ⟨⟨box (st [(PX_DUAL_FABRIC, 15, 0)]) (run 0x0E02 [0]), _, 0, (run 0x0E02 [0]), ⟨rfl, .inr (by decide)⟩, rfl, by decide, by decide⟩,
   ⟨box (State.reset) (run 0x0E03 [0, 3]), _, 0, (run 0x0E03 [0, 3]), ⟨rfl, .inr (by decide)⟩, rfl, by decide, by decide⟩,
   ⟨box (lnk lsActive) (run 0x0E04 [0, 44]), _, 0, _, (run 0x0E04 [0, 44]), ⟨rfl, .inr (by decide)⟩, rfl, by decide, rfl, by decide, by decide,
     by decide⟩,
   ⟨box (st [(PX_DUAL_FABRIC, 15, 0), (ML_STATUS_STATE, lsActive, 44), (ML_STATUS_LANES, 255, 44)]) (run 0x0E05 [0, 44, 7, 1, 32, 8, 0, 0]), _, 0, _,
     (run 0x0E05 [0, 44, 7, 1, 32, 8, 0, 0]), ⟨rfl, .inr (by decide)⟩, rfl, by decide, rfl, by decide, by decide, by decide, by decide, by decide,
     by decide, by decide⟩,
   ⟨box (st [(PX_PORT_CFG_ROLE, roleManaged, 43)]) (run 0x0C03 [0, 43, 1]), _, 0, _, (run 0x0C03 [0, 43, 1]), ⟨rfl, .inr (by decide)⟩, rfl, by decide,
     rfl, by decide, by decide, by decide⟩⟩

/-- Meets the hypotheses of `Obligations.MonitorCompletes`, clause by clause. -/
theorem witness_MonitorCompletes :
    (∃ (s : State) (u : State) (k : Nat) (r : OmiRun), (s.runsHere k 0x0B02 (s.nodesArg 0) r) ∧ u = s.begun r false ∧ 1 ≤ r.arg 4 2 ∧ r.arg 4 2 ≤ 252
      ∧ (r.arg 2 2 + r.arg 4 2 ≤ 1472)) ∧
    (∃ (f : Nat), f < 64) ∧
    (∃ (v : Nat), 0 < v ∧ v < 2 ^ 32) ∧
    (∃ (s : State) (u : State) (k : Nat) (n : Nat) (r : OmiRun), (s.runsHere k 0x0B03 (s.nodesArg 0) r) ∧ u = s.begun r false ∧ n = r.arg 2 1 ∧ n ≤ 31
      ∧ r.arg 3 1 = 0) ∧
    (∃ (s : State), s.on PMON_BW_CFG_EN = true) ∧
    (∃ (s : State), s.on PMON_BW_CFG_EN = false) :=
  ⟨⟨box (State.reset) (run 0x0B02 [0, 0, 196, 4, 252, 0]), _, 0, (run 0x0B02 [0, 0, 196, 4, 252, 0]), ⟨rfl, .inr (by decide)⟩, rfl, by decide,
    by decide, by decide⟩,
   ⟨63, by decide⟩,
   ⟨4294967295, by decide, by decide⟩,
   ⟨box (State.reset) (run 0x0B03 [0, 0, 31, 0]), _, 0, _, (run 0x0B03 [0, 0, 31, 0]), ⟨rfl, .inr (by decide)⟩, rfl, rfl, by decide, by decide⟩,
   ⟨st [(PMON_BW_CFG_EN, 1, 0)], by decide⟩,
   ⟨State.reset, by decide⟩⟩

/-- Meets the hypotheses of `Obligations.PowerLevelsComplete`, clause by clause. -/
theorem witness_PowerLevelsComplete :
    (∃ (s : State) (u : State) (k : Nat) (r : OmiRun), (s.runsHere k 0x0C02 (s.nodesArg 0) r) ∧ u = s.begun r true ∧ r.arg 2 1 ≤ 1 ∧
      u.pwState ≠ pwEntering ∧ u.pwState ≠ pwAsleep) ∧
    (∃ (s : State) (u : State) (v : Nat) (m : Move), s.pw.unconfirmed = true ∧ u = s.avsRead v ∧ u.pw.volt ≤ v + 10 ∧ v ≤ u.pw.volt + 10 ∧
      u.pw.move = some m ∧ m.ramp = false ∧ m.dst < m.src) ∧
    (∃ (s : State), s.pw.freq ≠ 0 ∧ s.pw.freq < s.rampTarget ∧ s.pw.move = none) ∧
    (∃ (s : State) (u : State), s.expire .vTmo = some u ∧ u.pw.move = none) ∧
    (∃ (s : State) (u : State) (v : Nat), s.asleep < 2 ∧ u = s.avsRead v ∧ 570 ≤ v ∧ (u.pw.volt * 95 ≤ v * 100) ∧ (v * 100 ≤ u.pw.volt * 105)) ∧
    (∃ (s : State) (v : Int), s.asleep ≠ 3 ∧ 0 ≤ v ∧ v < 135 ∧ v ≤ (s.get FC_POLICY_T_WARN : Int)) :=
  ⟨⟨box (State.reset) (run 0x0C02 [0, 0, 1]), _, 0, (run 0x0C02 [0, 0, 1]), ⟨rfl, .inr (by decide)⟩, rfl, by decide, by decide, by decide⟩,
   ⟨{ State.reset with pw.unconfirmed := true, pw.move := some { src := 2, dst := 1, old := 800, ramp := false } }, _, 800, _, by decide, rfl,
     by decide, by decide, rfl, by decide, by decide⟩,
   ⟨{ State.reset with pw.freq := 1 }, by decide, by decide, by decide⟩,
   ⟨tmr (State.reset) (.vTmo), _, rfl, by decide⟩,
   ⟨State.reset, _, 800, by decide, rfl, by decide, by decide, by decide⟩,
   ⟨State.reset, 50, by decide, by decide, by decide, by decide⟩⟩

/-- Meets the hypotheses of `Obligations.SleepCompletes`, clause by clause. -/
theorem witness_SleepCompletes :
    (∃ (s : State) (u : State) (k : Nat) (r : OmiRun), (s.runsHere k 0x0C04 (s.nodesArg 0) r) ∧ u = s.begun r false ∧ 1 ≤ r.arg 2 1 ∧ r.arg 2 1 ≤ 3 ∧
      u.maySleep (r.arg 2 1) = true) ∧
    (∃ (s : State) (x : Sleep), s.pw.sleep = some x ∧ x.step = 2 ∧ x.pme = []) ∧
    (∃ (s : State) (x : Sleep), s.pw.sleep = some x ∧ x.step = 3 ∧ s.get JNL_OCC_USED = 0) ∧
    (∃ (s : State) (x : Sleep), s.pw.sleep = some x ∧ x.step = 4 ∧ x.cmd = none) ∧
    (∃ (s : State) (u : State), s.expire .sl1Idle = some u ∧ u.idleNode = true) ∧
    (∃ (s : State) (u : State) (b : Nat), s.expire .sl3Hold = some u ∧ u.pw.pendWake = some b ∧ u.asleep = 3) ∧
    (∃ (s : State) (u : State), s.expire .wakeTmr = some u) ∧
    (∃ (s : State), s.pwState = pwWaking ∧ s.pw.freq ≠ 0) :=
  ⟨⟨box (st [(PWR_CTRL_SL3_COLD_OK, 1, 0)]) (run 0x0C04 [0, 0, 3]), _, 0, (run 0x0C04 [0, 0, 3]), ⟨rfl, .inr (by decide)⟩, rfl, by decide, by decide,
    by decide⟩,
   ⟨{ State.reset with pw.sleep := some { level := 1, step := 2 } }, _, rfl, by decide, by decide⟩,
   ⟨{ State.reset with pw.sleep := some { level := 1, step := 3 } }, _, rfl, by decide, by decide⟩,
   ⟨{ State.reset with pw.sleep := some { level := 1, step := 4 } }, _, rfl, by decide, by decide⟩,
   ⟨tmr (st [(PWR_CTRL_AUTO_SL1, 1, 0)]) (.sl1Idle), _, rfl, by decide⟩,
   ⟨tmr ({ st [(PWR_STATUS_STATE, pwAsleep, 0)] with pw.sleep := some { level := 3, step := 5 }, pw.pendWake := some 1 }) (.sl3Hold), _, _, rfl, rfl,
     by decide⟩,
   ⟨tmr (State.reset) (.wakeTmr), _, rfl⟩,
   ⟨{ st [(PWR_STATUS_STATE, pwWaking, 0)] with pw.freq := 1 }, by decide, by decide⟩⟩

/-- Meets the hypotheses of `Obligations.ClocksComplete`, clause by clause. -/
theorem witness_ClocksComplete :
    (∃ (s : State) (u : State) (x : Nat) (a : Nat) (b : Nat) (l : Nat), s.asleep = 0 ∧ u = [(0, x), (1, a), (2, b), (3,
      l)].foldl (fun (s : State) y => if s.judges y.1 then s.coarse y.1 y.2 else s) s ∧ u.asleep ≠ 3) ∧
    (∃ (s : State) (i : Nat), i ≤ 3 ∧ s.ckFitted i = true ∧ s.judges i = true ∧ (s.reject i).asleep ≠ 3) ∧
    (∃ (s : State), s.ckState 0 ≠ ckRejected ∧ s.on CLK_STATUS_EARLY = false ∧ s.asleep < 2) ∧
    (∃ (s : State) (pll : Nat) (x : Nat × Nat × Bool), (s.ck.holding.find? fun x => x.1 == pll) = some x ∧ x.2.2 = true) ∧
    (∃ (s : State) (pll : Nat), pll ≤ 2 ∧ s.on (pllLock pll) = true) ∧
    (∃ (s : State) (u : State), s.expire .earlyBoot = some u ∧ u.on CLK_STATUS_EARLY = true ∧ u.pllChoice = none) ∧
    (∃ (s : State) (u : State) (i : Nat), s.pwState ≠ pwWaking ∧ s.on CLK_STATUS_EARLY = true ∧ s.boot.main = true ∧ s.nodeState ≠ 3 ∧
      s.pllChoice = some i ∧ u = [0, 1, 2].foldl (fun (s : State) n => (s.set (pllSrc n) i).set (pllLock n) 1) s) :=
  ⟨⟨State.reset, _, 50, 50, 50, 50, by decide, rfl, by decide⟩,
   ⟨st [(CLK_CTRL_REF_A_EN, 1, 0)], 1, by decide, by decide, by decide, by decide⟩,
   ⟨st [(CLK_STATUS_EARLY, 0, 0)], by decide, by decide, by decide⟩,
   ⟨{ State.reset with ck.holding := [(1, 0, true)] }, 1, _, rfl, by decide⟩,
   ⟨st [(pllLock 2, 1, 0)], 2, by decide, by decide⟩,
   ⟨tmr (st [(CLK_STATUS_EARLY, 1, 0)]) (.earlyBoot), _, rfl, by decide, by decide⟩,
   ⟨{ st [(CLK_STATUS_EARLY, 1, 0), (CLK_STATUS_XTAL, ckGood, 0)] with boot.main := true }, _, _, by decide, by decide, by decide, by decide, rfl,
     rfl⟩⟩

/-- Meets the hypotheses of `Obligations.BringUpCompletes`, clause by clause. -/
theorem witness_BringUpCompletes :
    (∃ (s : State), s.asleep ≠ 3 ∧ s.boot.main = true) ∧
    (∃ (s : State) (u : State), s.expire .strap = some u) ∧
    (∃ (s : State), s.boot.main = false ∧ s.runs .strap = false ∧ s.asleep ≠ 3 ∧ s.get MB_STRAP_BOOT_MODE = 0) ∧
    (Signed → (∃ (s : State) (u : State) (xs : List (Nat × List Nat)), s.boot.rom = true ∧ s.nodeState ≠ 3 ∧ s.pw.freq ≠ 0 ∧
      s.get MB_STRAP_BOOT_MODE = 0 ∧ s.bootImage = some u ∧ u.nodeState ≠ 2 ∧ u.record = some xs)) ∧
    (∃ (s : State), s.boot.rom = true ∧ s.nodeState ≠ 3 ∧ s.pw.freq ≠ 0 ∧ s.get MB_STRAP_BOOT_MODE = 0 ∧ s.bootImage = none) ∧
    (∃ (s : State), s.boot.waits = true ∧ s.jnl.recovered = true ∧ s.nodeState ≠ 3 ∧ s.record = none) ∧
    (∃ (s : State) (u : State) (xs : List (Nat × List Nat)), s.boot.waits = true ∧ s.jnl.recovered = true ∧ s.nodeState ≠ 3 ∧ s.record = some xs ∧
      u = ((((((bootChans xs).foldl (fun (s : State) c => s.spEnable c) { s with boot.waits := false }).bootParts xs).admitEn).openPorts.set
      MB_BOOT_STAGE 5).fwReady true).raiseLosses ∧ u.boot.sl3 = false ∧ u.joinAfter xs = none) ∧
    (Signed → (∃ (s : State) (image : List Nat), s.boot.recovery = true ∧ s.boot.main = true ∧ s.boot.running = false ∧
      imageOk s.img.fuse image = true)) ∧
    (∃ (s : State) (u : State), s.expire .bootJoin = some u) ∧
    (∃ (s : State), s.nodeState = 2 ∧ s.boot.running = true ∧ s.pfPhase = pfNormal) ∧
    (∃ (s : State) (u : State) (xs : List (Nat × List Nat)), s.nodeState = 2 ∧ s.boot.running = true ∧ s.pfPhase = pfNormal ∧
      u = (s.stop .nodeReset).set FC_STATE_NODE_STATE 0 ∧ u.record = some xs) :=
  ⟨⟨{ State.reset with boot.main := true }, by decide, by decide⟩,
   ⟨State.reset, _, rfl⟩,
   ⟨State.reset.stop .strap, by decide, by decide, by decide, by decide⟩,
   fun h => match booting_runs h with | ⟨u, a, b, c⟩ => ⟨booting, u, [], by decide +kernel, by decide +kernel, by decide +kernel, by decide +kernel,
     a, b, c⟩,
   ⟨stopping, by decide +kernel, by decide +kernel, by decide +kernel, by decide +kernel, stopping_stops⟩,
   ⟨{ State.reset with boot.waits := true, jnl.recovered := true }, by decide, by decide, by decide, by decide⟩,
   ⟨{ flashed with boot.waits := true, jnl.recovered := true }, _, [], by decide +kernel, by decide +kernel, by decide +kernel, by decide +kernel,
     rfl, by decide +kernel, by decide +kernel⟩,
   fun h => ⟨{ flashed with boot.recovery := true, boot.main := true }, flashed.imageBytes 1, by decide +kernel, by decide +kernel, by decide +kernel,
     flashed_ok h⟩,
   ⟨tmr (State.reset) (.bootJoin), _, rfl⟩,
   ⟨{ st [(FC_STATE_NODE_STATE, 2, 0)] with boot.running := true }, by decide, by decide, by decide⟩,
   ⟨{ (flashed.set FC_STATE_NODE_STATE 2) with boot.running := true }, _, [], by decide +kernel, by decide +kernel, by decide +kernel, rfl,
     by decide +kernel⟩⟩

/-- Meets the hypotheses of `Obligations.CommandsKeepQueueAndTime`, clause by clause. -/
theorem witness_CommandsKeepQueueAndTime :
    (∃ (c : Instr) (s : State) (t : State), exec c s = .next t) :=
  ⟨.flitSlot 0, State.reset, _, rfl⟩

/-- Meets the hypotheses of `Obligations.RegisterCommandFrames`, clause by clause. -/
theorem witness_RegisterCommandFrames :
    (∃ (s : State) (t : State) (r : Reg) (i : Nat) (v : Nat), r ∈ plainRegs ∧ exec (.registerWrite r i 0 v) s = .next t) ∧
    (∃ (s : State) (t : State) (k : Nat), exec (.narrowRegisterWrite (some k)) s = .next t) ∧
    (∃ (s : State) (t : State) (r : Reg) (i : Nat), exec (.wideRegisterRead r i) s = .next t) ∧
    (∃ (s : State) (t : State), exec .clrEvt s = .next t) ∧
    (∃ (s : State) (t : State), exec .clrFlt s = .next t) ∧
    (∃ (s : State) (t : State) (v : Nat), exec (.shvSeedWrite v) s = .next t) ∧
    (∃ (s : State) (t : State) (p : Nat) (l : Nat), exec (.clrUnfit p l) s = .next t) ∧
    (∃ (s : State) (t : State), exec .elogClr s = .next t) ∧
    (∃ (s : State) (u : State) (t : State) (v : Nat), s.expire .strap = some u ∧ exec (.strapLatch v) s = .next t) ∧
    (∃ (s : State) (t : State) (xs : List Int), exec (.thermalSample xs) s = .next t) :=
  ⟨⟨State.reset, _, .RING_TIMERS, 0, 0, by decide, rfl⟩,
   ⟨State.reset, _, 0, rfl⟩,
   ⟨State.reset, _, .RING_TIMERS, 0, rfl⟩,
   ⟨State.reset, _, rfl⟩,
   ⟨State.reset, _, rfl⟩,
   ⟨State.reset, _, 0, rfl⟩,
   ⟨State.reset, _, 0, 0, rfl⟩,
   ⟨State.reset, _, rfl⟩,
   ⟨State.reset, _, _, 0, rfl, rfl⟩,
   ⟨State.reset, _, {}, rfl⟩⟩

/-- Meets the hypotheses of `Obligations.FlitsAreCodeWords`, clause by clause. -/
theorem witness_FlitsAreCodeWords :
    (∃ (xs : List Nat), xs.length = 240 ∧ (∀ b ∈ xs, b < 256)) :=
  ⟨List.replicate 240 0, by decide +kernel, by decide +kernel⟩

/-- Meets the hypotheses of `Obligations.EntriesReadBack`, clause by clause. -/
theorem witness_EntriesReadBack :
    (∃ (e : WEnt), e.tgtPart < 64 ∧ e.tgtNode < 16 ∧ e.tgtCs < 4 ∧ e.kind < 16 ∧ e.size < 64 ∧ e.tgtInst < 512 ∧ e.base < 2 ^ 64 ∧ (e.base % 4096 = 0)
      ∧ e.offset < 2 ^ 64 ∧ (e.offset % 4096 = 0)) ∧
    (∃ (t : Turn), t.action < 16 ∧ t.count < 2 ^ 16 ∧ t.start < 2 ^ 64 ∧ t.period < 2 ^ 32 ∧ t.arg < 2 ^ 64 ∧ t.data < 2 ^ 64 ∧ (∀ k,
      t.owner = some k → k < 64)) :=
  ⟨⟨{ tgtPart := 63, tgtNode := 15, tgtCs := 3, kind := 5, size := 52, tgtInst := 511, base := 4096, offset := 4096 }, by decide, by decide,
    by decide, by decide, by decide, by decide, by decide, by decide, by decide, by decide⟩,
   ⟨{ action := 9, owner := some 63 }, by decide, by decide, by decide, by decide, by decide, by decide, by intro k h; cases h; decide⟩⟩

/-- Meets the hypotheses of `Obligations.WireLayoutsReadBack`, clause by clause. -/
theorem witness_WireLayoutsReadBack :
    (∃ (f : Flit), f.hdr.ack < 4096 ∧ f.hdr.crCount < 32 ∧ (∀ vc n ps, f.body = .data vc n ps → n < 64)) ∧
    (∃ (r : Record), r.srcPart < 64 ∧ r.srcNode < 16 ∧ r.dstNode < 16 ∧ r.len < 4096 ∧ r.gen < 256 ∧ r.dstPort < 64 ∧ r.hops < 16 ∧ r.seq < 2 ^ 32 ∧
      r.admitTs < 2 ^ 32 ∧ r.inst = none ∧ r.cs = 0) ∧
    (∃ (sub : Nat) (xs : List JItem), sub < 256 ∧ xs.length ≤ 91 ∧ (∀ x ∈ xs, x.part < 64 ∧ x.reason < 256 ∧ x.seqA < 2 ^ 32 ∧ x.seqB < 2 ^ 32)) ∧
    (∃ (n : Nat) (xs : List Nat) (b : FlitBody), readBody n xs = some b) ∧
    (∃ (n : Nat) (xs : List Nat) (b : FlitBody), readBody n xs = some b) ∧
    (∃ (w : Nat) (i : Nat) (xs : List Nat), 0 < w ∧ i < xs.length) ∧
    (∃ (b : Nat), b < 48) ∧
    (∃ (f : Frame) (xs : List Nat), evBytes f.ev = some xs) :=
  ⟨⟨{ hdr := { ack := 4095, crCount := 31, crVc := some .mg }, body := .data .tt 63 [] }, by decide, by decide, by intro vc n ps h; cases h; decide⟩,
   ⟨{ srcPart := 63, srcNode := 15, dstNode := 15, len := 1120, gen := 255, dstPort := 47, hops := 15, seq := 4294967295, admitTs := 4294967295 },
     by decide, by decide, by decide, by decide, by decide, by decide, by decide, by decide, by decide, by decide, by decide⟩,
   ⟨8, List.replicate 91 { part := 63, vc := .mg, reason := 255, seqA := 4294967295 }, by decide, by decide, by decide +kernel⟩,
   ⟨6, [2, 15, 1, 0], _, rfl⟩,
   ⟨2, [49], _, rfl⟩,
   ⟨8, 23, List.replicate 24 1, by decide, by decide⟩,
   ⟨47, by decide⟩,
   ⟨{ seq := 65535, node := 15, ev := .other 0x71 [1, 2, 31, 4096, 7, 4, 9] }, [0x71, 1, 2, 31, 0, 16, 0, 0, 7, 0, 4, 0, 9, 0, 0, 0], by decide⟩⟩

/-- Meets the hypotheses of `Obligations.WindowTargets`, clause by clause. -/
theorem witness_WindowTargets :
    (∃ (s : State) (u : State) (part : Nat) (i : Nat) (n : Nat) (own : Option Nat) (t : Tlp) (e : WEnt) (g : Tgt) (a : Nat) (x : Bool),
      s.hit part t.addr = some (.ent i e) ∧ s.lookup part own t = (.go g a (some n) x, u)) ∧
    (∃ (s : State) (part : Nat) (i : Nat) (t : Tlp) (e : WEnt), s.hit part t.addr = some (.ent i e) ∧ e.kind = 5) :=
  ⟨⟨{ State.reset with win.ents := [(entKey 63 0 255, { kind := 1, fromHost := true, wrEn := true, rdEn := true, size := 52, tgtInst := 511, base := 4096, offset := 4096 })] },
    { State.reset with win.ents := [(entKey 63 0 255, { kind := 1, fromHost := true, wrEn := true, rdEn := true, size := 52, tgtInst := 511, base := 4096, offset := 4096 })] },
    63, 255, 255, none, { addr := 4096, bytes := 4 },
    { kind := 1, fromHost := true, wrEn := true, rdEn := true, size := 52, tgtInst := 511, base := 4096, offset := 4096 },
    .inst 0 511 (State.vdspOf
    ({ State.reset with win.ents := [(entKey 63 0 255, { kind := 1, fromHost := true, wrEn := true, rdEn := true, size := 52, tgtInst := 511, base := 4096, offset := 4096 })] })
    63 0 511), 8192, false, by decide +kernel, by decide +kernel⟩,
   ⟨{ State.reset with win.ents := [(entKey 63 0 255, { kind := 5, fromHost := true, wrEn := true, rdEn := true, size := 52, tgtInst := 511, base := 4096, offset := 4096 })] },
     63, 255, { addr := 4096, bytes := 4 },
     { kind := 5, fromHost := true, wrEn := true, rdEn := true, size := 52, tgtInst := 511, base := 4096, offset := 4096 }, by decide +kernel,
     by decide +kernel⟩⟩

/-- Meets the hypotheses of `Obligations.WakeHeldForOneSecond`, clause by clause. -/
theorem witness_WakeHeldForOneSecond :
    (∃ (x : Sleep), x.level = 3 ∧ x.pfw = false ∧ x.woken = none) ∧
    (∃ (s : State), s.asleep = 3 ∧ s.runs .sl3Hold = true ∧ s.pw.pendWake = none) ∧
    (∃ (s : State) (u : State) (b : Nat), s.expire .sl3Hold = some u ∧ u.pw.pendWake = some b ∧ u.asleep = 3) ∧
    (∃ (s : State), s.asleep = 3 ∧ s.runs .sl3Hold = false) :=
  ⟨⟨{ level := 3, step := 4 }, by decide, by decide, by decide⟩,
   ⟨tmr ({ st [(PWR_STATUS_STATE, pwAsleep, 0)] with pw.sleep := some { level := 3, step := 5 } }) (.sl3Hold), by decide, by decide, by decide⟩,
   ⟨tmr ({ st [(PWR_STATUS_STATE, pwAsleep, 0)] with pw.sleep := some { level := 3, step := 5 }, pw.pendWake := some 1 }) (.sl3Hold), _, _, rfl, rfl,
     by decide⟩,
   ⟨{ st [(PWR_STATUS_STATE, pwAsleep, 0)] with pw.sleep := some { level := 3, step := 5 } }, by decide, by decide⟩⟩

/-- Meets the hypotheses of `Obligations.SleepAcceptedOnlyWhenAllowed`, clause by clause. -/
theorem witness_SleepAcceptedOnlyWhenAllowed :
    (∃ (s : State) (level : Nat), s.maySleep level = true) ∧
    (∃ (s : State) (u : State) (k : Nat) (r : OmiRun), (s.runsHere k 0x0C04 (s.nodesArg 0) r) ∧ u = s.begun r false ∧ 1 ≤ r.arg 2 1 ∧ r.arg 2 1 ≤ 3 ∧
      u.maySleep (r.arg 2 1) = false) :=
  ⟨⟨st [(PWR_CTRL_SL3_COLD_OK, 1, 0)], 3, by decide⟩,
   ⟨box (st [(JNL_STATUS_PF_PHASE, pfDrain, 0)]) (run 0x0C04 [0, 0, 3]), _, 0, (run 0x0C04 [0, 0, 3]), ⟨rfl, .inr (by decide)⟩, rfl, by decide,
     by decide, by decide⟩⟩

/-- Meets the hypotheses of `Obligations.PackageNets`, clause by clause. -/
theorem witness_PackageNets :
    (∃ (t : Nat) (d : Nat) (w : Nat), t ≤ 43 ∧ 1 ≤ d ∧ d ≤ 8 ∧ 1 ≤ w ∧ w ≤ 5) ∧
    (∃ (t : Nat) (d : Nat) (w : Nat), t ≤ 43 ∧ 1 ≤ d ∧ d ≤ 8 ∧ 1 ≤ w ∧ w ≤ 5) ∧
    (∃ (t : Nat) (d : Nat) (w : Nat), t ≤ 43 ∧ 1 ≤ d ∧ d ≤ 8 ∧ 1 ≤ w ∧ w ≤ 5) ∧
    (∃ (r : Nat) (c : Nat) (k : Nat), regionOf r c = .supply ∧ 1 ≤ r ∧ r ≤ 63 ∧ 1 ≤ c ∧ c ≤ 63 ∧ k = min (min (r - 8) (c - 8)) (min (56 - r) (56 -
      c))) ∧
    (∃ (r : Nat) (c : Nat) (k : Nat), regionOf r c = .supply ∧ 1 ≤ r ∧ r ≤ 63 ∧ 1 ≤ c ∧ c ≤ 63 ∧ k = min (min (r - 8) (c - 8)) (min (56 - r) (56 -
      c))) ∧
    (∃ (r : Nat) (c : Nat) (k : Nat), regionOf r c = .supply ∧ 1 ≤ r ∧ r ≤ 63 ∧ 1 ≤ c ∧ c ≤ 63 ∧ k = min (min (r - 8) (c - 8)) (min (56 - r) (56 -
      c))) ∧
    (∃ (r : Nat) (c : Nat), regionOf r c = .core) :=
  ⟨⟨10, 8, 5, by decide, by decide, by decide, by decide, by decide⟩,
   ⟨11, 1, 1, by decide, by decide, by decide, by decide, by decide⟩,
   ⟨43, 8, 5, by decide, by decide, by decide, by decide, by decide⟩,
   ⟨9, 9, _, by decide, by decide, by decide, by decide, by decide, rfl⟩,
   ⟨12, 52, _, by decide, by decide, by decide, by decide, by decide, rfl⟩,
   ⟨55, 9, _, by decide, by decide, by decide, by decide, by decide, rfl⟩,
   ⟨30, 30, by decide⟩⟩

/-- A state and a next state for the invariant: a plain command waits, and a register holds another value than after reset. -/
theorem witness_StepKeepsInvariant :
    ∃ s t : State, s.Inv ∧ s ≠ State.reset ∧ step s = .next t := by
  have h : (st [(SCH_PORT_OH, 24, 47)]).fields = [(SCH_PORT_OH.key 47, 24)] := by decide +kernel
  refine ⟨{ st [(SCH_PORT_OH, 24, 47)] with pending := [.flitSlot 44] }, _, ⟨by decide +kernel, ?_⟩, by decide +kernel, rfl⟩
  intro e he
  have g : e = (SCH_PORT_OH.key 47, 24) := by rw [show _ = _ from h] at he; simpa using he
  exact ⟨SCH_PORT_OH, 47, by rw [g], by rw [g]; decide⟩

theorem witness_StepIdleTicks : ∃ s : State, s.pending = [] := ⟨State.reset, rfl⟩

/-! ## Ill-formed commands -/

/-- Operands that name nothing of the hardware are refused, one for each check. -/
theorem test_wf_refuses :
    (([.registerWrite .RING_FITTED 0 1 0, .narrowRegisterWrite (some 16), .mailboxGo 18, .flitSlot 43, .flitSlot 48, .fcPortRel 48,
      .returnCleanExpiry 64 0, .returnCleanExpiry 0 16, .eqAdaptEnd 44 16, .laneLockLoss 48 0, .laneLockLoss 0 16,
      .tlpReceive 48 {}, .tlpReceive 0 { tag := 16384 }, .tlpReceive 0 { hdrBytes := 84 }, .tlpReceive 0 { data := [0] },
      .retrainLinkBit 16 1, .retrainLinkBit 0 0, .retrainLinkBit 0 32, .virtualBarWrite 0 1 6 0 0 0, .hostFlr 512, .busMasterEnable 16 true,
      .pcieLinkUp 0 6 1 false [none, none, none, none, none, none], .pcieLinkUp 0 5 0 false [none, none, none, none, none, none],
      .pcieLinkUp 0 5 5 false [], .pxBifWrite 9 0, .chargeMove 112 0 .p, .chargeMove 0 49 .p, .holdExpiry 43 0 0 0, .holdExpiry 44 16 0 0,
      .egressSelect 49, .receiptReceive 16 [], .receiptSend 16, .turnFetch 1024, .timeInEdge 8 true, .dmStart 64] : List Instr).all
        fun c => !c.wf) = true := by decide +kernel

theorem test_wf_refuses_more :
    (([.dmReadCompletion 0 { bytes := 4097 }, .completionTimeout 16384, .tagQuarantineEnd 65 0, .enableVfsTimeout 48, .commitSwap 64,
      .lbPregWrite 4 0 0, .quadPllLock 42, .spCmdOn 12, .smbusBlockWrite 0 (List.replicate 254 0) true, .fltCtrlWrite 64 0, .missingEdge 4,
      .pllLockLoss 3] : List Instr).all fun c => !c.wf) = true := by decide +kernel

theorem test_wf_accepts :
    (([.registerWrite .RING_FITTED 0 0 3, .mailboxGo 17, .flitSlot 47, .laneLockLoss 0 15, .retrainLinkBit 15 31, .hostFlr 511,
      .chargeMove 111 48 .np,
      .tagQuarantineEnd 64 5, .spCmdOn 11, .smbusBlockWrite 0 (List.replicate 253 0) true] : List Instr).all fun c => c.wf) = true := by
        decide +kernel

/-! ## Values the spec gives -/

/-- Table 22.6: the balls of SER_TXP[0], SER_RXP[45], SER_TXP[88] and SER_TXP[136]. -/
theorem test_balls_of_table_22_6 :
    ((laneBalls 0).1.name, (laneBalls 45).2.2.1.name, (laneBalls 88).1.name, (laneBalls 136).1.name) =
      (("A".toList, 2), ("D".toList, 59), ("CF".toList, 62), ("BY".toList, 1)) := by decide

/-- The power failure worked in 20: 33 mF charged to 20.0 V give a V_max of 4,311,111 bytes, which is 67,361 entries of 64. -/
theorem test_vmax_at_20_volts :
    (st [(PST_BANK_C_BANK, 330, 0), (PST_BANK_SHARE, 16, 0), (PST_VLIM_V_MIN, 160, 0), (PST_HUV_MEAS_VHUV, 2000, 0), (JNL_STATUS_PST_FITTED, 3,
      0)]).vmax =
      67361 := by decide +kernel

/-- There the drain ends by energy at 16.67 V with 20,000 entries, within 10 mV. -/
theorem test_drain_ends_at_16_67_volts :
    (([1667, 1666] : List Nat).map fun v => (st [(PST_BANK_C_BANK, 330, 0), (PST_BANK_SHARE, 16, 0), (PST_VLIM_V_MIN, 160, 0), (JNL_OCC_USED, 20000,
      0),
      (PST_HUV_MEAS_VHUV, v, 0), (JNL_STATUS_PST_FITTED, 3, 0)]).energyLow) = [false, true] := by decide +kernel

/-- The bandwidth windows worked in 17: port 40 is x4 at 8 GT/s, port 0 x16 at 64 GT/s. -/
theorem test_utilisation_of_windows :
    (let s := st [(PX_PORT_STAT_WIDTH, 3, 40), (PX_PORT_STAT_RATE, 2, 40), (PX_PORT_STAT_WIDTH, 5, 0), (PX_PORT_STAT_RATE, 5, 0)]
     (s.util 40 2479488 650, s.util 40 3814800 1000, s.util 0 15259728 1000)) = (976, 976, 122) := by decide +kernel

/-- Table 02.3 written out: FTYPE 001 (DATA), ACK ABC, CR_VC 111 (none), CR_COUNT 0, VC 011 (TT), FIRST 58. -/
theorem test_flit_header_of_table_02_3 :
    flitHdr { hdr := { ack := 0xABC }, body := .data .tt 58 [] } = le 4 0b001_101010111100_111_00000_011_111010 := by decide

/-- Tables 02.5 and 06.2 written out: a RECEIPT from node 2 to node 1 with one item, of partition 5 on NP. -/
theorem test_control_record_of_table_06_2 :
    recordHdr { srcNode := 2, dstNode := 1, len := 32, hops := 3, vc := .mg, plane := .b, body := .ctl 1 false [] } =
      [0x20, 0x20, 0x21, 0x00, 0x14, 0x03, 0, 0, 0, 0, 0, 0, 0, 0, 0, 0] ∧
    ctlBytes 1 false [{ part := 5, vc := .np, seqA := 7, seqB := 9 }] = [0, 0, 1, 1, 0, 0, 0x80, 0x14, 7, 0, 0, 0, 9, 0, 0, 0] := by decide

/-- R394 and R380 written out: the frame of a notice 0x82. -/
theorem test_frame_of_a_notice :
    (Frame.bytes { seq := 258, node := 3, ev := .other 0x82 [1, 2, 50, 4, 3, 0x101, 5] }).map (List.take 24) =
      some [2, 1, 16, 0, 3, 0, 0, 0, 0x82, 1, 2, 50, 4, 3, 1, 1, 5, 0, 0, 0, 0, 0, 0, 0] := by decide

end Sys2Proof.Tests
end

/-! ## Where a window hit leads (R119, Table 04.2) -/

namespace Sys2Proof.Machine

/-- The address with which a request that hits the entry leaves (R119). -/
def WEnt.translate (e : WEnt) (a : Nat) : Nat := (a + e.offset) % 2 ^ 64

/-- OFFSET has no bits below bit 12, and pages divide the address space. -/
theorem WEnt.translate_mod_page {e : WEnt} (a : Nat) (h : e.offset % 4096 = 0) : e.translate a % 4096 = a % 4096 := by
  unfold WEnt.translate
  omega

/-- Table 04.2: where an entry of partition `part` leads, none for DISCARD. The lookup takes a reserved KIND, which no write accepts, for
LOCAL_BUS. -/
def State.entTarget (s : State) (part : Nat) (e : WEnt) : Option Tgt :=
  match e.kind with
  | 0 => some (.host part)
  | 1 => some (.inst e.tgtNode e.tgtInst (s.vdspOf part e.tgtNode e.tgtInst))
  | 2 => some .mgmt
  | 3 => some (.host e.tgtPart)
  | 5 => none
  | _ => some (.bus e.tgtNode e.tgtCs)

/-- If a lookup lets a request go by an entry, then by entry `i`, with address `a`, toward the target `tg`. -/
def Look.GoesOnlyBy (i a : Nat) (tg : Option Tgt) : Look → Prop
  | .go g b (some n) _ => n = i ∧ b = a ∧ tg = some g
  | _ => True

section
variable {i a : Nat} {tg : Option Tgt}

theorem Look.goesOnlyBy_go {g : Tgt} {x : Bool} (h : tg = some g) : (Look.go g a (some i) x).GoesOnlyBy i a tg := ⟨rfl, rfl, h⟩

/-- A denial of the host and a violation by an instance (R129) go nowhere. -/
theorem Look.goesOnlyBy_fail (fromInst : Bool) (cause entry : Nat) :
    (if fromInst then Look.violation cause entry else .denied cause).GoesOnlyBy i a tg := by
  cases fromInst <;> trivial

/-- One check of the lookup: its refusal goes nowhere, and what stands behind it decides the rest. -/
theorem Look.goesOnlyBy_check {c : Prop} [Decidable c] {refused rest : Look × State} (hc : refused.1.GoesOnlyBy i a tg)
    (hr : rest.1.GoesOnlyBy i a tg) : (if c then refused else rest).1.GoesOnlyBy i a tg := by
  split <;> assumption

end

/-- A hit on a DISCARD entry comes before every other case of Table 04.5 (R129). -/
theorem State.lookup_discard {s : State} {part i : Nat} {t : Tlp} {e : WEnt} (own : Option Nat) (hit : s.hit part t.addr = some (.ent i e))
    (hk : e.kind = 5) : s.lookup part own t = (.denied 0xA, s) := by
  simp [State.lookup, hit, hk]

/-- Whatever the origin, a hit lets a request go only by its own entry: the checks come in the order of R129, and what ACS redirects goes
by no entry. -/
theorem State.lookup_goesOnlyBy_ent {s : State} {part i : Nat} {t : Tlp} {e : WEnt} (own : Option Nat)
    (hit : s.hit part t.addr = some (.ent i e)) :
    (s.lookup part own t).1.GoesOnlyBy i (e.translate t.addr) (s.entTarget part e) := by
  by_cases hk : e.kind = 5
  · rw [lookup_discard own hit hk]
    trivial
  unfold State.lookup
  simp only [hit]
  refine Look.goesOnlyBy_check trivial ?_
  refine Look.goesOnlyBy_check (Look.goesOnlyBy_fail _ 3 i) ?_
  refine Look.goesOnlyBy_check (Look.goesOnlyBy_fail _ 6 i) ?_
  refine Look.goesOnlyBy_check (Look.goesOnlyBy_fail _ 1 i) ?_
  refine Look.goesOnlyBy_check (Look.goesOnlyBy_fail _ 2 i) ?_
  refine Look.goesOnlyBy_check (Look.goesOnlyBy_fail _ 4 i) ?_
  split
  case h_1 host => exact Look.goesOnlyBy_go (by simp [State.entTarget, host])
  case h_2 inst =>
    have htgt : s.entTarget part e = some (.inst e.tgtNode e.tgtInst (s.vdspOf part e.tgtNode e.tgtInst)) := by
      simp [State.entTarget, inst]
    cases own with
    | none => exact Look.goesOnlyBy_go htgt
    | some m =>
      dsimp only
      split
      case h_1 => exact Look.goesOnlyBy_go htgt
      case h_2 => trivial
      case h_3 => trivial
  case h_3 mgmt => exact Look.goesOnlyBy_go (by simp [State.entTarget, mgmt])
  case h_4 peer => exact Look.goesOnlyBy_check trivial (Look.goesOnlyBy_go (by simp [State.entTarget, peer]))
  case h_5 => exact Look.goesOnlyBy_go (by simp [State.entTarget])

/-- Settles O57: the one entry by which the request goes gives address and target, and DISCARD is refused before any other case. -/
theorem windowTargets : Obligations.WindowTargets := by
  unfold Obligations.WindowTargets
  refine ⟨?_, fun s part i own t e hit hk => s.lookup_discard own hit hk⟩
  intro s u part i n own t e g a x hit hgo
  have hvia := State.lookup_goesOnlyBy_ent own hit
  rw [hgo] at hvia
  obtain ⟨hn, ha, htgt⟩ := hvia
  refine ⟨hn, ha, fun page => ha ▸ WEnt.translate_mod_page t.addr page, ?_, ?_, ?_, ?_, ?_, ?_⟩
  · intro discard
    simp [State.entTarget, discard] at htgt
  all_goals
    intro kind
    simpa [State.entTarget, kind] using htgt.symm

end Sys2Proof.Machine

/-! ## What Request Sleep asks for (R451) -/

namespace Sys2Proof.Machine

/-- R451 condition by condition; besides them the node has to run. -/
theorem State.maySleep_iff (s : State) (level : Nat) :
    s.maySleep level = true ↔
      s.pwState = pwRun ∧ s.pfPhase = pfNormal ∧ s.img.act = none ∧ s.nodeState = 0 ∧ s.armed = [] ∧
        (∀ c < 64, s.dmState c ≠ 1 ∧ s.dmState c ≠ 2) ∧
        (level ≠ 1 → ∀ p < 48, s.role p = roleUp → s.dlActive p = true → s.get PX_PORT_STAT_PM p = 2) ∧
        (level = 3 → s.channels = 0 → s.on PWR_CTRL_SL3_COLD_OK = true) := by
  simp [State.maySleep, and_assoc, Decidable.or_iff_not_imp_left]

/-- The meaning of REQUEST_SLEEP as an operation of its mailbox. -/
theorem exec_requestSleep (k : Nat) (s : State) : exec (.requestSleep k) s = execRequestSleep k s := rfl

/-- A node that one of the conditions of R451 keeps awake answers STATE and does nothing else. -/
theorem exec_requestSleep_state {s : State} {k : Nat} {r : OmiRun} (hrun : s.runsHere k 0x0C04 (s.nodesArg 0) r) (hlow : 1 ≤ r.arg 2 1)
    (hhigh : r.arg 2 1 ≤ 3) (hno : (s.begun r false).maySleep (r.arg 2 1) = false) :
    exec (.requestSleep k) s = .next ((s.begun r false).finish r.id (rsp stState)) := by
  have hne : r.arg 2 1 ≠ 0 := by omega
  have hnot : ¬ 3 < r.arg 2 1 := by omega
  rw [exec_requestSleep]
  simp [execRequestSleep, State.omi_here hrun, hne, hnot, hno, State.says]

/-- Settles O59: `maySleep` is the list of R451, and where it fails the command ends with STATE. -/
theorem sleepAcceptedOnlyWhenAllowed : Obligations.SleepAcceptedOnlyWhenAllowed := by
  unfold Obligations.SleepAcceptedOnlyWhenAllowed
  refine ⟨fun s level hmay => ((s.maySleep_iff level).1 hmay).2, ?_⟩
  rintro s _ k r hrun rfl hlow hhigh hno
  exact exec_requestSleep_state hrun hlow hhigh hno

/-! ## The first second of SL3 (R456) -/

/-- A fold whose every step keeps local time keeps it. -/
theorem State.foldl_now {α : Type} {f : State → α → State} (h : ∀ s a, (f s a).now = s.now) (s : State) (l : List α) :
    (l.foldl f s).now = s.now := by
  induction l generalizing s with
  | nil => rfl
  | cons a l ih => rw [List.foldl_cons, ih, h]

/-- An update made only under a condition keeps local time where the update does. -/
theorem State.ite_now {c : Prop} [Decidable c] {s t : State} (h : t.now = s.now) : (if c then t else s).now = s.now := by
  split
  · exact h
  · rfl

@[simp] theorem State.pad_now (s : State) (e : Emit) : (s.pad e).now = s.now := by
  unfold State.pad
  split <;> rfl

@[simp] theorem State.stopPins_now (s : State) : s.stopPins.now = s.now := by
  unfold State.stopPins
  split
  · rfl
  refine (State.ite_now (State.emit_now _ _)).trans ?_
  refine (State.ite_now (State.emit_now _ _)).trans ?_
  refine (State.foldl_now (fun u n => u.emit_now _) _ _).trans ?_
  refine (State.foldl_now (fun u p => u.emit_now _) _ _).trans ?_
  exact State.foldl_now (fun u pl => State.ite_now (u.emit_now _)) s _

@[simp] theorem State.pinsOff_now (s : State) : s.pinsOff.now = s.now := by
  unfold State.pinsOff
  rw [State.foldl_now (fun u c => u.pad_now _), State.stopPins_now]

/-- A timer that is started stands behind all others; an earlier start of it is gone. -/
theorem State.start_timers (s : State) (t : TimerId) (ns : Nat) : (s.start t ns).timers = (s.stop t).timers ++ [(t, s.now + ns)] := rfl

theorem State.stop_start (s : State) (t : TimerId) (ns : Nat) : (s.start t ns).stop t = s.stop t := by
  simp [State.start, State.stop]

/-- A timer that has been started expires when its time has passed. -/
theorem State.expire_start (s : State) (t : TimerId) (ns : Nat) :
    (s.start t ns).expire t = some { s.stop t with now := s.now + ns } := by
  have hstopped : (s.stop t).timers.find? (fun x => x.1 == t) = none := by simp [State.stop]
  have hfind : (s.start t ns).timers.find? (fun x => x.1 == t) = some (t, s.now + ns) := by
    simp [State.start_timers, List.find?_append, hstopped]
  simp [State.expire, hfind, State.stop_start]

/-- Step 7 of R452 for SL3, with neither a warning nor a wake source since step 4, ends by starting the second of R456. -/
theorem State.sleepDown_sl3 (s : State) {x : Sleep} (hlevel : x.level = 3) (hpfw : x.pfw = false) (hwoken : x.woken = none) :
    ∃ u : State, s.sleepDown x = u.start .sl3Hold 1000000000 ∧ u.now = s.now := by
  simp only [State.sleepDown, hlevel, hpfw, hwoken]
  refine ⟨_, rfl, ?_⟩
  dsimp only
  split <;> simp

/-- A write outside PWR_STATUS leaves the node in its sleep level. -/
theorem State.asleep_set {f : Fld} (s : State) (v i : Nat) (h : f.reg.ctorIdx < 512 ∧ Reg.PWR_STATUS.ctorIdx ≠ f.reg.ctorIdx) :
    (s.set f v i).asleep = s.asleep := by
  have hstate : (s.set f v i).pwState = s.pwState := s.get_set_reg ⟨⟨by decide, h.1⟩, h.2⟩
  simp [State.asleep, hstate]

/-- A wake source within the second of R456 is held; the node stays as deep asleep, and no timer is touched. -/
theorem State.wakeFrom_held {s : State} (b : Nat) (hasleep : s.asleep = 3) (hruns : s.runs .sl3Hold = true) (hnone : s.pw.pendWake = none) :
    (s.wakeFrom b).pw.pendWake = some b ∧ (s.wakeFrom b).asleep = 3 ∧ (s.wakeFrom b).timers = s.timers := by
  have hheld : s.wakeFrom b = ckInputs.foldl (fun s f => s.set f 0) { s with pw.pendWake := some b } := by
    simp [State.wakeFrom, hasleep, hruns, hnone]
  have hdeep : State.asleep { s with pw.pendWake := some b } = 3 := hasleep
  rw [hheld]
  simp only [ckInputs, List.foldl_cons, List.foldl_nil]
  refine ⟨by simp, ?_, by simp⟩
  simpa (disch := decide) only [State.asleep_set] using hdeep

/-- After the second of R456 a wake source ends SL3 at once. -/
theorem State.wakeFrom_sl3 {s : State} (b : Nat) (hasleep : s.asleep = 3) (hover : s.runs .sl3Hold = false) :
    s.wakeFrom b = (s.mainReset true).showWake b := by
  simp [State.wakeFrom, hasleep, hover]

/-- The meaning of SL3_HOLD_END. -/
theorem exec_sl3HoldEnd (s : State) : exec .sl3HoldEnd s = execSl3HoldEnd s := rfl

/-- At the end of the second of R456 the held source ends SL3. -/
theorem exec_sl3HoldEnd_wakes {s u : State} {b : Nat} (hend : s.expire .sl3Hold = some u) (hheld : u.pw.pendWake = some b)
    (hasleep : u.asleep = 3) : exec .sl3HoldEnd s = .next ((u.mainReset true).showWake b) := by
  rw [exec_sl3HoldEnd]
  simp [execSl3HoldEnd, hend, hheld, hasleep]

/-- Settles O58: step 7 starts the second, within it a source is held, at its end the held source wakes, after it any source does. -/
theorem wakeHeldForOneSecond : Obligations.WakeHeldForOneSecond := by
  unfold Obligations.WakeHeldForOneSecond
  refine ⟨?_, fun s b => s.wakeFrom_held b, fun s u b => exec_sl3HoldEnd_wakes, fun s b => s.wakeFrom_sl3 b⟩
  intro s x hlevel hpfw hwoken
  obtain ⟨u, hdown, hnow⟩ := s.sleepDown_sl3 hlevel hpfw hwoken
  rw [hdown, u.expire_start]
  exact ⟨_, rfl, congrArg (· + 1000000000) hnow⟩

end Sys2Proof.Machine

/-! ## The balls of the tiles (R517, R518) -/

namespace Sys2Proof.Machine

/-- Row by row, Table 22.4: the slot decides the edge, the edge where depth and place stand. -/
theorem tileBall_top {t : Nat} (d w : Nat) (ht : t ≤ 10) : tileBall t d w = { row := d, col := 5 * t + w } := by
  have hedge : t / 11 = 0 := by omega
  have hslot : t % 11 = t := by omega
  simp [tileBall, hedge, hslot]

theorem tileBall_right {t : Nat} (d w : Nat) (hlow : 11 ≤ t) (hhigh : t ≤ 21) :
    tileBall t d w = { row := 5 * (t - 11) + w, col := 64 - d } := by
  have hedge : t / 11 = 1 := by omega
  have hslot : t % 11 = t - 11 := by omega
  simp [tileBall, hedge, hslot]

theorem tileBall_bottom {t : Nat} (d w : Nat) (hlow : 22 ≤ t) (hhigh : t ≤ 32) :
    tileBall t d w = { row := 64 - d, col := 64 - (5 * (t - 22) + w) } := by
  have hedge : t / 11 = 2 := by omega
  have hslot : t % 11 = t - 22 := by omega
  simp [tileBall, hedge, hslot]

theorem tileBall_left {t : Nat} (d w : Nat) (hlow : 33 ≤ t) (hhigh : t ≤ 43) :
    tileBall t d w = { row := 64 - (5 * (t - 33) + w), col := d } := by
  have hedge : t / 11 = 3 := by omega
  have hslot : t % 11 = t - 33 := by omega
  simp [tileBall, hedge, hslot]

/-- The tile rows of Table 22.3, which cover the four edges as a pinwheel. -/
theorem regionOf_top {r c : Nat} (hr : r ≤ 8) (hc : c ≤ 55) : regionOf r c = .tile ((c - 1) / 5) r ((c - 1) % 5 + 1) := by
  simp [regionOf, hr, hc]

theorem regionOf_right {r c : Nat} (hr : r ≤ 55) (hc : 56 ≤ c) :
    regionOf r c = .tile (11 + (r - 1) / 5) (64 - c) ((r - 1) % 5 + 1) := by
  have htop : ¬ c ≤ 55 := by omega
  simp [regionOf, htop, hr, hc]

theorem regionOf_bottom {r c : Nat} (hr : 56 ≤ r) (hc : 9 ≤ c) :
    regionOf r c = .tile (22 + (63 - c) / 5) (64 - r) ((63 - c) % 5 + 1) := by
  have htop : ¬ r ≤ 8 := by omega
  have hright : ¬ r ≤ 55 := by omega
  simp [regionOf, htop, hright, hr, hc]

theorem regionOf_left {r c : Nat} (hr : 9 ≤ r) (hc : c ≤ 8) :
    regionOf r c = .tile (33 + (63 - r) / 5) c ((63 - r) % 5 + 1) := by
  have htop : ¬ r ≤ 8 := by omega
  have hright : ¬ 56 ≤ c := by omega
  have hbottom : ¬ 9 ≤ c := by omega
  simp [regionOf, htop, hright, hbottom, hc]

/-- R518 and Table 22.3 agree: the ball of a slot, depth and position lies in the tile of just these. -/
theorem regionOf_tileBall {t d w : Nat} (ht : t ≤ 43) (hd : 1 ≤ d) (hd' : d ≤ 8) (hw : 1 ≤ w) (hw' : w ≤ 5) :
    regionOf (tileBall t d w).row (tileBall t d w).col = .tile t d w := by
  rcases (by omega : t ≤ 10 ∨ (11 ≤ t ∧ t ≤ 21) ∨ (22 ≤ t ∧ t ≤ 32) ∨ 33 ≤ t) with top | ⟨hlow, hhigh⟩ | ⟨hlow, hhigh⟩ | left
  · rw [tileBall_top d w top, regionOf_top (by simpa) (by dsimp only; omega)]
    simp only [Region.tile.injEq, true_and]
    omega
  · rw [tileBall_right d w hlow hhigh, regionOf_right (by dsimp only; omega) (by dsimp only; omega)]
    simp only [Region.tile.injEq]
    omega
  · rw [tileBall_bottom d w hlow hhigh, regionOf_bottom (by dsimp only; omega) (by dsimp only; omega)]
    simp only [Region.tile.injEq]
    omega
  · rw [tileBall_left d w left ht, regionOf_left (by dsimp only; omega) (by simpa)]
    simp only [Region.tile.injEq, true_and]
    omega

/-! ## The nets of the supply band and of the core field (R522, R523) -/

/-- The depth of a ball in the supply band (R522). -/
def supplyDepth (r c : Nat) : Nat := min (min (r - 8) (c - 8)) (min (56 - r) (56 - c))

/-- The supply band is what the tiles leave (rows and columns 9 to 55), less the square of the two fields (13 to 51 each). -/
theorem regionOf_eq_supply_iff (r c : Nat) :
    regionOf r c = .supply ↔ (9 ≤ r ∧ r ≤ 55 ∧ 9 ≤ c ∧ c ≤ 55) ∧ ¬ (13 ≤ r ∧ r ≤ 51 ∧ 13 ≤ c ∧ c ≤ 51) := by
  simp only [regionOf, Bool.and_eq_true, decide_eq_true_eq]
  repeat' split
  all_goals
    simp only [reduceCtorEq, false_iff, true_iff]
    omega

/-- The band is four balls deep. -/
theorem supplyDepth_bounds {r c : Nat} (h : regionOf r c = .supply) : 1 ≤ supplyDepth r c ∧ supplyDepth r c ≤ 4 := by
  obtain ⟨hband, hfields⟩ := (regionOf_eq_supply_iff r c).1 h
  unfold supplyDepth
  omega

theorem netOf_supply {r c : Nat} (h : regionOf r c = .supply) :
    netOf r c = if (r + c) % 2 = 1 then .vss else if supplyDepth r c = 4 then .vddhSer else .vddaSer := by
  simp [netOf, h, supplyNet, supplyDepth]

theorem netOf_core {r c : Nat} (h : regionOf r c = .core) :
    netOf r c = if (r + c) % 2 = 1 then .vss else if c % 4 = 0 then .vddSram else .vddCore := by
  simp [netOf, h, coreNet]

/-- Settles O60: Table 22.4 edge by edge, its inverse in Table 22.3, and the two alternating fields. -/
theorem packageNets : Obligations.PackageNets := by
  unfold Obligations.PackageNets
  refine ⟨fun t d w ht hd hd' hw hw' => ⟨tileBall_top d w, tileBall_right d w, tileBall_bottom d w,
    fun left => tileBall_left d w left ht, regionOf_tileBall ht hd hd' hw hw'⟩, ?_, ?_⟩
  · rintro r c k hsupply - - - - hk
    obtain rfl : k = supplyDepth r c := hk
    obtain ⟨hlow, hhigh⟩ := supplyDepth_bounds hsupply
    rw [netOf_supply hsupply]
    refine ⟨hlow, hhigh, fun odd => by simp [odd], fun even hk => ?_, fun even hk => by simp [even, hk]⟩
    have inner : supplyDepth r c ≠ 4 := by omega
    simp [even, inner]
  · intro r c hcore
    rw [netOf_core hcore]
    exact ⟨fun odd => by simp [odd], fun even col => by simp [even, col], fun even col => by simp [even, col]⟩

end Sys2Proof.Machine

/-! ## The tie of a step to its command, and the state after reset -/

namespace Sys2Proof.Machine

/-- Settles O47: a step with a command waiting is that command's answer on the rest of the queue, by the definition of `step`. -/
theorem stepRunsFrontCommand : Obligations.StepRunsFrontCommand := by
  intro c q s
  rfl

/-- Settles O49: nothing is listed at reset, so the table is canonical, every key is in width, and every register reads its reset value. -/
theorem resetKeepsInvariant : Obligations.ResetKeepsInvariant :=
  ⟨⟨rfl, nofun⟩, fun _ _ => rfl, rfl⟩

end Sys2Proof.Machine

/-! ## The parity of a flit (R52) -/

namespace Sys2Proof.Machine

theorem xor_left_comm_nat (a b c : Nat) : a ^^^ (b ^^^ c) = b ^^^ (a ^^^ c) := by
  rw [← Nat.xor_assoc, Nat.xor_comm a b, Nat.xor_assoc]

/-- Induction on a list from its end. -/
theorem list_induction_append {α : Type} {motive : List α → Prop} (xs : List α) (nil : motive [])
    (append_singleton : ∀ xs x, motive xs → motive (xs ++ [x])) : motive xs := by
  have h : ∀ ys : List α, motive ys.reverse := fun ys => by
    induction ys with
    | nil => exact nil
    | cons y ys ih => rw [List.reverse_cons]; exact append_singleton _ y ih
  exact List.reverse_reverse xs ▸ h xs.reverse

/-- Doubling in GF(2^8) is additive. -/
theorem gfTwice_xor (a b : Nat) : gfTwice (a ^^^ b) = gfTwice a ^^^ gfTwice b := by
  have hdouble : (a ^^^ b) * 2 = a * 2 ^^^ b * 2 := by
    simpa [Nat.shiftLeft_eq] using (Nat.shiftLeft_xor_distrib (a := a) (b := b) (i := 1))
  unfold gfTwice
  rw [Nat.testBit_xor, hdouble]
  cases a.testBit 7 <;> cases b.testBit 7 <;> simp [Nat.xor_assoc, xor_left_comm_nat, Nat.xor_comm]

/-- One step of the product, from bit `n` of the second factor. -/
def gfMulStep (b : Nat) (x : Nat × Nat) (n : Nat) : Nat × Nat := (gfTwice x.1, if b.testBit n then x.2 ^^^ x.1 else x.2)

theorem gfMul_eq (a b : Nat) : gfMul a b = ((List.range 8).foldl (gfMulStep b) (a, 0)).2 := rfl

theorem gfMulStep_xor (b n : Nat) (x y : Nat × Nat) :
    gfMulStep b (x.1 ^^^ y.1, x.2 ^^^ y.2) n =
      ((gfMulStep b x n).1 ^^^ (gfMulStep b y n).1, (gfMulStep b x n).2 ^^^ (gfMulStep b y n).2) := by
  unfold gfMulStep
  split <;> simp [gfTwice_xor, xor_left_comm_nat, Nat.xor_comm]

theorem foldl_gfMulStep_xor (b : Nat) (ns : List Nat) (x y : Nat × Nat) :
    ns.foldl (gfMulStep b) (x.1 ^^^ y.1, x.2 ^^^ y.2) =
      ((ns.foldl (gfMulStep b) x).1 ^^^ (ns.foldl (gfMulStep b) y).1, (ns.foldl (gfMulStep b) x).2 ^^^ (ns.foldl (gfMulStep b) y).2) := by
  induction ns generalizing x y with
  | nil => rfl
  | cons n ns ih => simp only [List.foldl_cons, gfMulStep_xor, ih]

/-- The product is additive in its first factor. -/
theorem gfMul_xor_left (a c b : Nat) : gfMul (a ^^^ c) b = gfMul a b ^^^ gfMul c b := by
  have h := foldl_gfMulStep_xor b (List.range 8) (a, 0) (c, 0)
  simp only [Nat.xor_self] at h
  rw [gfMul_eq, h, gfMul_eq, gfMul_eq]

theorem gfMul_zero_left (b : Nat) : gfMul 0 b = 0 := by
  simpa using gfMul_xor_left 0 0 b

theorem gfTwice_lt {a : Nat} (h : a < 256) : gfTwice a < 256 :=
  (by decide +kernel : ∀ a < 256, gfTwice a < 256) a h

theorem gfMulStep_lt (b n : Nat) {x : Nat × Nat} (h : x.1 < 256 ∧ x.2 < 256) : (gfMulStep b x n).1 < 256 ∧ (gfMulStep b x n).2 < 256 := by
  refine ⟨gfTwice_lt h.1, ?_⟩
  unfold gfMulStep
  split
  · exact Nat.xor_lt_two_pow (n := 8) h.2 h.1
  · exact h.2

/-- The product of a byte with anything is a byte. -/
theorem gfMul_lt {a : Nat} (b : Nat) (h : a < 256) : gfMul a b < 256 := by
  rw [gfMul_eq]
  have hstart : (a, 0).1 < 256 ∧ (a, 0).2 < 256 := ⟨h, Nat.zero_lt_succ _⟩
  exact (List.foldlRecOn (motive := fun x => x.1 < 256 ∧ x.2 < 256) (List.range 8) (gfMulStep b) hstart
    fun _ hx n _ => gfMulStep_lt b n hx).2

/-- A number below 2^(k+1) that is not below 2^k has bit `k` on top of its rest. -/
theorem eq_two_pow_xor_mod {f k : Nat} (hlow : ¬ f < 2 ^ k) (hf : f < 2 ^ (k + 1)) : f = 2 ^ k ^^^ f % 2 ^ k := by
  have hhigh : f / 2 ^ k = 1 := Nat.div_eq_of_lt_le (by omega) (by omega)
  apply Nat.eq_of_testBit_eq
  intro j
  rw [Nat.testBit_xor, Nat.testBit_two_pow, Nat.testBit_mod_two_pow]
  rcases Nat.lt_trichotomy j k with below | rfl | above
  · have hne : k ≠ j := by omega
    simp [below, hne]
  · simp [Nat.testBit, Nat.shiftRight_eq_div_pow, hhigh]
  · have hne : k ≠ j := by omega
    have hclear : f.testBit j = false := Nat.testBit_lt_two_pow (Nat.lt_of_lt_of_le hf (Nat.pow_le_pow_right (by decide) above))
    simp [hne, hclear]

/-- An additive function that is 0 at the powers of two below 2^k is 0 below 2^k. -/
theorem eq_zero_of_xor_additive {φ : Nat → Nat} (hadd : ∀ a b, φ (a ^^^ b) = φ a ^^^ φ b) {k : Nat} (hpow : ∀ n < k, φ (2 ^ n) = 0)
    {f : Nat} (hf : f < 2 ^ k) : φ f = 0 := by
  induction k generalizing f with
  | zero =>
    have hzero : φ 0 = 0 := by simpa using hadd 0 0
    rwa [(by omega : f = 0)]
  | succ k ih =>
    have low := fun {g : Nat} (hg : g < 2 ^ k) => ih (fun n hn => hpow n (by omega)) hg
    by_cases hlow : f < 2 ^ k
    · exact low hlow
    · rw [eq_two_pow_xor_mod hlow hf, hadd, hpow k (by omega), low (Nat.mod_lt _ (Nat.two_pow_pos k)), Nat.xor_self]

/-- Horner's rule for a word at αⁱ, from the value `a` of what stands before it. -/
def horner (i a : Nat) (xs : List Nat) : Nat := xs.foldl (fun a x => gfMul a (gfPow i) ^^^ x) a

theorem rsSyndrome_eq (xs : List Nat) (i : Nat) : rsSyndrome xs i = horner i 0 xs := rfl

theorem horner_append (i a : Nat) (xs ys : List Nat) : horner i a (xs ++ ys) = horner i (horner i a xs) ys := List.foldl_append ..

/-- The value of a sum of two words of one length is the sum of their values. -/
theorem horner_xor (i a b : Nat) {xs ys : List Nat} (h : xs.length = ys.length) :
    horner i (a ^^^ b) (List.zipWith (· ^^^ ·) xs ys) = horner i a xs ^^^ horner i b ys := by
  induction xs generalizing a b ys with
  | nil =>
    obtain rfl := List.length_eq_zero_iff.1 h.symm
    rfl
  | cons x xs ih =>
    obtain ⟨y, ys, rfl⟩ := List.exists_cons_of_length_eq_add_one h.symm
    simp only [horner, List.zipWith_cons_cons, List.foldl_cons] at ih ⊢
    rw [← ih _ _ (by simpa using h), gfMul_xor_left]
    congr 1
    simp only [Nat.xor_assoc, xor_left_comm_nat]

/-- The generator times a byte. -/
def genTimes (f : Nat) : List Nat := (rsGen.drop 1).map (gfMul f)

theorem genTimes_xor (a b : Nat) : genTimes (a ^^^ b) = List.zipWith (· ^^^ ·) (genTimes a) (genTimes b) := by
  simp only [genTimes, List.zipWith_map, List.zipWith_self]
  exact List.map_congr_left fun g _ => gfMul_xor_left a b g

theorem rsGen_length : rsGen.length = 9 := by decide +kernel

@[simp] theorem genTimes_length (f : Nat) : (genTimes f).length = 8 := by simp [genTimes, rsGen_length]

/-- Each αⁱ, i = 0 to 7, is a root of the generator, and so of each multiple of it by a byte. -/
theorem horner_genTimes {i f : Nat} (hi : i < 8) (hf : f < 256) : horner i f (genTimes f) = 0 := by
  refine eq_zero_of_xor_additive (φ := fun f => horner i f (genTimes f)) (k := 8) (fun a b => ?_) ?_ hf
  · rw [genTimes_xor, horner_xor _ _ _ (by simp)]
  · exact (by decide +kernel : ∀ i < 8, ∀ n < 8, horner i (2 ^ n) (genTimes (2 ^ n)) = 0) i hi

/-- One byte of the division by the generator: `r` is the remainder so far. -/
def parityStep (r : List Nat) (x : Nat) : List Nat := List.zipWith (· ^^^ ·) (r.drop 1 ++ [0]) (genTimes (x ^^^ r.headD 0))

theorem rsParity_eq (xs : List Nat) : rsParity xs = xs.foldl parityStep (List.replicate 8 0) := by
  unfold rsParity
  congr 1
  funext r x
  simp only [parityStep, genTimes, List.zipWith_map_right, List.zip_eq_zipWith, List.map_zipWith]

/-- A remainder: eight bytes. -/
def isRemainder (r : List Nat) : Prop := r.length = 8 ∧ ∀ b ∈ r, b < 256

theorem isRemainder.cons {r : List Nat} (h : isRemainder r) : ∃ b bs, r = b :: bs ∧ b < 256 ∧ bs.length = 7 ∧ ∀ c ∈ bs, c < 256 := by
  obtain ⟨hlen, hbytes⟩ := h
  obtain ⟨b, bs, rfl⟩ := List.exists_cons_of_length_eq_add_one hlen
  obtain ⟨hb, hbs⟩ := List.forall_mem_cons.1 hbytes
  exact ⟨b, bs, rfl, hb, by simpa using hlen, hbs⟩

theorem zipWith_xor_lt {xs ys : List Nat} (hx : ∀ b ∈ xs, b < 256) (hy : ∀ b ∈ ys, b < 256) :
    ∀ b ∈ List.zipWith (· ^^^ ·) xs ys, b < 256 := by
  intro b hb
  rw [← List.map_uncurry_zip_eq_zipWith] at hb
  obtain ⟨⟨x, y⟩, hmem, rfl⟩ := List.mem_map.1 hb
  exact Nat.xor_lt_two_pow (n := 8) (hx x (List.of_mem_zip hmem).1) (hy y (List.of_mem_zip hmem).2)

theorem genTimes_lt {f : Nat} (hf : f < 256) : ∀ b ∈ genTimes f, b < 256 := by
  intro b hb
  obtain ⟨g, -, rfl⟩ := List.mem_map.1 hb
  exact gfMul_lt g hf

theorem isRemainder.parityStep {r : List Nat} (h : isRemainder r) {x : Nat} (hx : x < 256) : isRemainder (parityStep r x) := by
  obtain ⟨b, bs, rfl, hb, hlen, hbs⟩ := h.cons
  have hf : x ^^^ b < 256 := Nat.xor_lt_two_pow (n := 8) hx hb
  refine ⟨by simp [Machine.parityStep, hlen], zipWith_xor_lt ?_ (genTimes_lt hf)⟩
  simpa [or_imp, forall_and] using hbs

/-- If the word so far followed by its remainder has value 0, it still has after one more byte. -/
theorem horner_parityStep {i a x : Nat} {r : List Nat} (hi : i < 8) (hx : x < 256) (hr : isRemainder r) (h : horner i a r = 0) :
    horner i (gfMul a (gfPow i) ^^^ x) (parityStep r x) = 0 := by
  obtain ⟨b, bs, rfl, hb, hlen, -⟩ := hr.cons
  have hf : x ^^^ b < 256 := Nat.xor_lt_two_pow (n := 8) hx hb
  have hshift : horner i (gfMul a (gfPow i) ^^^ b) (bs ++ [0]) = 0 := by
    have hnext : horner i a ((b :: bs) ++ [0]) = 0 := by rw [horner_append, h]; simp [horner, gfMul_zero_left]
    exact hnext
  have hsplit : gfMul a (gfPow i) ^^^ x = (gfMul a (gfPow i) ^^^ b) ^^^ (x ^^^ b) := by
    rw [Nat.xor_comm x b, Nat.xor_assoc, ← Nat.xor_assoc b b, Nat.xor_self, Nat.zero_xor]
  calc horner i (gfMul a (gfPow i) ^^^ x) (parityStep (b :: bs) x)
      = horner i ((gfMul a (gfPow i) ^^^ b) ^^^ (x ^^^ b)) (List.zipWith (· ^^^ ·) (bs ++ [0]) (genTimes (x ^^^ b))) := by rw [hsplit]; rfl
    _ = horner i (gfMul a (gfPow i) ^^^ b) (bs ++ [0]) ^^^ horner i (x ^^^ b) (genTimes (x ^^^ b)) := horner_xor _ _ _ (by simp [hlen])
    _ = 0 := by rw [hshift, horner_genTimes hi hf, Nat.xor_self]

/-- The remainder after any bytes: eight bytes that bring the word's value to 0 at every root. -/
theorem rsParity_spec (xs : List Nat) (hxs : ∀ x ∈ xs, x < 256) :
    isRemainder (rsParity xs) ∧ ∀ i < 8, horner i 0 (xs ++ rsParity xs) = 0 := by
  rw [rsParity_eq]
  induction xs using list_induction_append with
  | nil => exact ⟨⟨rfl, by decide⟩, by decide +kernel⟩
  | append_singleton xs x ih =>
    obtain ⟨hbytes, hx⟩ : (∀ y ∈ xs, y < 256) ∧ x < 256 := by simpa [or_imp, forall_and] using hxs
    obtain ⟨hr, hzero⟩ := ih hbytes
    rw [List.foldl_append, List.foldl_cons, List.foldl_nil]
    refine ⟨hr.parityStep hx, fun i hi => ?_⟩
    rw [List.append_assoc, horner_append, List.singleton_append]
    exact horner_parityStep hi hx hr (by rw [← horner_append]; exact hzero i hi)

/-- Settles O54: the parity is the remainder of the division by the generator, so the flit is a multiple of it. -/
theorem flitsAreCodeWords : Obligations.FlitsAreCodeWords := by
  intro seq xs hlen hbytes
  have hword : ∀ b ∈ xs ++ (List.range 8).map (fun i => flitCrc seq xs / 256 ^ (7 - i) % 256), b < 256 := by
    intro b hb
    rcases List.mem_append.1 hb with data | crc
    · exact hbytes b data
    · obtain ⟨i, -, rfl⟩ := List.mem_map.1 crc
      exact Nat.mod_lt _ (by decide)
  obtain ⟨⟨hparity, hpbytes⟩, hzero⟩ := rsParity_spec _ hword
  refine ⟨?_, ?_, ?_⟩
  · simp [flitBytes, hlen, hparity]
  · intro b hb
    exact (List.mem_append.1 hb).elim (hword b) (hpbytes b)
  · simp only [rsOk, rsSyndrome_eq, List.all_eq_true, List.mem_range, beq_iff_eq]
    exact hzero

end Sys2Proof.Machine

/-! ## What every operation keeps (R12 and the queue of commands) -/

namespace Sys2Proof.Machine

/-- `t` stands where operations on `s` can lead: the table of registers stays canonical and within its widths, the queue of commands is untouched,
and local time has not gone back. -/
structure State.Keeps (s t : State) : Prop where
  inv : s.Inv → t.Inv
  pending : t.pending = s.pending
  now_le : s.now ≤ t.now

/-- The command ends in a next state, one that operations on `s` can lead to. -/
def State.Reaches (s : State) (o : Res) : Prop := ∃ t, o = .next t ∧ s.Keeps t

variable {r s t u : State} {c : Prop} [Decidable c]

namespace State.Keeps

theorem refl (s : State) : s.Keeps s := ⟨id, rfl, Nat.le_refl _⟩

theorem trans (h : r.Keeps s) (k : s.Keeps t) : r.Keeps t :=
  ⟨fun hr => k.inv (h.inv hr), k.pending.trans h.pending, Nat.le_trans h.now_le k.now_le⟩

/-- An update of parts other than the registers, the queue and time. -/
theorem upd {ring links ln sc jnl spn win acks nextAck part pcie mb img fc boot pw ck pst hold sch dm lb sp pmon evq timers inbox reports out fwFeature free}
    (hs : r.Keeps s) : r.Keeps { fields := s.fields, now := s.now, pending := s.pending, ring, links, ln, sc, jnl, spn, win, acks, nextAck, part, pcie
                                 mb, img, fc, boot, pw, ck, pst, hold, sch, dm, lb, sp, pmon, evq, timers, inbox, reports, out, fwFeature, free } :=
  ⟨hs.inv, hs.pending, hs.now_le⟩

/-- An update that moves time on besides. -/
theorem later {ring links ln sc jnl spn win acks nextAck part pcie mb img fc boot pw ck pst hold sch dm lb sp pmon evq timers inbox reports out fwFeature free now}
    (hs : r.Keeps s) (hn : s.now ≤ now) :
    r.Keeps { fields := s.fields, now := now, pending := s.pending, ring, links, ln, sc, jnl, spn, win, acks, nextAck, part, pcie
              mb, img, fc, boot, pw, ck, pst, hold, sch, dm, lb, sp, pmon, evq, timers, inbox, reports, out, fwFeature, free } :=
  ⟨hs.inv, hs.pending, Nat.le_trans hs.now_le hn⟩

theorem ite (ht : r.Keeps t) (hu : r.Keeps u) : r.Keeps (if c then t else u) := by
  split
  · exact ht
  · exact hu

/-- Both branches go on from `s`. -/
theorem branch (hs : r.Keeps s) (ht : r.Keeps s → r.Keeps t) (hu : r.Keeps s → r.Keeps u) : r.Keeps (if c then t else u) := .ite (ht hs) (hu hs)

/-- One branch goes on from `s`, the other stays there. -/
theorem when (hs : r.Keeps s) (ht : r.Keeps s → r.Keeps t) : r.Keeps (if c then t else s) := .ite (ht hs) hs
theorem whenNot (hs : r.Keeps s) (ht : r.Keeps s → r.Keeps t) : r.Keeps (if c then s else t) := .ite hs (ht hs)

theorem fst {α : Type} {a : α} (ht : r.Keeps t) : r.Keeps (t, a).1 := ht

theorem snd {α : Type} {a : α} (ht : r.Keeps t) : r.Keeps (a, t).2 := ht

theorem of_eq_pair {α : Type} {x : α × State} {a : α} (h : x = (a, t)) (hx : r.Keeps x.2) : r.Keeps t := by
  rwa [h] at hx

theorem ite_fst {α : Type} {x y : State × α} (ht : r.Keeps x.1) (hu : r.Keeps y.1) : r.Keeps (if c then x else y).1 := by
  split
  · exact ht
  · exact hu

theorem ite_snd {α : Type} {x y : α × State} (ht : r.Keeps x.2) (hu : r.Keeps y.2) : r.Keeps (if c then x else y).2 := by
  split
  · exact ht
  · exact hu

theorem foldl {α : Type} {f : State → α → State} {xs : List α} (hs : r.Keeps s) (hf : ∀ t a, r.Keeps t → r.Keeps (f t a)) :
    r.Keeps (xs.foldl f s) :=
  List.foldlRecOn xs f hs fun t ht a _ => hf t a ht

/-- A field written is cut to its width, and its key stays at its place. -/
theorem set {f : Fld} {v i : Nat} (hs : r.Keeps s) : r.Keeps (s.set f v i) := by
  refine ⟨fun hr => ?_, hs.pending, hs.now_le⟩
  obtain ⟨hwf, hfit⟩ := hs.inv hr
  refine ⟨Tab.put_wf _ _ _ _ hwf, fun e he => ?_⟩
  simp only [State.set, Tab.put] at he
  split at he
  · exact hfit e (Tab.mem_erase he)
  · rcases Tab.mem_insert he with rfl | old
    · exact ⟨f, i, rfl, Nat.mod_lt _ (Nat.two_pow_pos _)⟩
    · exact hfit e old

/-- Leaving registers out keeps the rest. -/
theorem filter {p : Nat × Nat → Bool} (hs : r.Keeps s) (hf : t.fields = s.fields.filter p) (hp : t.pending = s.pending) (hn : t.now = s.now) :
    r.Keeps t := by
  refine ⟨fun hr => ?_, hp.trans hs.pending, hn ▸ hs.now_le⟩
  obtain ⟨hwf, hfit⟩ := hs.inv hr
  unfold State.Inv
  rw [hf]
  exact ⟨Tab.filter_wf _ _ _ hwf, fun e he => hfit e (List.mem_filter.1 he).1⟩

/-- Time is moved to the end of the timer. -/
theorem expire {x : TimerId} (hs : r.Keeps s) (h : s.expire x = some u) : r.Keeps u := by
  unfold State.expire at h
  split at h
  · obtain rfl := Option.some.inj h
    exact .later (s := s) hs (Nat.le_max_left ..)
  · exact nomatch h

end State.Keeps

namespace State.Reaches

theorem next (hs : r.Keeps s) : r.Reaches (.next s) := ⟨s, rfl, hs⟩

theorem ite {x y : Res} (hx : r.Reaches x) (hy : r.Reaches y) : r.Reaches (if c then x else y) := by
  split
  · exact hx
  · exact hy

end State.Reaches

end Sys2Proof.Machine

/-! ## One operation at a time

Each theorem carries `Keeps` through one operation of the model, by the operations and the branches that its definition consists of; the section
headers are the names of the model's files. An `exec…` theorem says that the command ends in a next state that keeps the same. -/

namespace Sys2Proof.Machine.State

variable {r s t : State}

namespace Keeps

/-! ### Ops -/

theorem flag {f : Fld} {b : Bool} {i : Nat} (hs : r.Keeps s) : r.Keeps (s.flag f b i) :=
  hs.set

theorem unset {f : Fld} {i : Nat} (hs : r.Keeps s) : r.Keeps (s.unset f i) :=
  hs.set

theorem unsetReg {r' : Reg} {i : Nat} (hs : r.Keeps s) : r.Keeps (s.unsetReg r' i) :=
  hs.foldl fun _ _ h => h.unset

theorem bump {f : Fld} {i n : Nat} (hs : r.Keeps s) : r.Keeps (s.bump f i n) :=
  hs.set

theorem bumpSat {f : Fld} {i : Nat} (hs : r.Keeps s) : r.Keeps (s.bumpSat f i) :=
  hs.set

theorem write {f : Fld} {v i : Nat} (hs : r.Keeps s) : r.Keeps (s.write f v i) := by
  unfold State.write
  extract_lets -underBinder -merge -useContext +onlyGivenNames v1 old2
  split
  · exact hs.set
  · exact hs.set
  · exact hs.set
  · exact hs
  · exact hs
  · exact hs

theorem evt {n k : Nat} (hs : r.Keeps s) : r.Keeps (s.evt n k) :=
  hs.bump

theorem evtPort {p j k : Nat} (hs : r.Keeps s) : r.Keeps (s.evtPort p j k) :=
  hs.evt

theorem evtFab {p j k : Nat} (hs : r.Keeps s) : r.Keeps (s.evtFab p j k) :=
  hs.evt

theorem evtPart {q j k : Nat} (hs : r.Keeps s) : r.Keeps (s.evtPart q j k) :=
  hs.evt

theorem evtJnl {d j k : Nat} (hs : r.Keeps s) : r.Keeps (s.evtJnl d j k) :=
  hs.evt

theorem evtNode {g j k : Nat} (hs : r.Keeps s) : r.Keeps (s.evtNode g j k) :=
  hs.evt

theorem stop {t : TimerId} (hs : r.Keeps s) : r.Keeps (s.stop t) :=
  hs.upd

theorem start {t : TimerId} {ns : Nat} (hs : r.Keeps s) : r.Keeps (s.start t ns) :=
  hs.stop.upd

theorem startIfNot {t : TimerId} {ns : Nat} (hs : r.Keeps s) : r.Keeps (s.startIfNot t ns) :=
  .ite hs hs.start

theorem emit {e : Emit} (hs : r.Keeps s) : r.Keeps (s.emit e) :=
  hs.upd

theorem report {r' : Report} (hs : r.Keeps s) : r.Keeps (s.report r') :=
  hs.upd

theorem reportPort {unit cls port cause : Nat} (hs : r.Keeps s) : r.Keeps (s.reportPort unit cls port cause) :=
  hs.report

theorem fresh (hs : r.Keeps s) : r.Keeps (s.fresh).2 :=
  .snd hs.upd

theorem reportNode {unit cls cause : Nat} (hs : r.Keeps s) : r.Keeps (s.reportNode unit cls cause) :=
  hs.report

theorem raise {t : IntTx} (hs : r.Keeps s) : r.Keeps (s.raise t) :=
  hs.upd

theorem sendFw {part dst : Nat} {m : FwMsg} (hs : r.Keeps s) : r.Keeps (s.sendFw part dst m) :=
  hs.raise.evtNode

theorem signal {k v : Nat} (hs : r.Keeps s) : r.Keeps (s.signal k v) :=
  .ite hs.emit (.ite hs hs.upd)

theorem flushMsix (hs : r.Keeps s) : r.Keeps s.flushMsix :=
  hs.foldl fun _ _ h => .ite h.upd.emit h

theorem setQueue {k : Nat} {q : EvQueue} (hs : r.Keeps s) : r.Keeps (s.setQueue k q) :=
  hs.upd.set.flag.flag

theorem ringPlace {k node : Nat} {e : Ev} (hs : r.Keeps s) : r.Keeps (s.ringPlace k node e) :=
  hs.set.setQueue.evtNode.when fun h => h.signal

theorem queuePlace {k node : Nat} {e : Ev} (hs : r.Keeps s) : r.Keeps (s.queuePlace k node e) :=
  .ite hs.ringPlace (.ite hs.setQueue (.ite hs.setQueue hs.setQueue.bump.set.evtNode))

theorem raiseEvent {part : Nat} {e : Ev} (hs : r.Keeps s) : r.Keeps (s.raiseEvent part e) := by
  unfold State.raiseEvent
  split
  · exact hs.queuePlace
  · exact .ite hs.sendFw hs

theorem raiseFm {e : Ev} (hs : r.Keeps s) : r.Keeps (s.raiseFm e) :=
  .ite hs.raiseEvent hs

/-! ### FabricOps -/

theorem setK {p : Nat} (hs : r.Keeps s) : r.Keeps (s.setK p) :=
  hs.set

theorem setLink {p : Nat} {l : Link} (hs : r.Keeps s) : r.Keeps (s.setLink p l) :=
  hs.upd

theorem updLink {p : Nat} {f : Link → Link} (hs : r.Keeps s) : r.Keeps (s.updLink p f) :=
  hs.setLink

theorem sendMsg {p : Nat} {m : MgMsg} (hs : r.Keeps s) : r.Keeps (s.sendMsg p m) :=
  .ite hs.updLink hs

theorem setGrp {g : Nat} {x : Grp} (hs : r.Keeps s) : r.Keeps (s.setGrp g x) :=
  hs.upd

theorem setFlow {k : Nat} {f : SrcFlow} (hs : r.Keeps s) : r.Keeps (s.setFlow k f) :=
  hs.upd

theorem setDedup {k : Nat} {f : Dedup} (hs : r.Keeps s) : r.Keeps (s.setDedup k f) :=
  hs.upd

theorem grpTimers {g : Nat} {restart : Bool} (hs : r.Keeps s) : r.Keeps (s.grpTimers g restart) := by
  unfold State.grpTimers
  exact (Keeps.ite (.ite hs.start hs.startIfNot) hs.stop).branch (fun h1 => h1.stop) (fun h1 => h1.branch (fun h2 => h2.start) (fun h2 =>
    h2.startIfNot))

theorem release {c : Charge} {egress src n : Nat} (hs : r.Keeps s) : r.Keeps (s.release c egress src n) := by
  unfold State.release
  split
  · exact hs.set.set.upd
  · exact hs.set
  · exact hs
  · exact hs
  · exact hs

theorem lineUp {g egress : Nat} {sel : Entry → Bool} {drop : Bool} (hs : r.Keeps s) : r.Keeps (s.lineUp g egress sel drop) := by
  unfold State.lineUp
  extract_lets -underBinder -merge -useContext +onlyGivenNames es10 mine11 old12 _ s1
  refine hs.upd.foldl fun _ _ h1 => ?_
  extract_lets -underBinder -merge -useContext +onlyGivenNames s2 a _ s3
  have h2 : r.Keeps s2 := .ite h1.bump.evtJnl h1
  split
  · exact .ite h2.upd.release.upd h2.upd.upd
  · exact h2.upd.upd

theorem resendGrp {g : Nat} {all drop : Bool} (hs : r.Keeps s) : r.Keeps (s.resendGrp g all drop) :=
  .ite hs hs.lineUp.setGrp.grpTimers

theorem sendCtl {dst subtype number : Nat} {last : Bool} {items : List JItem} (hs : r.Keeps s) :
    r.Keeps (s.sendCtl dst subtype number last items) := by
  unfold State.sendCtl
  split
  · exact hs.updLink
  · exact hs

theorem sendPurge {k : Nat} (hs : r.Keeps s) : r.Keeps (s.sendPurge k) :=
  hs.sendCtl

theorem sendPurges {g : Nat} (hs : r.Keeps s) : r.Keeps (s.sendPurges g) :=
  hs.foldl fun _ _ h => .ite h h.sendPurge

theorem unreserved {g : Nat} {pl : Plane} {d : Dir} (hs : r.Keeps s) : r.Keeps (s.unreserved g pl d) :=
  .ite (hs.raiseEvent.whenNot fun h => h.raiseFm) hs

theorem moveGrp {g : Nat} {pl : Plane} {d : Dir} (hs : r.Keeps s) : r.Keeps (s.moveGrp g pl d) := by
  unfold State.moveGrp
  exact hs.unreserved.setGrp.stop.stop.sendPurges.resendGrp

theorem loseGrp {g : Nat} (hs : r.Keeps s) : r.Keeps (s.loseGrp g) :=
  hs.setGrp.stop.stop.stop.startIfNot

theorem placeGrp {g : Nat} (hs : r.Keeps s) : r.Keeps (s.placeGrp g) := by
  unfold State.placeGrp
  refine .ite hs ?_
  split
  · exact hs.setGrp
  · exact hs.loseGrp

theorem checkGrp {g : Nat} (hs : r.Keeps s) : r.Keeps (s.checkGrp g) := by
  unfold State.checkGrp
  extract_lets -underBinder -merge -useContext +onlyGivenNames x1 part2 dst3 s1 x2 h1 homeUp8 s2
  have h2 : r.Keeps s1 := by
    refine .ite hs ?_
    split
    · exact hs.moveGrp
    · exact hs.loseGrp
  have h3 : r.Keeps s2 := .ite h2.setGrp.stop h2
  exact .ite h3.startIfNot h3.stop

theorem checkGroups (hs : r.Keeps s) : r.Keeps s.checkGroups :=
  hs.foldl fun _ _ h => h.checkGrp

theorem refreshPlane {pl : Plane} (hs : r.Keeps s) : r.Keeps (s.refreshPlane pl) :=
  hs.set.when fun h => h.set

theorem keepSeen {x : Seen} (hs : r.Keeps s) : r.Keeps (s.keepSeen x) :=
  hs.upd

theorem noteDown {pl : Plane} (hs : r.Keeps s) : r.Keeps (s.noteDown pl) := by
  unfold State.noteDown
  split
  · exact hs.upd
  · exact hs.upd

theorem reportSegment {p : Nat} {st : SegState} (hs : r.Keeps s) : r.Keeps (s.reportSegment p st) :=
  ((hs.upd.foldl fun _ _ h1 => .ite h1 h1.sendMsg).keepSeen.when fun h2 => h2.noteDown).refreshPlane.checkGroups

theorem setDisc {pl : Plane} {d : Option DiscRun} (hs : r.Keeps s) : r.Keeps (s.setDisc pl d) := by
  unfold State.setDisc
  split
  · exact hs.upd
  · exact hs.upd

/-! ### PmonOps -/

theorem filterPass {pt port : Nat} {x : Seen17} (hs : r.Keeps s) : r.Keeps (s.filterPass pt port x) :=
  hs.foldl fun _ _ h => .ite h.bump h

theorem draw (hs : r.Keeps s) : r.Keeps (s.draw).2 :=
  .snd hs.upd

theorem tag {port : Nat} {x : Seen17} (hs : r.Keeps s) : r.Keeps (s.tag port x).2 :=
  .ite_snd hs (.ite_snd hs (.ite_snd (.snd hs.draw) (.ite_snd (.snd hs.draw.bump) (.snd hs.draw))))

theorem stage {id k : Nat} (hs : r.Keeps s) : r.Keeps (s.stage id k) :=
  hs.upd

theorem putShaving {x : Shaving} (hs : r.Keeps s) : r.Keeps (s.putShaving x) :=
  .ite hs.upd.set hs.upd.bump.flag

theorem shave {p : Packet} {discarded : Bool} {reason : Nat} {rules : Bool} (hs : r.Keeps s) : r.Keeps (s.shave p discarded reason rules) :=
  .ite hs hs.putShaving

theorem rxBytes {p n : Nat} (hs : r.Keeps s) : r.Keeps (s.rxBytes p n) :=
  hs.evtPort.when fun h => h.upd

theorem txBytes {p n : Nat} (hs : r.Keeps s) : r.Keeps (s.txBytes p n) :=
  hs.evtPort.when fun h => h.upd

theorem bwChanged {p : Nat} (hs : r.Keeps s) : r.Keeps (s.bwChanged p) :=
  .ite hs.upd hs

theorem rxEvents {p : Nat} {vc : VC} {n : Nat} (hs : r.Keeps s) : r.Keeps (s.rxEvents p vc n) := by
  unfold State.rxEvents
  extract_lets -underBinder -merge -useContext +onlyGivenNames s1
  have h : r.Keeps s1 := hs.evtPort.rxBytes
  split
  · exact h.evtPort
  · exact h.evtPort
  · exact h.evtPort
  · exact h
  · exact h

theorem bwStart (hs : r.Keeps s) : r.Keeps s.bwStart :=
  hs.upd

theorem bwEnd (hs : r.Keeps s) : r.Keeps s.bwEnd :=
  (hs.foldl fun _ _ h => h.set.set.flag.set.set).bump.flag.flag.flag.set.set.bwStart

theorem bwBefore (hs : r.Keeps s) : r.Keeps s.bwBefore :=
  .ite hs.bwEnd hs

theorem bwAfter (hs : r.Keeps s) : r.Keeps s.bwAfter :=
  .ite hs.bwStart hs

/-! ### ScOps -/

theorem setReserve {p : Nat} {r' : Reserve} (hs : r.Keeps s) : r.Keeps (s.setReserve p r') :=
  hs.upd

theorem addFree {n : Nat} (hs : r.Keeps s) : r.Keeps (s.addFree n) :=
  hs.set

theorem takeFree {n : Nat} (hs : r.Keeps s) : r.Keeps (s.takeFree n) :=
  hs.set

theorem resize (hs : r.Keeps s) : r.Keeps s.resize :=
  hs.set

theorem chargeShared {i e n : Nat} (hs : r.Keeps s) : r.Keeps (s.chargeShared i e n) :=
  hs.takeFree.set.upd

theorem charge {i e : Nat} {vc : VC} {n : Nat} (hs : r.Keeps s) : r.Keeps (s.charge i e vc n) :=
  .ite hs.set hs.chargeShared.evtNode

theorem adjustTt (hs : r.Keeps s) : r.Keeps s.adjustTt :=
  .ite (.ite hs.takeFree.upd.resize hs) (.ite hs.addFree.upd.resize hs)

theorem collect (hs : r.Keeps s) : r.Keeps s.collect :=
  (hs.foldl fun _ _ h1 => .ite h1 h1.takeFree.setReserve).adjustTt.foldl fun _ _ h2 => .ite h2 (.ite h2 h2.charge.upd)

theorem takeReserve {p size : Nat} (hs : r.Keeps s) : r.Keeps (s.takeReserve p size) :=
  hs.upd.addFree.setReserve.resize.collect

theorem giveReserve {p : Nat} (hs : r.Keeps s) : r.Keeps (s.giveReserve p) :=
  hs.takeReserve.upd

theorem pcieCredits {port : Nat} {vc : VC} {h d : Nat} (hs : r.Keeps s) : r.Keeps (s.pcieCredits port vc h d) :=
  .ite hs.emit hs.upd

theorem unwithhold (hs : r.Keeps s) : r.Keeps s.unwithhold :=
  hs.upd.foldl fun _ _ h => h.emit

theorem fabricCredits {p : Nat} {vc : VC} {n : Nat} (hs : r.Keeps s) : r.Keeps (s.fabricCredits p vc n) := by
  unfold State.fabricCredits
  exact hs.set.updLink

theorem vcommit (hs : r.Keeps s) : r.Keeps s.vcommit :=
  hs.set

theorem setUsed {n : Nat} (hs : r.Keeps s) : r.Keeps (s.setUsed n) :=
  hs.set.vcommit

theorem setResv {n : Nat} (hs : r.Keeps s) : r.Keeps (s.setResv n) :=
  hs.set.vcommit

theorem setAdmitRes {p : Nat} {r' : Reserve} (hs : r.Keeps s) : r.Keeps (s.setAdmitRes p r') :=
  hs.upd

theorem restore {p n : Nat} (hs : r.Keeps s) : r.Keeps (s.restore p n) :=
  hs.setAdmitRes.setResv

theorem updPkt {id : Nat} {f : Packet → Packet} (hs : r.Keeps s) : r.Keeps (s.updPkt id f) :=
  hs.upd

theorem rmPkt {id : Nat} (hs : r.Keeps s) : r.Keeps (s.rmPkt id) :=
  hs.upd

theorem leaveReserve {p : Packet} {port : Nat} (hs : r.Keeps s) : r.Keeps (s.leaveReserve p port) :=
  .ite hs.addFree.collect (.ite hs.fabricCredits hs.pcieCredits)

theorem checkStream {i e : Nat} (hs : r.Keeps s) : r.Keeps (s.checkStream i e) :=
  .ite hs.upd.stop hs

theorem orderStrict (hs : r.Keeps s) : r.Keeps s.orderStrict :=
  hs.upd

theorem unbuffer {p : Packet} (hs : r.Keeps s) : r.Keeps (s.unbuffer p) := by
  unfold State.unbuffer
  extract_lets -underBinder -merge -useContext +onlyGivenNames n s1 p16 s2 s3
  have h1 : r.Keeps s2 := .ite hs.shave hs.shave.set
  have h2 : r.Keeps s3 := by
    unfold s3
    split
    · exact .ite (.ite h1.rmPkt.restore.leaveReserve h1.updPkt) h1.rmPkt.leaveReserve
    · exact h1.rmPkt.release.collect
  exact h2.checkStream

theorem enqueue {p : Packet} (hs : r.Keeps s) : r.Keeps (s.enqueue p) :=
  hs.upd

theorem enqueueInternal {p : Packet} (hs : r.Keeps s) : r.Keeps (s.enqueueInternal p) :=
  hs.tag.enqueue.collect

theorem dropHolds {f : Hold → Bool} (hs : r.Keeps s) : r.Keeps (s.dropHolds f) :=
  hs.upd.foldl fun _ _ h => h.stop

theorem clearEgress {e : Nat} (hs : r.Keeps s) : r.Keeps (s.clearEgress e) :=
  hs.upd

/-! ### PartOps -/

theorem setCfg {k fn off v : Nat} (hs : r.Keeps s) : r.Keeps (s.setCfg k fn off v) :=
  hs.upd

theorem cfgSet {k fn off n : Nat} {b : Bool} (hs : r.Keeps s) : r.Keeps (s.cfgSet k fn off n b) :=
  hs.setCfg

theorem aer {k fn n : Nat} (hs : r.Keeps s) : r.Keeps (s.aer k fn n) :=
  hs.cfgSet

theorem setBind {k n : Nat} {b : Option Bind} (hs : r.Keeps s) : r.Keeps (s.setBind k n b) :=
  hs.upd

theorem setPx {p : Nat} {x : Px} (hs : r.Keeps s) : r.Keeps (s.setPx p x) :=
  hs.upd

theorem updPx {p : Nat} {f : Px → Px} (hs : r.Keeps s) : r.Keeps (s.updPx p f) :=
  hs.setPx

theorem fwAll {part : Nat} {m : FwMsg} (hs : r.Keeps s) : r.Keeps (s.fwAll part m) :=
  hs.foldl fun _ _ h => h.sendFw

theorem distribute {part : Nat} (hs : r.Keeps s) : r.Keeps (s.distribute part) :=
  hs.fwAll

theorem setRec {part : Nat} {r' : PartRec} (hs : r.Keeps s) : r.Keeps (s.setRec part r') :=
  hs.upd

theorem setPartState {k st : Nat} (hs : r.Keeps s) : r.Keeps (s.setPartState k st) :=
  hs.set.setRec.distribute

theorem epCpl {part : Nat} {t : Tlp} (hs : r.Keeps s) : r.Keeps (s.epCpl part t) :=
  hs.upd

theorem cplOut {part p : Nat} {t : Tlp} {org : Origin} (hs : r.Keeps s) : r.Keeps (s.cplOut part p t org) :=
  hs.enqueueInternal

theorem cplHere {part : Nat} {t : Tlp} {org : Origin} (hs : r.Keeps s) : r.Keeps (s.cplHere part t org) := by
  unfold State.cplHere
  extract_lets -underBinder -merge -useContext +onlyGivenNames send1
  split
  · exact hs.cplOut
  · split
    · exact .ite hs.epCpl (.ite hs.cplOut hs.bump)
    · exact hs

theorem sendCpl {part node gen : Nat} {t : Tlp} (hs : r.Keeps s) : r.Keeps (s.sendCpl part node gen t) :=
  .ite hs.cplHere hs.raise

theorem synth {part node reqId tag cplId : Nat} {st : CplStatus} (hs : r.Keeps s) : r.Keeps (s.synth part node reqId tag cplId st) :=
  hs.bump.evtPart.sendCpl

theorem endCtx {c : Ctx} {quar : Bool} (hs : r.Keeps s) : r.Keeps (s.endCtx c quar) :=
  hs.upd.stop.set.when fun h => h.upd.start

theorem retireCtx {c : Ctx} (hs : r.Keeps s) : r.Keeps (s.retireCtx c) :=
  hs.endCtx.synth

theorem retireTarget {i : Nat} (hs : r.Keeps s) : r.Keeps (s.retireTarget i) :=
  hs.foldl fun _ _ h => h.retireCtx

theorem takeCtx {p part node gen cplId : Nat} {t' : Tlp} {inst target : Option Nat} {proxy : Bool} {vc : VC} {n : Nat} (hs : r.Keeps s)
    (h : s.takeCtx p part node t' gen inst target cplId proxy vc = some (n, t)) : r.Keeps t := by
  unfold State.takeCtx at h
  split at h
  · exact nomatch h
  · dsimp only at h
    split at h
    · exact nomatch h
    · split at h
      · exact nomatch h
      · obtain ⟨-, rfl⟩ := Prod.mk.inj (Option.some.inj h)
        exact hs.fresh.upd.set.set.start

theorem msiVdsp {k n : Nat} (hs : r.Keeps s) : r.Keeps (s.msiVdsp k n) :=
  .ite hs (.ite hs.cfgSet hs.emit)

theorem hotplug {k n st en : Nat} (hs : r.Keeps s) : r.Keeps (s.hotplug k n st en) :=
  hs.cfgSet.when fun h => h.msiVdsp

theorem showLink {k n : Nat} {up : Bool} (hs : r.Keeps s) : r.Keeps (s.showLink k n up) :=
  .ite hs hs.cfgSet.hotplug

theorem showPresence {k n : Nat} {present : Bool} (hs : r.Keeps s) : r.Keeps (s.showPresence k n present) :=
  .ite hs hs.cfgSet.hotplug

theorem instTold {part vdsp : Nat} {f : List Nat} (hs : r.Keeps s) : r.Keeps (s.instTold part vdsp f) := by
  unfold State.instTold
  split
  · exact hs
  · split
    · exact hs.setBind.whenNot fun h1 => h1.branch (fun h2 => h2.cfgSet.showLink) (fun h2 => h2.when fun h3 => h3.cfgSet.showLink)
    · exact hs

theorem pmeAnswer {k : Nat} (hs : r.Keeps s) : r.Keeps (s.pmeAnswer k) :=
  hs.emit.set

theorem pmeAck {k n : Nat} (hs : r.Keeps s) : r.Keeps (s.pmeAck k n) := by
  unfold State.pmeAck
  split
  · exact .ite hs.upd hs.upd.stop.pmeAnswer
  · exact hs

theorem vdspEvent {part n ev v : Nat} (hs : r.Keeps s) : r.Keeps (s.vdspEvent part n ev v) := by
  unfold State.vdspEvent
  split
  · exact hs
  · split
    · exact hs
    · exact .ite hs.setBind.showLink (.ite hs.hotplug (.ite hs.hotplug (.ite (.ite hs.showPresence hs) (.ite (.ite hs.setCfg hs.setBind) (.ite
        hs.setBind (.ite (.ite hs.aer hs.cfgSet) (.ite hs.setBind (.ite hs.pmeAck hs))))))))

theorem tellVdsp {part n ev v : Nat} (hs : r.Keeps s) : r.Keeps (s.tellVdsp part n ev v) := by
  unfold State.tellVdsp
  split
  · exact .ite hs.vdspEvent hs.sendFw
  · exact hs

theorem tellPort {p ev v : Nat} (hs : r.Keeps s) : r.Keeps (s.tellPort p ev v) :=
  hs.foldl fun _ _ h => .ite h h.tellVdsp

theorem tellInst {i : Nat} (hs : r.Keeps s) : r.Keeps (s.tellInst i) := by
  unfold State.tellInst
  extract_lets -underBinder -merge -useContext +onlyGivenNames part1 v
  refine .ite hs ?_
  split
  · exact .ite hs.instTold hs.sendFw
  · exact hs

theorem advanceNow {i : Nat} (hs : r.Keeps s) : r.Keeps (s.advanceNow i) :=
  hs.set.upd.tellInst.retireTarget

theorem advanceGen {i : Nat} (hs : r.Keeps s) : r.Keeps (s.advanceGen i) := by
  unfold State.advanceGen
  refine .ite hs ?_
  split
  · exact .ite hs.start.retireTarget hs.advanceNow
  · exact hs.advanceNow

theorem freeze {i cause : Nat} (hs : r.Keeps s) : r.Keeps (s.freeze i cause) :=
  .ite hs.bump ((hs.flag.set.when fun h => h.flag).tellInst)

theorem unfreeze {i : Nat} (hs : r.Keeps s) : r.Keeps (s.unfreeze i) :=
  hs.flag.flag.set.tellInst

theorem setFm {holder : Option Nat} (hs : r.Keeps s) : r.Keeps (s.setFm holder) := by
  unfold State.setFm
  extract_lets -underBinder -merge -useContext +onlyGivenNames s1
  have h1 : r.Keeps s1 := by
    unfold s1
    split
    · exact hs.flag.set
    · exact hs.flag
  exact h1.foldl fun _ _ h2 => h2.flag

theorem setStandbyPart {st : Option Nat} (hs : r.Keeps s) : r.Keeps (s.setStandbyPart st) := by
  unfold State.setStandbyPart
  extract_lets -underBinder -merge -useContext +onlyGivenNames s1
  have h1 : r.Keeps s1 := by
    unfold s1
    split
    · exact hs.flag.set
    · exact hs.flag.set
  exact h1.foldl fun _ _ h2 => h2.flag

theorem fmNotice {k reason new old home : Nat} (hs : r.Keeps s) : r.Keeps (s.fmNotice k reason new old home) :=
  hs.queuePlace

theorem vacateFm (hs : r.Keeps s) : r.Keeps s.vacateFm := by
  unfold State.vacateFm
  extract_lets -underBinder -merge -useContext +onlyGivenNames old3 st4 takes5
  refine .ite ?_ hs.setFm
  extract_lets -underBinder -merge -useContext +onlyGivenNames s1
  have h : r.Keeps s1 := hs.setFm.setStandbyPart
  split
  · exact h.fmNotice
  · exact h

theorem checkFm (hs : r.Keeps s) : r.Keeps s.checkFm := by
  unfold State.checkFm
  split
  · split
    · exact .ite hs hs.vacateFm
    · exact hs
  · exact hs

theorem compareFm (hs : r.Keeps s) : r.Keeps s.compareFm := by
  unfold State.compareFm
  split
  · split
    · split
      · exact (Keeps.ite hs.fresh hs).setFm.fmNotice
      · exact hs
    · exact hs
  · exact hs

/-! ### JnlOps -/

theorem sendItems {dst subtype number fuel : Nat} {last : Bool} {items : List JItem} (hs : r.Keeps s) :
    r.Keeps (s.sendItems dst subtype number last items fuel) := by
  induction fuel generalizing s items with
  | zero => exact hs
  | succ fuel ih => exact .ite hs.sendCtl (ih hs.sendCtl)

theorem receiptNow {k : Nat} (hs : r.Keeps s) : r.Keeps (s.receiptNow k) :=
  hs.setDedup.evtNode.sendCtl

theorem owe {k : Nat} (hs : r.Keeps s) : r.Keeps (s.owe k) :=
  hs.setDedup.startIfNot

theorem sendReceipts {n : Nat} (hs : r.Keeps s) : r.Keeps (s.sendReceipts n) := by
  unfold State.sendReceipts
  exact ((hs.foldl fun _ _ h1 => h1.setDedup).stop).whenNot fun h2 => h2.evtNode.sendItems

theorem markDone {k seq : Nat} (hs : r.Keeps s) : r.Keeps (s.markDone k seq) :=
  .ite hs (hs.setDedup.when fun h => h.owe)

theorem takeFw {src part : Nat} {m : FwMsg} (hs : r.Keeps s) (h : s.takeFw src part m = some t) : r.Keeps t := by
  unfold State.takeFw at h
  split at h
  · exact nomatch h
  · obtain ⟨q, -, rfl⟩ := Option.map_eq_some_iff.1 h
    exact hs.upd.markDone

theorem fwOfNode {n : Nat} (hs : r.Keeps s) : r.Keeps (s.fwOfNode n) := by
  unfold State.fwOfNode
  refine hs.foldl fun _ _ h => ?_
  split
  · exact .ite h.markDone h
  · exact h

theorem undelivDest {r' : Record} {reason : Nat} (hs : r.Keeps s) : r.Keeps (s.undelivDest r' reason) := by
  unfold State.undelivDest
  exact hs.markDone.bump.evtNode.sendCtl

theorem placeHold {port : Nat} {r' : Record} (hs : r.Keeps s) : r.Keeps (s.placeHold port r') :=
  .ite hs (.ite hs.upd.start hs.updLink.reportPort)

theorem undoPass {p : Packet} (hs : r.Keeps s) : r.Keeps (s.undoPass p) :=
  .ite hs.setDedup hs

theorem discard {p : Packet} (hs : r.Keeps s) : r.Keeps (s.discard p) := by
  unfold State.discard
  extract_lets -underBinder -merge -useContext +onlyGivenNames s1 s2
  have h : r.Keeps s2 := by
    refine .ite ?_ hs.undoPass
    split
    · exact hs.undoPass.placeHold
    · exact hs.undoPass
  exact h.unbuffer

theorem refuse {p : Packet} {c : Fld} (hs : r.Keeps s) : r.Keeps (s.refuse p c) := by
  unfold State.refuse
  extract_lets -underBinder -merge -useContext +onlyGivenNames s1
  have h : r.Keeps s1 := by
    unfold s1
    split
    · exact hs.placeHold.evtFab
    · exact hs
  exact h.bump.stop.unbuffer

theorem passed {p : Packet} (hs : r.Keeps s) : r.Keeps (s.passed p) := by
  unfold State.passed
  extract_lets -underBinder -merge -useContext +onlyGivenNames k d3 s1
  refine .ite hs.setDedup.owe.markDone.epCpl.unbuffer ?_
  split
  · exact (Keeps.ite hs.setDedup.owe.markDone.bump hs.setDedup.owe.undelivDest).unbuffer
  · exact hs.setDedup.owe.updPkt

theorem present {p : Packet} (hs : r.Keeps s) : r.Keeps (s.present p) := by
  unfold State.present
  extract_lets -underBinder -merge -useContext +onlyGivenNames k d20 q s1
  refine .ite hs.stop.refuse.evtNode ?_
  refine .ite hs.stop.refuse ?_
  extract_lets -underBinder -merge -useContext +onlyGivenNames x i32
  refine .ite (.ite hs.stop.refuse.evtNode (hs.stop.setDedup.branch (fun h1 => h1.bump.evtNode.unbuffer.receiptNow) (fun h1 => h1.branch (fun h2 =>
    h2.passed) (fun h2 => h2.setDedup.updPkt)))) ?_
  refine .ite hs.stop.bump.evtNode.unbuffer.receiptNow ?_
  extract_lets -underBinder -merge -useContext +onlyGivenNames s2 s3
  have h3 : r.Keeps s2 := hs.stop.bump.evtNode
  have h4 : r.Keeps s3 := by
    unfold s3
    split
    · exact h3.placeHold
    · exact h3
  exact h4.unbuffer.sendCtl

theorem completed {id : Nat} (hs : r.Keeps s) : r.Keeps (s.completed id) := by
  unfold State.completed
  extract_lets -underBinder -merge -useContext +onlyGivenNames s1
  split
  · exact .ite hs.updPkt.passed hs.updPkt
  · exact hs.updPkt

theorem admitRec {r' : Record} {org : Origin} {inst : Option Nat} {cplId : Nat} (hs : r.Keeps s) : r.Keeps (s.admitRec r' org inst cplId).2 :=
  .snd ((hs.upd.when fun h1 => h1.setFlow).setUsed.bump.evtJnl.when fun h2 => h2.start).placeGrp.grpTimers

theorem updEntry {id : Nat} {f : Entry → Entry} (hs : r.Keeps s) : r.Keeps (s.updEntry id f) :=
  hs.upd

theorem releaseEntry {e : Entry} (hs : r.Keeps s) : r.Keeps (s.releaseEntry e) :=
  hs.setUsed.set

theorem freeEntry {e : Entry} (hs : r.Keeps s) : r.Keeps (s.freeEntry e) :=
  (hs.upd.branch (fun h1 => h1.upd) (fun h1 => h1.releaseEntry)).stop.foldl fun _ _ h2 => h2.unbuffer

theorem establish (hs : r.Keeps s) : r.Keeps s.establish := by
  unfold State.establish
  exact .ite hs ((Keeps.ite hs.upd.setResv hs).foldl fun _ _ h => .ite h.restore h)

theorem unpark (hs : r.Keeps s) : r.Keeps s.unpark :=
  .ite hs ((hs.upd.foldl fun _ _ h => h.releaseEntry).establish)

theorem dropAdmit {p : Nat} (hs : r.Keeps s) : r.Keeps (s.dropAdmit p) :=
  hs.upd.setResv

theorem undeliverable {r' : Record} {reason cplId : Nat} (hs : r.Keeps s) : r.Keeps (s.undeliverable r' reason cplId) := by
  unfold State.undeliverable
  extract_lets -underBinder -merge -useContext +onlyGivenNames ev9 s1 s2 s3
  have h1 : r.Keeps s1 := hs.evtNode.raiseEvent
  have h2 : r.Keeps s2 := .ite h1.raiseFm h1
  have h3 : r.Keeps s3 := by
    unfold s3
    split
    · exact h2.aer
    · exact h2
  split
  · exact .ite h3.synth h3
  · exact h3

theorem mapWrites {f : DmWr → DmWr} (hs : r.Keeps s) : r.Keeps (s.mapWrites f) :=
  hs.upd

theorem dmAdmitted {w e : Nat} (hs : r.Keeps s) : r.Keeps (s.dmAdmitted w e) :=
  hs.mapWrites

theorem dmLose {f : DmWr → Bool} (hs : r.Keeps s) : r.Keeps (s.dmLose f) :=
  .ite hs hs.upd

theorem reportEntry {e : Entry} {reason : Nat} (hs : r.Keeps s) : r.Keeps (s.reportEntry e reason) :=
  .ite hs hs.dmLose.updEntry.undeliverable

theorem purgeFree {k u : Nat} {spare : Nat → Bool} (hs : r.Keeps s) : r.Keeps (s.purgeFree k u spare) := by
  unfold State.purgeFree
  extract_lets -underBinder -merge -useContext +onlyGivenNames ms10 s1 f22
  have h1 : r.Keeps s1 := by
    refine hs.foldl fun _ _ h2 => ?_
    extract_lets -underBinder -merge -useContext +onlyGivenNames q s2 s3
    have h3 : r.Keeps s3 := by
      unfold s3
      split
      · exact .ite h2.bump.evtNode h2.bump.evtNode.reportEntry
      · exact h2.bump.evtNode
    exact h3.freeEntry
  exact h1.setFlow

theorem purgeEnded {k u : Nat} (hs : r.Keeps s) : r.Keeps (s.purgeEnded k u) :=
  hs.upd

theorem purge {k u reason : Nat} {silent : Bool} (hs : r.Keeps s) : r.Keeps (s.purge k u reason silent) :=
  hs.setFlow.branch (fun h1 => h1.purgeFree.purgeEnded) (fun h1 => h1.when fun h2 => h2.sendPurge.grpTimers)

theorem purgeGroup {g reason : Nat} (hs : r.Keeps s) : r.Keeps (s.purgeGroup g reason) :=
  hs.foldl fun _ _ h => .ite h.purge h

theorem askSync {n : Nat} (hs : r.Keeps s) : r.Keeps (s.askSync n) :=
  hs.sendCtl.upd.flag.startIfNot

theorem sendRewind {n : Nat} (hs : r.Keeps s) : r.Keeps (s.sendRewind n) :=
  hs.sendCtl.foldl fun _ _ h => h.receiptNow

theorem meet {ns : List Nat} (hs : r.Keeps s) : r.Keeps (s.meet ns) := by
  unfold State.meet
  exact hs.foldl fun _ _ h1 => (Keeps.ite h1.askSync h1).when fun h2 => h2.sendRewind

/-! ### RingOps -/

theorem discEvent {pl : Plane} (hs : r.Keeps s) : r.Keeps (s.discEvent pl) :=
  hs.reportNode

theorem setHold {pl : Plane} {high : Bool} (hs : r.Keeps s) : r.Keeps (s.setHold pl high) :=
  hs.flag.emit

theorem dropHold {pl : Plane} (hs : r.Keeps s) : r.Keeps (s.dropHold pl) :=
  .ite hs hs.setHold.set.set.set.set.setDisc.stop.checkGroups

theorem endJoin (hs : r.Keeps s) : r.Keeps s.endJoin :=
  hs.upd.flag.stop

theorem enableCleared {pl : Plane} (hs : r.Keeps s) : r.Keeps (s.enableCleared pl) := by
  unfold State.enableCleared
  extract_lets -underBinder -merge -useContext +onlyGivenNames s1
  have h : r.Keeps s1 := by
    unfold s1
    split
    · exact .ite hs.endJoin hs
    · exact hs
  exact h.dropHold

theorem forget (hs : r.Keeps s) : r.Keeps s.forget :=
  hs.upd

theorem firstMet {new : List Nat} (hs : r.Keeps s) : r.Keeps (s.firstMet new) := by
  unfold State.firstMet
  exact .ite hs (((Keeps.ite hs (hs.foldl fun _ _ h1 => h1.distribute)).branch (fun h2 => h2.foldl fun _ _ h3 => h3.foldl fun _ _ h4 => h4.sendFw)
    (fun h2 => h2.when fun h5 => h5.upd)).meet.upd)

theorem completeRun {pl : Plane} {d : DiscRun} (hs : r.Keeps s) : r.Keeps (s.completeRun pl d) := by
  unfold State.completeRun
  extract_lets -underBinder -merge -useContext +onlyGivenNames own38 e w s1 before42 recs43 mask44 segs45 s2 s3 homes50 _ s4 s5 s6 s7 s8 s9 s10 s11
  have h1 : r.Keeps s2 := hs.setDisc.stop.set.set
  have h2 : r.Keeps s3 := by
    unfold s3
    split
    · exact h1.upd
    · exact h1.upd
  have h3 : r.Keeps s6 := .ite h2.upd.forget.set.discEvent (.ite h2.upd.forget h2.upd.forget.set)
  have h4 : r.Keeps s8 := h3.flag.refreshPlane.checkGroups
  have h5 : r.Keeps s9 := h4.compareFm.checkFm
  have h6 : r.Keeps s10 := .ite h5.firstMet h5
  have h7 : r.Keeps s11 := by
    unfold s11
    split
    · exact .ite h6.upd.start h6
    · exact h6
  exact .ite h7.set h7

theorem startRun {pl : Plane} (hs : r.Keeps s) : r.Keeps (s.startRun pl) := by
  unfold State.startRun
  refine .ite hs ?_
  extract_lets -underBinder -merge -useContext +onlyGivenNames run1 own2 s1 launch5 e w r8 s2
  have h1 : r.Keeps s1 := by
    unfold s1
    split
    · exact hs.upd
    · exact hs.upd
  have h2 : r.Keeps s2 := ((Keeps.ite_fst (.fst ((Keeps.ite_fst (.fst h1.sendMsg) h1).sendMsg)) (.fst (.ite_fst (.fst h1.sendMsg) h1))).setDisc).start
  exact .ite h2.completeRun h2

theorem startLeave {pl : Plane} (hs : r.Keeps s) : r.Keeps (s.startLeave pl) := by
  unfold State.startLeave
  refine .ite hs ?_
  extract_lets -underBinder -merge -useContext +onlyGivenNames withdraw9 s1 s2 s3
  have h1 : r.Keeps s1 := (((hs.updLink.stop.when fun h2 => h2.set.setK.stop).updLink).stop).when fun h3 => h3.set.setK.stop
  have h4 : r.Keeps s2 := h1.reportSegment.reportSegment
  have h5 : r.Keeps s3 := by
    unfold s3
    split
    · exact h4.upd
    · exact h4.upd
  exact h5.start

theorem startJoin (hs : r.Keeps s) : r.Keeps s.startJoin := by
  unfold State.startJoin
  refine .ite hs ?_
  extract_lets -underBinder -merge -useContext +onlyGivenNames want2 run3
  clear_value run3
  split
  · exact hs.upd.flag.set.when fun h => h.set
  · exact hs.flag

theorem raiseHold {pl : Plane} {thenB : Bool} (hs : r.Keeps s) : r.Keeps (s.raiseHold pl thenB) := by
  unfold State.raiseHold
  extract_lets -underBinder -merge -useContext +onlyGivenNames _ s1 s2
  have h : r.Keeps s2 := by
    unfold s2
    split
    · exact hs.upd.setHold.upd
    · exact hs.upd.setHold.upd
  exact h.set.startRun

theorem joinTick (hs : r.Keeps s) : r.Keeps s.joinTick := by
  unfold State.joinTick
  split
  · exact .ite hs.endJoin hs
  · exact hs

/-! ### TimeOps -/

theorem rebase (hs : r.Keeps s) : r.Keeps s.rebase :=
  hs.upd

theorem spinTo {t' n : Nat} (hs : r.Keeps s) : r.Keeps (s.spinTo t' n) := by
  induction n generalizing s with
  | zero => exact hs
  | succ n ih => exact .ite (ih (hs.later (Nat.le_add_right ..))) hs

theorem waitUntil {t : Nat} (hs : r.Keeps s) : r.Keeps (s.until t) := by
  unfold State.until
  exact hs.spinTo

theorem setTurn {i : Nat} {t : Turn} (hs : r.Keeps s) : r.Keeps (s.setTurn i t) :=
  hs.upd

theorem turnReport {i reason time : Nat} (hs : r.Keeps s) : r.Keeps (s.turnReport i reason time) := by
  unfold State.turnReport
  split
  · exact hs.raiseEvent
  · exact hs

theorem skipTurn {i t : Nat} (hs : r.Keeps s) : r.Keeps (s.skipTurn i t) :=
  .ite hs (.ite hs.setTurn.bump.evtNode.turnReport hs.setTurn.bump.evtNode.turnReport)

theorem suspendTurns (hs : r.Keeps s) : r.Keeps s.suspendTurns :=
  hs.foldl fun _ _ h => .ite h h.setTurn.turnReport

theorem resumeTurns (hs : r.Keeps s) : r.Keeps s.resumeTurns :=
  hs.foldl fun _ _ h1 => .ite h1 (h1.setTurn.skipTurn.when fun h2 => h2.turnReport)

theorem setTime {st : Nat} (hs : r.Keeps s) : r.Keeps (s.setTime st) :=
  .ite hs ((hs.set.stop.when fun h1 => h1.start).branch (fun h2 => h2.resumeTurns) (fun h2 => (h2.when fun h3 => h3.upd.stop.emit).suspendTurns))

theorem stepBy {d : Int} (hs : r.Keeps s) : r.Keeps (s.stepBy d) :=
  hs.bwBefore.rebase.upd.bump.evtNode.bwAfter.reportNode

theorem stepOver {d : Int} (hs : r.Keeps s) : r.Keeps (s.stepOver d) := by
  unfold State.stepOver
  exact (Keeps.ite hs.setTime hs).stepBy

theorem moveTo {d : Int} (hs : r.Keeps s) : r.Keeps (s.moveTo d) :=
  .ite hs.stepOver hs.rebase.upd

theorem showTime (hs : r.Keeps s) : r.Keeps s.showTime :=
  hs.set.set.set.set.flag.flag

theorem gmValid (hs : r.Keeps s) : r.Keeps s.gmValid :=
  .ite hs (.ite hs.setTime hs)

theorem follow (hs : r.Keeps s) : r.Keeps s.follow := by
  unfold State.follow
  exact ((Keeps.ite hs hs.upd).branch (fun h1 => h1.when fun h2 => h2.setTime) (fun h1 => h1.branch (fun h3 => h3.setTime) (fun h3 => h3.when fun h4
    => h4.setTime))).gmValid.showTime

theorem adopt {c : Cand} (hs : r.Keeps s) : r.Keeps (s.adopt c) :=
  (hs.upd.stop.when fun h => h.upd).follow

theorem elect (hs : r.Keeps s) : r.Keeps s.elect := by
  unfold State.elect
  extract_lets -underBinder -merge -useContext +onlyGivenNames cands3
  split
  · exact hs.upd.stop.follow
  · split
    · exact hs.adopt
    · exact .ite hs.adopt (hs.upd.branch (fun h1 => h1.upd.stop.follow) (fun h1 => h1.branch (fun h2 => h2.follow) (fun h2 => h2.upd.start.follow)))

theorem parentLost {p : Nat} (hs : r.Keeps s) : r.Keeps (s.parentLost p) :=
  ((hs.upd.stop.when fun h1 => h1.when fun h2 => h2.setTime).when fun h3 => h3.upd).elect

theorem timeDown {p : Nat} (hs : r.Keeps s) : r.Keeps (s.timeDown p) :=
  hs.upd.stop.parentLost

theorem announceStep {d : Int} (hs : r.Keeps s) : r.Keeps (s.announceStep d) :=
  hs.upd.showTime

theorem drainPin {n fuel : Nat} (hs : r.Keeps s) : r.Keeps (s.drainPin n fuel) := by
  induction fuel generalizing s with
  | zero => exact hs
  | succ fuel ih =>
    unfold State.drainPin
    split
    · exact .ite (ih hs.upd.raiseEvent) hs
    · exact hs

theorem drainPins (hs : r.Keeps s) : r.Keeps s.drainPins := by
  unfold State.drainPins
  exact hs.foldl fun _ _ h => h.drainPin

theorem capture {n : Nat} {rising : Bool} (hs : r.Keeps s) : r.Keeps (s.capture n rising) := by
  unfold State.capture
  exact .ite hs.upd.bump hs.upd.evtNode.drainPin

theorem countUsed {p : Nat} (hs : r.Keeps s) : r.Keeps (s.countUsed p) :=
  hs.set

theorem countAllUsed (hs : r.Keeps s) : r.Keeps s.countAllUsed :=
  hs.foldl fun _ _ h => h.countUsed

theorem grainEvent {unreserved : Bool} {k : Nat} (hs : r.Keeps s) : r.Keeps (s.grainEvent unreserved k) :=
  hs.raiseEvent.whenNot fun h => h.raiseFm

theorem dropStream {k : Nat} (hs : r.Keeps s) : r.Keeps (s.dropStream k) :=
  hs.upd.countAllUsed

theorem installHop {k path phase period r' : Nat} {pl : Plane} {d : Dir} (hs : r.Keeps s) : r.Keeps (s.installHop k path phase period r' pl d).2 := by
  unfold State.installHop
  extract_lets -underBinder -merge -useContext +onlyGivenNames p1 x
  refine .ite_snd hs ?_
  refine .ite_snd hs ?_
  split
  · exact hs
  · exact .ite_snd hs.upd.countUsed (.snd hs.upd.countUsed.sendFw)

/-! ### LinkOps -/

theorem updLane {p k : Nat} {f : LaneTrain → LaneTrain} (hs : r.Keeps s) : r.Keeps (s.updLane p k f) :=
  hs.updLink

theorem mlReport {p cls bitNo : Nat} (hs : r.Keeps s) : r.Keeps (s.mlReport p cls bitNo) :=
  hs.reportPort

theorem protoErr {p : Nat} (hs : r.Keeps s) : r.Keeps (s.protoErr p) :=
  hs.flag.bump.mlReport

theorem cutOff {k : Packet} (hs : r.Keeps s) : r.Keeps (s.cutOff k) := by
  unfold State.cutOff
  exact .ite hs.discard ((Keeps.ite hs.updLink hs.updPx.emit).discard)

theorem cutArrivals {p : Nat} (hs : r.Keeps s) : r.Keeps (s.cutArrivals p) :=
  hs.foldl fun _ _ h => h.cutOff

theorem cutSending {p : Nat} (hs : r.Keeps s) : r.Keeps (s.cutSending p) :=
  hs.foldl fun _ _ h => h.unbuffer

theorem stopLink {p : Nat} (hs : r.Keeps s) : r.Keeps (s.stopLink p) :=
  hs.stop.stop.stop.stop.stop.stop.foldl fun _ _ h => h.stop.stop

theorem dropLinkState {p : Nat} (hs : r.Keeps s) : r.Keeps (s.dropLinkState p) :=
  (hs.cutArrivals.cutSending.stopLink.updLink.set.dropHolds.foldl fun _ _ h => h.set.set).takeReserve

theorem dropTransit {p : Nat} (hs : r.Keeps s) : r.Keeps (s.dropTransit p) :=
  hs.foldl fun _ _ h => h.unbuffer.evtFab.reportNode

theorem flapHold {p : Nat} (hs : r.Keeps s) : r.Keeps (s.flapHold p) :=
  hs.stopLink.set.flag.mlReport

theorem declareDown {p : Nat} {quiet silent : Bool} (hs : r.Keeps s) : r.Keeps (s.declareDown p quiet silent) :=
  (hs.updLink.dropLinkState.bump.flag.bwChanged.timeDown.clearEgress.whenNot fun h1 => h1.mlReport).set.dropTransit.whenNot fun h2 => h2.reportSegment

theorem flap {p : Nat} (hs : r.Keeps s) : r.Keeps (s.flap p) :=
  hs.updLink.whenNot fun h1 => (h1.when fun h2 => h2.declareDown).flapHold

theorem linkDown {p : Nat} {quiet silent : Bool} (hs : r.Keeps s) : r.Keeps (s.linkDown p quiet silent) :=
  .ite hs (hs.declareDown.whenNot fun h => h.flap)

theorem enterDetect {p : Nat} (hs : r.Keeps s) : r.Keeps (s.enterDetect p) :=
  .ite hs.set ((hs.stopLink.set.foldl fun _ _ h => h.flag).updLink)

theorem enterRetrain {p lanes : Nat} {leader : Bool} (hs : r.Keeps s) : r.Keeps (s.enterRetrain p lanes leader) := by
  unfold State.enterRetrain
  exact hs.dropLinkState.set.flag.bump.evtPort.updLink.flap.whenNot fun h => h.start

theorem sendInit {p : Nat} (hs : r.Keeps s) : r.Keeps (s.sendInit p) :=
  .ite hs.updLink hs

theorem enterInit {p lanes : Nat} (hs : r.Keeps s) : r.Keeps (s.enterInit p lanes) :=
  hs.updLink.set.set.set.bwChanged.takeReserve.sendInit

theorem setCoefs {p lane : Nat} {c : Coefs} (hs : r.Keeps s) : r.Keeps (s.setCoefs p lane c) :=
  hs.set.set.set.set

theorem enterEqualise {p rate : Nat} (hs : r.Keeps s) : r.Keeps (s.enterEqualise p rate) :=
  (hs.set.set.bwChanged.updLink.foldl fun _ _ h => h.setCoefs.start).start

theorem leadTraining {p : Nat} {t : Ts2} (hs : r.Keeps s) : r.Keeps (s.leadTraining p t) :=
  hs.flag.flag.whenNot fun h1 => h1.branch (fun h2 => h2.enterDetect) (fun h2 => h2.updLink)

theorem roleError {p : Nat} (hs : r.Keeps s) : r.Keeps (s.roleError p) := by
  unfold State.roleError
  exact hs.declareDown.flap.whenNot fun h => h.set.flag.mlReport

theorem configCheck {p : Nat} (hs : r.Keeps s) : r.Keeps (s.configCheck p) := by
  unfold State.configCheck
  extract_lets -underBinder -merge -useContext +onlyGivenNames l2
  refine .ite hs ?_
  split
  · exact hs
  · exact .ite hs (.ite hs.set.bump.updLink.start (hs.updLink.flag.set.flag.branch (fun h => h.roleError) (fun h => h.leadTraining)))

theorem enterActive {p : Nat} (hs : r.Keeps s) : r.Keeps (s.enterActive p) :=
  hs.stop.updLink.flag.set.setK.reportSegment.startRun

theorem sendReq {p : Nat} {r' : Retrain} (hs : r.Keeps s) : r.Keeps (s.sendReq p r') :=
  hs.updLink.start

theorem schedule {p reason : Nat} (hs : r.Keeps s) : r.Keeps (s.schedule p reason) :=
  .ite hs (.ite hs.updLink hs.sendReq)

theorem enterLeaving {p lanes : Nat} {leader : Bool} (hs : r.Keeps s) : r.Keeps (s.enterLeaving p lanes leader) :=
  hs.stop.set.flag.updLink.start.setK.reportSegment

theorem checkQuiesce {p : Nat} (hs : r.Keeps s) : r.Keeps (s.checkQuiesce p) :=
  .ite hs.updLink hs

theorem quiesced {p : Nat} (hs : r.Keeps s) : r.Keeps (s.quiesced p) := by
  unfold State.quiesced
  exact .ite hs.enterRetrain hs

theorem forcedRetrain {p reason : Nat} (hs : r.Keeps s) : r.Keeps (s.forcedRetrain p reason) := by
  unfold State.forcedRetrain
  extract_lets -underBinder -merge -useContext +onlyGivenNames st5
  refine .ite hs ?_
  extract_lets -underBinder -merge -useContext +onlyGivenNames s1 s2
  have h1 : r.Keeps s1 := by
    unfold s1
    split
    · exact hs.flag.mlReport
    · exact hs.flag.mlReport
    · exact hs.flag.bump.mlReport
  exact .ite h1.linkDown (h1.linkDown.enterRetrain.whenNot fun h2 => h2.updLink.start)

theorem followForced {p mask : Nat} (hs : r.Keeps s) : r.Keeps (s.followForced p mask) := by
  unfold State.followForced
  exact hs.linkDown.whenNot fun h => h.enterRetrain

theorem settleHolds (hs : r.Keeps s) : r.Keeps s.settleHolds :=
  hs.foldl fun _ _ h => .ite h.updLink.forcedRetrain h

theorem rsDecode {p : Nat} {h : FlitHdr} (hs : r.Keeps s) : r.Keeps (s.rsDecode p h).2 := by
  unfold State.rsDecode
  exact .ite_snd (.snd hs.bump.flag.mlReport) (.ite_snd hs ((hs.bump.evtFab.whenNot fun h1 => h1.foldl fun _ _ h2 => h2.bump.updLink)))

theorem crcFail {p : Nat} (hs : r.Keeps s) : r.Keeps (s.crcFail p) :=
  hs.bump.evtFab

theorem wake {p : Nat} (hs : r.Keeps s) : r.Keeps (s.wake p) :=
  .ite hs.enterActive hs

theorem rxCheck {p : Nat} {h : FlitHdr} {sequenced : Bool} (hs : r.Keeps s) : r.Keeps (s.rxCheck p h sequenced).2 :=
  .ite_snd hs.rsDecode (.ite_snd (.snd hs.rsDecode.crcFail) (.ite_snd hs.rsDecode.wake.evtFab (.ite_snd (.snd
    hs.rsDecode.wake.evtFab.bump.evtFab.updLink) hs.rsDecode.wake.evtFab)))

theorem accept {p : Nat} (hs : r.Keeps s) : r.Keeps (s.accept p) :=
  hs.updLink

theorem ackProcess {p a : Nat} (hs : r.Keeps s) : r.Keeps (s.ackProcess p a) :=
  .ite hs (.ite ((hs.updLink.branch (fun h => h.stop) (fun h => h.start)).checkQuiesce) hs.bump)

theorem takeReturn {p : Nat} {h : FlitHdr} (hs : r.Keeps s) : r.Keeps (s.takeReturn p h) := by
  unfold State.takeReturn
  split
  · exact .ite hs (.ite hs.forcedRetrain hs.set.updLink)
  · exact hs

theorem armRefuse {p : Nat} {v : VC} (hs : r.Keeps s) : r.Keeps (s.armRefuse p v) := by
  unfold State.armRefuse
  split
  · exact hs.startIfNot
  · exact hs

theorem endHold {p : Nat} {r' : Record} (hs : r.Keeps s) : r.Keeps (s.endHold p r') :=
  .ite hs hs.dropHolds

theorem recordStarts {p : Nat} {flitVc : VC} {r' : Record} (hs : r.Keeps s) : r.Keeps (s.recordStarts p flitVc r').2 :=
  .ite_snd (.snd hs.set.rxEvents.endHold.protoErr.fabricCredits.evtPort.placeHold) (.ite_snd (.snd
    hs.set.rxEvents.endHold.fabricCredits.bump.evtNode.evtPort) (.ite_snd hs.set.rxEvents.endHold (.ite_snd (.snd
      hs.set.rxEvents.endHold.fabricCredits.evtFab.reportNode) (.snd (hs.set.rxEvents.endHold.enqueue.when fun h => h.armRefuse)))))

theorem mgEnds {p : Nat} {r' : Record} (hs : r.Keeps s) : r.Keeps (s.mgEnds p r') := by
  unfold State.mgEnds
  split
  · exact .ite hs.protoErr hs.upd
  · exact .ite hs.bump.evtFab.evtNode (.ite (.ite hs.bump.evtFab.evtNode (.ite hs.bump.evtFab.evtNode (hs.setDedup.branch (fun h =>
      h.bump.evtNode.receiptNow) (fun h => h.owe.upd)))) (.ite hs.bump.evtNode.receiptNow hs.bump.evtNode.sendCtl))
  · exact hs
  · exact hs

theorem recordGoesOn {p : Nat} {v : VC} {x : RxRec} {n : Nat} (hs : r.Keeps s) : r.Keeps (s.recordGoesOn p v x n) := by
  unfold State.recordGoesOn
  refine .ite hs.updLink ?_
  extract_lets -underBinder -merge -useContext +onlyGivenNames s1
  split
  · exact hs.updLink.completed
  · exact .ite hs.updLink hs.updLink.mgEnds.fabricCredits

theorem recordsStart {p : Nat} {v : VC} {rs : List Record} {off : Nat} (hs : r.Keeps s) : r.Keeps (s.recordsStart p v rs off) := by
  induction rs generalizing s off with
  | nil => exact hs
  | cons x rs ih => exact .ite hs (ih hs.recordStarts.recordGoesOn)

theorem recordAborted {p : Nat} {v : VC} {x : RxRec} (hs : r.Keeps s) : r.Keeps (s.recordAborted p v x) := by
  unfold State.recordAborted
  extract_lets -underBinder -merge -useContext +onlyGivenNames s1
  split
  · exact hs.bump.updLink.cutOff
  · exact .ite hs.bump.updLink hs.bump.updLink.fabricCredits

theorem parseData {p : Nat} {v : VC} {first : Nat} {pieces : List Piece} (hs : r.Keeps s) : r.Keeps (s.parseData p v first pieces) := by
  unfold State.parseData
  extract_lets -underBinder -merge -useContext +onlyGivenNames rx5 starts6
  refine .ite ?_ ?_
  · clear_value rx5
    split
    · exact hs.recordAborted
    · exact hs.forcedRetrain
  · refine .ite hs.forcedRetrain ?_
    extract_lets -underBinder -merge -useContext +onlyGivenNames s1 off9
    have h1 : r.Keeps s1 := by
      unfold s1
      clear_value rx5
      split
      · exact hs.recordGoesOn
      · exact hs
    exact .ite h1 (h1.recordsStart.when fun h2 => h2.forcedRetrain)

theorem flitOut {p : Nat} {f : Flit} (hs : r.Keeps s) : r.Keeps (s.flitOut p f) :=
  hs.emit.evtFab.updLink

theorem sendUnseq {p q : Nat} {b : FlitBody} (hs : r.Keeps s) : r.Keeps (s.sendUnseq p q b) :=
  hs.flitOut

theorem sendSeq {p : Nat} {b : FlitBody} (hs : r.Keeps s) : r.Keeps (s.sendSeq p b) :=
  hs.updLink.flitOut.startIfNot

theorem consume {p : Nat} {v : VC} {n : Nat} (hs : r.Keeps s) : r.Keeps (s.consume p v n) :=
  hs.set.updLink

theorem entrySent {k : Option Packet} {r' : Record} (hs : r.Keeps s) : r.Keeps (s.entrySent k r') := by
  unfold State.entrySent
  split
  · exact hs.updEntry.grpTimers
  · exact hs

theorem fill {p : Nat} {v : VC} {xs : List TxRec} {off : Nat} (hs : r.Keeps s) : r.Keeps (s.fill p v xs off).2.2.2.2 := by
  induction xs generalizing s off with
  | nil => exact hs
  | cons x xs ih =>
    unfold State.fill
    extract_lets room n piece begun sent y
    split
    · exact hs
    · have hbegun : r.Keeps begun := .ite hs hs.consume.entrySent.evtPort
      have hsent : r.Keeps sent := .ite hbegun hbegun.txBytes
      clear_value sent
      split
      · exact ih hsent
      · exact hsent

theorem txEnded {x : TxRec} (hs : r.Keeps s) : r.Keeps (s.txEnded x) := by
  unfold State.txEnded
  split
  · exact hs.stage.updPkt
  · exact hs

theorem dataFlit {p : Nat} {v : VC} (hs : r.Keeps s) (h : s.dataFlit p v = some t) : r.Keeps t := by
  unfold State.dataFlit at h
  dsimp only at h
  split at h
  · exact nomatch h
  · split at h
    · obtain rfl := Option.some.inj h
      exact hs.updLink.sendSeq.evtFab
    · split at h
      · exact nomatch h
      · obtain rfl := Option.some.inj h
        exact (hs.fill.updLink.foldl fun _ _ h => h.txEnded).sendSeq.evtFab

theorem startTx {p : Nat} {k : Packet} {bound : Option Nat} (hs : r.Keeps s) : r.Keeps (s.startTx p k bound) := by
  unfold State.startTx
  exact ((hs.stage.updPkt.filterPass.when fun h1 => h1.evtFab).when fun h2 => h2.bump).updLink

theorem lineMg {p : Nat} (hs : r.Keeps s) : r.Keeps (s.lineMg p) := by
  unfold State.lineMg
  refine .ite hs ?_
  split
  · exact hs.updLink
  · split
    · exact hs.startTx
    · exact hs

theorem lineTt {p : Nat} (hs : r.Keeps s) : r.Keeps (s.lineTt p) := by
  unfold State.lineTt
  split
  · exact hs
  · refine .ite hs ?_
    split
    · exact hs.startTx
    · exact hs

theorem sendDelay {p : Nat} {b : FlitBody} (hs : r.Keeps s) : r.Keeps (s.sendDelay p b) := by
  unfold State.sendDelay
  extract_lets -underBinder -merge -useContext +onlyGivenNames s1
  split
  · exact (Keeps.ite hs.updLink hs.updLink.upd.start).sendUnseq
  · exact hs.updLink

theorem order7 {p : Nat} {vs : List VC} (hs : r.Keeps s) (h : s.order7 p vs = some t) : r.Keeps t := by
  induction vs with
  | nil => exact nomatch h
  | cons v vs ih =>
    unfold State.order7 at h
    split at h
    · exact ih h
    · split at h
      · next hflit =>
        obtain rfl := Option.some.inj h
        exact hs.dataFlit hflit
      · exact ih h

theorem newFlit {p : Nat} (hs : r.Keeps s) : r.Keeps (s.newFlit p) := by
  unfold State.newFlit
  extract_lets -underBinder -merge -useContext +onlyGivenNames l77 grain78
  refine .ite hs.sendSeq.updLink ?_
  split
  · exact hs.sendDelay
  · extract_lets -underBinder -merge -useContext +onlyGivenNames s1 bound131
    split
    · rename_i u1 e1
      exact (hs.lineTt.dataFlit (Option.ite_none_right_eq_some.1 e1 |>.2)).evtFab
    · extract_lets -underBinder -merge -useContext +onlyGivenNames l144
      split
      · exact hs.lineTt.updLink.consume.sendSeq
      · extract_lets -underBinder -merge -useContext +onlyGivenNames s2
        split
        · rename_i u2 e2
          exact (hs.lineTt.lineMg.dataFlit e2)
        · split
          · rename_i u3 e3
            exact (hs.lineTt.lineMg.order7 e3)
          · exact .ite hs.lineTt.lineMg.sendSeq.evtFab hs.lineTt.lineMg.sendUnseq.evtFab

theorem perLane {p : Nat} {lanes : List Nat} {f : Nat → Lctl} (hs : r.Keeps s) : r.Keeps (s.perLane p lanes f) :=
  hs.foldl fun _ _ h => h.flitOut

theorem sendLctl {p : Nat} {m : Lctl} (hs : r.Keeps s) : r.Keeps (s.sendLctl p m) := by
  unfold State.sendLctl
  extract_lets -underBinder -merge -useContext +onlyGivenNames s1
  have h : r.Keeps s1 := hs.updLink.sendUnseq
  split
  · exact h.updLink.quiesced
  · exact h

theorem slotUp {p : Nat} (hs : r.Keeps s) : r.Keeps (s.slotUp p) := by
  unfold State.slotUp
  extract_lets -underBinder -merge -useContext +onlyGivenNames l3
  split
  · exact hs.sendLctl
  · split
    · exact hs.updLink.sendUnseq
    · split
      · extract_lets -underBinder -merge -useContext +onlyGivenNames s1
        have h : r.Keeps s1 := hs.updLink.flitOut
        split
        · exact h.bump
        · exact h
      · refine .ite ?_ hs.newFlit
        split
        · exact hs.sendDelay
        · exact hs.sendUnseq.evtFab

theorem slot {p : Nat} (hs : r.Keeps s) : r.Keeps (s.slot p) := by
  unfold State.slot
  extract_lets -underBinder -merge -useContext +onlyGivenNames st2 l3
  refine .ite hs ?_
  refine .ite hs.perLane ?_
  refine .ite ?_ ?_
  · split
    · exact hs.sendLctl
    · exact hs.perLane
  · refine .ite ?_ ?_
    · split
      · exact hs.updLink.perLane
      · exact hs.perLane.updLink.branch (fun h => h.enterEqualise) (fun h => h.configCheck)
    · refine .ite ?_ ?_
      · split
        · exact hs.sendLctl
        · exact hs.sendUnseq
      · refine .ite ?_ (.ite hs.slotUp hs)
        split
        · exact hs.sendLctl
        · exact .ite hs.sendUnseq hs.sendUnseq

/-! ### LaneOps -/

theorem pllCheck (hs : r.Keeps s) : r.Keeps s.pllCheck :=
  hs.upd.foldl fun _ _ h => h.set.flag

theorem endTests {p : Nat} (hs : r.Keeps s) : r.Keeps (s.endTests p) :=
  hs.foldl fun _ _ h => h.set.set

theorem detectCheck {p : Nat} (hs : r.Keeps s) : r.Keeps (s.detectCheck p) :=
  .ite hs.set.updLink hs

theorem armLockLoss {p : Nat} (hs : r.Keeps s) : r.Keeps (s.armLockLoss p) := by
  unfold State.armLockLoss
  extract_lets -underBinder -merge -useContext +onlyGivenNames lost1 t at_3
  clear_value at_3
  split
  · exact hs.start
  · exact hs.stop

theorem laneLost {p lane : Nat} (hs : r.Keeps s) : r.Keeps (s.laneLost p lane) :=
  .ite hs (hs.flag.flag.bump.upd.branch (fun h1 => h1.armLockLoss) (fun h1 => h1.when fun h2 => h2.bump.evtPort))

theorem markUnfit {p lane cause : Nat} (hs : r.Keeps s) : r.Keeps (s.markUnfit p lane cause) :=
  hs.flag.set.whenNot fun h1 => h1.set.reportPort.branch (fun h2 => h2.schedule) (fun h2 => h2.when fun h3 => h3.set.bump.evtPort.emit)

/-! ### OmiOps -/

theorem setMbox {k : Nat} {m : Mbox} (hs : r.Keeps s) : r.Keeps (s.setMbox k m) :=
  hs.upd

theorem updMbox {k : Nat} {f : Mbox → Mbox} (hs : r.Keeps s) : r.Keeps (s.updMbox k f) :=
  hs.setMbox

theorem updWork {id : Nat} {f : OmiWork → OmiWork} (hs : r.Keeps s) : r.Keeps (s.updWork id f) :=
  hs.upd

theorem answer {id n : Nat} {r' : OmiRsp} (hs : r.Keeps s) : r.Keeps (s.answer id n r') :=
  hs.updWork

theorem finish {id : Nat} {r' : OmiRsp} (hs : r.Keeps s) : r.Keeps (s.finish id r') :=
  hs.answer

theorem finishOpt {id : Option Nat} {r' : OmiRsp} (hs : r.Keeps s) : r.Keeps (s.finishOpt id r') := by
  unfold State.finishOpt
  split
  · exact hs.finish
  · exact hs

theorem forward {r' : OmiRun} {n : Nat} (hs : r.Keeps s) : r.Keeps (s.forward r' n) :=
  .ite hs.answer hs.sendFw

theorem start_ {x : OmiRun} {multi : Bool} {ns : List Nat} {run : State → State × Option OmiRsp} (hs : r.Keeps s)
    (hrun : ∀ t, r.Keeps t → r.Keeps (run t).1) : r.Keeps (s.start_ x multi ns run) := by
  unfold State.start_
  refine Keeps.foldl (.when hs.updWork fun h => ?_) fun _ _ h => h.forward
  have hrun := hrun _ h
  dsimp only
  split
  · exact hrun.finish
  · exact hrun

theorem omi {k op : Nat} {multi : Bool} {ns : OmiRun → List Nat} {run : State → OmiRun → State × Option OmiRsp} (hs : r.Keeps s)
    (hrun : ∀ t x, r.Keeps t → r.Keeps (run t x).1) : r.Keeps (s.omi k op multi ns run) := by
  unfold State.omi
  split
  · exact hs.start_ fun t h => hrun t _ h
  · exact hs

theorem answers {st : Nat} (hs : r.Keeps s) : r.Keeps (s.says st).1 := by
  unfold State.says
  exact hs

/-! ### WinOps -/

theorem awaitAll {d : AckDone} (hs : r.Keeps s) : r.Keeps (s.awaitAll d).2 :=
  .snd hs.upd

theorem sendAck {part node id : Nat} (hs : r.Keeps s) : r.Keeps (s.sendAck part node id) :=
  .ite hs hs.sendFw

theorem ackNote {id node : Nat} (hs : r.Keeps s) : r.Keeps (s.ackNote id node) :=
  hs.upd

theorem ackTo {part node id : Nat} (hs : r.Keeps s) : r.Keeps (s.ackTo part node id) :=
  .ite hs.ackNote hs.sendAck

theorem awaitThese {ns : List Nat} {d : AckDone} (hs : r.Keeps s) : r.Keeps (s.awaitThese ns d).2 :=
  .snd hs.upd

theorem setView {part n : Nat} {v : VView} (hs : r.Keeps s) : r.Keeps (s.setView part n v) :=
  hs.upd

theorem installView {part n : Nat} {v : VView} (hs : r.Keeps s) : r.Keeps (s.installView part n v) :=
  hs.setView.when fun h => h.set.upd

theorem spreadView {k n : Nat} {d : AckDone} (hs : r.Keeps s) : r.Keeps (s.spreadView k n d) :=
  hs.installView.awaitAll.fwAll

theorem vdspCame {part n ev v : Nat} (hs : r.Keeps s) : r.Keeps (s.vdspCame part n ev v) := by
  unfold State.vdspCame
  extract_lets -underBinder -merge -useContext +onlyGivenNames s1
  refine .ite hs.vdspEvent ?_
  split
  · exact hs.vdspEvent.spreadView
  · exact hs.vdspEvent

theorem tellCfg {p : Nat} (hs : r.Keeps s) : r.Keeps (s.tellCfg p) := by
  unfold State.tellCfg
  extract_lets -underBinder -merge -useContext +onlyGivenNames s1
  have h1 : r.Keeps s1 := by
    unfold s1
    split
    · exact hs.spreadView
    · exact hs
  refine h1.foldl fun _ _ h2 => ?_
  extract_lets -underBinder -merge -useContext +onlyGivenNames part4 n
  refine .ite h2 ?_
  split
  · exact .ite h2.vdspCame h2.sendFw
  · exact h2

theorem setWent {part bank idx : Nat} {e : WEnt} (hs : r.Keeps s) : r.Keeps (s.setWent part bank idx e) :=
  hs.upd

theorem checkHeld {part : Nat} (hs : r.Keeps s) : r.Keeps (s.checkHeld part) :=
  hs.flag

theorem beginCommit {c : Commit} (hs : r.Keeps s) : r.Keeps (s.beginCommit c) :=
  hs.upd.flag.start

theorem swap {c : Commit} (hs : r.Keeps s) : r.Keeps (s.swap c) := by
  unfold State.swap
  exact ((Keeps.ite hs.set hs).when fun h => h.set).flag

theorem reload {c : Commit} (hs : r.Keeps s) : r.Keeps (s.reload c) :=
  (hs.foldl fun _ _ h1 => h1.setWent).when fun h2 => h2.upd

theorem stageBound {part : Nat} {es : List WEnt} (hs : r.Keeps s) : r.Keeps (s.stageBound part es) :=
  hs.foldl fun _ _ h => h.setWent

theorem boundCommit {es : List WEnt} {c : Commit} (hs : r.Keeps s) : r.Keeps (s.boundCommit es c) :=
  .ite hs.upd hs.stageBound.beginCommit

theorem spreadBound {k : Nat} {d : AckDone} (hs : r.Keeps s) : r.Keeps (s.spreadBound k d) :=
  hs.awaitAll.upd.fwAll.boundCommit

theorem lookup {part : Nat} {own : Option Nat} {t : Tlp} (hs : r.Keeps s) : r.Keeps (s.lookup part own t).2 := by
  have redirected : ∀ {go : Look} {n entry : Nat} {home : State → Look × State}, (∀ t, r.Keeps t → r.Keeps (home t).2) → r.Keeps (match own with
      | none => (go, s)
      | some m => match acsRule (s.view part (own.getD 0)) m n t with
        | .pass => (go, s)
        | .redirect => home (s.bump WIN_CNT_REDIRECT_COUNT)
        | .block c => (Look.violation c entry, s)).2 := by
    intro go n entry home hhome
    split
    · exact hs
    · split
      · exact hs
      · exact hhome _ hs.bump
      · exact hs
  unfold State.lookup
  extract_lets fail me home acs blocked
  have hacs : ∀ m go entry, r.Keeps (acs s m go entry).2 := fun m go entry => redirected fun _ h => h
  clear_value acs
  split
  · exact .ite_snd hs (.ite_snd hs hs)
  · exact .ite_snd hs (.ite_snd hs (hacs ..))
  · refine .ite_snd hs (.ite_snd hs (.ite_snd hs (.ite_snd hs (.ite_snd hs (.ite_snd hs ?_)))))
    dsimp only
    split
    · exact hs
    · exact hacs ..
    · exact hs
    · exact .ite_snd hs hs
    · exact hs

/-! ### SchOps -/

theorem meter {part c : Nat} (hs : r.Keeps s) : r.Keeps (s.meter part c).2.2 := by
  unfold State.meter
  split
  · exact .snd hs.evtPart
  · extract_lets -underBinder -merge -useContext +onlyGivenNames pir7 cir8 tok9 rel10 s1 s2 ctok14
    have h : r.Keeps s2 := .ite ((((Keeps.ite hs hs.set)).bump).evtPart) ((Keeps.ite hs hs.set))
    split
    · exact .snd h.evtPart
    · split
      · exact .snd h.set.evtPart
      · exact .snd h.bump.evtPart

theorem resetMeter {part : Nat} (hs : r.Keeps s) : r.Keeps (s.resetMeter part) :=
  hs.unsetReg.unsetReg.unset.unset.flag

theorem ctxFor {e n : Nat} {k : Packet} (hs : r.Keeps s) (h : s.ctxFor e k = some (n, t)) : r.Keeps t := by
  unfold State.ctxFor at h
  exact hs.takeCtx h

theorem lbCtx {n : Nat} {k : Packet} (hs : r.Keeps s) (h : s.lbCtx k = some (n, t)) : r.Keeps t := by
  unfold State.lbCtx at h
  dsimp only at h
  split at h
  · next htake =>
    obtain ⟨c, -, heq⟩ := Option.map_eq_some_iff.1 h
    obtain ⟨-, rfl⟩ := Prod.mk.inj heq
    exact hs.takeCtx htake
  · exact nomatch h

theorem markPkt {k : Packet} {w : Want} (hs : r.Keeps s) : r.Keeps (s.markPkt k w) := by
  unfold State.markPkt
  exact (Keeps.ite hs.evtPart hs).updPkt

theorem judge {i e : Nat} {v : VC} (hs : r.Keeps s) : r.Keeps (s.judge i e v) := by
  unfold State.judge
  extract_lets -underBinder -merge -useContext +onlyGivenNames ks1
  split
  · exact hs
  · exact .ite hs.markPkt hs.markPkt

theorem setSs {k : Nat} {x : StreamSt} (hs : r.Keeps s) : r.Keeps (s.setSs k x) :=
  hs.upd

theorem setLists {e : Nat} {c : List Nat} {x : List Nat} (hs : r.Keeps s) : r.Keeps (s.setLists e c x) :=
  hs.upd

theorem enlist {i e : Nat} {where_ : Option Bool} (hs : r.Keeps s) : r.Keeps (s.enlist i e where_) := by
  unfold State.enlist
  extract_lets -underBinder -merge -useContext +onlyGivenNames c1 x k leave4
  split
  · exact .ite hs.setLists.setSs hs
  · exact .ite hs hs.setLists.setSs
  · exact .ite hs hs.setLists.setSs

theorem refreshStream {i e : Nat} (hs : r.Keeps s) : r.Keeps (s.refreshStream i e) := by
  unfold State.refreshStream
  extract_lets -underBinder -merge -useContext +onlyGivenNames k
  refine .ite hs.enlist.upd ?_
  extract_lets -underBinder -merge -useContext +onlyGivenNames s1 x
  have h : r.Keeps s1 := hs.judge.judge.judge
  split
  · exact h.setSs.enlist
  · exact h.setSs.enlist

theorem refresh {e : Nat} (hs : r.Keeps s) : r.Keeps (s.refresh e) :=
  hs.foldl fun _ _ h => h.refreshStream

/-- The context of a request that needs one. -/
theorem ctxFor_getD {e : Nat} {k : Packet} {n : Nat} (hs : r.Keeps s) : r.Keeps ((s.ctxFor e k).getD (n, s)).2 := by
  rcases hctx : s.ctxFor e k with _ | ⟨n, t⟩
  · exact hs
  · exact hs.ctxFor hctx

theorem startPcie {e : Nat} {k : Packet} (hs : r.Keeps s) : r.Keeps (s.startPcie e k) := by
  unfold State.startPcie
  refine .ite (Keeps.when hs.bump.evtPart fun h => h.markDone).unbuffer (.ite (Keeps.when hs.synth fun h => h.markDone).unbuffer ?_)
  extract_lets c
  have hc : r.Keeps c.2 := .ite_snd hs.ctxFor_getD hs
  clear_value c
  exact (Keeps.branch hc (fun h => h.bump.evtPort) fun h => h.bump.evtPort).filterPass.stage.updPkt.set.updPx.upd.evtPort.txBytes.emit

theorem send {e : Nat} {k : Packet} (hs : r.Keeps s) : r.Keeps (s.send e k) := by
  unfold State.send
  exact (hs.stage.branch (fun h => h.startTx) (fun h => h.startPcie)).setSs.refreshStream

theorem sendStream {e : Nat} {k : Packet} (hs : r.Keeps s) : r.Keeps (s.sendStream e k) := by
  unfold State.sendStream
  exact (Keeps.ite hs.bump.evtNode hs).send

theorem drr {e fuel : Nat} {exc : Bool} (hs : r.Keeps s) : r.Keeps (s.drr e exc fuel) := by
  induction fuel generalizing s with
  | zero => exact hs
  | succ fuel ih =>
    unfold State.drr
    dsimp only
    split
    · exact hs
    · split
      · refine .ite hs.setSs.evtNode.sendStream ?_
        exact ih (.ite hs.setSs.setLists hs.setSs.setLists)
      · exact ih (.ite hs.setSs.setLists hs.setSs.setLists)

theorem endUrgent {i e : Nat} (hs : r.Keeps s) : r.Keeps (s.endUrgent i e) :=
  hs.setSs.upd

theorem urgentOn {e : Nat} (hs : r.Keeps s) : r.Keeps (s.urgentOn e).2 := by
  unfold State.urgentOn
  split
  · extract_lets -underBinder -merge -useContext +onlyGivenNames x
    split
    · exact .ite_snd (.snd hs.setSs.sendStream) (.snd hs.endUrgent)
    · exact .snd hs.endUrgent
  · exact hs

theorem urgentStep {e : Nat} (hs : r.Keeps s) : r.Keeps (s.urgentStep e).2 := by
  unfold State.urgentStep
  extract_lets -underBinder -merge -useContext +onlyGivenNames g3 s1
  refine .ite_snd hs.urgentOn ?_
  split
  · exact .snd hs.urgentOn
  · extract_lets -underBinder -merge -useContext +onlyGivenNames key5 x
    split
    · exact .snd hs.urgentOn
    · exact .ite_snd (.snd hs.urgentOn.evtNode.setSs.upd.sendStream) (.snd hs.urgentOn.evtNode.setSs.sendStream)

theorem select {e : Nat} (hs : r.Keeps s) : r.Keeps (s.select e) := by
  unfold State.select
  extract_lets -underBinder -merge -useContext +onlyGivenNames s1
  split
  · exact (hs.refresh.bump.evtNode.whenNot fun h1 => h1.upd).send
  · extract_lets -underBinder -merge -useContext +onlyGivenNames u s2
    have h2 : r.Keeps s2 := hs.refresh.urgentStep
    refine .ite h2 ?_
    extract_lets -underBinder -merge -useContext +onlyGivenNames c15 x
    refine .ite h2.drr ?_
    refine .ite h2.drr ?_
    split
    · split
      · exact h2.bump.evtNode.sendStream
      · exact h2
    · exact h2

/-! ### RouteOps -/

theorem denied {part cause : Nat} {t : Tlp} {kind : Nat} (hs : r.Keeps s) : r.Keeps (s.denied part cause t kind) := by
  unfold State.denied
  extract_lets -underBinder -merge -useContext +onlyGivenNames r2 s1
  refine .ite hs.evtPart.bump ?_
  refine .ite hs.evtPart.bump.report ?_
  extract_lets -underBinder -merge -useContext +onlyGivenNames s2
  have h : r.Keeps s2 := hs.evtPart.bump.report
  split
  · exact h.aer
  · exact h

theorem hostRoute {part : Nat} {t : Tlp} {map : Bool} (hs : r.Keeps s) : r.Keeps (s.hostRoute part t map).2 := by
  unfold State.hostRoute
  refine .ite_snd hs ?_
  extract_lets -underBinder -merge -useContext +onlyGivenNames l1
  split
  · split
    · exact .snd hs.lookup
    · exact .snd hs.lookup.denied
  · exact .snd hs.lookup.denied
  · exact .snd hs.lookup.denied

theorem raiseRec {r' : Record} {inst : Option Nat} {cplId : Nat} {release : Option Nat} {dmWr : Option Nat} {pre : Nat} (hs : r.Keeps s) :
    r.Keeps (s.raiseRec r' inst cplId release dmWr pre).2 := by
  unfold State.raiseRec
  extract_lets -underBinder -merge -useContext +onlyGivenNames t
  refine .ite_snd (.snd hs.raise) ?_
  refine .ite_snd (.snd hs.emit) ?_
  extract_lets -underBinder -merge -useContext +onlyGivenNames id3
  split
  · exact .snd hs.set.upd.undeliverable
  · exact .snd hs.enqueueInternal

theorem insideMeter {part l : Nat} {metered : Bool} (hs : r.Keeps s) : r.Keeps (s.insideMeter part l metered).2.2 := by
  unfold State.insideMeter
  split
  · exact hs.meter
  · exact hs

/-! ### DmOps -/

theorem setCh {c : Nat} {x : DmCh} (hs : r.Keeps s) : r.Keeps (s.setCh c x) :=
  hs.upd

theorem updCh {c : Nat} {f : DmCh → DmCh} (hs : r.Keeps s) : r.Keeps (s.updCh c f) :=
  hs.setCh

theorem updDesc {c idx : Nat} {f : Desc → Desc} (hs : r.Keeps s) : r.Keeps (s.updDesc c idx f) :=
  hs.updCh

theorem dmTake {c idx addr off len : Nat} {fetch : Bool} {x : DmTag} (hs : r.Keeps s) (h : s.dmTake c idx addr off len fetch = some (x, t)) :
    r.Keeps t := by
  unfold State.dmTake at h
  split at h
  · exact nomatch h
  · dsimp only at h
    split at h
    · exact nomatch h
    · split at h
      · exact nomatch h
      · split at h
        · obtain ⟨-, rfl⟩ := Prod.mk.inj (Option.some.inj h)
          exact .whenNot hs.fresh.upd fun h => h.set.set
        · exact nomatch h

theorem updTag {tag : Nat} {f : DmTag → DmTag} (hs : r.Keeps s) : r.Keeps (s.updTag tag f) :=
  hs.upd

theorem dmUncount {t : DmTag} (hs : r.Keeps s) : r.Keeps (s.dmUncount t) :=
  .ite hs hs.set.set

theorem dmFreeTag {t : DmTag} (hs : r.Keeps s) : r.Keeps (s.dmFreeTag t) := by
  unfold State.dmFreeTag
  exact (Keeps.ite hs hs.dmUncount).upd.stop

theorem dmRetire {t : DmTag} (hs : r.Keeps s) : r.Keeps (s.dmRetire t) :=
  .ite hs.dmFreeTag hs.dmUncount.updTag.stop.start

theorem dmReserve {n : Nat} (hs : r.Keeps s) (h : s.dmReserve n = some t) : r.Keeps t := by
  obtain ⟨-, heq⟩ := Option.ite_none_right_eq_some.1 h
  obtain rfl := Option.some.inj heq
  exact hs.takeFree.set

theorem dmUnreserve {n : Nat} (hs : r.Keeps s) : r.Keeps (s.dmUnreserve n) :=
  .ite hs hs.addFree.set.collect

theorem dmFail {c idx st addr : Nat} (hs : r.Keeps s) : r.Keeps (s.dmFail c idx st addr) :=
  hs.dmUnreserve.updDesc

theorem dmSendRead {t : DmTag} {map metered : Bool} (hs : r.Keeps s) : r.Keeps (s.dmSendRead t map metered).2 := by
  unfold State.dmSendRead
  extract_lets -underBinder -merge -useContext +onlyGivenNames r1 h
  split
  · exact .snd hs.hostRoute
  · exact .snd hs.hostRoute.updTag.insideMeter.raiseRec.start

theorem dmAcquire {c : Nat} {d : Desc} {aside : Bool} {x : DmTag} (hs : r.Keeps s) (h : s.dmAcquire c d aside = some (x, t)) : r.Keeps t := by
  unfold State.dmAcquire at h
  dsimp only at h
  split at h
  · exact nomatch h
  · next hreserve =>
    split at h
    · exact nomatch h
    · next htake =>
      obtain ⟨-, rfl⟩ := Prod.mk.inj (Option.some.inj h)
      exact ((hs.dmReserve hreserve).dmTake htake).updTag.updDesc

theorem dmGo {c : Nat} {d : Desc} {t : DmTag} (hs : r.Keeps s) : r.Keeps (s.dmGo c d t) :=
  .ite hs.dmSendRead.evtNode hs.dmSendRead.dmFreeTag.dmFail

theorem dmIssue {c : Nat} (hs : r.Keeps s) : r.Keeps (s.dmIssue c) := by
  unfold State.dmIssue
  refine .ite hs ?_
  split
  · exact hs
  · split
    · exact hs.dmGo
    · split
      · rename_i t u e
        exact (hs.dmAcquire e).dmGo
      · exact .ite hs.evtNode hs

theorem dmWrite {c : Nat} {d : Desc} {n : Nat} {bytes : List (BitVec 8)} (hs : r.Keeps s) : r.Keeps (s.dmWrite c d n bytes) := by
  unfold State.dmWrite
  extract_lets -underBinder -merge -useContext +onlyGivenNames part2 a cls4 r5 h1
  split
  · exact hs.hostRoute.dmFail
  · exact (hs.hostRoute.insideMeter.addFree.set.upd.branch (fun h2 => h2.raiseRec.set) (fun h2 => h2.raiseRec)).updDesc.bump.evtNode

theorem dmForm {c fuel : Nat} (hs : r.Keeps s) : r.Keeps (s.dmForm c fuel) := by
  induction fuel generalizing s with
  | zero => exact hs
  | succ fuel ih =>
    unfold State.dmForm
    refine .ite hs ?_
    split
    · exact hs
    · refine .ite hs ?_
      dsimp only
      split
      · exact ih hs.dmWrite
      · exact hs

theorem dmFill {c : Nat} (hs : r.Keeps s) : r.Keeps (s.dmFill c) := by
  unfold State.dmFill
  refine .ite hs ?_
  split
  · exact hs
  · refine .ite hs ?_
    extract_lets -underBinder -merge -useContext +onlyGivenNames n
    split
    · exact hs.evtNode
    · rename_i u e
      exact (hs.dmReserve e).updDesc.dmWrite

theorem dmFetch {c : Nat} (hs : r.Keeps s) : r.Keeps (s.dmFetch c) := by
  unfold State.dmFetch
  extract_lets -underBinder -merge -useContext +onlyGivenNames x head7 size8 tail9
  refine .ite hs ?_
  extract_lets -underBinder -merge -useContext +onlyGivenNames n
  split
  · exact hs
  · rename_i t u e
    exact (hs.dmTake e).dmSendRead.updCh

theorem fetchHalt {c : Nat} (hs : r.Keeps s) : r.Keeps (s.fetchHalt c) := by
  unfold State.fetchHalt
  extract_lets -underBinder -merge -useContext +onlyGivenNames x
  split
  · exact hs
  · exact .ite hs hs.setCh.set.evtNode.bump.set.set

theorem dmKick {c : Nat} (hs : r.Keeps s) : r.Keeps (s.dmKick c) := by
  unfold State.dmKick
  extract_lets -underBinder -merge -useContext +onlyGivenNames s1 s2
  have h1 : r.Keeps s1 := hs.fetchHalt.dmFetch
  have h2 : r.Keeps s2 := by
    unfold s2
    split
    · refine .ite ?_ h1
      split
      · rename_i fst u e
        exact (h1.dmAcquire e)
      · exact h1
    · exact h1
  exact h2.set

theorem dmComplete {c : Nat} (hs : r.Keeps s) : r.Keeps (s.dmComplete c) := by
  unfold State.dmComplete
  split
  · exact hs
  · refine .ite hs ?_
    extract_lets -underBinder -merge -useContext +onlyGivenNames part37 lostW38 st39 s1 _ s2 _ s3 ns44 wb45 s4 s5 s6 s7 _ s8
    have h1 : r.Keeps s2 := hs.dmUnreserve.upd
    have h2 : r.Keeps s4 := by
      unfold s4
      split
      · exact h1.upd.raiseRec
      · exact h1.upd
    have h3 : r.Keeps s6 := .ite h2.updCh.set.bump.evtNode h2.updCh.set
    have h4 : r.Keeps s7 := .ite h3.raiseEvent h3
    have h5 : r.Keeps s8 := .ite h4 h4.updCh.set.evtNode.bump.set.set
    exact h5.dmKick

theorem dmStart {c : Nat} (hs : r.Keeps s) : r.Keeps (s.dmStart c).2 := by
  unfold State.dmStart
  extract_lets -underBinder -merge -useContext +onlyGivenNames miss7
  refine .ite_snd (.snd hs.bump.evtNode) ?_
  split
  · exact .snd hs.bump.evtNode
  · refine .ite_snd (.snd hs.bump.evtNode) ?_
    extract_lets -underBinder -merge -useContext +onlyGivenNames s1 s2
    have h1 : r.Keeps s1 := hs.updDesc.evtNode
    have h2 : r.Keeps s2 := by
      refine .ite h1.dmComplete ?_
      refine .ite ?_ h1.dmFill
      split
      · exact h1.dmGo
      · exact h1
    exact .snd h2.dmKick

theorem dmReset {c : Nat} {cmd : Option Nat} {newOwner : Option (Option (Nat × Nat))} (hs : r.Keeps s) : r.Keeps (s.dmReset c cmd newOwner) :=
  (((hs.upd.foldl fun _ _ h1 => h1.set).foldl fun _ _ h2 => h2.dmUnreserve).foldl fun _ _ h3 =>
    h3.dmRetire).set.setCh.set.set.set.set.set.set.set.set.set.set.set.start.set

theorem dmHost {part : Nat} (hs : r.Keeps s) : r.Keeps (s.dmHost part) :=
  hs.foldl fun _ _ h => h.dmKick

/-! ### LbOps -/

theorem updReq {id : Nat} {f : LbReq → LbReq} (hs : r.Keeps s) : r.Keeps (s.updReq id f) :=
  hs.upd

theorem lbLog {r' : LbReq} {cause addr : Nat} (hs : r.Keeps s) : r.Keeps (s.lbLog r' cause addr) := by
  unfold State.lbLog
  exact ((Keeps.ite hs.set.set.set.set.set.flag.set.set.set.set.set hs.set).bump.evtNode.set.when fun h1 => h1.report).when fun h2 => h2.raiseEvent

theorem dropLine {l : LbLine} (hs : r.Keeps s) : r.Keeps (s.dropLine l) :=
  hs.upd.stop.whenNot fun h1 => h1.bump.evtNode.set.set.set.set.set.set.set.when fun h2 => h2.reportNode

theorem dropLines {f : LbLine → Bool} (hs : r.Keeps s) : r.Keeps (s.dropLines f) :=
  hs.foldl fun _ _ h => h.dropLine

theorem semFree (hs : r.Keeps s) : r.Keeps s.semFree :=
  hs.unsetReg.set.stop

theorem semRelease {part : Nat} (hs : r.Keeps s) : r.Keeps (s.semRelease part) :=
  .ite hs.semFree hs

theorem lbSend {r' : Record} {t : Tlp} (hs : r.Keeps s) : r.Keeps (s.lbSend r' t) :=
  .ite hs.cplHere hs.raise

theorem lbClose {r' : LbReq} (hs : r.Keeps s) : r.Keeps (s.lbClose r').2 := by
  unfold State.lbClose
  extract_lets -underBinder -merge -useContext +onlyGivenNames mine9 _ s1 s2 s3
  have h : r.Keeps s3 := by
    unfold s3
    split
    · extract_lets -underBinder -merge -useContext +onlyGivenNames _ s4
      split
      · exact hs.upd.stop.upd.markDone
      · exact hs.upd.stop.upd
    · exact hs.upd.stop
  split
  · exact h
  · split
    · exact .snd h.endCtx
    · exact h

theorem lbEnd {r' : LbReq} {st : CplStatus} (hs : r.Keeps s) : r.Keeps (s.lbEnd r' st) :=
  .ite hs.lbClose.lbSend hs.lbClose

theorem lbData {r' : LbReq} {ds : List (Nat × Nat)} (hs : r.Keeps s) : r.Keeps (s.lbData r' ds) :=
  hs.lbClose.whenNot fun h1 => h1.foldl fun _ _ h2 => h2.lbSend

theorem lbUndeliv {r' : LbReq} (hs : r.Keeps s) : r.Keeps (s.lbUndeliv r') := by
  unfold State.lbUndeliv
  extract_lets -underBinder -merge -useContext +onlyGivenNames rid2 due3 _ s1 s2
  clear_value due3
  split
  · split
    · exact hs.upd.lbClose.undelivDest
    · exact hs.upd.lbClose.dmLose.undeliverable
  · exact hs.upd.lbClose

theorem lbReset (hs : r.Keeps s) : r.Keeps s.lbReset := by
  unfold State.lbReset
  extract_lets -underBinder -merge -useContext +onlyGivenNames s1 _ s2 s3 s4 s5
  have h1 : r.Keeps s1 := by
    unfold s1
    split
    · split
      · exact hs.lbLog
      · exact hs
    · exact hs
  have h2 : r.Keeps s3 := h1.upd.stop.foldl fun _ _ h3 => h3.lbUndeliv
  have h4 : r.Keeps s4 := h2.dropLines.semFree
  exact .ite h4.set.emit.start h4.set.emit.stop

/-! ### MbOps -/

theorem showDeferred {k : Nat} (hs : r.Keeps s) : r.Keeps (s.showDeferred k) :=
  hs.set

theorem mbReset {k : Nat} (hs : r.Keeps s) : r.Keeps (s.mbReset k) :=
  (hs.updMbox.foldl fun _ _ h => h.unset).unset

theorem eqEmpty {k : Nat} (hs : r.Keeps s) : r.Keeps (s.eqEmpty k) :=
  ((hs.foldl fun _ _ h1 => h1.unset).setQueue.foldl fun _ _ h2 => h2.queuePlace).unpark

theorem eqMove {k fuel : Nat} (hs : r.Keeps s) : r.Keeps (s.eqMove k fuel) := by
  induction fuel generalizing s with
  | zero => exact hs
  | succ fuel ih =>
    unfold State.eqMove
    dsimp only
    split
    · refine .ite (ih hs.setQueue.ringPlace) ?_
      split
      · exact .ite (ih hs.setQueue) hs
      · exact hs
    · split
      · exact ih hs.setQueue
      · exact hs

theorem placeRsp {k : Nat} {bytes : List Nat} (hs : r.Keeps s) : r.Keeps (s.placeRsp k bytes) :=
  hs.updMbox.set.set.set.when fun h => h.signal

theorem storeRsp {k seq : Nat} {bytes : List Nat} (hs : r.Keeps s) : r.Keeps (s.storeRsp k seq bytes) :=
  .ite hs hs.updMbox.set

theorem deferredEvent {w : OmiRun} {o : OmiRsp} (hs : r.Keeps s) : r.Keeps (s.deferredEvent w o) :=
  hs.raiseEvent

/-! ### SlotOps -/

theorem setSpc {c : Nat} {x : SpCh} (hs : r.Keeps s) : r.Keeps (s.setSpc c x) :=
  hs.upd

theorem updSpc {c : Nat} {f : SpCh → SpCh} (hs : r.Keeps s) : r.Keeps (s.updSpc c f) :=
  hs.setSpc

theorem setSpState {c st : Nat} (hs : r.Keeps s) : r.Keeps (s.setSpState c st) :=
  hs.set.flag

theorem spTell {c ev v : Nat} (hs : r.Keeps s) : r.Keeps (s.spTell c ev v) := by
  unfold State.spTell
  split
  · exact hs.tellVdsp
  · exact hs

theorem spDone {c : Nat} (hs : r.Keeps s) : r.Keeps (s.spDone c) := by
  unfold State.spDone
  split
  · exact hs.updSpc.tellVdsp
  · exact hs

theorem spReport {c cls cause : Nat} (hs : r.Keeps s) : r.Keeps (s.spReport c cls cause) := by
  unfold State.spReport
  extract_lets -underBinder -merge -useContext +onlyGivenNames unit1
  split
  · exact hs.reportPort
  · exact hs.reportNode

theorem spPowerOff {c : Nat} (hs : r.Keeps s) : r.Keeps (s.spPowerOff c) := by
  unfold State.spPowerOff
  split
  · exact hs.foldl fun _ _ h => h.advanceGen
  · exact hs

theorem pad {e : Emit} (hs : r.Keeps s) : r.Keeps (s.pad e) :=
  .ite hs hs.emit

theorem spGates {c : Nat} {on : Bool} (hs : r.Keeps s) : r.Keeps (s.spGates c on) :=
  .ite hs hs.setSpc.pad

theorem spPerstSet {c : Nat} {low : Bool} (hs : r.Keeps s) : r.Keeps (s.spPerstSet c low) := by
  unfold State.spPerstSet
  exact (Keeps.ite hs.stop hs).whenNot fun h => h.flag.pad

theorem spWarnShow {c : Nat} (hs : r.Keeps s) : r.Keeps (s.spWarnShow c) :=
  .ite hs (hs.flag.pad.branch (fun h => h.updSpc.start.evtNode) (fun h => h.stop))

theorem spWarnEnd {c : Nat} (hs : r.Keeps s) : r.Keeps (s.spWarnEnd c) :=
  hs.updSpc.spWarnShow

theorem spStopTimers {c : Nat} (hs : r.Keeps s) : r.Keeps (s.spStopTimers c) :=
  hs.foldl fun _ _ h => h.stop

theorem spCurveZero {c : Nat} (hs : r.Keeps s) : r.Keeps (s.spCurveZero c) :=
  hs.updSpc

theorem spDrive {c f : Nat} (hs : r.Keeps s) : r.Keeps (s.spDrive c f) :=
  hs.updSpc.spCurveZero.spGates.start

theorem spFeedOn {c : Nat} (hs : r.Keeps s) : r.Keeps (s.spFeedOn c) := by
  unfold State.spFeedOn
  extract_lets -underBinder -merge -useContext +onlyGivenNames p1 f2
  clear_value f2
  split
  · exact hs.setSpState.spDrive.set
  · exact hs.setSpState

theorem spBegin {c : Nat} (hs : r.Keeps s) : r.Keeps (s.spBegin c) :=
  hs.evtNode.spFeedOn

theorem spLatchSettings {c : Nat} (hs : r.Keeps s) : r.Keeps (s.spLatchSettings c) := by
  unfold State.spLatchSettings
  exact hs.updSpc

theorem spStart {c : Nat} (hs : r.Keeps s) : r.Keeps (s.spStart c) :=
  .ite hs.setSpState.spDone (hs.spLatchSettings.branch (fun h1 => h1.setSpState.set.spReport.spDone) (fun h1 => h1.branch (fun h2 =>
    h2.setSpState.spDone) (fun h2 => h2.set.spBegin)))

theorem spEnable {c : Nat} (hs : r.Keeps s) : r.Keeps (s.spEnable c) :=
  hs.set.branch (fun h1 => h1.spDone) (fun h1 => h1.branch (fun h2 => h2.stop.spStart) (fun h2 => h2.branch (fun h3 => h3.updSpc) (fun h3 =>
    h3.whenNot fun h4 => h4.spDone)))

theorem spGatesDown {c : Nat} (hs : r.Keeps s) : r.Keeps (s.spGatesDown c) :=
  hs.spGates.stop.start

theorem spStop {c : Nat} (hs : r.Keeps s) : r.Keeps (s.spStop c) :=
  hs.spStopTimers.setSpState.spPerstSet.branch (fun h => h.spGatesDown) (fun h => h.start)

theorem spIsOff {c : Nat} (hs : r.Keeps s) : r.Keeps (s.spIsOff c) :=
  (hs.spStopTimers.spGates.spWarnEnd.setSpc.branch (fun h1 => h1.setSpState.start) (fun h1 => h1.setSpState)).spPowerOff.spDone.when fun h2 =>
    h2.spStart

theorem spDisable {c : Nat} (hs : r.Keeps s) : r.Keeps (s.spDisable c) :=
  hs.set.branch (fun h1 => h1.spDone) (fun h1 => h1.updSpc.branch (fun h2 => h2.spStop) (fun h2 => h2.whenNot fun h3 => h3.branch (fun h4 =>
    h4.stop.stop.setSpState.spDone) (fun h4 => h4.spDone)))

theorem spLatch {c cause : Nat} (hs : r.Keeps s) : r.Keeps (s.spLatch c cause) := by
  unfold State.spLatch
  exact hs.spStopTimers.spGates.spPerstSet.setSpState.set.set.spWarnEnd.updSpc.spReport.evtNode.spPowerOff.spTell.spTell.spDone

theorem spTrip {c cause point : Nat} (hs : r.Keeps s) : r.Keeps (s.spTrip c cause point) :=
  .ite (.ite hs.set hs) (.ite hs (((hs.spStopTimers.spGates.spPerstSet.spWarnEnd.updSpc.bump.set.set.evtNode.spReport.spPowerOff.spTell.branch (fun
    h1 => h1.setSpState.spTell) (fun h1 => h1.branch (fun h2 => h2.setSpState) (fun h2 => h2.set.setSpState.start))).when fun h3 => h3.start).spDone))

theorem spRetryNow {c : Nat} (hs : r.Keeps s) : r.Keeps (s.spRetryNow c) :=
  hs.updSpc.bump.evtNode.spBegin

theorem spChange {c : Nat} (hs : r.Keeps s) : r.Keeps (s.spChange c) :=
  hs.spGates.setSpState.spCurveZero.stop.updSpc.start

theorem spFeeds {c : Nat} (hs : r.Keeps s) : r.Keeps (s.spFeeds c) :=
  .ite (.ite hs.spFeedOn hs) (.ite (.ite (hs.spGates.stop.branch (fun h1 => h1.updSpc.start) (fun h1 => h1.setSpState)) hs) (.ite
    hs.updSpc.spWarnShow (.ite (.ite hs.updSpc.spWarnShow (hs.updSpc.spWarnShow.branch (fun h2 => h2.spChange) (fun h2 => h2.branch (fun h3 =>
      h3.startIfNot) (fun h3 => h3.stop)))) hs)))

theorem feedsChanged (hs : r.Keeps s) : r.Keeps s.feedsChanged :=
  hs.foldl fun _ _ h => h.spFeeds

theorem spCycle {c : Nat} (hs : r.Keeps s) : r.Keeps (s.spCycle c).2 :=
  .ite_snd (.snd hs.bump.evtNode.updSpc.spWarnShow) hs

theorem spPfStart (hs : r.Keeps s) : r.Keeps s.spPfStart :=
  hs.foldl fun _ _ h1 => h1.updSpc.spWarnShow.branch (fun h2 => h2.stop.stop.setSpState) (fun h2 => h2.when fun h3 =>
    h3.spStopTimers.spGates.setSpState)

theorem spPfOff {c : Nat} (hs : r.Keeps s) : r.Keeps (s.spPfOff c) :=
  .ite hs.updSpc (((hs.spStopTimers.spPerstSet.spGates.updSpc.whenNot fun h1 => h1.setSpState).when fun h2 => h2.set.spPowerOff).spWarnEnd)

theorem spPersistOff (hs : r.Keeps s) : r.Keeps s.spPersistOff :=
  hs.foldl fun _ _ h => h.spPfOff

theorem spPfEnd (hs : r.Keeps s) : r.Keeps s.spPfEnd :=
  hs.foldl fun _ _ h => h.updSpc.spWarnShow

theorem spPresence {c : Nat} (hs : r.Keeps s) : r.Keeps (s.spPresence c) :=
  .ite hs (hs.flag.spTell.branch (fun h1 => h1.stop.when fun h2 => h2.spRetryNow) (fun h1 => h1.branch (fun h3 => h3.updSpc.spStop) (fun h3 =>
    h3.branch (fun h4 => h4.stop.setSpState) (fun h4 => h4.when fun h5 => h5.start))))

/-! ### PcieOps -/

theorem trainPort {p : Nat} (hs : r.Keeps s) : r.Keeps (s.trainPort p) :=
  .ite hs.emit hs

theorem flrAdvance {i : Nat} (hs : r.Keeps s) : r.Keeps (s.flrAdvance i) :=
  hs.advanceGen.foldl fun _ _ h => h.advanceGen

theorem portAdvance {p : Nat} (hs : r.Keeps s) : r.Keeps (s.portAdvance p) :=
  hs.foldl fun _ _ h => h.advanceGen

theorem issueReset {i : Nat} (hs : r.Keeps s) : r.Keeps (s.issueReset i) := by
  unfold State.issueReset
  exact (Keeps.ite hs.emit hs.upd.emit).start

theorem loseOut {r' : Record} {arrivedOn : Bool} {id cplId : Nat} {host : Bool} (hs : r.Keeps s) :
    r.Keeps (s.loseOut r' arrivedOn id cplId host) := by
  unfold State.loseOut
  exact .ite ((Keeps.ite hs.markDone hs).bump) (.ite hs.undelivDest hs.dmLose.undeliverable)

theorem dropCtxOf {p : Nat} {r' : Record} (hs : r.Keeps s) : r.Keeps (s.dropCtxOf p r') := by
  unfold State.dropCtxOf
  split
  · refine .ite hs ?_
    split
    · exact hs.endCtx
    · exact hs
  · exact hs

theorem loseEgress {p : Nat} (hs : r.Keeps s) : r.Keeps (s.loseEgress p) := by
  unfold State.loseEgress
  extract_lets -underBinder -merge -useContext +onlyGivenNames host12 due13 _ s1 s2
  have h1 : r.Keeps s2 := by
    refine hs.upd.foldl fun _ _ h2 => ?_
    extract_lets -underBinder -merge -useContext +onlyGivenNames s3
    have h3 : r.Keeps s3 := h2.dropCtxOf.loseOut
    split
    · exact .ite h3 h3.unbuffer
    · exact h3
  exact h1.foldl fun _ _ h4 => h4.loseOut.unbuffer

theorem fillVdsp {k n : Nat} {b : Bind} {present : Bool} {link : Nat} (hs : r.Keeps s) : r.Keeps (s.fillVdsp k n b present link) :=
  hs.setBind.showPresence.showLink

theorem emptyVdsp {k n : Nat} (hs : r.Keeps s) : r.Keeps (s.emptyVdsp k n) :=
  hs.upd.setBind.setCfg.showLink.showPresence

theorem vdspFw {src : Nat} {f : List Nat} (hs : r.Keeps s) : r.Keeps (s.vdspFw src f) := by
  unfold State.vdspFw
  extract_lets -underBinder -merge -useContext +onlyGivenNames g1
  split
  · exact hs.ackTo
  · exact .ite hs.fillVdsp.spreadView hs.emptyVdsp.spreadView.spreadBound

theorem askVdsp {part op vdsp : Nat} {rest : List Nat} {d : AckDone} (hs : r.Keeps s) : r.Keeps (s.askVdsp part op vdsp rest d) := by
  unfold State.askVdsp
  split
  · exact .ite hs.awaitThese.vdspFw hs.awaitThese.sendFw
  · exact hs.awaitThese

theorem askFill {i : Nat} {cmd : Option Nat} (hs : r.Keeps s) : r.Keeps (s.askFill i cmd) :=
  hs.askVdsp

theorem setJob {j : Nat} {x : Option ResetJob} (hs : r.Keeps s) : r.Keeps (s.setJob j x) :=
  hs.upd

theorem jobCheck {j : Nat} (hs : r.Keeps s) : r.Keeps (s.jobCheck j) := by
  unfold State.jobCheck
  split
  · refine .ite hs ?_
    extract_lets -underBinder -merge -useContext +onlyGivenNames s1
    split
    · exact hs.setJob.ackTo
    · exact hs.setJob
  · exact hs

theorem jobDone {j i : Nat} (hs : r.Keeps s) : r.Keeps (s.jobDone j i) := by
  unfold State.jobDone
  split
  · exact hs.setJob.jobCheck
  · exact hs

theorem disarmTurns {part : Nat} (hs : r.Keeps s) : r.Keeps (s.disarmTurns part) :=
  hs.upd

theorem setRemoval {i : Nat} {r' : Option Removal} (hs : r.Keeps s) : r.Keeps (s.setRemoval i r') :=
  hs.upd

theorem resetHere {part : Nat} {ack : Option (Nat × Nat)} (hs : r.Keeps s) : r.Keeps (s.resetHere part ack) := by
  unfold State.resetHere
  exact (((hs.foldl fun _ _ h1 => h1.freeze).foldl fun _ _ h2 => h2.flrAdvance).foldl fun _ _ h3 =>
    h3.issueReset).disarmTurns.semRelease.setJob.jobCheck

theorem resetPart {k : Nat} {cmd : Option Nat} (hs : r.Keeps s) : r.Keeps (s.resetPart k cmd) := by
  unfold State.resetPart
  extract_lets -underBinder -merge -useContext +onlyGivenNames part1 st2 s1
  have h1 : r.Keeps s1 := by
    unfold s1
    split
    · exact hs.upd
    · exact hs
  exact .ite h1 ((h1.setPartState.flag.mbReset.eqEmpty.foldl fun _ _ h2 => h2.dmReset).upd.stop.awaitThese.fwAll.resetHere)

theorem fmLink {k : Nat} {up : Bool} (hs : r.Keeps s) : r.Keeps (s.fmLink k up) :=
  .ite hs (.ite hs.stop hs.startIfNot)

theorem pcieDown {p : Nat} (hs : r.Keeps s) : r.Keeps (s.pcieDown p) := by
  unfold State.pcieDown
  extract_lets -underBinder -merge -useContext +onlyGivenNames was42 s1 s2
  have h1 : r.Keeps s2 := hs.updPx.dropAdmit
  refine .ite h1 ?_
  extract_lets -underBinder -merge -useContext +onlyGivenNames s3 s4 s5 s6
  have h2 : r.Keeps s3 := h1.foldl fun _ _ h3 => h3.set
  have h4 : r.Keeps s4 := h2.bwChanged.loseEgress.clearEgress
  have h5 : r.Keeps s6 := h4.updPx.portAdvance.tellPort
  split
  · exact (Keeps.ite h5.upd.elect h5).fmLink.resetPart
  · exact h5

theorem linkAer {p n : Nat} (hs : r.Keeps s) : r.Keeps (s.linkAer p n) := by
  unfold State.linkAer
  split
  · exact hs.aer
  · exact hs.tellPort

theorem pcieUp {p : Nat} (hs : r.Keeps s) : r.Keeps (s.pcieUp p) := by
  unfold State.pcieUp
  extract_lets -underBinder -merge -useContext +onlyGivenNames s1 s2 s3 done20
  have h1 : r.Keeps s2 := hs.set.updPx.bwChanged.stop.tellPort
  have h2 : r.Keeps s3 := by
    unfold s3
    split
    · exact h1.fmLink.when fun h3 => h3.setPartState
    · exact h1
  exact h2.upd.foldl fun _ _ h4 => h4.finish

theorem initDone {p : Nat} (hs : r.Keeps s) : r.Keeps (s.initDone p) :=
  .ite hs.pcieUp hs

theorem initFc {p : Nat} (hs : r.Keeps s) : r.Keeps (s.initFc p) :=
  hs.takeReserve.setAdmitRes.updPx.establish.initDone

theorem portOn {p : Nat} (hs : r.Keeps s) : r.Keeps (s.portOn p) :=
  .ite hs hs.set.endTests.pllCheck.takeReserve.trainPort

theorem portOff {p : Nat} (hs : r.Keeps s) : r.Keeps (s.portOff p) :=
  .ite hs hs.set.pcieDown.updPx.set.giveReserve.emit.pllCheck

theorem contain {p reason : Nat} (hs : r.Keeps s) : r.Keeps (s.contain p reason) :=
  .ite hs hs.set.updPx.pcieDown.emit.tellPort

theorem uncontain {p : Nat} (hs : r.Keeps s) : r.Keeps (s.uncontain p) :=
  .ite hs (hs.set.updPx.tellPort.trainPort.when fun h => h.upd.start)

theorem thawEnd {ack : Option (Nat × Nat)} {part : Nat} {cmd : Option Nat} (hs : r.Keeps s) : r.Keeps (s.thawEnd ack part cmd) := by
  unfold State.thawEnd
  extract_lets -underBinder -merge -useContext +onlyGivenNames s1
  have h : r.Keeps s1 := by
    unfold s1
    split
    · exact hs.ackTo
    · exact hs
  exact h.finishOpt

theorem thawSome {is : List Nat} {advance : Bool} {part : Nat} {ack : Option (Nat × Nat)} {cmd : Option Nat} (hs : r.Keeps s) :
    r.Keeps (s.thawSome is advance part ack cmd) := by
  unfold State.thawSome
  exact ((Keeps.ite (hs.foldl fun _ _ h1 => h1.advanceGen) hs).foldl fun _ _ h2 => h2.unfreeze).branch (fun h3 => h3.thawEnd) (fun h3 => h3.upd)

theorem removeInst {i : Nat} {then_ : Option Reassign} {cmd : Option Nat} (hs : r.Keeps s) : r.Keeps (s.removeInst i then_ cmd) :=
  hs.freeze.setRemoval.askVdsp

theorem deleteHere {part : Nat} {ack : Nat × Nat} (hs : r.Keeps s) : r.Keeps (s.deleteHere part ack) := by
  unfold State.deleteHere
  exact (hs.setJob.foldl fun _ _ h => .ite h h.removeInst).jobCheck

theorem removalDrain {i : Nat} (hs : r.Keeps s) : r.Keeps (s.removalDrain i) := by
  unfold State.removalDrain
  split
  · exact (hs.setRemoval.foldl fun _ _ h => h.sendFw).start
  · exact hs

theorem markersGot {src i : Nat} {ms : List (VC × Nat)} (hs : r.Keeps s) : r.Keeps (s.markersGot src i ms) := by
  unfold State.markersGot
  split
  · exact hs.setRemoval
  · exact hs

theorem clearInst {i : Nat} (hs : r.Keeps s) : r.Keeps (s.clearInst i) := by
  unfold State.clearInst
  exact ((Keeps.ite hs.portOff.set hs).unsetReg.foldl fun _ _ h => h.unset).upd.checkHeld

theorem removalEnd {i : Nat} (hs : r.Keeps s) : r.Keeps (s.removalEnd i) := by
  unfold State.removalEnd
  split
  · extract_lets -underBinder -merge -useContext +onlyGivenNames _ s1
    split
    · exact hs.upd.setRemoval.clearInst.finishOpt.jobDone
    · exact hs.upd.set.set.set.setRemoval.checkHeld.checkHeld.askFill.jobDone
  · exact hs

theorem removalFail {i : Nat} (hs : r.Keeps s) : r.Keeps (s.removalFail i) := by
  unfold State.removalFail
  split
  · exact hs.upd.setRemoval.clearInst.raiseFm.finishOpt.jobDone
  · exact hs

theorem portFw {part n op arg : Nat} (hs : r.Keeps s) : r.Keeps (s.portFw part n op arg) := by
  unfold State.portFw
  split
  · exact hs
  · exact .ite (hs.updPx.branch (fun h1 => h1.pcieDown.emit) (fun h1 => h1.trainPort)) (.ite (.ite hs.bump.evtPort.emit hs) (.ite (.ite
      hs.portAdvance.emit hs.flrAdvance.issueReset) (.ite (hs.updSpc.branch (fun h2 => h2.spDisable) (fun h2 => h2.spEnable)) (.ite (.ite
        hs.uncontain (.ite hs hs.thawSome)) (.ite (.ite hs.contain (.ite hs hs.freeze.flag)) (.ite hs.updPx hs))))))

theorem askPort {k n op arg : Nat} (hs : r.Keeps s) : r.Keeps (s.askPort k n op arg) := by
  unfold State.askPort
  extract_lets -underBinder -merge -useContext +onlyGivenNames part1
  split
  · exact hs
  · exact .ite hs.portFw hs.sendFw

/-! ### AckOps -/

theorem acceptCommit {r' : OmiRun} (hs : r.Keeps s) : r.Keeps (s.acceptCommit r') :=
  hs.upd.beginCommit

theorem goCommit {id : Nat} (hs : r.Keeps s) : r.Keeps (s.goCommit id) := by
  unfold State.goCommit
  split
  · exact hs
  · exact hs.updWork.acceptCommit.foldl fun _ _ h => h.forward

theorem commitRefused {id st idx rule : Nat} (hs : r.Keeps s) : r.Keeps (s.commitRefused id st idx rule) := by
  unfold State.commitRefused
  split
  · split
    · exact hs.upd.finish
    · exact hs
  · exact hs

theorem clearGrants {part : Nat} (hs : r.Keeps s) : r.Keeps (s.clearGrants part) :=
  hs.set.set.foldl fun _ _ h => h.set.set

theorem resetCfg {k : Nat} (hs : r.Keeps s) : r.Keeps (s.resetCfg k) :=
  hs.upd

theorem resetEnded {k : Nat} (hs : r.Keeps s) : r.Keeps (s.resetEnded k) :=
  hs.upd

theorem clearPart {k : Nat} {cmd : Option Nat} (hs : r.Keeps s) : r.Keeps (s.clearPart k cmd) :=
  (hs.foldl fun _ _ h => h.dmReset).setRec.awaitAll.fwAll

theorem forgetPart {part : Nat} (hs : r.Keeps s) : r.Keeps (s.forgetPart part) :=
  hs.disarmTurns.upd.clearGrants.resetMeter.checkHeld

theorem freeSlot {k : Nat} (hs : r.Keeps s) : r.Keeps (s.freeSlot k) :=
  hs.portOff.set.unsetReg.upd.mbReset.eqEmpty.unsetReg.forgetPart

theorem runDone {x : AckDone} (hs : r.Keeps s) : r.Keeps (s.runDone x) := by
  unfold State.runDone
  split
  · exact hs.finish
  · exact hs.cplHere
  · split
    · exact hs.spreadBound
    · exact hs
  · exact hs.goCommit
  · exact hs.ackTo
  · exact hs.removalDrain
  · split
    · exact hs.setRemoval.unfreeze.finishOpt
    · exact hs.finishOpt
  · exact hs.resetEnded
  · exact hs.clearPart
  · exact hs.freeSlot.finishOpt
  · exact hs

theorem settleN {fuel : Nat} (hs : r.Keeps s) : r.Keeps (s.settleN fuel) := by
  induction fuel generalizing s with
  | zero => exact hs
  | succ fuel ih =>
    unfold State.settleN
    split
    · exact ih hs.upd.runDone
    · exact hs

theorem settle (hs : r.Keeps s) : r.Keeps s.settle := by
  unfold State.settle
  exact hs.settleN

theorem winFw {src type : Nat} {fs : List Nat} (hs : r.Keeps s) : r.Keeps (s.winFw src type fs) := by
  unfold State.winFw
  extract_lets -underBinder -merge -useContext +onlyGivenNames f1
  refine .ite hs.ackNote ?_
  refine .ite hs.installView.sendAck ?_
  refine .ite hs.boundCommit ?_
  refine .ite ?_ (.ite hs.commitRefused hs)
  split
  · exact hs.sendAck
  · exact hs.sendFw

/-! ### CfgOps -/

theorem cfgStore {k fn off v : Nat} (hs : r.Keeps s) : r.Keeps (s.cfgStore k fn off v) :=
  hs.setCfg

theorem cfgCpl {k reqId tag cplId : Nat} {st : CplStatus} {data : List (BitVec 8)} (hs : r.Keeps s) : r.Keeps (s.cfgCpl k reqId tag cplId st data) :=
  hs.cplHere

theorem setBuses {k up int : Nat} (hs : r.Keeps s) : r.Keeps (s.setBuses k up int) :=
  .ite hs hs.setRec.distribute

theorem epFlr {k : Nat} (hs : r.Keeps s) : r.Keeps (s.epFlr k) :=
  (hs.foldl fun _ _ h => h.dmReset).mbReset.eqEmpty.upd.upd.spreadBound

theorem epMse {k : Nat} {on : Bool} {d : AckDone} (hs : r.Keeps s) : r.Keeps (s.epMse k on d) :=
  hs.cfgSet.spreadBound

theorem epBme {k : Nat} {on : Bool} (hs : r.Keeps s) : r.Keeps (s.epBme k on) :=
  (hs.cfgSet.when fun h => h.flushMsix).dmHost

theorem dpcClear {k n : Nat} (hs : r.Keeps s) : r.Keeps (s.dpcClear k n) :=
  hs.askPort

theorem dpcSoft {k n : Nat} (hs : r.Keeps s) : r.Keeps (s.dpcSoft k n) := by
  unfold State.dpcSoft
  refine .ite hs ?_
  extract_lets -underBinder -merge -useContext +onlyGivenNames s1
  have h : r.Keeps s1 := by
    unfold s1
    split
    · exact .ite hs.setCfg.showLink hs
    · exact hs
  exact h.askPort

theorem pccWrite {k n : Nat} {off : Bool} (hs : r.Keeps s) : r.Keeps (s.pccWrite k n off) := by
  unfold State.pccWrite
  extract_lets -underBinder -merge -useContext +onlyGivenNames s1
  split
  · exact .ite hs.cfgSet.askPort hs.cfgSet
  · exact hs.cfgSet

theorem cfgWrite {k fn off v reqId tag : Nat} (hs : r.Keeps s) : r.Keeps (s.cfgWrite k fn off v reqId tag) :=
  hs.cfgStore.branch (fun h1 => h1.branch (fun h2 => h2.epBme.branch (fun h3 => h3.epMse) (fun h3 => h3.cfgCpl)) (fun h2 => h2.branch (fun h4 =>
    h4.branch (fun h5 => h5.spreadBound) (fun h5 => h5.cfgCpl)) (fun h4 => h4.branch (fun h6 => h6.cfgSet.epFlr.cfgCpl) (fun h6 => h6.branch (fun h7
      => h7.flushMsix.cfgCpl) (fun h7 => h7.cfgCpl))))) (fun h1 => h1.branch (fun h8 => h8.branch (fun h9 => h9.setBuses.cfgCpl) (fun h9 => h9.branch
        (fun h10 => h10.spreadView) (fun h10 => h10.branch (fun h11 => h11.updPx.cfgCpl) (fun h11 => h11.cfgCpl)))) (fun h8 => h8.branch (fun h12 =>
          h12.branch (fun h13 => h13.spreadView) (fun h13 => h13.branch (fun h14 => h14.spreadView) (fun h14 => h14.branch (fun h15 =>
            (((h15.setCfg.when fun h16 => h16.askPort).when fun h17 => h17.askPort).when fun h18 => h18.askPort).cfgCpl) (fun h15 => h15.branch (fun
              h19 => (h19.when fun h20 => h20.askPort).cfgCpl) (fun h19 => h19.branch (fun h21 => (h21.when fun h22 => h22.pccWrite).cfgCpl) (fun h21
                => h21.branch (fun h23 => (h23.when fun h24 => h24.dpcSoft).spreadView) (fun h23 => h23.branch (fun h25 => (h25.when fun h26 =>
                  h26.cfgSet.dpcClear).cfgCpl) (fun h25 => h25.cfgCpl)))))))) (fun h12 => h12.cfgCpl)))

theorem behindWrite {k n off v : Nat} {d : AckDone} (hs : r.Keeps s) : r.Keeps (s.behindWrite k n off v d) := by
  unfold State.behindWrite
  split
  · exact hs
  · exact hs.setCfg.spreadBound

/-! ### FlashOps -/

theorem flashWrite {a : Nat} {xs : List Nat} (hs : r.Keeps s) : r.Keeps (s.flashWrite a xs) :=
  hs.upd

theorem flashErase {a n : Nat} (hs : r.Keeps s) : r.Keeps (s.flashErase a n) :=
  hs.upd

theorem writeSelector {slot version : Nat} (hs : r.Keeps s) : r.Keeps (s.writeSelector slot version) :=
  hs.flashErase.flashWrite

theorem writeChain {xs : List Nat} (hs : r.Keeps s) : r.Keeps (s.writeChain xs) :=
  hs.flashErase.whenNot fun h => h.flashWrite.flashWrite.flashWrite

/-! ### NodeOps -/

theorem raiseLosses (hs : r.Keeps s) : r.Keeps s.raiseLosses := by
  unfold State.raiseLosses
  refine hs.upd.foldl fun _ _ h1 => ?_
  extract_lets -underBinder -merge -useContext +onlyGivenNames _ ev6 s1 s2
  have h2 : r.Keeps s1 := h1.evtNode.raiseEvent
  have h3 : r.Keeps s2 := .ite h2.raiseFm h2
  split
  · exact h3.aer
  · exact h3

theorem stopPins (hs : r.Keeps s) : r.Keeps s.stopPins :=
  .ite hs (((((hs.foldl fun _ _ h1 => .ite h1.emit h1).foldl fun _ _ h2 => h2.emit).foldl fun _ _ h3 => h3.emit).when fun h4 => h4.emit).when fun h5
    => h5.emit)

theorem afterReset (hs : r.Keeps s) : r.Keeps s.afterReset := hs.filter rfl rfl rfl

theorem loseGroups (hs : r.Keeps s) : r.Keeps s.loseGroups :=
  hs.foldl fun _ _ h => h.loseGrp

theorem nodeReset (hs : r.Keeps s) : r.Keeps s.nodeReset := by
  unfold State.nodeReset
  exact hs.stopPins.afterReset.set.set.setResv.start.loseGroups

theorem faultReset (hs : r.Keeps s) : r.Keeps s.faultReset :=
  hs.upd.bump.set.nodeReset

/-! ### FwOps -/

theorem fwReady {on : Bool} (hs : r.Keeps s) : r.Keeps (s.fwReady on) :=
  hs.foldl fun _ _ h => h.flag

theorem showBusy {activating restarting : Bool} {ms : Nat} (hs : r.Keeps s) : r.Keeps (s.showBusy activating restarting ms) :=
  hs.foldl fun _ _ h => h.flag.flag.set

theorem answerTo {r' : OmiRun} {o : OmiRsp} (hs : r.Keeps s) : r.Keeps (s.answerTo r' o) :=
  hs.sendFw

theorem tellOutcome {r' : OmiRun} {o : OmiRsp} (hs : r.Keeps s) : r.Keeps (s.tellOutcome r' o) :=
  .ite hs.answerTo hs.deferredEvent

theorem restartBox {k : Nat} (hs : r.Keeps s) : r.Keeps (s.restartBox k) := by
  unfold State.restartBox
  extract_lets -underBinder -merge -useContext +onlyGivenNames m1 dead2 s1 s2 s3
  have h1 : r.Keeps s1 := by
    unfold s1
    split
    · exact .ite hs.answerTo hs.placeRsp
    · exact hs
  have h2 : r.Keeps s2 := h1.foldl fun _ _ h3 => h3.tellOutcome
  exact h2.updMbox.set.showDeferred

theorem abandonAct (hs : r.Keeps s) : r.Keeps s.abandonAct := by
  unfold State.abandonAct
  split
  · exact hs.upd.stop.showBusy.finishOpt
  · exact hs

theorem actPowerFail (hs : r.Keeps s) : r.Keeps s.actPowerFail :=
  .ite hs.abandonAct hs

theorem mgmtRestart (hs : r.Keeps s) : r.Keeps s.mgmtRestart :=
  (hs.foldl fun _ _ h => h.restartBox).upd.stop.stop.set.fwReady.showBusy.evtNode

/-! ### SleepOps -/

theorem sleepAbandon {st : Nat} (hs : r.Keeps s) : r.Keeps (s.sleepAbandon st) := by
  unfold State.sleepAbandon
  split
  · exact .ite hs hs.stop.stop.set.upd.establish.finishOpt
  · exact hs

theorem showWake {b : Nat} (hs : r.Keeps s) : r.Keeps (s.showWake b) :=
  hs.set

theorem wakeIdle {b : Nat} (hs : r.Keeps s) : r.Keeps (s.wakeIdle b) :=
  hs.upd.stop.set.showWake.setTime.establish.when fun h => h.startJoin

theorem drowse (hs : r.Keeps s) : r.Keeps s.drowse := by
  unfold State.drowse
  extract_lets -underBinder -merge -useContext +onlyGivenNames act down drained off losses
  have hoff : r.Keeps off := by
    refine .foldl ?_ fun _ _ h => h.emit
    exact hs.foldl fun _ _ h => h.pcieDown
  refine .setResv ?_
  refine hoff.filter (p := fun x => drowseField x.1) rfl rfl rfl

/-! ### PersistOps -/

theorem computeVmax (hs : r.Keeps s) : r.Keeps s.computeVmax :=
  (hs.set.flag.when fun h => h.reportNode).establish

theorem setArea {one : Bool} {a : Option Area} (hs : r.Keeps s) : r.Keeps (s.setArea one a) :=
  .ite hs.upd hs.upd

theorem markArea {one : Bool} {st : Nat} (hs : r.Keeps s) : r.Keeps (s.markArea one st) :=
  hs.setArea

theorem showEpoch {e : Nat} (hs : r.Keeps s) : r.Keeps (s.showEpoch e) :=
  hs.set.set

theorem portsStop (hs : r.Keeps s) : r.Keeps s.portsStop :=
  (hs.foldl fun _ _ h1 => .ite h1.linkDown.set h1).foldl fun _ _ h2 => h2.emit.foldl fun _ _ h3 => h3.set

theorem persistWrite {limited : Bool} (hs : r.Keeps s) : r.Keeps (s.persistWrite limited) :=
  .ite hs.upd hs.setArea.upd

theorem persistCommit (hs : r.Keeps s) : r.Keeps s.persistCommit := by
  unfold State.persistCommit
  split
  · exact hs.upd.setArea.showEpoch
  · exact hs

theorem persistStart {limited : Bool} (hs : r.Keeps s) : r.Keeps (s.persistStart limited) :=
  (hs.stop.stop.foldl fun _ _ h => .ite h.linkDown h).set.persistWrite

theorem drainCheck (hs : r.Keeps s) : r.Keeps s.drainCheck :=
  .ite hs (.ite hs.persistStart (.ite hs.persistStart hs))

theorem pfBegin {src : Nat} (hs : r.Keeps s) : r.Keeps (s.pfBegin src) :=
  .ite hs (.ite hs.upd (((hs.sleepAbandon.whenNot fun h1 => h1.flag).when fun h2 => h2.wakeIdle).set.bump.set.upd.branch (fun h3 => h3.persistStart)
    (fun h3 => h3.spPfStart.actPowerFail.branch (fun h4 => h4.persistStart) (fun h4 => h4.branch (fun h5 => h5.persistStart) (fun h5 =>
      h5.start.drainCheck)))))

theorem pfFinish (hs : r.Keeps s) : r.Keeps s.pfFinish :=
  (hs.foldl fun _ _ h1 => .ite h1.markArea h1).set.whenNot fun h2 => h2.set.branch (fun h3 => h3.upd.faultReset) (fun h3 => h3.nodeReset)

theorem pfCheckEnd (hs : r.Keeps s) : r.Keeps s.pfCheckEnd :=
  .ite hs (hs.set.establish.branch (fun h1 => h1.stop.set.unwithhold.spPfEnd.establish) (fun h1 => h1.when fun h2 => h2.pfFinish))

theorem admitEn (hs : r.Keeps s) : r.Keeps s.admitEn :=
  (hs.set.when fun h => h.set).establish

theorem channelFails {n : Nat} (hs : r.Keeps s) : r.Keeps (s.channelFails n) :=
  hs.set.set.bump.reportNode

theorem feedDetect (hs : r.Keeps s) : r.Keeps s.feedDetect :=
  .ite hs.upd.stop.pfCheckEnd (.ite hs (.ite hs.upd.pfBegin hs.startIfNot))

theorem setFeed {b good : Bool} (hs : r.Keeps s) : r.Keeps (s.setFeed b good) :=
  .ite hs hs.flag.bump.reportNode.feedsChanged.feedDetect

theorem feedRead {b : Bool} {mv : Nat} (hs : r.Keeps s) : r.Keeps (s.feedRead b mv) :=
  (hs.set.branch (fun h1 => h1.upd) (fun h1 => h1.upd)).branch (fun h2 => h2.when fun h3 => h3.setFeed) (fun h2 => h2.branch (fun h4 =>
    h4.startIfNot) (fun h4 => h4.stop))

/-! ### FaultOps -/

theorem setCap {u : Nat} {c : Option Capture} (hs : r.Keeps s) : r.Keeps (s.setCap u c) :=
  hs.upd.set.foldl fun _ _ h => h.set

theorem faultEvent {reason : Nat} {c : Capture} (hs : r.Keeps s) : r.Keeps (s.faultEvent reason c) :=
  .ite hs hs.raiseFm

theorem captureReport {r' : Report} (hs : r.Keeps s) : r.Keeps (s.captureReport r') := by
  unfold State.captureReport
  split
  · exact hs.setCap.faultEvent.whenNot fun h1 => h1.set.set
  · exact hs.setCap.when fun h2 => h2.faultEvent

theorem notice {part action cls unit vdsp inst : Nat} (hs : r.Keeps s) : r.Keeps (s.notice part action cls unit vdsp inst) :=
  hs.raiseEvent

theorem portNotices {p action cls unit : Nat} (hs : r.Keeps s) : r.Keeps (s.portNotices p action cls unit) := by
  unfold State.portNotices
  split
  · exact hs.notice
  · exact hs.foldl fun _ _ h => h.notice

theorem resetNotices (hs : r.Keeps s) : r.Keeps s.resetNotices := by
  unfold State.resetNotices
  split
  · exact .ite hs (hs.upd.foldl fun _ _ h => h.notice)
  · exact hs

theorem faultFreeze {r' : Report} {i : Nat} (hs : r.Keeps s) : r.Keeps (s.faultFreeze r' i) := by
  unfold State.faultFreeze
  exact (Keeps.ite hs hs.freeze).whenNot fun h => h.notice

theorem armRecover {p : Nat} {was : Bool} (hs : r.Keeps s) : r.Keeps (s.armRecover p was) :=
  .ite hs (.ite (.ite hs hs.upd) hs.start)

theorem bounce {p : Nat} (hs : r.Keeps s) : r.Keeps (s.bounce p) :=
  .ite hs.pcieDown.emit.trainPort hs

theorem portFatal {p : Nat} {r' : Report} (hs : r.Keeps s) : r.Keeps (s.portFatal p r') :=
  .ite (.ite hs (hs.linkDown.when fun h => h.enterDetect)) (.ite hs (.ite hs.bounce.portNotices (.ite hs.contain.armRecover.start.portNotices (.ite
    (.ite hs.contain.armRecover.portNotices hs.bounce.armRecover) hs))))

theorem countPort {p : Nat} (hs : r.Keeps s) : r.Keeps (s.countPort p) :=
  .ite hs (.ite hs.upd.reportPort hs.upd)

theorem holdPort {p rung action : Nat} {r' : Report} (hs : r.Keeps s) : r.Keeps (s.holdPort p rung action r') :=
  hs.contain.stop.stop.upd.updPx.set.portNotices

theorem portLadder {p : Nat} {r' : Report} (hs : r.Keeps s) : r.Keeps (s.portLadder p r') := by
  unfold State.portLadder
  refine .ite (.ite hs hs.linkDown.stopLink.set.flag) ?_
  extract_lets -underBinder -merge -useContext +onlyGivenNames rung20
  refine .ite hs ?_
  refine .ite hs.updPx.pcieDown.emit.set.portNotices ?_
  extract_lets -underBinder -merge -useContext +onlyGivenNames c30
  refine .ite ?_ (.ite hs.stop.holdPort.spDisable hs.holdPort)
  extract_lets -underBinder -merge -useContext +onlyGivenNames s1
  split
  · rename_i u1 e1
    exact (Keeps.of_eq_pair e1 hs.bump.spCycle).set.start.portNotices
  · rename_i u2 e2
    exact .ite (Keeps.of_eq_pair e2 hs.bump.spCycle) (Keeps.of_eq_pair e2 hs.bump.spCycle).holdPort

theorem releasePort {p : Nat} (hs : r.Keeps s) : r.Keeps (s.releasePort p) :=
  hs.updPx.set.stop.whenNot fun h1 => ((h1.when fun h2 => h2.spEnable).branch (fun h3 => h3.uncontain) (fun h3 => h3.trainPort)).portNotices

theorem nodeFatal {r' : Report} (hs : r.Keeps s) : r.Keeps (s.nodeFatal r') :=
  hs.upd.branch (fun h1 => h1.upd.persistStart) (fun h1 => h1.branch (fun h2 => h2.upd) (fun h2 => h2.branch (fun h3 => h3.reportNode) (fun h3 =>
    h3.faultReset)))

theorem enterGrave {u : Nat} (hs : r.Keeps s) : r.Keeps (s.enterGrave u) := by
  unfold State.enterGrave
  exact (((hs.set.set.set.foldl fun _ _ h1 => h1.set).foldl fun _ _ h2 => h2.setHold).portsStop.foldl fun _ _ h3 =>
    h3.spPerstSet).upd.stop.loseGroups.branch (fun h4 => h4.upd) (fun h4 => h4.when fun h5 => h5.persistStart)

theorem unitReaction {r' : Report} (hs : r.Keeps s) : r.Keeps (s.unitReaction r') :=
  .ite hs.mgmtRestart (.ite hs.startLeave (.ite (.ite hs.dmReset hs) (.ite (.ite hs.setTurn hs) hs)))

theorem react {r' : Report} (hs : r.Keeps s) : r.Keeps (s.react r') := by
  unfold State.react
  extract_lets -underBinder -merge -useContext +onlyGivenNames st1
  refine .ite hs ?_
  refine .ite (.ite hs.enterGrave hs) ?_
  refine .ite hs ?_
  refine .ite ?_ ?_
  · split
    · exact hs.faultFreeze
    · exact hs.unitReaction
  · refine .ite ?_ (.ite (.ite hs.portLadder (.ite hs.nodeFatal hs)) hs)
    split
    · exact hs.faultFreeze
    · exact .ite hs.portFatal.countPort hs

theorem collectReport {r' : Report} (hs : r.Keeps s) : r.Keeps (s.collectReport r') := by
  unfold State.collectReport
  exact .ite hs ((Keeps.ite hs.upd hs).bump.evtNode.captureReport.react)

theorem inject {v : Nat} (hs : r.Keeps s) : r.Keeps (s.inject v) :=
  .ite hs hs.collectReport

/-! ### PowerOps -/

theorem plDone {rest : Bool} (hs : r.Keeps s) : r.Keeps (s.plDone rest) :=
  hs.upd.foldl fun _ _ h => h.finish

theorem writeVolt {mv : Nat} (hs : r.Keeps s) : r.Keeps (s.writeVolt mv) :=
  hs.upd.start

theorem plMove (hs : r.Keeps s) : r.Keeps s.plMove :=
  .ite hs (.ite hs.plDone (hs.upd.set.when fun h => h.writeVolt))

theorem plEnd {pl : Nat} (hs : r.Keeps s) : r.Keeps (s.plEnd pl) :=
  hs.upd.set.set.plDone

theorem plTarget {v : Nat} (hs : r.Keeps s) : r.Keeps (s.plTarget v) :=
  hs.set.plMove

theorem sleepCommits {x : Sleep} (hs : r.Keeps s) : r.Keeps (s.sleepCommits x) := by
  unfold State.sleepCommits
  extract_lets -underBinder -merge -useContext +onlyGivenNames s1 _ s2
  split
  · exact hs.stop.stop.upd.finish.start
  · exact hs.stop.stop.upd.start

theorem sleepDrains {x : Sleep} (hs : r.Keeps s) : r.Keeps (s.sleepDrains x) :=
  hs.upd.branch (fun h => h.sleepCommits) (fun h => h.start)

theorem sleepSlots (hs : r.Keeps s) : r.Keeps s.sleepSlots :=
  hs.set.foldl fun _ _ h => h.updSpc.spWarnShow.spStop

theorem sleepLinks {x : Sleep} (hs : r.Keeps s) : r.Keeps (s.sleepLinks x) :=
  (hs.foldl fun _ _ h => h.set).sleepSlots.sleepDrains

theorem sleepEnter {level : Nat} {cmd : Option Nat} (hs : r.Keeps s) : r.Keeps (s.sleepEnter level cmd) :=
  hs.set.branch (fun h1 => h1.sleepDrains) (fun h1 => (h1.foldl fun _ _ h2 => h2.emit).branch (fun h3 => h3.sleepLinks) (fun h3 => h3.upd.start))

theorem sleepAck {p : Nat} (hs : r.Keeps s) : r.Keeps (s.sleepAck p) :=
  hs.upd

theorem sleepWaits (hs : r.Keeps s) : r.Keeps s.sleepWaits := by
  unfold State.sleepWaits
  split
  · exact .ite hs.upd.sleepEnter hs
  · exact hs

theorem sleepAsk {level : Nat} {cmd : Option Nat} (hs : r.Keeps s) : r.Keeps (s.sleepAsk level cmd) :=
  .ite hs.upd.set hs.sleepEnter

theorem wakersEnd (hs : r.Keeps s) : r.Keeps s.wakersEnd :=
  hs.upd.foldl fun _ _ h => h.finish

/-- Nothing is listed: every register reads its reset value. -/
theorem powerless (hs : r.Keeps s) : r.Keeps s.powerless := ⟨fun _ => ⟨rfl, nofun⟩, hs.pending, hs.now_le⟩

theorem pinsOff (hs : r.Keeps s) : r.Keeps s.pinsOff :=
  hs.stopPins.foldl fun _ _ h => h.pad

theorem mainReset {sl3 : Bool} (hs : r.Keeps s) : r.Keeps (s.mainReset sl3) := by
  unfold State.mainReset
  extract_lets -underBinder -merge -useContext +onlyGivenNames off lf base _ on
  have hoff : r.Keeps off := hs.pinsOff
  have hon : r.Keeps on := hoff.filter (p := fun x => alwaysOn x.1) rfl rfl rfl
  clear_value on
  exact (Keeps.when (.ite hon.upd hon.upd) fun h => h.foldl fun _ _ h => h.set).set

theorem fullReset (hs : r.Keeps s) : r.Keeps s.fullReset := by
  unfold State.fullReset
  exact hs.pinsOff.powerless.upd.start

theorem wakeFrom {b : Nat} (hs : r.Keeps s) : r.Keeps (s.wakeFrom b) := by
  unfold State.wakeFrom
  exact .ite hs.wakeIdle.wakersEnd (.ite (.ite hs.upd hs.stop.set.upd.showWake) (.ite (.ite hs.mainReset.showWake (.ite hs (hs.upd.foldl fun _ _ h =>
    h.set))) hs))

theorem wakeDue (hs : r.Keeps s) : r.Keeps s.wakeDue := by
  unfold State.wakeDue
  split
  · exact .ite hs.wakeFrom hs
  · exact hs

theorem sleepDown {x : Sleep} (hs : r.Keeps s) : r.Keeps (s.sleepDown x) := by
  unfold State.sleepDown
  extract_lets -underBinder -merge -useContext +onlyGivenNames s1 _ s2 secs34 s3 _ _ _ _ _ s4 s5
  have h1 : r.Keeps s2 := hs.set.set.bump.upd
  have h2 : r.Keeps s3 := .ite h1.start h1
  have h3 : r.Keeps s4 := .ite h2.drowse.fwReady.set.upd (.ite h2.pinsOff.upd.start h2)
  have h4 : r.Keeps s5 := .ite h3.pfBegin h3
  split
  · exact h4.wakeFrom
  · exact h4

theorem sleepLatch {x : Sleep} (hs : r.Keeps s) : r.Keeps (s.sleepLatch x) :=
  hs.set.set.flag.branch (fun h => h.persistWrite.upd) (fun h => h.sleepDown)

theorem sleepOn (hs : r.Keeps s) : r.Keeps s.sleepOn := by
  unfold State.sleepOn
  split
  · exact .ite hs.upd.sleepLatch hs
  · exact hs

theorem sleepLeaves {x : Sleep} (hs : r.Keeps s) : r.Keeps (s.sleepLeaves x) :=
  (hs.stop.upd.branch (fun h => h.upd.startLeave) (fun h => h.startLeave)).sleepOn

theorem idleWatch (hs : r.Keeps s) : r.Keeps s.idleWatch :=
  .ite hs.startIfNot hs.stop

theorem wakeRecord {b : Nat} (hs : r.Keeps s) : r.Keeps (s.wakeRecord b) :=
  .ite hs.set (.ite hs.set (.ite hs.set (.ite hs.set (.ite hs.set hs.set))))

theorem wakeSources {m : Nat} (hs : r.Keeps s) : r.Keeps (s.wakeSources m) := by
  unfold State.wakeSources
  refine .ite hs ?_
  extract_lets -underBinder -merge -useContext +onlyGivenNames seen4 s1
  have h1 : r.Keeps s1 := hs.foldl fun _ _ h2 => h2.wakeRecord
  split
  · exact h1
  · exact .ite h1.wakeFrom (.ite h1.upd h1.sleepAbandon)

theorem padRelease {v : Nat} (hs : r.Keeps s) : r.Keeps (s.padRelease v) := by
  unfold State.padRelease
  exact ((Keeps.ite hs.set hs).when fun h1 => h1.set).whenNot fun h2 => h2.set.foldl fun _ _ h3 => h3.emit.emit.emit

/-! ### ClockOps -/

theorem showJudged (hs : r.Keeps s) : r.Keeps s.showJudged :=
  hs.flag

theorem choosePll {n : Nat} (hs : r.Keeps s) : r.Keeps (s.choosePll n) := by
  unfold State.choosePll
  extract_lets -underBinder -merge -useContext +onlyGivenNames cur1 hold2
  refine .ite hs ?_
  refine .ite ?_ ?_
  · split
    · exact hs.upd.reportNode
    · exact hs
  · split
    · exact .ite hs.upd hs
    · exact hs

theorem chooseDist (hs : r.Keeps s) : r.Keeps s.chooseDist :=
  .ite hs (.ite (.ite hs.set.bump hs) hs.set.bump.reportNode)

theorem chooseClocks (hs : r.Keeps s) : r.Keeps s.chooseClocks :=
  (((hs.foldl fun _ _ h1 => h1.choosePll).chooseDist).when fun h2 => h2.reportNode).showJudged

theorem reject {i : Nat} (hs : r.Keeps s) : r.Keeps (s.reject i) :=
  .ite hs ((hs.set.bump.upd.when fun h => h.stop).reportNode)

theorem coarse {i count : Nat} (hs : r.Keeps s) : r.Keeps (s.coarse i count) :=
  .ite hs (.ite hs.reject (.ite hs.set hs))

theorem finePass {i : Nat} (hs : r.Keeps s) : r.Keeps (s.finePass i) :=
  .ite hs (.ite hs.set (.ite hs.upd hs.upd.set))

theorem fineCount {b : Bool} {n : Nat} (hs : r.Keeps s) : r.Keeps (s.fineCount b n) := by
  unfold State.fineCount
  exact (Keeps.ite hs.upd hs.upd).set.set

theorem fine {na : Option Nat} {nb : Option Nat} (hs : r.Keeps s) : r.Keeps (s.fine na nb) := by
  unfold State.fine
  extract_lets -underBinder -merge -useContext +onlyGivenNames pass1 pa2 pb3 fa4 fb5 s1 s2
  have h1 : r.Keeps s1 := by
    unfold s1
    split
    · exact hs.fineCount
    · exact hs
  have h2 : r.Keeps s2 := by
    unfold s2
    split
    · exact h1.fineCount
    · exact h1
  exact .ite h2.reject (((Keeps.ite h2.reject (.ite h2.finePass h2)).branch (fun h3 => h3.reject) (fun h3 => h3.when fun h4 => h4.finePass)).when fun
    h5 => h5.finePass)

theorem clocksChanged (hs : r.Keeps s) : r.Keeps s.clocksChanged :=
  hs.chooseClocks.gmValid.showTime

theorem avsFail (hs : r.Keeps s) : r.Keeps s.avsFail :=
  .ite hs.upd hs.upd.bump.reportNode

theorem avsRead {mv : Nat} (hs : r.Keeps s) : r.Keeps (s.avsRead mv) :=
  hs.upd.set

theorem moveOver (hs : r.Keeps s) : r.Keeps s.moveOver :=
  hs.plMove.sleepWaits.clocksChanged

theorem moveDone {m : Move} (hs : r.Keeps s) : r.Keeps (s.moveDone m) :=
  hs.plEnd.bump.moveOver

/-! ### Clocks -/

theorem execCoarseWindowEnd {x a b l : Nat} (hs : r.Keeps s) : r.Reaches (execCoarseWindowEnd x a b l s) :=
  .next ((hs.foldl fun _ _ h1 => .ite h1.coarse h1).whenNot fun h2 => h2.clocksChanged)

theorem execMissingEdge {i : Nat} (hs : r.Keeps s) : r.Reaches (execMissingEdge i s) :=
  .ite (.next hs) (.next (hs.reject.whenNot fun h => h.clocksChanged))

theorem execFineWindowEnd {a b : Nat} (hs : r.Keeps s) : r.Reaches (execFineWindowEnd a b s) :=
  .ite (.next hs) (.next hs.fine.clocksChanged)

theorem execPllReferenceSwitchEnd {pll : Nat} (hs : r.Keeps s) : r.Reaches (execPllReferenceSwitchEnd pll s) := by
  unfold Machine.execPllReferenceSwitchEnd
  split
  · exact .next hs
  · exact .next hs.upd.set.bump.clocksChanged

theorem execPllLockLoss {pll : Nat} (hs : r.Keeps s) : r.Reaches (execPllLockLoss pll s) :=
  .ite (.next hs) (.next hs.set.reportNode)

theorem execEarlyBootSourceTimeout (hs : r.Keeps s) : r.Reaches (execEarlyBootSourceTimeout s) := by
  unfold Machine.execEarlyBootSourceTimeout
  split
  · rename_i u e
    exact .next (.ite (hs.expire e).reportNode (hs.expire e))
  · exact .next hs

theorem execPllsLocked (hs : r.Keeps s) : r.Reaches (execPllsLocked s) := by
  unfold Machine.execPllsLocked
  refine .ite (.next (.ite hs.upd.set hs)) ?_
  refine .ite (.next hs) ?_
  split
  · exact .next hs
  · exact .next (hs.foldl fun _ _ h => h.set.set).set.set.stop.upd.clocksChanged

/-! ### DataMover -/

theorem execAssignChannel {k : Nat} (hs : r.Keeps s) : r.Reaches (execAssignChannel k s) := by
  unfold Machine.execAssignChannel
  exact .next (hs.omi fun _ _ h => .ite_fst h.answers (.ite_fst (Keeps.ite h h.set) (.fst (Keeps.ite h h.set).dmReset)))

theorem execReleaseChannel {k : Nat} (hs : r.Keeps s) : r.Reaches (execReleaseChannel k s) := by
  unfold Machine.execReleaseChannel
  exact .next (hs.omi fun _ _ h => .ite_fst h.answers (.fst h.upd.dmReset))

theorem execDmTailWrite {c v : Nat} (hs : r.Keeps s) : r.Reaches (execDmTailWrite c v s) :=
  .next hs.set.dmKick

theorem execDmStart {c : Nat} (hs : r.Keeps s) : r.Reaches (execDmStart c s) :=
  .next hs.dmStart

theorem execDmReset {c : Nat} (hs : r.Keeps s) : r.Reaches (execDmReset c s) :=
  .next hs.dmReset

theorem execDmResume {c : Nat} (hs : r.Keeps s) : r.Reaches (execDmResume c s) := by
  unfold Machine.execDmResume
  exact .ite (.next hs) (.next hs.updCh.dmForm.dmKick)

theorem execDmPause {c : Nat} {on : Bool} (hs : r.Keeps s) : r.Reaches (execDmPause c on s) :=
  .next hs.flag.dmKick

theorem execDmEnable {c : Nat} {on : Bool} (hs : r.Keeps s) : r.Reaches (execDmEnable c on s) :=
  .ite (.ite (.next hs) (.next hs.set.dmKick)) (.ite (.next hs.dmReset) (.next hs))

theorem fetchFailed {c : Nat} {t : DmTag} (hs : r.Keeps s) : r.Keeps (s.fetchFailed c t) :=
  hs.updCh.dmKick

theorem execDescriptorFetchComplete {c : Nat} (hs : r.Keeps s) : r.Reaches (execDescriptorFetchComplete c s) := by
  unfold Machine.execDescriptorFetchComplete
  split
  · exact .next hs
  · split
    · exact .next hs
    · exact .ite (.next hs.upd.bump.evtNode) (.ite (.next hs.upd.dmRetire.fetchFailed) (.next hs.upd.dmFreeTag.updCh.set.dmKick))

theorem execDmReadIssue {c : Nat} (hs : r.Keeps s) : r.Reaches (execDmReadIssue c s) :=
  .next hs.dmIssue.dmKick

theorem execDmFillWriteForm {c : Nat} (hs : r.Keeps s) : r.Reaches (execDmFillWriteForm c s) :=
  .next hs.dmFill.dmKick

theorem dmTake_ {t : DmTag} {x : Tlp} (hs : r.Keeps s) : r.Keeps (s.dmTake_ t x) :=
  hs.updDesc

theorem execDmReadCompletion {tag : Nat} {t : Tlp} (hs : r.Keeps s) : r.Reaches (execDmReadCompletion tag t s) := by
  unfold Machine.execDmReadCompletion
  split
  · exact .next hs
  · exact .ite (.next hs) (.ite (.next hs.upd.bump.evtNode) (.ite (.next hs.upd.dmFail.dmRetire.dmKick) (.next (hs.upd.dmTake_.branch (fun h =>
      h.dmFreeTag) (fun h => h.updTag)).dmForm.dmKick)))

theorem execDmReadTimeout {tag : Nat} (hs : r.Keeps s) : r.Reaches (execDmReadTimeout tag s) := by
  unfold Machine.execDmReadTimeout
  split
  · rename_i u g e1 e2
    exact .ite (.next (hs.expire e1).dmRetire.fetchFailed) (.next (hs.expire e1).dmRetire.dmFail.dmKick)
  · exact .next hs

theorem execDescriptorComplete {c : Nat} (hs : r.Keeps s) : r.Reaches (execDescriptorComplete c s) :=
  .next hs.dmComplete

theorem execChannelResetComplete {c : Nat} (hs : r.Keeps s) : r.Reaches (execChannelResetComplete c s) := by
  unfold Machine.execChannelResetComplete
  split
  · exact .next hs
  · rename_i u e
    extract_lets -underBinder -merge -useContext +onlyGivenNames x s1 s2
    have h1 : r.Keeps s1 := by
      unfold s1
      split
      · exact (hs.expire e).set.set.set.set
      · exact (hs.expire e).set.set.set.set
      · exact (hs.expire e)
    have h2 : r.Keeps s2 := h1.setCh.finishOpt
    exact .next h2.set

/-! ### Faults -/

theorem execFaultReport {r' : Report} (hs : r.Keeps s) : r.Reaches (execFaultReport r' s) :=
  .next hs.upd.collectReport.settle

theorem execManagementRestartEnd (hs : r.Keeps s) : r.Reaches (execManagementRestartEnd s) :=
  .ite (.next hs) (.next hs.set.showBusy.fwReady)

theorem execNodeResetTimeout (hs : r.Keeps s) : r.Reaches (execNodeResetTimeout s) := by
  unfold Machine.execNodeResetTimeout
  split
  · rename_i u e
    exact .next (.ite (hs.expire e).reportNode (hs.expire e))
  · exact .next hs

theorem execPortRecoverTimeout {p : Nat} (hs : r.Keeps s) : r.Reaches (execPortRecoverTimeout p s) := by
  unfold Machine.execPortRecoverTimeout
  split
  · rename_i u e
    exact .next (.ite (hs.expire e) (hs.expire e).reportPort)
  · exact .next hs

theorem execCycleHoldExpiry {p : Nat} (hs : r.Keeps s) : r.Reaches (execCycleHoldExpiry p s) := by
  unfold Machine.execCycleHoldExpiry
  split
  · rename_i u e
    exact .next (.ite (hs.expire e).set (hs.expire e))
  · exact .next hs

theorem execManagedDpcRelease {p : Nat} (hs : r.Keeps s) : r.Reaches (execManagedDpcRelease p s) := by
  unfold Machine.execManagedDpcRelease
  split
  · rename_i u e
    exact .next (hs.expire e).uncontain
  · exact .next hs

theorem execReleasePort {k : Nat} (hs : r.Keeps s) : r.Reaches (execReleasePort k s) := by
  unfold Machine.execReleasePort
  exact .next (hs.omi fun _ _ h => .ite_fst h.answers (.ite_fst h.answers (.fst h.releasePort)))

theorem execFcPortRel {p : Nat} (hs : r.Keeps s) : r.Reaches (execFcPortRel p s) :=
  .ite (.next hs) (.next hs.releasePort)

theorem execInjectFault {k : Nat} (hs : r.Keeps s) : r.Reaches (execInjectFault k s) := by
  unfold Machine.execInjectFault
  exact .next (hs.omi fun _ _ h => .ite_fst h.answers (.fst h.inject))

theorem execFcInjectWrite {v : Nat} (hs : r.Keeps s) : r.Reaches (execFcInjectWrite v s) :=
  .next hs.inject.settle

theorem execFcStatusClear {hi : Bool} {v : Nat} (hs : r.Keeps s) : r.Reaches (execFcStatusClear hi v s) :=
  .next (hs.foldl fun _ _ h => .ite h.setCap h)

/-! ### Lanes -/

theorem stopTest {p l : Nat} (hs : r.Keeps s) : r.Keeps (s.stopTest p l) :=
  hs.set.set

theorem execQuadPllLock {q : Nat} (hs : r.Keeps s) : r.Reaches (execQuadPllLock q s) :=
  .ite (.next hs) (.next hs.upd.pllCheck)

theorem quadLost {q p : Nat} (hs : r.Keeps s) : r.Keeps (s.quadLost q p) :=
  (hs.foldl fun _ _ h => h.stopTest.laneLost).reportPort

theorem execQuadPllLockLoss {q : Nat} (hs : r.Keeps s) : r.Reaches (execQuadPllLockLoss q s) :=
  .ite (.next hs) (.next ((hs.upd.foldl fun _ _ h => h.quadLost).pllCheck))

theorem execLaneLockLoss {p lane : Nat} (hs : r.Keeps s) : r.Reaches (execLaneLockLoss p lane s) :=
  .ite (.next hs.laneLost) (.next hs)

theorem execLaneLockRegain {p lane : Nat} (hs : r.Keeps s) : r.Reaches (execLaneLockRegain p lane s) :=
  .ite (.next hs) (.ite (.next ((hs.flag.upd.upd.when fun h1 => h1.markUnfit).when fun h2 => h2.flag).armLockLoss.detectCheck) (.next
    (hs.flag.upd.upd.when fun h1 => h1.markUnfit)))

theorem execFecWindowEnd {p lane corr : Nat} (hs : r.Keeps s) : r.Reaches (execFecWindowEnd p lane corr s) :=
  .ite (.next hs) (.ite (.ite (.next hs) (.next (hs.updLink.when fun h1 => h1.markUnfit))) (.ite (.next hs) (.next (hs.bump.when fun h2 =>
    h2.markUnfit))))

theorem execClrUnfit {p lane : Nat} (hs : r.Keeps s) : r.Reaches (execClrUnfit p lane s) :=
  .next hs.flag.set.set

theorem execLaneTest {p lane test : Nat} {loop : Bool} {errors : Nat} (hs : r.Keeps s) : r.Reaches (execLaneTest p lane test loop errors s) := by
  unfold Machine.execLaneTest
  exact .ite (.next hs) (.next ((Keeps.ite hs.bump hs).set.flag.when fun h => h.set.set.set.set).pllCheck)

/-! ### LocalBus -/

theorem lbTake {k : Packet} (hs : r.Keeps s) : r.Keeps (s.lbTake k) := by
  unfold State.lbTake
  extract_lets -underBinder -merge -useContext +onlyGivenNames t write req due off c took
  have htook : r.Keeps took := by
    rcases hc : c with _ | ⟨n, u⟩
    · simpa [took, hc] using hs
    · have hctx : s.lbCtx k = some (n, u) := (Option.ite_none_right_eq_some.1 hc).2
      simpa [took, hc] using hs.lbCtx hctx
  clear_value took c
  have hin := htook.filterPass (pt := 1) (port := 48) (x := pktSeen k t.addr)
  extract_lets -underBinder -merge -useContext +onlyGivenNames req' staged _ _ left _ held
  have hheld : r.Keeps held := hin.stage.stage.upd.unbuffer.upd
  clear_value held
  refine .ite hheld.lbUndeliv (.ite ?_ (.ite hheld.lbEnd (.ite ?_ (.ite (.ite ?_ (.ite hheld.lbEnd ?_)) ?_))))
  · exact hheld.lbLog.lbEnd
  · exact hheld.lbLog.lbEnd
  · refine .ite (lbEnd ?_) hheld.lbEnd
    exact .ite hheld.semFree hheld.bump
  · extract_lets owned sem
    have howned : r.Keeps owned := hheld.set.set.set
    have hsem : r.Keeps sem := by
      unfold sem
      exact .ite (start (evtNode howned.set.set)) hheld
    exact hsem.lbData
  · extract_lets todo lines
    have hlines : r.Keeps lines := .when hheld fun h => h.dropLines
    exact .ite (.ite hlines.lbEnd hlines.lbData) hlines.updReq

theorem execLbIntake (hs : r.Keeps s) : r.Reaches (execLbIntake s) := by
  unfold Machine.execLbIntake
  extract_lets -underBinder -merge -useContext +onlyGivenNames s1 writes8 reads9
  refine .ite (.next hs.refresh) ?_
  extract_lets -underBinder -merge -useContext +onlyGivenNames order10 pick11
  clear_value pick11
  split
  · exact .next hs.refresh.lbTake.refresh
  · exact .next hs.refresh

theorem lbPhase {c : Nat} (hs : r.Keeps s) : r.Keeps (s.lbPhase c) :=
  hs.start

theorem execLbCycleStart (hs : r.Keeps s) : r.Reaches (execLbCycleStart s) := by
  unfold Machine.execLbCycleStart
  refine .ite (.next hs) ?_
  split
  · exact .next hs
  · split
    · exact .next hs.upd.bump.evtNode.lbData
    · exact .next hs.emit.upd.lbPhase

theorem cycleEnds {r' : LbReq} (hs : r.Keeps s) : r.Keeps (s.cycleEnds r') :=
  hs.upd.stop.branch (fun h => h.bump.evtNode) (fun h => h.bump.evtNode)

theorem lbError {r' : LbReq} {cause addr : Nat} (hs : r.Keeps s) : r.Keeps (s.lbError r' cause addr) :=
  hs.cycleEnds.lbLog.lbEnd

theorem keepLine {r' : LbReq} (hs : r.Keeps s) : r.Keeps (s.keepLine r') := by
  unfold State.keepLine
  split
  · exact hs
  · extract_lets -underBinder -merge -useContext +onlyGivenNames s1 l3
    have h : r.Keeps s1 := by
      refine .ite ?_ hs
      split
      · exact hs.dropLine
      · exact hs
    exact h.upd.start

theorem phaseDone {r' : LbReq} {c : LbCyc} {data : Nat} (hs : r.Keeps s) : r.Keeps (s.phaseDone r' c data) := by
  unfold State.phaseDone
  split
  · exact hs
  · exact hs.updReq.branch (fun h1 => h1.upd.lbPhase) (fun h1 => h1.cycleEnds.whenNot fun h2 => h2.branch (fun h3 => h3.lbEnd) (fun h3 =>
      h3.lbData.keepLine))

theorem execLbPhaseTermination {rdy wait : Bool} {data : Nat} (hs : r.Keeps s) : r.Reaches (execLbPhaseTermination rdy wait data s) := by
  unfold Machine.execLbPhaseTermination
  split
  · exact .next hs
  · split
    · exact .next hs
    · exact .ite (.next hs.phaseDone) (.ite (.next hs.lbError) (.ite (.ite (.next hs.bump.evtNode.lbError) (.next
        hs.bump.evtNode.cycleEnds.updReq.start)) (.next hs)))

theorem execLbRetryGapExpiry {id : Nat} (hs : r.Keeps s) : r.Reaches (execLbRetryGapExpiry id s) := by
  unfold Machine.execLbRetryGapExpiry
  split
  · rename_i u e
    exact .next (hs.expire e).updReq
  · exact .next hs

theorem execLbPhaseTimeout (hs : r.Keeps s) : r.Reaches (execLbPhaseTimeout s) := by
  unfold Machine.execLbPhaseTimeout
  split
  · rename_i u c e1 e2
    split
    · exact .next (hs.expire e1).lbError
    · exact .next (hs.expire e1)
  · exact .next hs

theorem execPrefetchLineExpiry {no : Nat} (hs : r.Keeps s) : r.Reaches (execPrefetchLineExpiry no s) := by
  unfold Machine.execPrefetchLineExpiry
  split
  · rename_i u l e1 e2
    exact .next (hs.expire e1).dropLine
  · exact .next hs

theorem execSemaphoreForcedRelease (hs : r.Keeps s) : r.Reaches (execSemaphoreForcedRelease s) := by
  unfold Machine.execSemaphoreForcedRelease
  split
  · exact .next hs
  · rename_i u e
    exact .next ((hs.expire e).semFree.set.bump.evtNode.when fun h => h.report).raiseEvent

theorem execBridgeReset (hs : r.Keeps s) : r.Reaches (execBridgeReset s) :=
  .next hs.lbReset

theorem execLbEnable {on : Bool} (hs : r.Keeps s) : r.Reaches (execLbEnable on s) :=
  .ite (.next hs) (.ite (.next hs.set.set.start) (.next hs.set.lbReset))

theorem execLbResetRelease (hs : r.Keeps s) : r.Reaches (execLbResetRelease s) := by
  unfold Machine.execLbResetRelease
  split
  · rename_i u e
    exact .next (hs.expire e).set.emit
  · exact .next hs

theorem execElogClr (hs : r.Keeps s) : r.Reaches (execElogClr s) :=
  .next (hs.foldl fun _ _ h => h.unsetReg.unsetReg.unsetReg.unsetReg).set.set

theorem execLbPregWrite {c n v : Nat} (hs : r.Keeps s) : r.Reaches (execLbPregWrite c n v s) :=
  .next hs.dropLines.write.write

/-! ### Images -/

theorem closeSession (hs : r.Keeps s) : r.Keeps s.closeSession :=
  hs.upd.stop

theorem setSession {x : Session} (hs : r.Keeps s) : r.Keeps (s.setSession x) :=
  hs.upd.start

theorem execSessionTimeout (hs : r.Keeps s) : r.Reaches (execSessionTimeout s) := by
  unfold Machine.execSessionTimeout
  split
  · rename_i u e
    exact .next (hs.expire e).upd
  · exact .next hs

theorem unverify {slot : Nat} (hs : r.Keeps s) : r.Keeps (s.unverify slot) :=
  hs.upd

theorem execBeginStage {k : Nat} (hs : r.Keeps s) : r.Reaches (execBeginStage k s) := by
  unfold Machine.execBeginStage
  exact .next (hs.omi fun _ _ h => .ite_fst h.answers (.ite_fst h.answers (.ite_fst h.answers (.fst h.setSession))))

theorem execWriteStage {k : Nat} (hs : r.Keeps s) : r.Reaches (execWriteStage k s) := by
  unfold Machine.execWriteStage
  refine .next ?_
  refine hs.omi fun _ _ h => ?_
  extract_lets -underBinder -merge -useContext +onlyGivenNames off2 data3
  split
  · exact h.answers
  · exact .ite_fst h.answers (.fst h.flashWrite.unverify.setSession)

theorem execEndStage {k : Nat} (hs : r.Keeps s) : r.Reaches (execEndStage k s) := by
  unfold Machine.execEndStage
  refine .next ?_
  refine hs.omi fun _ _ h => ?_
  split
  · exact h.answers
  · exact .ite_fst h.closeSession (.ite_fst (.fst h.closeSession.unverify.upd) h.closeSession.answers)

theorem notice92 {reason : Nat} (hs : r.Keeps s) : r.Keeps (s.notice92 reason) :=
  hs.foldl fun _ _ h => h.queuePlace

theorem execActivateImage {k : Nat} (hs : r.Keeps s) : r.Reaches (execActivateImage k s) := by
  unfold Machine.execActivateImage
  exact .next (hs.omi fun _ _ h => .ite_fst h.answers (.ite_fst h.answers (.ite_fst h.answers (.fst h.upd.showBusy.start))))

theorem abortBox {k : Nat} (hs : r.Keeps s) : r.Keeps (s.abortBox k) := by
  unfold State.abortBox
  split
  · exact .ite hs (.ite hs.updMbox.answerTo hs.placeRsp.storeRsp)
  · exact hs

theorem execActivationQuiesceEnd (hs : r.Keeps s) : r.Reaches (execActivationQuiesceEnd s) := by
  unfold Machine.execActivationQuiesceEnd
  split
  · exact .next hs
  · extract_lets -underBinder -merge -useContext +onlyGivenNames go5
    refine .ite (.next hs) ?_
    refine .ite (.next ((hs.stop.foldl fun _ _ h1 => h1.abortBox).upd)) ?_
    split
    · rename_i u e
      exact .next (((hs.expire e).foldl fun _ _ h2 => h2.abortBox).upd)
    · exact .next hs

theorem endAct {a : Activation} {good : Bool} (hs : r.Keeps s) : r.Keeps (s.endAct a good) :=
  hs.upd.fwReady.showBusy.notice92.finishOpt

theorem execActivationCheckDone (hs : r.Keeps s) : r.Reaches (execActivationCheckDone s) := by
  unfold Machine.execActivationCheckDone
  split
  · exact .next hs
  · exact .ite (.next hs) (.ite (.next hs.endAct) (.next hs.upd.fwReady))

theorem runImage {slot : Nat} (hs : r.Keeps s) : r.Keeps (s.runImage slot) :=
  hs.upd.set

theorem tellPeers (hs : r.Keeps s) : r.Keeps s.tellPeers :=
  hs.foldl fun _ _ h => h.sendFw

theorem execActivationSwitchoverEnd (hs : r.Keeps s) : r.Reaches (execActivationSwitchoverEnd s) := by
  unfold Machine.execActivationSwitchoverEnd
  split
  · exact .next hs
  · exact .ite (.next hs) (.next ((Keeps.ite hs.runImage.tellPeers hs).endAct))

theorem execCommitImage {k : Nat} (hs : r.Keeps s) : r.Reaches (execCommitImage k s) := by
  unfold Machine.execCommitImage
  exact .next (hs.omi fun _ _ h => .ite_fst h.answers (.ite_fst h.answers (.ite_fst h.answers (.fst h.writeSelector.upd.notice92))))

theorem execAdvanceSecurityVersion {k : Nat} (hs : r.Keeps s) : r.Reaches (execAdvanceSecurityVersion k s) := by
  unfold Machine.execAdvanceSecurityVersion
  exact .next (hs.omi fun _ _ h => .ite_fst h.answers (.fst h.upd))

theorem execReadFirmwareStatus {k : Nat} (hs : r.Keeps s) : r.Reaches (execReadFirmwareStatus k s) := by
  unfold Machine.execReadFirmwareStatus
  exact .next (hs.omi fun _ _ h => h)

theorem execGetIdentity {k : Nat} (hs : r.Keeps s) : r.Reaches (execGetIdentity k s) := by
  unfold Machine.execGetIdentity
  exact .next (hs.omi fun _ _ h => h)

theorem execReadCertificate {k : Nat} (hs : r.Keeps s) : r.Reaches (execReadCertificate k s) := by
  unfold Machine.execReadCertificate
  exact .next (hs.omi fun _ _ h => .ite_fst h.answers h)

theorem execInstallOwnerChain {k : Nat} (hs : r.Keeps s) : r.Reaches (execInstallOwnerChain k s) := by
  unfold Machine.execInstallOwnerChain
  exact .next (hs.omi fun _ _ h => .ite_fst h.answers (.ite_fst h.answers (.ite_fst (.fst h.writeChain.closeSession) (.ite_fst (.fst h.setSession)
    (.ite_fst (.fst h.writeChain.closeSession) h.closeSession.answers)))))

/-! ### Partitions -/

theorem createPart {part p j thaw : Nat} (hs : r.Keeps s) : r.Keeps (s.createPart part p j thaw) := by
  unfold State.createPart
  exact hs.set.set.set.set.set.setRec.set.checkHeld.installView

theorem execCreatePartition {k : Nat} (hs : r.Keeps s) : r.Reaches (execCreatePartition k s) := by
  unfold Machine.execCreatePartition
  exact .next (hs.omi fun _ _ h => .ite_fst h.answers (.ite_fst h.answers (.fst h.createPart.awaitAll.fwAll.portOn.settle)))

theorem execDeletePartition {k : Nat} (hs : r.Keeps s) : r.Reaches (execDeletePartition k s) := by
  unfold Machine.execDeletePartition
  refine .next ?_
  refine hs.omi fun _ _ h1 => ?_
  extract_lets -underBinder -merge -useContext +onlyGivenNames part4
  refine .ite_fst h1.answers ?_
  split
  · exact h1.answers
  · exact .ite_fst h1.answers (.fst ((h1.setPartState.when fun h2 => h2.vacateFm).when fun h3 =>
      h3.setStandbyPart).awaitThese.fwAll.deleteHere.settle)

theorem execResetPartition {k : Nat} (hs : r.Keeps s) : r.Reaches (execResetPartition k s) := by
  unfold Machine.execResetPartition
  refine .next ?_
  refine hs.omi fun _ _ h => ?_
  extract_lets -underBinder -merge -useContext +onlyGivenNames part2
  refine .ite_fst h.answers ?_
  refine .ite_fst h.answers ?_
  split
  · exact h.answers
  · exact .ite_fst h.answers (.fst h.resetPart.settle)

theorem resetRestores {k : Nat} (hs : r.Keeps s) : r.Keeps (s.resetRestores k) :=
  ((hs.upd.resetCfg.setBuses.foldl fun _ _ h1 => .ite h1.spreadView h1).spreadBound.set.fwAll.thawSome.when fun h2 => h2.setPartState).dmHost

theorem execPartitionResetComplete {k : Nat} (hs : r.Keeps s) : r.Reaches (execPartitionResetComplete k s) :=
  .ite (.next hs) (.next ((hs.resetRestores.upd.foldl fun _ _ h => h.finish).settle))

theorem execPartitionRecordInstall {src : Nat} {f : List Nat} (hs : r.Keeps s) : r.Reaches (execPartitionRecordInstall src f s) := by
  unfold Machine.execPartitionRecordInstall
  extract_lets -underBinder -merge -useContext +onlyGivenNames g12 part13
  split
  · exact .next hs
  · rename_i u e
    extract_lets -underBinder -merge -useContext +onlyGivenNames other19
    refine .ite (.next (hs.takeFw e).sendAck) ?_
    extract_lets -underBinder -merge -useContext +onlyGivenNames s1 s2
    have h1 : r.Keeps s1 := by
      unfold s1
      split
      · exact .ite (hs.takeFw e).freeSlot.raiseFm (hs.takeFw e)
      · exact (hs.takeFw e)
    have h2 : r.Keeps s2 := .ite h1.setRec h1.setRec.forgetPart
    exact .next h2.sendAck

theorem confirmFm {new old : Nat} (hs : r.Keeps s) : r.Keeps (s.confirmFm new old) := by
  unfold State.confirmFm
  extract_lets -underBinder -merge -useContext +onlyGivenNames s1 s2
  have h : r.Keeps s2 := by
    unfold s2
    split
    · exact hs.setFm.fmNotice
    · exact hs.setFm
  exact h.fwAll

theorem fmMoved {new old home : Nat} (hs : r.Keeps s) : r.Keeps (s.fmMoved new old home) := by
  unfold State.fmMoved
  extract_lets -underBinder -merge -useContext +onlyGivenNames s1
  split
  · exact hs.setFm.fmNotice
  · exact hs.setFm

theorem execTransferFabricManagement {k : Nat} (hs : r.Keeps s) : r.Reaches (Machine.execTransferFabricManagement k s) := by
  unfold Machine.execTransferFabricManagement
  refine .next (hs.omi fun s x h => .ite_fst h.answers (.ite_fst h.answers ?_))
  extract_lets old
  clear_value old
  split
  · exact h.answers
  · refine .ite_fst ?_ ?_
    · extract_lets moved
      have hmoved : r.Keeps moved := h.confirmFm.fmMoved
      exact hmoved.fst
    · extract_lets a
      have ha : r.Keeps a.2 := h.awaitThese
      exact ha.sendFw

theorem execSetStandby {k : Nat} (hs : r.Keeps s) : r.Reaches (execSetStandby k s) := by
  unfold Machine.execSetStandby
  exact .next (hs.omi fun _ _ h => .ite_fst h.answers (.ite_fst h.answers (.fst h.setStandbyPart.awaitAll.fwAll.settle)))

theorem execFmTakeoverExpiry (hs : r.Keeps s) : r.Reaches (execFmTakeoverExpiry s) := by
  unfold Machine.execFmTakeoverExpiry
  split
  · exact .next hs
  · rename_i u e
    exact .next (hs.expire e).vacateFm.fwAll

theorem freezePartHere {part : Nat} {cpl : Bool} (hs : r.Keeps s) : r.Keeps (s.freezePartHere part cpl) := by
  unfold State.freezePartHere
  extract_lets -underBinder -merge -useContext +onlyGivenNames s1
  have h1 : r.Keeps s1 := by
    unfold s1
    split
    · exact hs.set
    · exact hs
  exact h1.foldl fun _ _ h2 => h2.freeze.when fun h3 => h3.flag

theorem thawPartHere {part : Nat} {advance : Bool} {ack : Option (Nat × Nat)} (hs : r.Keeps s) : r.Keeps (s.thawPartHere part advance ack) := by
  unfold State.thawPartHere
  extract_lets -underBinder -merge -useContext +onlyGivenNames s1
  have h : r.Keeps s1 := by
    unfold s1
    split
    · exact .ite hs hs.set.dmHost
    · exact hs
  exact h.thawSome

theorem execFreezePartition {k : Nat} (hs : r.Keeps s) : r.Reaches (execFreezePartition k s) := by
  unfold Machine.execFreezePartition
  exact .next (hs.omi fun _ _ h => .ite_fst h.answers (.ite_fst h.answers (.fst h.awaitAll.fwAll.freezePartHere.settle)))

theorem execThawPartition {k : Nat} (hs : r.Keeps s) : r.Reaches (execThawPartition k s) := by
  unfold Machine.execThawPartition
  exact .next (hs.omi fun _ _ h => .ite_fst h.answers (.ite_fst h.answers (.fst h.awaitThese.fwAll.thawPartHere.settle)))

theorem execReadPartition {k : Nat} (hs : r.Keeps s) : r.Reaches (execReadPartition k s) := by
  unfold Machine.execReadPartition
  refine .next ?_
  refine hs.omi fun _ _ h => ?_
  extract_lets -underBinder -merge -useContext +onlyGivenNames part2
  refine .ite_fst h.answers ?_
  refine .ite_fst h.answers ?_
  split
  · exact h.answers
  · exact h

theorem partFw {src : Nat} {f : List Nat} (hs : r.Keeps s) : r.Keeps (s.partFw src f) := by
  unfold State.partFw
  exact .ite hs.resetHere (.ite hs.freezePartHere.sendAck (.ite hs.thawPartHere hs.deleteHere))

theorem fmFw {src : Nat} {f : List Nat} (hs : r.Keeps s) : r.Keeps (s.fmFw src f) := by
  unfold State.fmFw
  extract_lets -underBinder -merge -useContext +onlyGivenNames g3 who4
  refine .ite hs.confirmFm.sendAck ?_
  refine .ite hs.fmMoved ?_
  refine .ite hs.setStandbyPart.sendAck ?_
  extract_lets -underBinder -merge -useContext +onlyGivenNames s1
  have h : r.Keeps s1 := hs.setFm.setStandbyPart
  split
  · exact h.fmNotice
  · exact h

/-! ### Instances -/

theorem writeInst {i owner v p rid : Nat} {bound cpl : Bool} (hs : r.Keeps s) : r.Keeps (s.writeInst i owner v p rid bound cpl) :=
  hs.set.set.set.set.flag.flag.set.upd.checkHeld

theorem execAssignFunction {k : Nat} (hs : r.Keeps s) : r.Reaches (execAssignFunction k s) := by
  unfold Machine.execAssignFunction
  refine .next ?_
  refine hs.omi fun _ _ h => ?_
  extract_lets -underBinder -merge -useContext +onlyGivenNames owner2 v p4 bound5 rid6
  refine .ite_fst h.answers ?_
  refine .ite_fst h.answers ?_
  refine .ite_fst h.answers ?_
  split
  · exact h.answers
  · exact .ite_fst (.fst h.fresh.updPx.set.set.writeInst.set.portOn.askFill.settle) (.fst h.writeInst.askFill.settle)

theorem execRemoveFunction {k : Nat} (hs : r.Keeps s) : r.Reaches (execRemoveFunction k s) := by
  unfold Machine.execRemoveFunction
  exact .next (hs.omi fun _ _ h => .ite_fst h.answers (.ite_fst h.answers (.ite_fst h.answers (.ite_fst h.answers (.fst h.removeInst.settle)))))

theorem execRemovalDrainPoint {i : Nat} (hs : r.Keeps s) : r.Reaches (execRemovalDrainPoint i s) := by
  unfold Machine.execRemovalDrainPoint
  split
  · exact .ite (.next hs) (.next hs.stop.setRemoval.advanceGen.issueReset)
  · exact .next hs

theorem execRemovalDrainTimeout {i : Nat} (hs : r.Keeps s) : r.Reaches (execRemovalDrainTimeout i s) := by
  unfold Machine.execRemovalDrainTimeout
  split
  · rename_i u r e1 e2
    exact .next (((hs.expire e1).foldl fun _ _ h1 => h1.sendFw).foldl fun _ _ h2 => h2.undeliverable.unbuffer)
  · exact .next hs

theorem execRemovalResetWaitEnd {i : Nat} (hs : r.Keeps s) : r.Reaches (execRemovalResetWaitEnd i s) := by
  unfold Machine.execRemovalResetWaitEnd
  split
  · rename_i u e
    exact .next (hs.expire e).start.emit
  · exact .next hs

theorem execRemovalFunctionReady {i : Nat} (hs : r.Keeps s) : r.Reaches (execRemovalFunctionReady i s) :=
  .ite (.next hs) (.next (hs.stop.upd.when fun h => h.removalEnd).jobDone.settle)

theorem execRemovalFunctionTimeout {i : Nat} (hs : r.Keeps s) : r.Reaches (execRemovalFunctionTimeout i s) := by
  unfold Machine.execRemovalFunctionTimeout
  split
  · exact .next hs
  · rename_i u e
    exact .next ((hs.expire e).upd.branch (fun h => h.removalFail) (fun h => h.upd.tellInst.raiseFm)).jobDone.settle

theorem execFreezeFunction {k : Nat} (hs : r.Keeps s) : r.Reaches (execFreezeFunction k s) := by
  unfold Machine.execFreezeFunction
  exact .next (hs.omi fun _ _ h1 => .ite_fst h1.answers (.ite_fst h1.answers (.fst (h1.freeze.when fun h2 => h2.flag))))

theorem execThawFunction {k : Nat} (hs : r.Keeps s) : r.Reaches (execThawFunction k s) := by
  unfold Machine.execThawFunction
  exact .next (hs.omi fun _ _ h => .ite_fst h.answers (.ite_fst h.answers (.ite_fst h.answers (.ite_fst h.answers (.fst h.thawSome)))))

theorem execSetBusSpan {k : Nat} (hs : r.Keeps s) : r.Reaches (execSetBusSpan k s) := by
  unfold Machine.execSetBusSpan
  exact .next (hs.omi fun _ _ h => .ite_fst h.answers (.ite_fst h.answers (.fst h.set)))

theorem execEnableVfs {k : Nat} (hs : r.Keeps s) : r.Reaches (execEnableVfs k s) := by
  unfold Machine.execEnableVfs
  exact .next (hs.omi fun _ _ h => .ite_fst h.answers (.ite_fst h.answers (.ite_fst h.answers (.ite_fst h.answers (.ite_fst h.emit (.fst
    h.emit.upd.start))))))

theorem execEnableVfsTimeout {port : Nat} (hs : r.Keeps s) : r.Reaches (execEnableVfsTimeout port s) := by
  unfold Machine.execEnableVfsTimeout
  split
  · exact .next hs
  · rename_i u e
    exact .next ((hs.expire e).upd.foldl fun _ _ h => h.finish)

theorem execSetManagedPort {k : Nat} (hs : r.Keeps s) : r.Reaches (execSetManagedPort k s) := by
  unfold Machine.execSetManagedPort
  exact .next (hs.omi fun _ _ h => .ite_fst h.answers (.ite_fst (.ite_fst h.answers (.fst h.set.upd.portOn)) (.ite_fst h.answers (.fst
    h.portOff.set))))

theorem execReadInstance {k : Nat} (hs : r.Keeps s) : r.Reaches (execReadInstance k s) := by
  unfold Machine.execReadInstance
  exact .next (hs.omi fun _ _ h => .ite_fst h.answers (.ite_fst h.answers h))

theorem execGenerationWaitEnd {i : Nat} (hs : r.Keeps s) : r.Reaches (execGenerationWaitEnd i s) := by
  unfold Machine.execGenerationWaitEnd
  split
  · exact .next hs
  · rename_i u e
    exact .next ((((hs.expire e).advanceNow.whenNot fun h1 => h1.unfreeze).upd.upd.foldl fun _ _ h2 => h2.thawEnd).settle)

theorem execCompletionTimeout {idx : Nat} (hs : r.Keeps s) : r.Reaches (execCompletionTimeout idx s) := by
  unfold Machine.execCompletionTimeout
  split
  · rename_i u c e1 e2
    exact .next (hs.expire e1).bump.retireCtx
  · exact .next hs

theorem execTagQuarantineEnd {port tag : Nat} (hs : r.Keeps s) : r.Reaches (execTagQuarantineEnd port tag s) := by
  unfold Machine.execTagQuarantineEnd
  split
  · exact .next hs
  · rename_i u e
    exact .ite (.next ((hs.expire e).upd.when fun h => h.dmKick)) (.next (hs.expire e).upd)

theorem removalFw {src type : Nat} {f : List Nat} (hs : r.Keeps s) : r.Keeps (s.removalFw src type f) :=
  .ite hs.sendFw (.ite hs.markersGot hs.purge)

/-! ### Link -/

theorem execAuditDue {p : Nat} (hs : r.Keeps s) : r.Reaches (execAuditDue p s) :=
  .ite (.next hs.updLink) (.next hs)

theorem execDataFlitReceive {p : Nat} {h : FlitHdr} {vc : VC} {first : Nat} {pieces : List Piece} (hs : r.Keeps s) :
    r.Reaches (execDataFlitReceive p h vc first pieces s) := by
  unfold Machine.execDataFlitReceive
  refine .ite (.next hs) ?_
  extract_lets -underBinder -merge -useContext +onlyGivenNames v s1
  split
  · exact .next hs.rxCheck
  · exact .next hs.rxCheck
  · exact .ite (.next hs.rxCheck.forcedRetrain) (.ite (.next hs.rxCheck.accept.ackProcess.takeReturn) (.next
      hs.rxCheck.accept.ackProcess.takeReturn.parseData.settleHolds))

theorem execIdleFlitReceive {p : Nat} {h : FlitHdr} (hs : r.Keeps s) : r.Reaches (execIdleFlitReceive p h s) := by
  unfold Machine.execIdleFlitReceive
  refine .ite (.next hs) ?_
  extract_lets -underBinder -merge -useContext +onlyGivenNames sequenced2 v s1
  split
  · exact .next hs.rxCheck
  · exact .next hs.rxCheck
  · exact .next (Keeps.ite hs.rxCheck.accept hs.rxCheck).ackProcess.takeReturn

theorem execMsgFlitReceive {p : Nat} {h : FlitHdr} {m : MgMsg} (hs : r.Keeps s) : r.Reaches (execMsgFlitReceive p h m s) := by
  unfold Machine.execMsgFlitReceive
  refine .ite (.next hs) ?_
  extract_lets -underBinder -merge -useContext +onlyGivenNames v s1
  split
  · exact .next hs.rxCheck
  · exact .next hs.rxCheck
  · exact .next hs.rxCheck.accept.ackProcess.takeReturn.set.fabricCredits.upd

theorem execAuditFlitReceive {p : Nat} {h : FlitHdr} {a : Audit} (hs : r.Keeps s) : r.Reaches (execAuditFlitReceive p h a s) := by
  unfold Machine.execAuditFlitReceive
  refine .ite (.next hs) ?_
  extract_lets -underBinder -merge -useContext +onlyGivenNames v s1
  split
  · exact .next hs.rxCheck
  · exact .next hs.rxCheck
  · exact .ite (.next hs.rxCheck.accept.ackProcess.takeReturn) (.ite (.next ((hs.rxCheck.accept.ackProcess.takeReturn.when fun h1 =>
      h1.protoErr).when fun h2 => h2.bump.evtFab).flag.mlReport.schedule) (.next ((hs.rxCheck.accept.ackProcess.takeReturn.when fun h1 =>
        h1.protoErr).when fun h2 => h2.bump.evtFab)))

theorem execReplayFlitReceive {p : Nat} {h : FlitHdr} {start : Nat} (hs : r.Keeps s) : r.Reaches (execReplayFlitReceive p h start s) :=
  .ite (.next hs) (.ite (.next hs.rsDecode) (.ite (.next hs.rsDecode.crcFail) (.ite (.next hs.rsDecode) (.ite (.next (hs.rsDecode.evtFab.when fun h1
    => h1.protoErr).forcedRetrain) (.next (hs.rsDecode.evtFab.when fun h1 => h1.protoErr).updLink.ackProcess)))))

theorem execReplayTimerExpiry {p : Nat} (hs : r.Keeps s) : r.Reaches (execReplayTimerExpiry p s) := by
  unfold Machine.execReplayTimerExpiry
  split
  · exact .next hs
  · rename_i u e
    exact .ite (.next (hs.expire e)) (.ite (.next (hs.expire e).updLink.forcedRetrain) (.next (hs.expire e).updLink.updLink.bump.evtFab.start))

theorem trainCheck {p : Nat} {h : FlitHdr} (hs : r.Keeps s) : r.Keeps (s.trainCheck p h).2 :=
  .ite_snd hs.rsDecode (.ite_snd (.snd hs.rsDecode.crcFail) (.snd hs.rsDecode.evtFab))

theorem lockRun {p lane : Nat} {ok : Bool} (hs : r.Keeps s) : r.Keeps (s.lockRun p lane ok) :=
  hs.updLane

theorem lockEnds {p : Nat} (hs : r.Keeps s) : r.Keeps (s.lockEnds p) :=
  .ite ((hs.foldl fun _ _ h => h.flag).set.updLink) hs

theorem execTs1Receive {p : Nat} {h : FlitHdr} {lane number : Nat} (hs : r.Keeps s) : r.Reaches (execTs1Receive p h lane number s) := by
  unfold Machine.execTs1Receive
  refine .ite (.next hs) ?_
  extract_lets -underBinder -merge -useContext +onlyGivenNames d2 s1 st4
  exact .ite (.next hs.trainCheck.lockRun) (.ite (.next hs.trainCheck.flag.detectCheck) (.ite (.next (Keeps.ite hs.trainCheck.updLink
    hs.trainCheck).lockRun.lockEnds) (.ite (.ite (.next hs.trainCheck.lockRun.enterInit) (.next hs.trainCheck.lockRun)) (.ite (.next
      hs.trainCheck.followForced.lockRun) (.next hs.trainCheck)))))

theorem execTs2Receive {p : Nat} {h : FlitHdr} {lane : Nat} {t : Ts2} (hs : r.Keeps s) : r.Reaches (execTs2Receive p h lane t s) :=
  .ite (.next hs) (.ite (.next hs.trainCheck.lockRun.updLane) (.ite (.next hs.trainCheck.lockRun.lockEnds) (.ite (.next
    hs.trainCheck.updLane.configCheck) (.next hs.trainCheck))))

theorem execRateGoReceive {p : Nat} {h : FlitHdr} {rate lanes left : Nat} (hs : r.Keeps s) : r.Reaches (execRateGoReceive p h rate lanes left s) :=
  .ite (.next hs) (.ite (.next hs.trainCheck.updLink) (.next hs.trainCheck))

theorem askPreset {p lane n : Nat} {final : Bool} (hs : r.Keeps s) : r.Keeps (s.askPreset p lane n final) := by
  unfold State.askPreset
  exact hs.updLane.updLink

theorem execEqAdaptEnd {p lane : Nat} (hs : r.Keeps s) : r.Reaches (execEqAdaptEnd p lane s) := by
  unfold Machine.execEqAdaptEnd
  split
  · rename_i u e
    exact .ite (.next (hs.expire e).askPreset) (.next (hs.expire e))
  · exact .next hs

theorem execEqMeasureEnd {p lane fom : Nat} (hs : r.Keeps s) : r.Reaches (execEqMeasureEnd p lane fom s) := by
  unfold Machine.execEqMeasureEnd
  split
  · exact .next hs
  · rename_i u e
    split
    · exact .next (hs.expire e)
    · exact .ite (.next (hs.expire e).updLane.askPreset) (.next (hs.expire e).updLane.askPreset)

theorem eqCheck {p : Nat} (hs : r.Keeps s) : r.Keeps (s.eqCheck p) :=
  .ite hs.stopLink.enterInit hs

theorem eqAnswer {p lane : Nat} {e : EqMsg} (hs : r.Keeps s) : r.Keeps (s.eqAnswer p lane e) :=
  hs.updLink

theorem execEqFlitReceive {p : Nat} {h : FlitHdr} {lane : Nat} {e : EqMsg} (hs : r.Keeps s) : r.Reaches (execEqFlitReceive p h lane e s) := by
  unfold Machine.execEqFlitReceive
  refine .ite (.next hs) ?_
  extract_lets -underBinder -merge -useContext +onlyGivenNames d3 s1
  refine .ite (.next hs.trainCheck) ?_
  extract_lets -underBinder -merge -useContext +onlyGivenNames rate5 x
  split
  · exact .ite (.next hs.trainCheck.setCoefs.eqAnswer) (.next hs.trainCheck.eqAnswer)
  · exact .ite (.next hs.trainCheck.setCoefs.eqAnswer) (.next hs.trainCheck.eqAnswer)
  · exact .ite (.next hs.trainCheck) (.ite (.next hs.trainCheck.set.updLane.eqAnswer.eqCheck) (.next hs.trainCheck.start))
  · split
    · exact .ite (.next hs.trainCheck.askPreset) (.next hs.trainCheck)
    · exact .next hs.trainCheck
  · exact .next hs.trainCheck.updLane.eqCheck
  · exact .next hs.trainCheck.updLane
  · exact .next hs.trainCheck

theorem execEqualiseTimeout {p : Nat} (hs : r.Keeps s) : r.Reaches (execEqualiseTimeout p s) := by
  unfold Machine.execEqualiseTimeout
  split
  · exact .next hs
  · rename_i u e
    exact .ite (.next (hs.expire e)) (.ite (.next (hs.expire e).stopLink.enterDetect) (.next ((hs.expire e).stopLink.when fun h =>
      h.flag.mlReport).enterEqualise))

theorem execInitReceive {p : Nat} {h : FlitHdr} {adv : PerVc} {depth lanes : Nat} (hs : r.Keeps s) :
    r.Reaches (execInitReceive p h adv depth lanes s) :=
  .ite (.next hs) (.ite (.next hs.trainCheck) (.ite (.next (hs.trainCheck.when fun h1 => h1.enterInit)) (.next (((hs.trainCheck.when fun h1 =>
    h1.enterInit).foldl fun _ _ h2 => h2.set).whenNot fun h3 => h3.set.set).updLink)))

theorem execRetrainReqReceive {p reason : Nat} {h : FlitHdr} {node wanted : Nat} {forced : Bool} (hs : r.Keeps s) :
    r.Reaches (execRetrainReqReceive p h reason node wanted forced s) := by
  unfold Machine.execRetrainReqReceive
  refine .ite (.next hs) ?_
  refine .ite (.ite (.next hs.rsDecode) (.ite (.next hs.rsDecode.crcFail) (.ite (.next hs.rsDecode.evtFab.flag.updLink) (.next hs.rsDecode.evtFab))))
    ?_
  extract_lets -underBinder -merge -useContext +onlyGivenNames v s1
  refine .ite (.next hs.rxCheck) ?_
  extract_lets -underBinder -merge -useContext +onlyGivenNames s2 s3
  have h1 : r.Keeps s2 := .ite hs.rxCheck.protoErr hs.rxCheck
  refine .ite (.next h1.ackProcess.followForced) ?_
  extract_lets -underBinder -merge -useContext +onlyGivenNames lanes23 ack24
  split
  · exact .ite (.next h1.ackProcess.updLink.enterLeaving) (.next h1.ackProcess)
  · exact .ite (.next h1.ackProcess.updLink.enterLeaving) (.ite (.next h1.ackProcess.updLink) (.next h1.ackProcess))

theorem execRetrainAckReceive {p : Nat} {h : FlitHdr} {node wanted : Nat} (hs : r.Keeps s) : r.Reaches (execRetrainAckReceive p h node wanted s) := by
  unfold Machine.execRetrainAckReceive
  refine .ite (.next hs) ?_
  extract_lets -underBinder -merge -useContext +onlyGivenNames v s1
  refine .ite (.next hs.rxCheck) ?_
  extract_lets -underBinder -merge -useContext +onlyGivenNames s2 s3
  have h1 : r.Keeps s2 := .ite hs.rxCheck.protoErr hs.rxCheck
  split
  · exact .ite (.next h1.ackProcess.enterLeaving) (.next h1.ackProcess)
  · exact .next h1.ackProcess

theorem execQuiesceDoneReceive {p : Nat} {h : FlitHdr} (hs : r.Keeps s) : r.Reaches (execQuiesceDoneReceive p h s) :=
  .ite (.next hs) (.ite (.next hs.rxCheck) (.next (hs.rxCheck.when fun h1 => h1.protoErr).ackProcess.updLink.quiesced))

theorem execPlannedRetrainProceed {p : Nat} (hs : r.Keeps s) : r.Reaches (execPlannedRetrainProceed p s) := by
  unfold Machine.execPlannedRetrainProceed
  split
  · exact .ite (.next hs.sendReq) (.next hs)
  · exact .next hs

theorem execRetrainReqRepeat {p : Nat} (hs : r.Keeps s) : r.Reaches (execRetrainReqRepeat p s) := by
  unfold Machine.execRetrainReqRepeat
  split
  · exact .next hs
  · rename_i u e
    split
    · exact .next (hs.expire e)
    · exact .ite (.ite (.next (hs.expire e)) (.next ((hs.expire e).updLink.updLink.whenNot fun h => h.start))) (.next (hs.expire e).updLink.start)

theorem execRtMoveExpiry {p : Nat} (hs : r.Keeps s) : r.Reaches (execRtMoveExpiry p s) := by
  unfold Machine.execRtMoveExpiry
  split
  · exact .next hs
  · rename_i u e
    exact .ite (.next (hs.expire e).set.start.checkQuiesce) (.next (hs.expire e))

theorem execQuiesceTimeout {p : Nat} (hs : r.Keeps s) : r.Reaches (execQuiesceTimeout p s) := by
  unfold Machine.execQuiesceTimeout
  split
  · exact .next hs
  · rename_i u e
    exact .ite (.next (hs.expire e).enterRetrain) (.next (hs.expire e))

theorem execRetrainTimeout {p : Nat} (hs : r.Keeps s) : r.Reaches (execRetrainTimeout p s) := by
  unfold Machine.execRetrainTimeout
  split
  · exact .next hs
  · rename_i u e
    exact .ite (.next (hs.expire e)) (.ite (.next (hs.expire e).set.updLink.start) (.ite (.next (hs.expire e).linkDown) (.next (hs.expire
      e).linkDown.enterDetect)))

theorem execLocklossExpiry {p : Nat} (hs : r.Keeps s) : r.Reaches (execLocklossExpiry p s) := by
  unfold Machine.execLocklossExpiry
  split
  · exact .next hs
  · rename_i u e
    exact .ite (.ite (.next (hs.expire e)) (.next (hs.expire e).enterDetect)) (.ite (.next (hs.expire e)) (.ite (.next (hs.expire
      e).linkDown.settleHolds) (.ite (.next (hs.expire e).linkDown.settleHolds.enterRetrain) (.next (hs.expire e).linkDown.settleHolds.enterDetect))))

theorem execFlapHoldClear {p : Nat} (hs : r.Keeps s) : r.Reaches (execFlapHoldClear p s) :=
  .ite (.ite (.next hs.flag.enterDetect) (.next hs.flag)) (.next hs)

theorem execWidthReq {p v : Nat} (hs : r.Keeps s) : r.Reaches (execWidthReq p v s) :=
  .ite (.next hs) (.ite (.next hs.write.schedule) (.next hs.write))

theorem execMlRetrain {p : Nat} (hs : r.Keeps s) : r.Reaches (execMlRetrain p s) :=
  .ite (.next hs.schedule) (.next hs)

theorem execForceDown {p : Nat} {b : Bool} (hs : r.Keeps s) : r.Reaches (execForceDown p b s) :=
  .ite (.next hs) (.ite (.next hs.flag.linkDown.stopLink.stop.set) (.ite (.next hs.flag.enterDetect) (.next hs.flag)))

theorem execMlEnable {p : Nat} {b : Bool} (hs : r.Keeps s) : r.Reaches (execMlEnable p b s) :=
  .ite (.next hs) (.ite (.next hs.flag.endTests.takeReserve.pllCheck.enterDetect) (.next hs.linkDown.stopLink.stop.set.flag.giveReserve.pllCheck))

theorem execSelfFacingRelease {p : Nat} (hs : r.Keeps s) : r.Reaches (execSelfFacingRelease p s) := by
  unfold Machine.execSelfFacingRelease
  split
  · exact .next hs
  · rename_i u e
    exact .ite (.next (hs.expire e).enterDetect) (.next (hs.expire e))

/-! ### Pcie -/

theorem execPxPortEnable {p : Nat} {on : Bool} (hs : r.Keeps s) : r.Reaches (execPxPortEnable p on s) :=
  .ite (.next hs) (.next (.ite hs.portOn hs.portOff))

theorem execReserveComplete {p : Nat} (hs : r.Keeps s) : r.Reaches (execReserveComplete p s) :=
  .next hs.collect.establish.initDone

theorem execPcieLinkUp {p rate width : Nat} {flit : Bool} {partner : List (Option Nat)} (hs : r.Keeps s) :
    r.Reaches (execPcieLinkUp p rate width flit partner s) :=
  .ite (.next hs) (.next hs.set.set.flag.updPx.initFc.settle)

theorem execPcieLinkDown {p : Nat} {surprise : Bool} (hs : r.Keeps s) : r.Reaches (execPcieLinkDown p surprise s) := by
  unfold Machine.execPcieLinkDown
  exact .ite (.next hs) (.next (Keeps.ite hs.linkAer.reportPort hs).pcieDown.trainPort.settle)

theorem execHotResetReceive {p : Nat} (hs : r.Keeps s) : r.Reaches (execHotResetReceive p s) :=
  .ite (.next hs) (.next hs.pcieDown.trainPort.settle)

theorem execVdspSecondaryBusWrite {k n v reqId tag : Nat} (hs : r.Keeps s) : r.Reaches (execVdspSecondaryBusWrite k n v reqId tag s) :=
  .next (.ite hs.cfgWrite.settle hs)

theorem execVirtualBarWrite {k n off v reqId tag : Nat} (hs : r.Keeps s) : r.Reaches (execVirtualBarWrite k n off v reqId tag s) :=
  .ite (.next hs) (.next hs.behindWrite.settle)

theorem execBridgeRangeWrite {k n off v reqId tag : Nat} (hs : r.Keeps s) : r.Reaches (execBridgeRangeWrite k n off v reqId tag s) :=
  .next (.ite hs.cfgWrite.settle hs)

theorem execHostFlr {i : Nat} (hs : r.Keeps s) : r.Reaches (execHostFlr i s) :=
  .ite (.next hs) (.next hs.flrAdvance.emit.settle)

theorem execSecondaryBusReset {k n : Nat} (hs : r.Keeps s) : r.Reaches (execSecondaryBusReset k n s) :=
  .next (.ite hs.cfgSet.askPort.settle hs)

theorem execLinkDisable {k n : Nat} {on : Bool} (hs : r.Keeps s) : r.Reaches (execLinkDisable k n on s) :=
  .next (.ite hs.cfgSet.askPort.settle hs)

theorem execRetrainLinkBit {k n : Nat} (hs : r.Keeps s) : r.Reaches (execRetrainLinkBit k n s) :=
  .next (.ite hs.askPort.settle hs)

theorem execPowerControllerControl {k n : Nat} {off : Bool} (hs : r.Keeps s) : r.Reaches (execPowerControllerControl k n off s) :=
  .next (.ite hs.pccWrite.settle hs)

theorem execDpcTriggerStatusClear {k n : Nat} (hs : r.Keeps s) : r.Reaches (execDpcTriggerStatusClear k n s) :=
  .next (.ite hs.dpcClear.settle hs)

theorem execDpcSoftwareTrigger {k n : Nat} (hs : r.Keeps s) : r.Reaches (execDpcSoftwareTrigger k n s) :=
  .next (.ite hs.dpcSoft.settle hs)

theorem execManagementEndpointFlr {k : Nat} (hs : r.Keeps s) : r.Reaches (execManagementEndpointFlr k s) :=
  .next (.ite hs.epFlr.settle hs)

theorem execMemorySpaceEnable {k : Nat} {on : Bool} {reqId tag : Nat} (hs : r.Keeps s) : r.Reaches (execMemorySpaceEnable k on reqId tag s) :=
  .next (.ite hs.epMse.settle hs)

theorem execBusMasterEnable {k : Nat} {on : Bool} (hs : r.Keeps s) : r.Reaches (execBusMasterEnable k on s) :=
  .next (.ite hs.epBme hs)

theorem broadcast {k : Nat} {t : Tlp} (hs : r.Keeps s) : r.Keeps (s.broadcast k t) := by
  unfold State.broadcast
  extract_lets -underBinder -merge -useContext +onlyGivenNames part2
  refine hs.foldl fun _ _ h => ?_
  split
  · exact .ite h h.raiseRec
  · exact h

theorem pmeTurnOff {k : Nat} (hs : r.Keeps s) : r.Keeps (s.pmeTurnOff k) :=
  hs.broadcast.branch (fun h => h.pmeAnswer) (fun h => h.upd.start)

theorem execPmeTurnOffReceive {p : Nat} (hs : r.Keeps s) : r.Reaches (execPmeTurnOffReceive p s) := by
  unfold Machine.execPmeTurnOffReceive
  split
  · exact .next hs
  · exact .next (.ite hs hs.pmeTurnOff)

theorem execPmeToAckTimeout {k : Nat} (hs : r.Keeps s) : r.Reaches (execPmeToAckTimeout k s) := by
  unfold Machine.execPmeToAckTimeout
  split
  · exact .next hs
  · rename_i u e
    exact .next (hs.expire e).upd.pmeAnswer

theorem execL1IdleExpiry {p : Nat} (hs : r.Keeps s) : r.Reaches (execL1IdleExpiry p s) :=
  .ite (.next (hs.later (Nat.le_max_left ..)).set.evtPort.emit) (.next hs)

theorem execL0pNarrow {p : Nat} (hs : r.Keeps s) : r.Reaches (execL0pNarrow p s) :=
  .ite (.next hs.set.set.bwChanged.evtPort.emit) (.next hs)

theorem execL0pWiden {p : Nat} (hs : r.Keeps s) : r.Reaches (execL0pWiden p s) :=
  .ite (.next hs.set.set.bwChanged.evtPort.emit) (.next hs)

theorem marginAnswer {p lane command payload : Nat} (hs : r.Keeps s) : r.Keeps (s.marginAnswer p lane command payload).2 := by
  unfold State.marginAnswer
  extract_lets -underBinder -merge -useContext +onlyGivenNames limit1 w
  refine .ite_snd ?_ (.ite_snd (.ite_snd (.snd hs.updPx) hs) (.ite_snd (.ite_snd hs (.snd hs.fresh)) hs))
  split
  · exact hs
  · exact .snd hs.fresh

theorem execMarginCommand {p lane receiver command payload : Nat} (hs : r.Keeps s) :
    r.Reaches (execMarginCommand p lane receiver command payload s) :=
  .ite (.next hs) (.ite (.next hs.marginAnswer.emit) (.next hs.emit))

theorem execSpdmRequest {k code : Nat} (hs : r.Keeps s) : r.Reaches (execSpdmRequest k code s) := by
  unfold Machine.execSpdmRequest
  refine .ite (.next hs) ?_
  extract_lets -underBinder -merge -useContext +onlyGivenNames part4 st5 error6
  refine .ite (.next hs.emit) ?_
  split
  · exact .next hs.emit
  · refine .ite (.next hs.emit) ?_
    extract_lets -underBinder -merge -useContext +onlyGivenNames s1 c9
    have h : r.Keeps s1 := by
      unfold s1
      split
      · exact hs.upd
      · exact hs
    exact .next h.emit

theorem execPxBifWrite {g v : Nat} (hs : r.Keeps s) : r.Reaches (execPxBifWrite g v s) := by
  unfold Machine.execPxBifWrite
  exact .ite (.next hs) (.ite (.next (Keeps.ite hs.set hs).set.set.pllCheck) (.next (Keeps.ite hs.set hs).set))

theorem execPxPmapWrite {g v : Nat} (hs : r.Keeps s) : r.Reaches (execPxPmapWrite g v s) :=
  .ite (.next hs) (.ite (.next (hs.foldl fun _ _ h => h.write).pllCheck) (.next hs.set))

theorem execPxDualWrite {v : Nat} (hs : r.Keeps s) : r.Reaches (execPxDualWrite v s) :=
  .next (((hs.foldl fun _ _ h1 => .ite h1 h1.set).when fun h2 => h2.enableCleared).when fun h3 => h3.enableCleared).pllCheck

/-! ### Ring -/

theorem takeMsg {p : Nat} {m : MgMsg} (hs : r.Keeps s) (h : s.takeMsg p m = some t) : r.Keeps t := by
  obtain ⟨-, heq⟩ := Option.ite_none_right_eq_some.1 h
  obtain rfl := Option.some.inj heq
  exact hs.upd

theorem discEnds {pl : Plane} {m : DiscMsg} (hs : r.Keeps s) : r.Keeps (s.discEnds pl m) := by
  unfold State.discEnds
  split
  · exact .ite hs (hs.setDisc.when fun h => h.completeRun)
  · exact hs

theorem execDiscoveryMessageReceive {p : Nat} {m : DiscMsg} (hs : r.Keeps s) : r.Reaches (execDiscoveryMessageReceive p m s) := by
  unfold Machine.execDiscoveryMessageReceive
  split
  · exact .next hs
  · rename_i u e
    exact .ite (.next (hs.takeMsg e).discEnds) (.ite (.next (hs.takeMsg e).upd.sendMsg) (.ite (.next (hs.takeMsg e).upd.discEvent) (.ite (.next
      (hs.takeMsg e).upd.sendMsg) (.next (hs.takeMsg e).upd.sendMsg))))

theorem execDiscoveryTimeout {pl : Plane} (hs : r.Keeps s) : r.Reaches (execDiscoveryTimeout pl s) := by
  unfold Machine.execDiscoveryTimeout
  split
  · rename_i u d e1 e2
    exact .next (hs.expire e1).completeRun
  · exact .next hs

theorem execLinkStateMessageReceive {p : Nat} {m : LsMsg} (hs : r.Keeps s) : r.Reaches (execLinkStateMessageReceive p m s) := by
  unfold Machine.execLinkStateMessageReceive
  split
  · exact .next hs
  · rename_i u e
    split
    · exact .next (hs.takeMsg e)
    · exact .ite (.next (hs.takeMsg e)) (.next ((hs.takeMsg e).keepSeen.sendMsg.when fun h =>
        h.noteDown).refreshPlane.checkGroups.startRun.meet.checkFm.elect)

theorem execReturnCleanExpiry {part dst : Nat} (hs : r.Keeps s) : r.Reaches (execReturnCleanExpiry part dst s) := by
  unfold Machine.execReturnCleanExpiry
  extract_lets -underBinder -merge -useContext +onlyGivenNames g5
  split
  · exact .next hs
  · rename_i u e
    extract_lets -underBinder -merge -useContext +onlyGivenNames x h
    refine .ite (.next (hs.expire e)) ?_
    refine .ite (.next (hs.expire e).start) ?_
    split
    · exact .ite (.next (hs.expire e).start) (.next (hs.expire e).setGrp.upd.start)
    · exact .next (hs.expire e).setGrp.upd.start

theorem execReturnDrainComplete {part dst : Nat} (hs : r.Keeps s) : r.Reaches (execReturnDrainComplete part dst s) :=
  .ite (.ite (.next hs.setGrp.stop.lineUp.grpTimers) (.next hs.setGrp.stop)) (.next hs)

theorem execReturnDrainAbort {part dst : Nat} (hs : r.Keeps s) : r.Reaches (execReturnDrainAbort part dst s) := by
  unfold Machine.execReturnDrainAbort
  extract_lets -underBinder -merge -useContext +onlyGivenNames g3
  split
  · exact .next hs
  · rename_i u e
    exact .next (hs.expire e).setGrp.upd.start

theorem execJoin (hs : r.Keeps s) : r.Reaches (execJoin s) :=
  .next hs.startJoin

theorem execJoinHoldRaise {pl : Plane} (hs : r.Keeps s) : r.Reaches (execJoinHoldRaise pl s) := by
  unfold Machine.execJoinHoldRaise
  split
  · exact .next hs
  · refine .ite (.ite (.next hs.endJoin) (.ite (.next hs.raiseHold) (.next hs))) ?_
    refine .ite ?_ (.next hs)
    split
    · exact .next hs
    · rename_i u e
      exact .ite (.next hs) (.ite (.next (hs.expire e).endJoin) (.next (hs.expire e).raiseHold))

theorem execLeaveA (hs : r.Keeps s) : r.Reaches (execLeaveA s) :=
  .next hs.startLeave

theorem execLeaveB (hs : r.Keeps s) : r.Reaches (execLeaveB s) :=
  .next hs.startLeave

theorem execLeaveWaitExpiry {pl : Plane} (hs : r.Keeps s) : r.Reaches (execLeaveWaitExpiry pl s) := by
  unfold Machine.execLeaveWaitExpiry
  split
  · exact .next hs
  · rename_i u e
    extract_lets -underBinder -merge -useContext +onlyGivenNames s1 s2
    have h : r.Keeps s1 := by
      unfold s1
      split
      · exact (hs.expire e).upd
      · exact (hs.expire e).upd
    exact .next (.ite h.dropHold.start h.dropHold.sleepOn)

theorem execSleepPlaneBLeave (hs : r.Keeps s) : r.Reaches (execSleepPlaneBLeave s) := by
  unfold Machine.execSleepPlaneBLeave
  split
  · exact .next hs
  · rename_i u e
    exact .next (hs.expire e).upd.startLeave.sleepOn

/-! ### LinkCommands -/

theorem await {id : Nat} {w : CmdWait} (hs : r.Keeps s) : r.Keeps (s.await id w) :=
  hs.upd

theorem waitOver {x : CmdWait} (hs : r.Keeps s) : r.Keeps (s.waitOver x).2 := by
  unfold State.waitOver
  split
  · exact .ite_snd hs hs
  · exact .ite_snd hs hs
  · exact .ite_snd hs (.ite_snd hs (.snd hs.fresh.fresh))

theorem pollWaits (hs : r.Keeps s) : r.Keeps s.pollWaits := by
  unfold State.pollWaits
  refine hs.foldl fun _ _ h => ?_
  split
  · rename_i r u1 e1
    exact (Keeps.of_eq_pair e1 h.waitOver).upd.finish
  · rename_i u2 e2
    exact h

theorem execJoinFabric {k : Nat} (hs : r.Keeps s) : r.Reaches (execJoinFabric k s) := by
  unfold Machine.execJoinFabric
  exact .next (hs.omi fun _ _ h => .ite_fst h.answers (.ite_fst h.answers (.fst h.startJoin.await)))

theorem execLeavePlane {k : Nat} (hs : r.Keeps s) : r.Reaches (execLeavePlane k s) := by
  unfold Machine.execLeavePlane
  exact .next (hs.omi fun _ _ h1 => .ite_fst h1.answers (.fst ((Keeps.ite h1.startLeave h1).when fun h2 => h2.startLeave).await))

theorem execRetrainLink {k : Nat} (hs : r.Keeps s) : r.Reaches (execRetrainLink k s) := by
  unfold Machine.execRetrainLink
  exact .next (hs.omi fun _ _ h => .ite_fst h.answers (.ite_fst (.ite_fst (.fst h.schedule) h.answers) (.ite_fst (.fst h.bump.evtPort.emit)
    h.answers)))

theorem execMarginLane {k : Nat} (hs : r.Keeps s) : r.Reaches (execMarginLane k s) := by
  unfold Machine.execMarginLane
  exact .next (hs.omi fun _ _ h => .ite_fst h.answers (.ite_fst h.answers (.fst h.await)))

theorem execSetManagedAspm {k : Nat} (hs : r.Keeps s) : r.Reaches (execSetManagedAspm k s) := by
  unfold Machine.execSetManagedAspm
  exact .next (hs.omi fun _ _ h => .ite_fst h.answers (.ite_fst h.answers (.fst h.updPx)))

/-! ### Time -/

theorem execFlitSlot {p : Nat} (hs : r.Keeps s) : r.Reaches (execFlitSlot p s) :=
  .next (.ite hs.slot hs)

theorem execInitDoneReceive {p : Nat} {h : FlitHdr} (hs : r.Keeps s) : r.Reaches (execInitDoneReceive p h s) :=
  .ite (.next hs) (.ite (.next hs.trainCheck.enterActive) (.next hs.trainCheck))

theorem execDelayExchangeStart {p : Nat} (hs : r.Keeps s) : r.Reaches (execDelayExchangeStart p s) :=
  .ite (.next hs) (.next (hs.later (Nat.le_max_left ..)).upd.updLink)

theorem execDelayRequestReceive {p : Nat} {h : FlitHdr} {id t1 state : Nat} {gm : Bool} (hs : r.Keeps s) :
    r.Reaches (execDelayRequestReceive p h id t1 state gm s) :=
  .ite (.next hs) (.ite (.next hs.rxCheck) (.next hs.rxCheck.ackProcess.updLink))

theorem execDelayResponseReceive {p : Nat} {h : FlitHdr} {id t3 t2 t1 state : Nat} {gm : Bool} (hs : r.Keeps s) :
    r.Reaches (execDelayResponseReceive p h id t3 t2 t1 state gm s) := by
  unfold Machine.execDelayResponseReceive
  refine .ite (.next hs) ?_
  extract_lets -underBinder -merge -useContext +onlyGivenNames v
  refine .ite (.next hs.rxCheck) ?_
  extract_lets -underBinder -merge -useContext +onlyGivenNames s1
  have h1 : r.Keeps s1 := hs.rxCheck.ackProcess
  exact .ite (.next h1) (.ite (.next h1.upd.stop.evtNode.upd.set) (.ite (.next h1.upd.stop.evtNode.upd.set.set.stepOver.upd) (.ite (.next
    h1.upd.stop.evtNode.upd.set.set.rebase.upd.setTime) (.next h1.upd.stop.evtNode.upd.set.set.rebase.upd))))

theorem execDelayExchangeAbandon {p : Nat} (hs : r.Keeps s) : r.Reaches (execDelayExchangeAbandon p s) := by
  unfold Machine.execDelayExchangeAbandon
  split
  · rename_i u e
    exact .next (hs.expire e).upd.bump.evtNode
  · exact .next hs

theorem execAnnounceTimer (hs : r.Keeps s) : r.Reaches (execAnnounceTimer s) :=
  .next ((hs.elect.later (Nat.le_max_left ..)).upd.foldl fun _ _ h => .ite h.sendMsg h)

theorem execTimeAnnouncementReceive {p : Nat} {m : AnnMsg} (hs : r.Keeps s) : r.Reaches (execTimeAnnouncementReceive p m s) := by
  unfold Machine.execTimeAnnouncementReceive
  split
  · exact .next hs
  · rename_i u e
    exact .ite (.next (hs.takeMsg e).upd.start.elect) (.next ((hs.takeMsg e).upd.start.elect.upd.when fun h => h.upd).showTime)

theorem execAnnounceAbsent {p : Nat} (hs : r.Keeps s) : r.Reaches (execAnnounceAbsent p s) := by
  unfold Machine.execAnnounceAbsent
  split
  · rename_i u e
    exact .next (hs.expire e).parentLost
  · exact .next hs

theorem execGmCandidateSettle (hs : r.Keeps s) : r.Reaches (execGmCandidateSettle s) := by
  unfold Machine.execGmCandidateSettle
  split
  · rename_i u e
    split
    · exact .next (hs.expire e).adopt.elect
    · exact .next (hs.expire e)
  · exact .next hs

theorem execPpsInEdge (hs : r.Keeps s) : r.Reaches (execPpsInEdge s) :=
  .ite (.next hs) (.ite (.next hs.capture.set) (.next (hs.capture.set.upd.start.when fun h => h.flag.upd).moveTo.elect))

theorem execPpsInLoss (hs : r.Keeps s) : r.Reaches (execPpsInLoss s) := by
  unfold Machine.execPpsInLoss
  split
  · rename_i u e
    exact .next ((hs.expire e).flag.upd.when fun h => h.reportNode).elect
  · exact .next hs

theorem execSetSpindle {k : Nat} (hs : r.Keeps s) : r.Reaches (execSetSpindle k s) := by
  unfold Machine.execSetSpindle
  exact .next (hs.omi fun _ _ h => .ite_fst h.answers (.ite_fst h.answers (.ite_fst h.answers (.ite_fst (.ite_fst h.answers (.fst
    h.rebase.upd.showTime)) h.announceStep.upd.showTime))))

theorem execCoordinatedStep (hs : r.Keeps s) : r.Reaches (execCoordinatedStep s) := by
  unfold Machine.execCoordinatedStep
  split
  · exact .next hs
  · exact .next (hs.waitUntil.upd.when fun h1 => h1.stepBy.foldl fun _ _ h2 => .ite h2 h2.skipTurn).showTime

theorem execPtmHostExchange {time : Nat} (hs : r.Keeps s) : r.Reaches (execPtmHostExchange time s) :=
  .ite (.next hs) (.next ((hs.later (Nat.le_max_left ..)).upd.branch (fun h1 => h1.whenNot fun h2 => h2.announceStep) (fun h1 =>
    h1.rebase.upd)).elect)

theorem execPtmRequestReceive {p : Nat} (hs : r.Keeps s) : r.Reaches (execPtmRequestReceive p s) :=
  .ite (.next hs.emit) (.next hs)

theorem execHoldoverTimeout (hs : r.Keeps s) : r.Reaches (execHoldoverTimeout s) := by
  unfold Machine.execHoldoverTimeout
  split
  · rename_i u e
    exact .ite (.next (hs.expire e).setTime.reportNode.follow) (.next (hs.expire e))
  · exact .next hs

theorem driveOut {n : Nat} {high : Bool} (hs : r.Keeps s) : r.Keeps (s.driveOut n high) :=
  hs.flag.upd.emit

theorem freePin {n : Nat} (hs : r.Keeps s) : r.Keeps (s.freePin n) :=
  hs.flag.set.flag.stop.when fun h => h.driveOut

theorem execAssignTimePin {k : Nat} (hs : r.Keeps s) : r.Reaches (execAssignTimePin k s) := by
  unfold Machine.execAssignTimePin
  exact .next (hs.omi fun _ _ h => .ite_fst (.ite_fst h.answers (.ite_fst (.fst h.freePin) (.fst (Keeps.ite h.freePin h).flag.set.drainPin)))
    (.ite_fst (.ite_fst h.answers (.ite_fst (.fst h.upd) (.ite_fst (.fst h.upd) h.answers))) h.answers))

theorem execTimeOutPulseFall {n : Nat} (hs : r.Keeps s) : r.Reaches (execTimeOutPulseFall n s) := by
  unfold Machine.execTimeOutPulseFall
  split
  · rename_i u e
    exact .next (hs.expire e).driveOut
  · exact .next hs

theorem execTimeInEdge {n : Nat} {rising : Bool} (hs : r.Keeps s) : r.Reaches (execTimeInEdge n rising s) :=
  .ite (.next hs.capture) (.next hs)

theorem execPpsOutRise (hs : r.Keeps s) : r.Reaches (execPpsOutRise s) :=
  .ite (.next hs) (.next hs.waitUntil.upd.start.emit)

theorem execPpsOutFall (hs : r.Keeps s) : r.Reaches (execPpsOutFall s) := by
  unfold Machine.execPpsOutFall
  split
  · rename_i u e
    exact .next (hs.expire e).upd.emit
  · exact .next hs

theorem execGrainBoundary {p : Nat} (hs : r.Keeps s) : r.Reaches (execGrainBoundary p s) := by
  unfold Machine.execGrainBoundary
  refine .ite (.next hs) ?_
  extract_lets -underBinder -merge -useContext +onlyGivenNames t s1 i7 s2 uses10
  have h : r.Keeps s2 := by
    unfold s2
    split
    · exact hs.waitUntil.upd
    · exact hs.waitUntil
  exact .next h.updLink

theorem recheck {p : Nat} {xs kept : List Resv} (hs : r.Keeps s) : r.Keeps (s.recheck p xs kept) := by
  induction xs generalizing s kept with
  | nil => exact hs.countUsed
  | cons x xs ih =>
    unfold State.recheck
    split
    · exact ih hs
    · exact ih hs.upd.grainEvent

theorem execReservationRecheck {p : Nat} (hs : r.Keeps s) : r.Reaches (execReservationRecheck p s) := by
  unfold Machine.execReservationRecheck
  exact .next (.ite hs.recheck hs)

theorem grainSend {k ack : Nat} {ns : List Nat} (hs : r.Keeps s) : r.Keeps (s.grainSend k ack ns) :=
  hs.foldl fun _ _ h => h.sendFw

theorem installBoth {x : Stream} (hs : r.Keeps s) : r.Keeps (s.installBoth x).2 :=
  List.foldlRecOn (motive := fun a : List (Nat × Option Nat) × State => r.Keeps a.2) _ _ hs fun _ h _ _ => .ite_snd h.installHop h

theorem resvEnds {j : ResvJob} (hs : r.Keeps s) : r.Keeps (s.resvEnds j) := by
  unfold State.resvEnds
  extract_lets -underBinder -merge -useContext +onlyGivenNames _ s1
  split
  · exact hs.upd
  · split
    · exact hs.upd.finish
    · exact hs.upd.upd.dropStream.grainSend.finish

theorem pathAnswers {k path st : Nat} (hs : r.Keeps s) : r.Keeps (s.pathAnswers k path st) := by
  unfold State.pathAnswers
  split
  · exact hs
  · next j =>
    extract_lets -underBinder -merge -useContext +onlyGivenNames port s'
    have hs' : r.Keeps s' := by
      refine .ite (.grainEvent ?_) hs
      clear_value port
      split
      · exact hs.upd.countUsed
      · exact hs
    exact .ite hs'.resvEnds hs'.upd

theorem reserveStream {x : Stream} {cmd : Option Nat} (hs : r.Keeps s) : r.Keeps (s.reserveStream x cmd) := by
  unfold State.reserveStream
  extract_lets -underBinder -merge -useContext +onlyGivenNames _ s1 r5
  refine hs.upd.installBoth.foldl fun _ _ h => ?_
  split
  · exact h.pathAnswers
  · exact h

theorem execReserveGrains {k : Nat} (hs : r.Keeps s) : r.Reaches (execReserveGrains k s) := by
  unfold Machine.execReserveGrains
  exact .next (hs.omi fun _ _ h => .ite_fst h.answers (.ite_fst h.answers (.fst h.reserveStream)))

theorem execReleaseGrains {k : Nat} (hs : r.Keeps s) : r.Reaches (execReleaseGrains k s) := by
  unfold Machine.execReleaseGrains
  exact .next (hs.omi fun _ _ h => .ite_fst h.answers (.ite_fst h.upd.dropStream (.fst h.upd.dropStream.upd.grainSend)))

theorem grainFw {type : Nat} {fs : List Nat} (hs : r.Keeps s) : r.Keeps (s.grainFw type fs) := by
  unfold State.grainFw
  extract_lets -underBinder -merge -useContext +onlyGivenNames f4
  refine .ite ?_ (.ite (hs.dropStream.when fun h => h.sendFw) hs.pathAnswers)
  extract_lets -underBinder -merge -useContext +onlyGivenNames pl5 r6
  split
  · exact hs.installHop.sendFw
  · exact hs.installHop

theorem execGrainReservationRecompute (hs : r.Keeps s) : r.Reaches (execGrainReservationRecompute s) :=
  .next (hs.foldl fun _ _ h => h.dropStream.grainSend.reserveStream)

/-! ### BoxOps -/

theorem run_ {k : Nat} {r' : OmiRun} {fail : Option Nat} (hs : r.Keeps s) : r.Keeps (s.run_ k r' fail) :=
  hs.updMbox.upd.set.evtNode

theorem boxGo {k : Nat} (hs : r.Keeps s) : r.Keeps (s.boxGo k) := by
  unfold State.boxGo
  refine .ite hs ?_
  extract_lets -underBinder -merge -useContext +onlyGivenNames lvl9 s1 r12 busy13
  have h : r.Keeps s1 := .ite hs.wakeSources hs
  refine .ite h.set ?_
  refine .ite (.ite h.wakeSources h) ?_
  refine .ite (.ite h.run_ h.placeRsp.evtNode) ?_
  refine .ite h.placeRsp.evtNode ?_
  split
  · exact .ite h.placeRsp h.run_
  · exact h.run_

theorem boxWrite {k off : Nat} {data : List Nat} (hs : r.Keeps s) : r.Keeps (s.boxWrite k off data) :=
  .ite hs (.ite hs.set hs.updMbox)

theorem nextFwd (hs : r.Keeps s) : r.Keeps s.nextFwd := by
  unfold State.nextFwd
  split
  · exact .ite hs hs.upd.run_
  · exact hs

theorem fwdCame {src part : Nat} {f : List Nat} (hs : r.Keeps s) : r.Keeps (s.fwdCame src part f) :=
  .ite hs.sendFw hs.upd.nextFwd

theorem fwdAnswered {f : List Nat} (hs : r.Keeps s) : r.Keeps (s.fwdAnswered f) :=
  hs.upd.when fun h => h.answer

theorem fwdBusy {f : List Nat} (hs : r.Keeps s) : r.Keeps (s.fwdBusy f) := by
  unfold State.fwdBusy
  extract_lets -underBinder -merge -useContext +onlyGivenNames g1
  refine .ite hs ?_
  split
  · exact .ite hs.upd.answer hs
  · exact hs.upd

theorem lostNodes (hs : r.Keeps s) : r.Keeps s.lostNodes :=
  hs.foldl fun _ _ h1 => h1.foldl fun _ _ h2 => h2.answer

theorem keepRsp {k : Nat} {r' : OmiRun} {o : OmiRsp} (hs : r.Keeps s) : r.Keeps (s.keepRsp k r' o) :=
  .ite hs hs.storeRsp

theorem acceptCmd {k : Nat} {w : OmiWork} (hs : r.Keeps s) : r.Keeps (s.acceptCmd k w) :=
  hs.updMbox.showDeferred.evtNode.branch (fun h => h.set) (fun h => h.placeRsp.keepRsp)

theorem endCmd {k : Nat} {w : OmiWork} {o : OmiRsp} (hs : r.Keeps s) : r.Keeps (s.endCmd k w o) :=
  .ite hs.updMbox.answerTo.set hs.placeRsp.keepRsp

theorem endQuiet {k : Nat} (hs : r.Keeps s) : r.Keeps (s.endQuiet k) := by
  unfold State.endQuiet
  extract_lets -underBinder -merge -useContext +onlyGivenNames done2
  refine hs.updMbox.foldl fun _ _ h => ?_
  split
  · exact .ite h.updMbox.showDeferred.keepRsp h.keepRsp
  · exact h.updMbox.showDeferred.keepRsp

theorem boxComplete {k : Nat} (hs : r.Keeps s) : r.Keeps (s.boxComplete k) := by
  unfold State.boxComplete
  extract_lets -underBinder -merge -useContext +onlyGivenNames s1 s2
  have h1 : r.Keeps s1 := hs.lostNodes.pollWaits.endQuiet
  have h2 : r.Keeps s2 := by
    unfold s2
    split
    · split
      · exact .ite h1.acceptCmd h1.endCmd
      · exact .ite h1.acceptCmd h1
    · exact h1
  exact .ite h2.nextFwd h2

theorem deferredEnd {k : Nat} (hs : r.Keeps s) : r.Keeps (s.deferredEnd k) := by
  unfold State.deferredEnd
  extract_lets -underBinder -merge -useContext +onlyGivenNames s1
  have h1 : r.Keeps s1 := hs.lostNodes.pollWaits
  split
  · extract_lets -underBinder -merge -useContext +onlyGivenNames s2
    have h2 : r.Keeps s2 := h1.updMbox.showDeferred
    split
    · exact h2.tellOutcome
    · exact h2
  · exact h1

theorem fwCame {src part : Nat} {m : FwMsg} (hs : r.Keeps s) : r.Keeps (s.fwCame src part m) := by
  unfold State.fwCame
  split
  · split
    · exact hs.queuePlace
    · exact hs
  · exact .ite hs.portFw (.ite hs.vdspCame (.ite hs.vdspFw (.ite hs.partFw (.ite hs.removalFw (.ite hs.instTold (.ite hs.fmFw (.ite hs.fwdCame (.ite
      hs.fwdAnswered (.ite hs.fwdBusy (.ite hs.upd (.ite hs.grainFw hs.winFw)))))))))))

theorem headWrite {k v : Nat} (hs : r.Keeps s) : r.Keeps (s.headWrite k v) := by
  unfold State.headWrite
  exact (hs.set.setQueue.when fun h => h.signal).eqMove.unpark.drainPins

/-! ### Mailboxes -/

theorem execMailboxGo {k : Nat} (hs : r.Keeps s) : r.Reaches (execMailboxGo k s) :=
  .next hs.boxGo

theorem execCommandBufferWrite {k off : Nat} {data : List Nat} (hs : r.Keeps s) : r.Reaches (execCommandBufferWrite k off data s) :=
  .next hs.boxWrite

theorem execCommandComplete {k : Nat} (hs : r.Keeps s) : r.Reaches (execCommandComplete k s) :=
  .next (.ite hs.boxComplete hs)

theorem execDeferredCommandComplete {k : Nat} (hs : r.Keeps s) : r.Reaches (execDeferredCommandComplete k s) :=
  .next (.ite hs.deferredEnd hs)

theorem execEventQueueHeadWrite {k v : Nat} (hs : r.Keeps s) : r.Reaches (execEventQueueHeadWrite k v s) :=
  .next (.ite hs.headWrite hs)

theorem execFirmwareMessageReceive {src part : Nat} {m : FwMsg} (hs : r.Keeps s) : r.Reaches (execFirmwareMessageReceive src part m s) := by
  unfold Machine.execFirmwareMessageReceive
  extract_lets -underBinder -merge -useContext +onlyGivenNames mine3
  refine .ite (.next hs) ?_
  split
  · rename_i u e
    exact .next (hs.takeFw e).fwCame.settle
  · exact .next hs

theorem execForwardedCommandRetry {id node : Nat} (hs : r.Keeps s) : r.Reaches (execForwardedCommandRetry id node s) := by
  unfold Machine.execForwardedCommandRetry
  split
  · exact .ite (.next hs.upd.answer) (.next hs.forward)
  · exact .next hs.upd
  · exact .next hs

theorem pageWrite {off v : Nat} (hs : r.Keeps s) : r.Keeps (s.pageWrite off v) :=
  .ite (hs.foldl fun _ _ h1 => h1.write) (.ite (hs.foldl fun _ _ h2 => h2.write) (.ite (.ite hs.boxGo hs) hs))

theorem execSmbusBlockWrite {off : Nat} {data : List Nat} {pec : Bool} (hs : r.Keeps s) : r.Reaches (execSmbusBlockWrite off data pec s) :=
  .ite (.next hs) (.ite (.next hs.boxWrite) (.ite (.next hs) (.next hs.pageWrite)))

theorem execSmbusSetReadPointer {off : Nat} {pec : Bool} (hs : r.Keeps s) : r.Reaches (execSmbusSetReadPointer off pec s) :=
  .ite (.next hs) (.next hs.updMbox)

theorem execSmbusBlockRead {n : Nat} (hs : r.Keeps s) : r.Reaches (execSmbusBlockRead n s) :=
  .next hs.emit.updMbox

/-! ### Pmon -/

theorem execReadCounters {k : Nat} (hs : r.Keeps s) : r.Reaches (execReadCounters k s) := by
  unfold Machine.execReadCounters
  exact .next (hs.omi fun _ _ h => .ite_fst h.answers h)

theorem execClrEvt (hs : r.Keeps s) : r.Reaches (execClrEvt s) :=
  .next (hs.foldl fun _ _ h => h.set)

theorem execClrFlt (hs : r.Keeps s) : r.Reaches (execClrFlt s) :=
  .next (hs.foldl fun _ _ h => h.set)

theorem execFltCtrlWrite {f v : Nat} (hs : r.Keeps s) : r.Reaches (execFltCtrlWrite f v s) :=
  .ite (.next hs) (.next (hs.foldl fun _ _ h => h.write).upd.set)

theorem execShvSeedWrite {v : Nat} (hs : r.Keeps s) : r.Reaches (execShvSeedWrite v s) :=
  .ite (.next hs) (.next hs.set.upd)

theorem execReadShavings {k : Nat} (hs : r.Keeps s) : r.Reaches (execReadShavings k s) := by
  unfold Machine.execReadShavings
  exact .next (hs.omi fun _ _ h => .ite_fst h.answers h.upd.set)

theorem execBwWindowEnd (hs : r.Keeps s) : r.Reaches (execBwWindowEnd s) := by
  unfold Machine.execBwWindowEnd
  exact .ite (.next hs) (.next hs.waitUntil.bwEnd)

theorem execBwCfgWrite {v : Nat} (hs : r.Keeps s) : r.Reaches (execBwCfgWrite v s) := by
  unfold Machine.execBwCfgWrite
  exact .next ((Keeps.ite hs.bwEnd hs).foldl fun _ _ h => h.write).bwStart

/-! ### Power -/

theorem execSetPowerLevel {k : Nat} (hs : r.Keeps s) : r.Reaches (execSetPowerLevel k s) := by
  unfold Machine.execSetPowerLevel
  exact .next (hs.omi fun _ _ h => .ite_fst h.answers (.ite_fst h.answers (.fst h.upd.plTarget)))

theorem sleepWake {r' : OmiRun} (hs : r.Keeps s) : r.Keeps (s.sleepWake r').1 :=
  .ite_fst hs (.ite_fst (.fst hs.upd) (.ite_fst (.fst hs.upd.wakeSources) hs.answers))

theorem execRequestSleep {k : Nat} (hs : r.Keeps s) : r.Reaches (execRequestSleep k s) := by
  unfold Machine.execRequestSleep
  exact .next (hs.omi fun _ _ h => .ite_fst (.fst (.ite h.sleepWake.wakersEnd h.sleepWake)) (.ite_fst h.answers (.ite_fst h.answers (.fst
    h.sleepAsk))))

theorem execPlTargetWrite {v : Nat} (hs : r.Keeps s) : r.Reaches (execPlTargetWrite v s) :=
  .next hs.plTarget

theorem execDvfsReadback {mv : Option Nat} (hs : r.Keeps s) : r.Reaches (execDvfsReadback mv s) := by
  unfold Machine.execDvfsReadback
  refine .ite (.next hs) ?_
  split
  · exact .next hs.avsFail
  · extract_lets -underBinder -merge -useContext +onlyGivenNames s1
    refine .ite (.next hs.avsRead) ?_
    extract_lets -underBinder -merge -useContext +onlyGivenNames _ _ s2
    have h : r.Keeps s2 := hs.avsRead.stop.upd
    split
    · exact .next h
    · exact .ite (.next h) (.ite (.next h.upd) (.next h.moveDone))

theorem execClockRampStep (hs : r.Keeps s) : r.Reaches (execClockRampStep s) := by
  unfold Machine.execClockRampStep
  extract_lets -underBinder -merge -useContext +onlyGivenNames t f4
  refine .ite (.next hs) ?_
  extract_lets -underBinder -merge -useContext +onlyGivenNames f5 _ s1
  split
  · exact .ite (.next hs.upd) (.ite (.next hs.upd.moveDone) (.next hs.upd.upd.writeVolt))
  · exact .next hs.upd

theorem plFailed {lvl : Nat} (hs : r.Keeps s) : r.Keeps (s.plFailed lvl) :=
  hs.upd.foldl fun _ _ h => h.finish

theorem execDvfsTimeout (hs : r.Keeps s) : r.Reaches (execDvfsTimeout s) := by
  unfold Machine.execDvfsTimeout
  split
  · exact .next hs
  · rename_i u e
    extract_lets -underBinder -merge -useContext +onlyGivenNames _ s1
    split
    · exact .next (hs.expire e).upd
    · exact .ite (.next (hs.expire e).upd) (.ite (.next ((hs.expire e).upd.set.bump.reportNode.upd.set.branch (fun h => h.writeVolt) (fun h =>
        h.upd.set)).plFailed.plDone.sleepWaits.clocksChanged) (.next ((hs.expire e).upd.set.bump.reportNode.upd.set.branch (fun h => h.writeVolt)
          (fun h => h.upd.set)).plFailed.moveOver))

theorem execAvsVoltagePoll {mv : Option Nat} (hs : r.Keeps s) : r.Reaches (execAvsVoltagePoll mv s) := by
  unfold Machine.execAvsVoltagePoll
  refine .ite (.next hs) ?_
  split
  · exact .next hs.avsFail
  · extract_lets -underBinder -merge -useContext +onlyGivenNames s1
    refine .ite (.next hs.avsRead.reportNode) ?_
    refine .ite (.next hs.avsRead.upd) ?_
    split
    · exact .next hs.avsRead.upd
    · exact .next (.ite hs.avsRead.upd.reportNode hs.avsRead)

theorem execThermalSample {ts : List Int} (hs : r.Keeps s) : r.Reaches (execThermalSample ts s) := by
  unfold Machine.execThermalSample
  refine .ite (.next hs) ?_
  split
  · exact .next hs
  · exact .ite (.next hs.set.set.set.reportNode) (.ite (.next hs.set.set.set.reportNode) (.next hs.set.set.set))

theorem execSleepPmeWaitEnd (hs : r.Keeps s) : r.Reaches (execSleepPmeWaitEnd s) := by
  unfold Machine.execSleepPmeWaitEnd
  split
  · exact .next hs
  · refine .ite (.next hs) ?_
    refine .ite (.next hs.stop.sleepLinks) ?_
    split
    · rename_i u e
      exact .next (hs.expire e).sleepLinks
    · exact .next hs

theorem execSleepDrainEnd (hs : r.Keeps s) : r.Reaches (execSleepDrainEnd s) := by
  unfold Machine.execSleepDrainEnd
  split
  · exact .next hs
  · refine .ite (.next hs) ?_
    refine .ite (.next hs.sleepCommits) ?_
    split
    · rename_i u e
      exact .next (hs.expire e).sleepCommits
    · exact .next hs

theorem execSleepCommit (hs : r.Keeps s) : r.Reaches (execSleepCommit s) := by
  unfold Machine.execSleepCommit
  split
  · exact .next hs
  · refine .ite (.next hs) ?_
    refine .ite (.next hs.sleepLeaves) ?_
    split
    · rename_i u e
      exact .next (hs.expire e).sleepLeaves
    · exact .next hs

theorem execSl1IdleExpiry (hs : r.Keeps s) : r.Reaches (execSl1IdleExpiry s) := by
  unfold Machine.execSl1IdleExpiry
  split
  · exact .next hs
  · rename_i u e
    exact .next (.ite (hs.expire e).set.sleepLatch (hs.expire e))

theorem execWakeEvent {sources : Nat} (hs : r.Keeps s) : r.Reaches (execWakeEvent sources s) :=
  .next hs.wakeSources

theorem execSl3HoldEnd (hs : r.Keeps s) : r.Reaches (execSl3HoldEnd s) := by
  unfold Machine.execSl3HoldEnd
  split
  · exact .next hs
  · rename_i u e
    split
    · exact .next (.ite (hs.expire e).mainReset.showWake (hs.expire e))
    · exact .next (hs.expire e)

theorem execWakeTimerExpiry (hs : r.Keeps s) : r.Reaches (execWakeTimerExpiry s) := by
  unfold Machine.execWakeTimerExpiry
  split
  · rename_i u e
    exact .next (hs.expire e).wakeSources
  · exact .next hs

theorem execPadholdRelease {v : Nat} (hs : r.Keeps s) : r.Reaches (execPadholdRelease v s) :=
  .next hs.padRelease

theorem wakeDone (hs : r.Keeps s) : r.Keeps s.wakeDone :=
  (((((((hs.upd.set.setTime.fwReady.raiseLosses.upd.foldl fun _ _ h1 => h1.resetPart).foldl fun _ _ h2 => h2.trainPort).foldl fun _ _ h3 =>
    h3.spEnable).wakersEnd.when fun h4 => h4.set).establish).when fun h5 => h5.startJoin).gmValid).showTime

theorem execWakeFirmwareReady (hs : r.Keeps s) : r.Reaches (execWakeFirmwareReady s) :=
  .ite (.next hs) (.next hs.wakeDone)

/-! ### SlotPower -/

theorem execSpCmdOn {c : Nat} (hs : r.Keeps s) : r.Reaches (execSpCmdOn c s) :=
  .next (.ite hs.spEnable hs)

theorem execSpCmdOff {c : Nat} (hs : r.Keeps s) : r.Reaches (execSpCmdOff c s) :=
  .next (.ite hs.spDisable hs)

theorem execSpCmdCycle {c : Nat} (hs : r.Keeps s) : r.Reaches (execSpCmdCycle c s) :=
  .next (.ite hs.spCycle hs)

theorem execEnableSlot {k : Nat} (hs : r.Keeps s) : r.Reaches (execEnableSlot k s) := by
  unfold Machine.execEnableSlot
  exact .next (hs.omi fun _ _ h => .ite_fst h.answers (.ite_fst h.answers h.spEnable))

theorem execDisableSlot {k : Nat} (hs : r.Keeps s) : r.Reaches (execDisableSlot k s) := by
  unfold Machine.execDisableSlot
  exact .next (hs.omi fun _ _ h => .ite_fst h.answers (.ite_fst h.answers h.spDisable))

theorem execCycleSlot {k : Nat} (hs : r.Keeps s) : r.Reaches (execCycleSlot k s) := by
  unfold Machine.execCycleSlot
  exact .next (hs.omi fun _ _ h => .ite_fst h.answers (.ite_fst (.fst h.spCycle) h.answers))

theorem execGateCheckPass {c : Nat} (hs : r.Keeps s) : r.Reaches (execGateCheckPass c s) :=
  .ite (.next hs) (.ite (.next hs.stop.setSpState.start.start.spDone.spFeeds) (.ite (.next hs.stop.setSpState.set.bump.evtNode.spReport.spFeeds)
    (.next hs)))

theorem execGateCheckTimeout {c : Nat} (hs : r.Keeps s) : r.Reaches (execGateCheckTimeout c s) := by
  unfold Machine.execGateCheckTimeout
  split
  · rename_i u e
    exact .next (hs.expire e).spLatch
  · exact .next hs

theorem execGateGoodLoss {c : Nat} (hs : r.Keeps s) : r.Reaches (execGateGoodLoss c s) := by
  unfold Machine.execGateGoodLoss
  exact .next (.ite hs.spLatch hs)

theorem execPerstReleaseTimer {c : Nat} (hs : r.Keeps s) : r.Reaches (execPerstReleaseTimer c s) := by
  unfold Machine.execPerstReleaseTimer
  split
  · rename_i u e
    exact .next (hs.expire e).spPerstSet
  · exact .next hs

theorem execPerstLeadExpiry {c : Nat} (hs : r.Keeps s) : r.Reaches (execPerstLeadExpiry c s) := by
  unfold Machine.execPerstLeadExpiry
  split
  · rename_i u e
    exact .next (hs.expire e).spGatesDown
  · exact .next hs

theorem execRailBelowOffLevel {c : Nat} (hs : r.Keeps s) : r.Reaches (execRailBelowOffLevel c s) :=
  .next (.ite hs.spIsOff hs)

theorem execOffMaxExpiry {c : Nat} (hs : r.Keeps s) : r.Reaches (execOffMaxExpiry c s) := by
  unfold Machine.execOffMaxExpiry
  split
  · rename_i u e
    exact .next (.ite (hs.expire e).spLatch (hs.expire e).spIsOff)
  · exact .next hs

theorem execShuntSample {c v : Nat} (hs : r.Keeps s) : r.Reaches (execShuntSample c v s) := by
  unfold Machine.execShuntSample
  extract_lets -underBinder -merge -useContext +onlyGivenNames s1
  refine .ite (.next hs.set) ?_
  extract_lets -underBinder -merge -useContext +onlyGivenNames crv6 above7 ts8 s2
  split
  · exact .next hs.set.updSpc.spTrip
  · exact .next hs.set.updSpc

theorem execFastComparatorTrip {c : Nat} (hs : r.Keeps s) : r.Reaches (execFastComparatorTrip c s) :=
  .next hs.spTrip

theorem execRetryIntervalExpiry {c : Nat} (hs : r.Keeps s) : r.Reaches (execRetryIntervalExpiry c s) := by
  unfold Machine.execRetryIntervalExpiry
  split
  · rename_i u e
    exact .next (.ite (hs.expire e).spRetryNow (hs.expire e).updSpc)
  · exact .next hs

theorem execCleanExpiry {c : Nat} (hs : r.Keeps s) : r.Reaches (execCleanExpiry c s) := by
  unfold Machine.execCleanExpiry
  split
  · rename_i u e
    exact .next (hs.expire e).set
  · exact .next hs

theorem execPresenceDebounced {c : Nat} {present : Bool} (hs : r.Keeps s) : r.Reaches (execPresenceDebounced c present s) :=
  .next hs.updSpc.spPresence

theorem execEmptyTimeout {c : Nat} (hs : r.Keeps s) : r.Reaches (execEmptyTimeout c s) := by
  unfold Machine.execEmptyTimeout
  split
  · rename_i u e
    exact .ite (.next (hs.expire e).stop.updSpc.setSpState.set) (.next (hs.expire e))
  · exact .next hs

theorem execFeedReturnExpiry {c : Nat} (hs : r.Keeps s) : r.Reaches (execFeedReturnExpiry c s) := by
  unfold Machine.execFeedReturnExpiry
  split
  · rename_i u e
    exact .next (.ite (hs.expire e).spChange (hs.expire e))
  · exact .next hs

theorem execBbmExpiry {c : Nat} (hs : r.Keeps s) : r.Reaches (execBbmExpiry c s) := by
  unfold Machine.execBbmExpiry
  split
  · rename_i u e
    exact .ite (.next (hs.expire e).spDrive) (.ite (.next (hs.expire e).spFeedOn) (.next (hs.expire e)))
  · exact .next hs

theorem execRailLostTimeout {c : Nat} (hs : r.Keeps s) : r.Reaches (execRailLostTimeout c s) :=
  .ite (.next hs.spStopTimers.spPerstSet.spGates.setSpState.set.spWarnEnd.updSpc.spReport.spPowerOff) (.next hs)

theorem execWarnLeadExpiry {c : Nat} (hs : r.Keeps s) : r.Reaches (execWarnLeadExpiry c s) := by
  unfold Machine.execWarnLeadExpiry
  split
  · rename_i u e
    exact .ite (.next (hs.expire e).spPfOff) (.ite (.next (hs.expire e).spStop) (.next (hs.expire e)))
  · exact .next hs

theorem execCycleOffExpiry {c : Nat} (hs : r.Keeps s) : r.Reaches (execCycleOffExpiry c s) := by
  unfold Machine.execCycleOffExpiry
  split
  · rename_i u e
    exact .next (.ite (hs.expire e).spStart (hs.expire e))
  · exact .next hs

/-! ### RegOps -/

theorem via {o : Res} (_ : r.Keeps s) (ho : r.Reaches o) : r.Keeps (s.via o) := by
  obtain ⟨t, rfl, ht⟩ := ho
  exact ht

theorem readDword {r' : Reg} {i dw : Nat} (hs : r.Keeps s) : r.Keeps (s.readDword r' i dw).2 := by
  unfold State.readDword
  split
  · exact hs
  · exact .ite_snd (.snd (.ite hs hs.upd)) hs

theorem writePlain {r' : Reg} {i : Nat} {g : Fld → Option Nat} (hs : r.Keeps s) : r.Keeps (s.writePlain r' i g) := by
  unfold State.writePlain
  extract_lets -underBinder -merge -useContext +onlyGivenNames s1
  have h1 : r.Keeps s1 := by
    refine hs.foldl fun _ _ h2 => ?_
    split
    · exact .ite h2.write h2
    · exact h2
  exact .ite hs h1

theorem ownLink {r' : Reg} {i : Nat} {g : Fld → Option Nat} (hs : r.Keeps s) : r.Keeps (s.ownLink r' i g) := by
  unfold State.ownLink
  split
  · exact ((Keeps.ite hs.startLeave hs).when fun h1 => h1.startLeave).when fun h2 => h2.startJoin
  · exact (((Keeps.ite (hs.via hs.execWidthReq) hs).when fun h3 => h3.via h3.execForceDown).when fun h4 => h4.via h4.execMlEnable).when fun h5 =>
      h5.via h5.execMlRetrain
  · exact .ite (hs.via hs.execFlapHoldClear) hs
  · exact (Keeps.ite (hs.via hs.execClrUnfit) hs).when fun h6 => h6.fresh.via h6.fresh.execLaneTest
  · exact .ite (hs.via hs.execPxDualWrite) hs
  · exact .ite (hs.via hs.execPxBifWrite) hs
  · exact .ite (hs.via hs.execPxPmapWrite) hs
  · exact .ite (hs.via hs.execPxPortEnable) hs
  · exact hs

theorem ownEngine {r' : Reg} {i : Nat} {g : Fld → Option Nat} (hs : r.Keeps s) : r.Keeps (s.ownEngine r' i g) := by
  unfold State.ownEngine
  split
  · exact ((((Keeps.ite (hs.via hs.execDmPause) hs).when fun h1 => h1.via h1.execDmEnable).when fun h2 => h2.via h2.execDmReset).when fun h3 =>
      h3.via h3.execDmResume).when fun h4 => h4.via h4.execDmStart
  · split
    · exact hs.via hs.execDmTailWrite
    · exact hs
  · exact ((Keeps.ite (hs.via hs.execLbEnable) hs).when fun h5 => h5.via h5.execElogClr).when fun h6 => h6.via h6.execBridgeReset
  · exact .ite (hs.via hs.execLbPregWrite) hs
  · exact ((Keeps.ite (hs.via hs.execSpCmdOff) hs).when fun h7 => h7.via h7.execSpCmdOn).when fun h8 => h8.via h8.execSpCmdCycle
  · exact (Keeps.ite (hs.via hs.execClrEvt) hs).when fun h9 => h9.via h9.execClrFlt
  · split
    · exact hs.via hs.execShvSeedWrite
    · exact hs
  · exact .ite (hs.via hs.execBwCfgWrite) hs
  · exact .ite (hs.via hs.execFltCtrlWrite) hs
  · exact hs

theorem ownMgmt {r' : Reg} {i : Nat} {g : Fld → Option Nat} (hs : r.Keeps s) : r.Keeps (s.ownMgmt r' i g) := by
  unfold State.ownMgmt
  split
  · exact hs.via hs.execFcStatusClear
  · exact hs.via hs.execFcStatusClear
  · exact .ite (hs.via hs.execFcInjectWrite) hs
  · exact .ite (hs.via hs.execFcPortRel) hs
  · exact .ite hs.boxGo hs
  · split
    · exact hs.via hs.execEventQueueHeadWrite
    · exact hs
  · split
    · exact hs.plTarget
    · exact hs
  · exact .ite hs.padRelease hs
  · exact hs

theorem afterWrite {was : State} {x : Reg} {i : Nat} (hs : r.Keeps s) : r.Keeps (s.afterWrite was x i) := by
  unfold State.afterWrite
  split
  · exact (hs.when fun h => h.enableCleared).when fun h => h.enableCleared
  · exact (hs.when fun h => h.computeVmax).when fun h => h.admitEn
  · exact hs.feedDetect.computeVmax
  · exact hs.computeVmax
  · exact hs.computeVmax
  · exact hs.computeVmax
  · exact hs.clocksChanged
  · exact hs.when fun h => h.tellCfg
  · exact hs.spPresence
  · exact hs.spPresence
  · exact hs.flag
  · exact hs.flag
  · exact hs.flag
  · exact hs.flag
  · exact hs.flag
  · exact hs.elect
  · exact hs.adjustTt
  · exact hs.when fun h => h.orderStrict
  · exact hs

theorem writeFields {r' : Reg} {i : Nat} {g : Fld → Option Nat} (hs : r.Keeps s) : r.Keeps (s.writeFields r' i g) := by
  unfold State.writeFields
  exact hs.writePlain.afterWrite.ownLink.ownEngine.ownMgmt

theorem writeDword {r' : Reg} {i dw v : Nat} {g : optParam (Fld → Option Nat) fun f => some (v / 2 ^ f.lsb)} (hs : r.Keeps s) :
    r.Keeps (s.writeDword r' i dw v g) := by
  unfold State.writeDword
  split
  · exact hs
  · exact .ite (.ite hs.writeFields hs) (.ite hs.upd (.ite hs.upd.writeFields hs))

theorem applyItem {block : Nat} {x : WrItem} (hs : r.Keeps s) : r.Keeps (s.applyItem block x) := by
  unfold State.applyItem
  split
  · exact hs
  · exact hs.writeDword.foldl fun _ _ h => .ite h.upd h

/-! ### Registers -/

theorem execRegisterWrite {r' : Reg} {i dw v : Nat} (hs : r.Keeps s) : r.Reaches (execRegisterWrite r' i dw v s) :=
  .next hs.writeDword

theorem execNarrowRegisterWrite {ep : Option Nat} (hs : r.Keeps s) : r.Reaches (execNarrowRegisterWrite ep s) := by
  unfold Machine.execNarrowRegisterWrite
  refine .next ?_
  split
  · exact .ite hs.bump hs
  · exact hs

theorem execWideRegisterRead {r' : Reg} {i : Nat} (hs : r.Keeps s) : r.Reaches (execWideRegisterRead r' i s) :=
  .next hs.readDword

theorem execWideRegisterHighWrite {r' : Reg} {i v : Nat} (hs : r.Keeps s) : r.Reaches (execWideRegisterHighWrite r' i v s) :=
  .next hs.writeDword

/-- The dwords of a block one after the other. -/
theorem readDwords {block off : Nat} {xs : List Nat} {a : List Nat} (hs : r.Keeps s) :
    r.Keeps (xs.foldl (fun (x : List Nat × State) j =>
      match regAt block (off + 4 * j) with
      | some (q, i, dw) =>
        let y := x.2.readDword q i dw
        (x.1 ++ le 4 y.1, y.2)
      | none => (x.1 ++ le 4 0, x.2)) (a, s)).2 := by
  refine List.foldlRecOn (motive := fun x : List Nat × State => r.Keeps x.2) _ _ hs fun x h j _ => ?_
  split
  · exact h.readDword
  · exact h

theorem execReadRegisters {k : Nat} (hs : r.Keeps s) : r.Reaches (execReadRegisters k s) := by
  unfold Machine.execReadRegisters
  split
  · exact .next hs
  · refine .ite (.next hs) (.next (hs.omi fun t x h => ?_))
    refine .ite_fst h (.fst (readDwords h))

theorem execWriteRegisters {k : Nat} (hs : r.Keeps s) : r.Reaches (execWriteRegisters k s) := by
  unfold Machine.execWriteRegisters
  split
  · exact .next hs
  · exact .ite (.next hs) (.next (hs.omi fun _ _ h1 => .ite_fst h1.answers (.ite_fst (.fst (h1.foldl fun _ _ h2 => h2.applyItem).upd) (h1.foldl fun _
      _ h2 => h2.applyItem))))

/-! ### BootOps -/

theorem setGroups {b : List Nat} (hs : r.Keeps s) : r.Keeps (s.setGroups b) :=
  (hs.foldl fun _ _ h1 => h1.set.set).foldl fun _ _ h2 => h2.foldl fun _ _ h3 => h3.set

theorem putWord {r' : Reg} {i v : Nat} (hs : r.Keeps s) : r.Keeps (s.putWord r' i v) :=
  hs.writeFields

theorem applyPreset {block off v m : Nat} (hs : r.Keeps s) : r.Keeps (s.applyPreset block off v m) := by
  unfold State.applyPreset
  split
  · exact .ite hs hs.writeDword
  · exact hs

theorem applyTyped {x : Nat × List Nat} (hs : r.Keeps s) : r.Keeps (s.applyTyped x) := by
  unfold State.applyTyped
  extract_lets -underBinder -merge -useContext +onlyGivenNames b5
  split
  · exact (hs.putWord.via hs.putWord.execPxDualWrite).write.write
  · exact hs.setGroups.pllCheck
  · exact (Keeps.ite hs.write.write hs.set).write.write.write.write.write.write
  · exact ((hs.foldl fun _ _ h1 => h1.putWord).foldl fun _ _ h2 => h2.putWord).whenNot fun h3 => h3.set.set
  · exact hs.foldl fun _ _ h4 => h4.putWord
  · exact hs.upd
  · exact hs

theorem applyRecord {xs : List (Nat × List Nat)} (hs : r.Keeps s) : r.Keeps (s.applyRecord xs) :=
  (hs.foldl fun _ _ h1 => h1.foldl fun _ _ h2 => h2.applyTyped).foldl fun _ _ h3 => h3.foldl fun _ _ h4 => h4.applyPreset

theorem recordInvalid (hs : r.Keeps s) : r.Keeps s.recordInvalid :=
  hs.upd.set.emit.flag

theorem bootImage (hs : r.Keeps s) (h : s.bootImage = some t) : r.Keeps t := by
  unfold State.bootImage at h
  extract_lets pick s' first run s'' at h
  have hs' : r.Keeps s' := by
    unfold s' pick
    split
    · exact hs
    · exact hs.fresh
  have hrun : ∀ n, r.Keeps (run n) := fun n => hs'.runImage.upd.set
  split at h
  · exact Option.some.inj h ▸ hrun _
  · obtain ⟨-, heq⟩ := Option.ite_none_right_eq_some.1 h
    exact Option.some.inj heq ▸ (hrun _).set.reportNode.writeSelector

theorem bootPart {b : List Nat} (hs : r.Keeps s) : r.Keeps (s.bootPart b) :=
  .ite hs ((hs.createPart.when fun h1 => h1.setFm).when fun h2 => h2.setStandbyPart)

theorem bootParts {xs : List (Nat × List Nat)} (hs : r.Keeps s) : r.Keeps (s.bootParts xs) :=
  (hs.foldl fun _ _ h1 => h1.bootPart).foldl fun _ _ h2 => .ite h2.set h2

theorem openPorts (hs : r.Keeps s) : r.Keeps s.openPorts := by
  unfold State.openPorts
  exact ((hs.foldl fun _ _ h1 => h1.portOn).foldl fun _ _ h2 => h2.via h2.execMlEnable).set.set

theorem applyStore (hs : r.Keeps s) : r.Keeps s.applyStore :=
  hs.foldl fun _ _ h => .ite h h.writeFields

/-! ### Boot -/

theorem execFullPowerOnReset (hs : r.Keeps s) : r.Reaches (execFullPowerOnReset s) :=
  .next hs.fullReset

theorem execMainPowerOnReset (hs : r.Keeps s) : r.Reaches (execMainPowerOnReset s) := by
  unfold Machine.execMainPowerOnReset
  exact .ite (.next hs) (.next hs.mainReset)

theorem execStrapLatch {v : Nat} (hs : r.Keeps s) : r.Reaches (execStrapLatch v s) := by
  unfold Machine.execStrapLatch
  split
  · rename_i u e
    exact .next (hs.expire e).set.set.set.set
  · exact .next hs

theorem execMainRailsValid (hs : r.Keeps s) : r.Reaches (execMainRailsValid s) :=
  .ite (.next hs) (.next (hs.upd.start.whenNot fun h => h.set))

theorem execBootRomImageLoaded (hs : r.Keeps s) : r.Reaches (execBootRomImageLoaded s) := by
  unfold Machine.execBootRomImageLoaded
  refine .ite (.next hs) ?_
  refine .ite (.next hs.upd) ?_
  split
  · exact .next hs.upd.reportNode
  · rename_i u e
    refine .ite (.next (hs.bootImage e)) ?_
    split
    · exact .next (hs.bootImage e).recordInvalid
    · exact .next (hs.bootImage e).set.applyRecord.upd.set

theorem execFirmwareBringupResume (hs : r.Keeps s) : r.Reaches (execFirmwareBringupResume s) := by
  unfold Machine.execFirmwareBringupResume
  refine .ite (.next hs) ?_
  split
  · exact .next hs.recordInvalid
  · extract_lets -underBinder -merge -useContext +onlyGivenNames _ s1 s2 s3 s4 s5
    have h1 : r.Keeps s2 := hs.upd.foldl fun _ _ h2 => h2.spEnable
    have h3 : r.Keeps s3 := h1.bootParts.admitEn.openPorts
    have h4 : r.Keeps s5 := h3.set.fwReady.raiseLosses
    refine .ite (.next h4.upd.startJoin) ?_
    split
    · exact .next h4.start
    · exact .next h4

theorem execUartRecoveryImage {image : List Nat} {writes : List (Nat × List Nat)} (hs : r.Keeps s) :
    r.Reaches (execUartRecoveryImage image writes s) :=
  .ite (.next hs) (.next (hs.foldl fun _ _ h => h.flashWrite).upd)

theorem execBootJoinTimer (hs : r.Keeps s) : r.Reaches (execBootJoinTimer s) := by
  unfold Machine.execBootJoinTimer
  split
  · rename_i u e
    exact .next (hs.expire e).startJoin
  · exact .next hs

theorem nodeResetDone {xs : List (Nat × List Nat)} (hs : r.Keeps s) : r.Keeps (s.nodeResetDone xs) :=
  (((((hs.set.applyRecord.applyStore.set.foldl fun _ _ h1 => h1.advanceGen).foldl fun _ _ h2 => h2.tellPort).foldl fun _ _ h3 => h3.resetPart).foldl
    fun _ _ h4 => h4.spEnable).openPorts.set.fwReady.raiseLosses.suspendTurns.when fun h5 => h5.startJoin).settle

theorem execNodeResetEnd {copyA copyB : Bool} (hs : r.Keeps s) : r.Reaches (execNodeResetEnd copyA copyB s) := by
  unfold Machine.execNodeResetEnd
  refine .ite (.next hs) ?_
  refine .ite (.next hs.stop.reportNode) ?_
  extract_lets -underBinder -merge -useContext +onlyGivenNames s1
  split
  · exact .next hs.stop.set.recordInvalid
  · exact .next hs.stop.set.nodeResetDone

/-! ### IngressOps -/

theorem cameAer {c : Came} {n : Nat} (hs : r.Keeps s) : r.Keeps (s.cameAer c n) := by
  unfold State.cameAer
  split
  · exact hs.tellVdsp
  · split
    · exact .ite hs.aer hs.cfgSet
    · exact hs

theorem tlpError {c : Came} {n : Nat} {t : Tlp} (hs : r.Keeps s) : r.Keeps (s.tlpError c n t) :=
  hs.cameAer.report

theorem draft {p part : Nat} {t : Tlp} {org : Origin} (hs : r.Keeps s) : r.Keeps (s.draft p part t org).2 :=
  .snd hs.tag

theorem discardIn {k : Packet} {reason : Nat} (hs : r.Keeps s) : r.Keeps (s.discardIn k reason) :=
  hs.shave.evtPort.pcieCredits

theorem consumeIn {k : Packet} (hs : r.Keeps s) : r.Keeps (s.consumeIn k) :=
  hs.shave.pcieCredits

theorem refuseIn {c : Came} {k : Packet} {t : Tlp} {cplId reason : Nat} (hs : r.Keeps s) : r.Keeps (s.refuseIn c k t cplId reason) :=
  (hs.filterPass.whenNot fun h => h.bump.evtPart.cplOut).discardIn

theorem forwardIn {k : Packet} {cplId : Nat} (hs : r.Keeps s) : r.Keeps (s.forwardIn k cplId) := by
  unfold State.forwardIn
  extract_lets -underBinder -merge -useContext +onlyGivenNames r1 p2 s1
  refine .ite ?_ hs.filterPass.setAdmitRes.setResv.admitRec.enqueue
  refine .ite hs.filterPass.emit.consumeIn ?_
  split
  · exact hs.filterPass.undeliverable.discardIn
  · exact hs.filterPass.enqueue

theorem fateLookup {c : Came} {t : Tlp} (hs : r.Keeps s) : r.Keeps (s.fateLookup c t).2 :=
  .snd hs.lookup

theorem fateById {c : Came} {t : Tlp} (hs : r.Keeps s) : r.Keeps (s.fateById c t).2 := by
  unfold State.fateById
  extract_lets -underBinder -merge -useContext +onlyGivenNames host1 inst2
  split
  · exact hs
  · split
    · exact hs
    · exact .snd hs.bump
    · exact hs
  · exact hs
  · exact hs

theorem fateMsg {c : Came} {t : Tlp} (hs : r.Keeps s) : r.Keeps (s.fateMsg c t).2 :=
  .ite_snd hs.fateLookup (.ite_snd hs.fateById (.ite_snd hs (.ite_snd hs (.ite_snd hs (.ite_snd hs hs)))))

theorem fate {c : Came} {t : Tlp} (hs : r.Keeps s) : r.Keeps (s.fate c t).2 := by
  unfold State.fate
  split
  · exact hs
  · exact hs
  · exact hs.fateMsg
  · exact .ite_snd hs hs.fateLookup
  · exact .ite_snd hs hs.fateLookup
  · exact .ite_snd hs hs.fateLookup
  · exact hs

theorem violateIn {c : Came} {t : Tlp} {cause entry : Nat} (hs : r.Keeps s) : r.Keeps (s.violateIn c t cause entry) :=
  (hs.freeze.bump.evtPart.whenNot fun h => h.set.set.set.set.set.set.flag.set).report

theorem passIn {c : Came} {k : Packet} {d : Dest} {t : Tlp} (hs : r.Keeps s) : r.Keeps (s.passIn c k d t) := by
  unfold State.passIn
  extract_lets vc m met
  have hmet : r.Keeps met := by
    unfold met m
    split
    · exact hs
    · exact hs.meter
  exact hmet.forwardIn

theorem checkIn {c : Came} {k : Packet} {g : Tgt} {raw was t : Tlp} (hs : r.Keeps s) : r.Keeps (s.checkIn c k g raw was t) := by
  unfold State.checkIn
  extract_lets -underBinder -merge -useContext +onlyGivenNames cpl1 mps2
  refine .ite hs.bump.report.refuseIn ?_
  refine .ite hs.bump.tlpError.refuseIn ?_
  refine .ite hs.bump.tlpError.refuseIn ?_
  refine .ite hs.bump.refuseIn ?_
  split
  · exact hs.passIn
  · exact hs.undeliverable.discardIn

theorem errTaken {c : Came} {x : Tlp} (hs : r.Keeps s) (h : s.errTaken c x = some t) : r.Keeps t := by
  unfold State.errTaken at h
  split at h
  · exact nomatch h
  · extract_lets v managed s' at h
    have hs' : r.Keeps s' := .ite hs.contain.armRecover.start.portNotices hs
    clear_value managed s'
    split at h
    · obtain ⟨-, heq⟩ := Option.ite_none_right_eq_some.1 h
      obtain rfl := Option.some.inj heq
      exact hs.contain
    · split at h
      · exact Option.some.inj h ▸ hs'
      · split at h
        · obtain rfl := Option.some.inj h
          exact hs'.freeze.flag.report
        · obtain ⟨-, heq⟩ := Option.ite_none_right_eq_some.1 h
          exact Option.some.inj heq ▸ hs'

theorem requestOf {c : Came} {raw : Tlp} (hs : r.Keeps s) : r.Keeps (s.requestOf c raw) := by
  unfold State.requestOf
  extract_lets -underBinder -merge -useContext +onlyGivenNames t d14 k s1 s2
  have h : r.Keeps s2 := .ite hs.draft.cameAer.tlpError hs.draft
  split
  · rename_i u e
    exact (h.errTaken (Option.ite_none_right_eq_some.1 e |>.2)).consumeIn
  · extract_lets -underBinder -merge -useContext +onlyGivenNames f21 s3
    split
    · exact h.fate.checkIn
    · exact h.fate.denied.refuseIn
    · exact h.fate.violateIn.refuseIn
    · exact h.fate.filterPass.consumeIn

theorem requestUnassigned {p : Nat} {t : Tlp} (hs : r.Keeps s) : r.Keeps (s.requestUnassigned p t) :=
  (hs.draft.bump.report.whenNot fun h => h.bump.emit).discardIn

theorem ownMsg {p : Nat} {x : Tlp} (hs : r.Keeps s) (h : s.ownMsg p x = some t) : r.Keeps t := by
  unfold State.ownMsg at h
  split at h
  · exact nomatch h
  · split at h
    · obtain ⟨-, heq⟩ := Option.ite_none_right_eq_some.1 h
      obtain rfl := Option.some.inj heq
      exact (Keeps.ite hs.tellPort hs).sleepAck
    · split at h
      · exact nomatch h
      · split at h
        · exact nomatch h
        · split at h
          · exact Option.some.inj h ▸ hs.pmeTurnOff
          · obtain ⟨-, heq⟩ := Option.ite_none_right_eq_some.1 h
            exact Option.some.inj heq ▸ hs.broadcast

theorem requestIn {p : Nat} {t : Tlp} (hs : r.Keeps s) : r.Keeps (s.requestIn p t) := by
  unfold State.requestIn
  split
  · rename_i u e
    exact (hs.ownMsg e).draft.pcieCredits
  · split
    · exact hs.requestOf
    · exact hs.requestUnassigned

theorem cfgAt {k fn : Nat} {t : Tlp} (hs : r.Keeps s) : r.Keeps (s.cfgAt k fn t) :=
  .ite hs.cfgWrite hs.cfgCpl

theorem cfgBehind {c : Came} {k n : Nat} {pk : Packet} {x : Tlp} (hs : r.Keeps s) (h : s.cfgBehind c k n pk x = some t) : r.Keeps t := by
  unfold State.cfgBehind at h
  split at h
  · exact nomatch h
  · extract_lets off sec d key id at h
    split at h
    · split at h
      · exact nomatch h
      · split at h
        · exact Option.some.inj h ▸ hs.behindWrite.consumeIn
        · split at h
          · exact Option.some.inj h ▸ hs.cfgCpl.consumeIn
          · split at h
            · exact Option.some.inj h ▸ hs.cfgCpl.consumeIn
            · exact Option.some.inj h ▸ hs.passIn
    · split at h
      · exact nomatch h
      · split at h
        · exact nomatch h
        · exact Option.some.inj h ▸ hs.passIn

theorem configIn {p : Nat} {x : Tlp} (hs : r.Keeps s) : r.Keeps (s.configIn p x) := by
  unfold State.configIn
  split
  · extract_lets -underBinder -merge -useContext +onlyGivenNames d pk s' bus up intBus
    have hs' : r.Keeps s' := hs.draft
    clear_value s'
    refine .ite hs'.bump.refuseIn (.ite (.ite hs'.refuseIn (Keeps.when hs' fun h => h.setBuses).cfgAt.consumeIn) (.ite hs'.refuseIn
      (.ite (.ite hs'.refuseIn hs'.cfgAt.consumeIn) ?_)))
    extract_lets n
    clear_value n
    split
    · exact hs'.refuseIn
    · next n =>
      rcases hbehind : s'.cfgBehind _ _ n pk x with _ | t
      · exact hs'.refuseIn
      · exact hs'.cfgBehind hbehind
  · exact hs.requestUnassigned

theorem ctxStep {c : Ctx} {t : Tlp} (hs : r.Keeps s) : r.Keeps (s.ctxStep c t) :=
  .ite hs.endCtx hs.upd.start

theorem cplMatched {c : Ctx} {p : Nat} {raw : Tlp} (hs : r.Keeps s) : r.Keeps (s.cplMatched c p raw) := by
  unfold State.cplMatched
  extract_lets -underBinder -merge -useContext +onlyGivenNames up27 who28 _ t d30 k s1 s2 stale35 barred36
  have h1 : r.Keeps s2 := .ite hs.draft.cameAer.tlpError hs.draft
  refine .ite h1.discardIn ?_
  refine .ite h1.bump.tlpError.discardIn ?_
  extract_lets -underBinder -merge -useContext +onlyGivenNames s3
  have h2 : r.Keeps s3 := h1.ctxStep.filterPass
  refine .ite h2.bump.evtPart.discardIn ?_
  refine .ite h2.epCpl.consumeIn ?_
  extract_lets -underBinder -merge -useContext +onlyGivenNames toHost42
  split
  · exact h2.bump.discardIn
  · exact (Keeps.ite h2.bump h2).forwardIn

theorem vfAnswer {p : Nat} {t : Tlp} (hs : r.Keeps s) : r.Keeps (s.vfAnswer p t) :=
  hs.upd.upd.foldl fun _ _ h => h.stop.finish

theorem completionIn {p : Nat} {t : Tlp} (hs : r.Keeps s) : r.Keeps (s.completionIn p t) := by
  unfold State.completionIn
  split
  · exact hs.cplMatched
  · exact hs.vfAnswer.draft.branch (fun h => h.bump.discardIn) (fun h => h.discardIn)

theorem malformedIn {p : Nat} {t : Tlp} (hs : r.Keeps s) : r.Keeps (s.malformedIn p t) := by
  unfold State.malformedIn
  extract_lets -underBinder -merge -useContext +onlyGivenNames big4 s1 d7 s2
  have h1 : r.Keeps s1 := .ite hs.bump (.ite hs hs.bump)
  have h2 : r.Keeps s2 := by
    unfold s2
    split
    · exact h1.draft.tlpError
    · exact h1.draft.reportPort
  exact h2.discardIn

theorem takeUp {p : Nat} {t : Tlp} (hs : r.Keeps s) : r.Keeps (s.takeUp p t) := by
  unfold State.takeUp
  extract_lets -underBinder -merge -useContext +onlyGivenNames s1
  refine .ite hs.rxEvents.malformedIn ?_
  split
  · exact .ite hs.rxEvents.configIn hs.rxEvents.requestIn
  · exact .ite hs.rxEvents.configIn hs.rxEvents.requestIn
  · exact .ite hs.rxEvents.configIn hs.rxEvents.requestIn
  · exact .ite hs.rxEvents.configIn hs.rxEvents.requestIn
  · exact hs.rxEvents.completionIn
  · exact hs.rxEvents.requestIn
  · exact hs.rxEvents.requestIn
  · exact hs.rxEvents.requestIn
  · exact hs.rxEvents.requestIn
  · exact hs.rxEvents.requestIn
  · exact hs.rxEvents.requestIn

theorem receiveTlp {p : Nat} {t : Tlp} (hs : r.Keeps s) : r.Keeps (s.receiveTlp p t) :=
  .ite hs (hs.updPx.set.branch (fun h => h.upd.emit.wakeSources) (fun h => h.takeUp.emit.settle))

theorem takeHeld (hs : r.Keeps s) : r.Keeps s.takeHeld :=
  .ite hs ((hs.upd.foldl fun _ _ h => h.takeUp).settle)

/-! ### Ingress -/

theorem execTlpReceive {p : Nat} {t : Tlp} (hs : r.Keeps s) : r.Reaches (execTlpReceive p t s) :=
  .next hs.receiveTlp

theorem execConfigRequestReceive {p : Nat} {t : Tlp} (hs : r.Keeps s) : r.Reaches (execConfigRequestReceive p t s) :=
  .next (.ite hs.receiveTlp hs)

theorem execCompletionReceive {p : Nat} {t : Tlp} (hs : r.Keeps s) : r.Reaches (execCompletionReceive p t s) :=
  .next (.ite hs.receiveTlp hs)

/-! ### Journal -/

theorem execInternalAdmission (hs : r.Keeps s) : r.Reaches (execInternalAdmission s) := by
  unfold Machine.execInternalAdmission
  split
  · exact .next hs
  · extract_lets -underBinder -merge -useContext +onlyGivenNames n _ s1 _ s2 a s3 r45 s4 s5 s6 s7
    have h1 : r.Keeps s2 := .ite hs.upd.upd.setResv hs.upd
    have h2 : r.Keeps s4 := by
      unfold s4
      split
      · exact h1.admitRec.dmAdmitted
      · exact h1.admitRec
    have h3 : r.Keeps s5 := by
      unfold s5
      split
      · exact h2.stop
      · exact h2
    have h4 : r.Keeps s6 := h3.enqueueInternal
    have h5 : r.Keeps s7 := .ite (h4.foldl fun _ _ h6 => .ite h6 h6.dmForm.dmKick) h4
    exact .next h5.unpark.establish

theorem takeCtl {src st number : Nat} {last : Bool} {items : List JItem} (hs : r.Keeps s) (h : s.takeCtl src st number last items = some t) :
    r.Keeps t := by
  obtain ⟨-, heq⟩ := Option.ite_none_right_eq_some.1 h
  obtain rfl := Option.some.inj heq
  exact hs.upd

theorem takeSpan {src st fuel : Nat} {items : List JItem} (hs : r.Keeps s) (h : s.takeSpan src st items fuel = some t) : r.Keeps t := by
  induction fuel generalizing s items with
  | zero =>
    cases items with
    | nil => exact Option.some.inj h ▸ hs
    | cons x xs => exact nomatch h
  | succ fuel ih =>
    cases items with
    | nil => exact Option.some.inj h ▸ hs
    | cons x xs =>
      unfold State.takeSpan at h
      split at h
      · exact ih hs.upd h
      · exact nomatch h

theorem receipt {src : Nat} {it : JItem} (hs : r.Keeps s) : r.Keeps (s.receipt src it) :=
  ((hs.evtNode.foldl fun _ _ h1 => h1.freeEntry).whenNot fun h2 => h2.evtJnl).setFlow.when fun h3 => h3.grpTimers

theorem execReceiptReceive {src : Nat} {items : List JItem} (hs : r.Keeps s) : r.Reaches (execReceiptReceive src items s) := by
  unfold Machine.execReceiptReceive
  split
  · rename_i u e
    exact .next (((hs.takeCtl e).foldl fun _ _ h => h.receipt).establish)
  · exact .next hs

theorem gap {src : Nat} {it : JItem} (hs : r.Keeps s) : r.Keeps (s.gap src it) :=
  .ite hs.resendGrp hs

theorem execGapReceive {src : Nat} {items : List JItem} (hs : r.Keeps s) : r.Reaches (execGapReceive src items s) := by
  unfold Machine.execGapReceive
  split
  · rename_i u e
    exact .next ((hs.takeCtl e).foldl fun _ _ h => h.gap)
  · exact .next hs

theorem undeliv {src : Nat} {it : JItem} (hs : r.Keeps s) : r.Keeps (s.undeliv src it) := by
  unfold State.undeliv
  extract_lets -underBinder -merge -useContext +onlyGivenNames k
  split
  · exact hs.updEntry.reportEntry
  · exact hs

theorem execUndelivReceive {src : Nat} {items : List JItem} (hs : r.Keeps s) : r.Reaches (execUndelivReceive src items s) := by
  unfold Machine.execUndelivReceive
  split
  · rename_i u e
    exact .next ((hs.takeCtl e).foldl fun _ _ h => h.undeliv)
  · exact .next hs

theorem purgeHere {src : Nat} {it : JItem} (hs : r.Keeps s) : r.Keeps (s.purgeHere src it) := by
  unfold State.purgeHere
  exact ((hs.foldl fun _ _ h1 => h1.unbuffer).upd.whenNot fun h2 => h2.setDedup.owe).sendItems

theorem execPurgeReceive {src : Nat} {items : List JItem} (hs : r.Keeps s) : r.Reaches (execPurgeReceive src items s) := by
  unfold Machine.execPurgeReceive
  refine .ite (.next hs) ?_
  split
  · rename_i u e
    exact .next ((hs.takeCtl e).foldl fun _ _ h => h.purgeHere)
  · exact .next hs

theorem endPurgeCmds (hs : r.Keeps s) : r.Keeps s.endPurgeCmds :=
  hs.upd.foldl fun _ _ h => h.finish

theorem purgeAnswered {src : Nat} {a : JItem} {more : List JItem} (hs : r.Keeps s) : r.Keeps (s.purgeAnswered src a more) :=
  .ite hs ((hs.purgeFree.setFlow.purgeEnded.whenNot fun h => h.sendPurge).grpTimers)

theorem execPurgeAckReceive {src : Nat} {items : List JItem} (hs : r.Keeps s) : r.Reaches (execPurgeAckReceive src items s) := by
  unfold Machine.execPurgeAckReceive
  split
  · next hspan => exact .next (hs.takeSpan hspan).purgeAnswered.endPurgeCmds.establish
  · exact .next hs

theorem execRewindReceive {src : Nat} (hs : r.Keeps s) : r.Reaches (execRewindReceive src s) := by
  unfold Machine.execRewindReceive
  split
  · rename_i u e
    exact .next ((hs.takeCtl e).foldl fun _ _ h => h.resendGrp)
  · exact .next hs

theorem purgeCold {n : Nat} (hs : r.Keeps s) : r.Keeps (s.purgeCold n) :=
  ((hs.foldl fun _ _ h1 => (h1.bump.evtNode.whenNot fun h2 => h2.reportEntry).freeEntry).foldl fun _ _ h3 => h3.setFlow.purgeEnded).foldl fun _ _ h4
    => h4.grpTimers

theorem execSyncReqReceive {src number : Nat} (hs : r.Keeps s) : r.Reaches (execSyncReqReceive src number s) := by
  unfold Machine.execSyncReqReceive
  split
  · exact .next hs
  · rename_i u e
    split
    · exact .next (hs.takeCtl e).sendItems
    · exact .next ((hs.takeCtl e).purgeCold.endPurgeCmds.fwOfNode.foldl fun _ _ h => h.setDedup).upd.sendItems.establish

theorem syncItem {src : Nat} {it : JItem} (hs : r.Keeps s) : r.Keeps (s.syncItem src it) :=
  .ite hs.setDedup hs.setFlow

theorem giveSeqs {n : Nat} (hs : r.Keeps s) : r.Keeps (s.giveSeqs n) :=
  hs.foldl fun _ _ h => h.setFlow.updEntry.upd

theorem execSyncRspReceive {src number : Nat} {last : Bool} {items : List JItem} (hs : r.Keeps s) :
    r.Reaches (execSyncRspReceive src number last items s) := by
  unfold Machine.execSyncRspReceive
  split
  · exact .next hs
  · rename_i u e
    exact .ite (.next (hs.takeCtl e)) (.ite (.next ((hs.takeCtl e).foldl fun _ _ h1 => h1.syncItem)) (.next (((((hs.takeCtl e).foldl fun _ _ h1 =>
      h1.syncItem).upd.foldl fun _ _ h2 => h2.setDedup).giveSeqs.flag.when fun h3 => h3.stop).foldl fun _ _ h4 => h4.receiptNow)))

theorem execSyncReqResend (hs : r.Keeps s) : r.Reaches (execSyncReqResend s) := by
  unfold Machine.execSyncReqResend
  split
  · rename_i u e
    exact .next (((hs.expire e).foldl fun _ _ h1 => h1.sendCtl).whenNot fun h2 => h2.start)
  · exact .next hs

theorem execReceiptSend {n : Nat} (hs : r.Keeps s) : r.Reaches (execReceiptSend n s) := by
  unfold Machine.execReceiptSend
  split
  · rename_i u e
    exact .next (hs.expire e).sendReceipts
  · exact .next hs

theorem execRetransmitTimerExpiry {part dst : Nat} (hs : r.Keeps s) : r.Reaches (execRetransmitTimerExpiry part dst s) := by
  unfold Machine.execRetransmitTimerExpiry
  split
  · rename_i u e
    exact .next (hs.expire e).sendPurges.resendGrp.grpTimers
  · exact .next hs

theorem execHeldTimeout {part dst : Nat} (hs : r.Keeps s) : r.Reaches (execHeldTimeout part dst s) := by
  unfold Machine.execHeldTimeout
  split
  · rename_i u e
    exact .next (hs.expire e).resendGrp.grpTimers
  · exact .next hs

theorem execUnreachableTimeout {part dst : Nat} (hs : r.Keeps s) : r.Reaches (execUnreachableTimeout part dst s) := by
  unfold Machine.execUnreachableTimeout
  split
  · rename_i u e
    exact .next (hs.expire e).purgeGroup.endPurgeCmds.establish
  · exact .next hs

theorem execCplAgePurge {id : Nat} (hs : r.Keeps s) : r.Reaches (execCplAgePurge id s) := by
  unfold Machine.execCplAgePurge
  split
  · rename_i u e e1 e2
    split
    · exact .next (hs.expire e1).purge.endPurgeCmds
    · exact .next (hs.expire e1).bump.evtNode.freeEntry.establish
  · exact .next hs

theorem execPcieEgressAck {id : Nat} (hs : r.Keeps s) : r.Reaches (execPcieEgressAck id s) := by
  unfold Machine.execPcieEgressAck
  split
  · exact .next hs
  · extract_lets -underBinder -merge -useContext +onlyGivenNames _ s1
    split
    · exact .next hs.upd.markDone
    · exact .next hs.upd

theorem execSetJournalQuota {k : Nat} (hs : r.Keeps s) : r.Reaches (execSetJournalQuota k s) := by
  unfold Machine.execSetJournalQuota
  exact .next (hs.omi fun _ _ h => .ite_fst h.answers (.fst h.set))

theorem execPurgeDestination {k : Nat} (hs : r.Keeps s) : r.Reaches (execPurgeDestination k s) := by
  unfold Machine.execPurgeDestination
  exact .next (hs.omi fun _ _ h1 => .ite_fst h1.answers (.ite_fst h1 (.fst (h1.upd.foldl fun _ _ h2 => h2.purge).endPurgeCmds)))

theorem execReadFlow {k : Nat} (hs : r.Keeps s) : r.Reaches (execReadFlow k s) := by
  unfold Machine.execReadFlow
  exact .next (hs.omi fun _ _ h => .ite_fst h.answers (.ite_fst h h))

/-! ### Sched -/

theorem latchQuantum {k old new : Nat} (hs : r.Keeps s) : r.Keeps (s.latchQuantum k old new) :=
  .ite hs (.ite hs.setSs.enlist (.ite hs.setSs.refreshStream hs))

theorem latch (hs : r.Keeps s) : r.Keeps s.latch :=
  (hs.upd.foldl fun _ _ h1 => h1.latchQuantum).foldl fun _ _ h2 => .ite h2.upd h2

theorem refillMeter {p : Nat} (hs : r.Keeps s) : r.Keeps (s.refillMeter p) :=
  hs.set.set

theorem refillTt {e : Nat} (hs : r.Keeps s) : r.Keeps (s.refillTt e) := by
  unfold State.refillTt
  split
  · exact hs
  · exact hs.upd

theorem refill (hs : r.Keeps s) : r.Keeps s.refill :=
  (((hs.later (Nat.le_max_left ..)).when fun h1 => h1.latch.evtNode).flag.bump.evtNode.foldl fun _ _ h2 => h2.refillMeter).foldl fun _ _ h3 =>
    h3.refillTt

theorem execSchedulerRefill (hs : r.Keeps s) : r.Reaches (execSchedulerRefill s) :=
  .next (hs.refill.upd.foldl fun _ _ h => h.finish)

theorem execPacketRelease {id : Nat} (hs : r.Keeps s) : r.Reaches (execPacketRelease id s) := by
  unfold Machine.execPacketRelease
  split
  · split
    · exact .next ((hs.later (Nat.le_max_left ..)).updPkt).stage.refreshStream
    · exact .next hs
  · exact .next hs

theorem execStarvationTimerExpiry {i e : Nat} (hs : r.Keeps s) : r.Reaches (execStarvationTimerExpiry i e s) :=
  .ite (.next hs) (.ite (.next hs.refreshStream) (.next (hs.refreshStream.later (Nat.le_add_right ..)).setSs.bump.evtNode))

theorem execFlowControlCreditReturn {p : Nat} {vc : VC} {hdr data : Nat} (hs : r.Keeps s) : r.Reaches (execFlowControlCreditReturn p vc hdr data s) :=
  .ite (.next hs) (.next hs.updPx.refresh)

theorem execWriteTable {k : Nat} (hs : r.Keeps s) : r.Reaches (execWriteTable k s) := by
  unfold Machine.execWriteTable
  exact .next (hs.omi fun _ _ h1 => .ite_fst h1.answers (.ite_fst (.fst (h1.foldl fun _ _ h2 => h2.upd)) (.fst (h1.foldl fun _ _ h3 =>
    h3.upd).flag.upd)))

theorem execReadTable {k : Nat} (hs : r.Keeps s) : r.Reaches (execReadTable k s) := by
  unfold Machine.execReadTable
  exact .next (hs.omi fun _ _ h => .ite_fst h.answers h)

/-! ### Supplies -/

theorem execVmaxCompute (hs : r.Keeps s) : r.Reaches (execVmaxCompute s) :=
  .next hs.computeVmax.drainCheck

theorem execPowerFailWarning (hs : r.Keeps s) : r.Reaches (execPowerFailWarning s) :=
  .next hs.set.pfBegin

theorem execDrainMaxExpiry (hs : r.Keeps s) : r.Reaches (execDrainMaxExpiry s) := by
  unfold Machine.execDrainMaxExpiry
  split
  · rename_i u e
    exact .next (.ite (hs.expire e).persistStart (hs.expire e))
  · exact .next hs

theorem execPersistComplete (hs : r.Keeps s) : r.Reaches (execPersistComplete s) := by
  unfold Machine.execPersistComplete
  refine .ite (.next (hs.persistCommit.set.spPersistOff.portsStop.stopPins.upd.whenNot fun h => h.pfFinish)) ?_
  split
  · exact .next (.ite hs.persistCommit.sleepDown hs)
  · exact .next hs

theorem execPowerFailWarningEnd (hs : r.Keeps s) : r.Reaches (execPowerFailWarningEnd s) :=
  .next hs.set.pfCheckEnd

theorem restoreArea {a : Area} (hs : r.Keeps s) : r.Keeps (s.restoreArea a) :=
  (((hs.upd.foldl fun _ _ h1 => h1.set).setUsed.foldl fun _ _ h2 => h2.set).foldl fun _ _ h3 => h3.start).showEpoch.loseGroups

theorem startCold (hs : r.Keeps s) : r.Keeps s.startCold :=
  hs.upd.flag

theorem persistStage (hs : r.Keeps s) : r.Keeps s.persistStage :=
  .ite hs.set hs

theorem execPersistRecovery {consumed : Bool} (hs : r.Keeps s) : r.Reaches (execPersistRecovery consumed s) := by
  unfold Machine.execPersistRecovery
  refine .ite (.next hs) ?_
  extract_lets -underBinder -merge -useContext +onlyGivenNames s1 mine9 best10 s2
  have h1 : r.Keeps s1 := .ite hs.reportNode hs
  have h2 : r.Keeps s2 := by
    unfold s2
    clear_value best10
    split
    · exact .ite h1.restoreArea.markArea.flag h1.startCold
    · exact h1.startCold
  exact .next h2.upd.establish.persistStage

theorem execFeedSample {a b : Nat} (hs : r.Keeps s) : r.Reaches (execFeedSample a b s) := by
  unfold Machine.execFeedSample
  exact .next ((Keeps.ite hs.feedRead hs.stop.setFeed).branch (fun h => h.feedRead) (fun h => h.stop.setFeed)).feedDetect

theorem execFeedGoodExpiry {b : Bool} (hs : r.Keeps s) : r.Reaches (execFeedGoodExpiry b s) := by
  unfold Machine.execFeedGoodExpiry
  split
  · rename_i u e
    exact .next (hs.expire e).setFeed
  · exact .next hs

theorem execFeedPfTimeout (hs : r.Keeps s) : r.Reaches (execFeedPfTimeout s) := by
  unfold Machine.execFeedPfTimeout
  split
  · rename_i u e
    exact .next (hs.expire e).upd.pfBegin
  · exact .next hs

theorem bankDetect {v : Nat} (hs : r.Keeps s) : r.Keeps (s.bankDetect v) := by
  unfold State.bankDetect
  exact (Keeps.ite hs.upd hs).upd.branch (fun h1 => h1.whenNot fun h2 => h2.upd.pfBegin) (fun h1 => h1.when fun h3 => h3.upd.pfCheckEnd)

theorem execHuvSample {v : Nat} (hs : r.Keeps s) : r.Reaches (execHuvSample v s) :=
  .next (hs.set.flag.when fun h => h.reportNode).set.bankDetect.drainCheck

theorem execPstChannelCheck {c0 : Option Nat} {c1 : Option Nat} (hs : r.Keeps s) : r.Reaches (execPstChannelCheck c0 c1 s) :=
  .ite (.next hs) (.next (hs.set.foldl fun _ _ h => .ite h.channelFails h).upd.computeVmax)

theorem execPstWriteFailure {n : Nat} (hs : r.Keeps s) : r.Reaches (execPstWriteFailure n s) :=
  .ite (.next hs) (.next hs.channelFails.upd.computeVmax)

/-! ### Switch -/

theorem shaveOff {k : Packet} {reason : Nat} (hs : r.Keeps s) : r.Keeps (s.shaveOff k reason) :=
  hs.shave.updPkt

theorem admWait {k : Packet} (hs : r.Keeps s) : r.Keeps (s.admWait k) :=
  .ite hs ((hs.updPkt.when fun h1 => h1.evtNode).when fun h2 => h2.bump.evtJnl)

theorem moveOff {k : Packet} {port : Nat} (hs : r.Keeps s) : r.Keeps (s.moveOff k port) := by
  unfold State.moveOff
  extract_lets -underBinder -merge -useContext +onlyGivenNames n s1 s2
  have h : r.Keeps s1 := hs.charge.leaveReserve
  refine .ite ?_ h.updPkt.stage
  split
  · exact h.updPkt.stage.present.armRefuse
  · exact h.updPkt.stage

theorem execChargeMove {i e : Nat} {vc : VC} (hs : r.Keeps s) : r.Reaches (execChargeMove i e vc s) := by
  unfold Machine.execChargeMove
  split
  · exact .next hs
  · split
    · exact .ite (.next hs.admWait) (.ite (.next (Keeps.ite hs.restore hs).rmPkt.leaveReserve) (.ite (.next (.ite hs.admWait hs)) (.ite (.next hs)
        (.next ((Keeps.ite hs.restore hs).moveOff)))))
    · exact .next hs

theorem execRefuseWaitExpiry {id : Nat} (hs : r.Keeps s) : r.Reaches (execRefuseWaitExpiry id s) := by
  unfold Machine.execRefuseWaitExpiry
  split
  · rename_i u k e1 e2
    exact .ite (.next (hs.expire e1).refuse.evtNode.armRefuse) (.next (hs.expire e1))
  · exact .next hs

theorem execHoldExpiry {port srcNode srcPart dstNode : Nat} (hs : r.Keeps s) : r.Reaches (execHoldExpiry port srcNode srcPart dstNode s) := by
  unfold Machine.execHoldExpiry
  split
  · rename_i u e
    exact .next (hs.expire e).dropHolds
  · exact .next hs

theorem execEgressSelect {e : Nat} (hs : r.Keeps s) : r.Reaches (execEgressSelect e s) :=
  .next (.ite hs.select hs)

theorem execPacketDeparture {id : Nat} (hs : r.Keeps s) : r.Reaches (execPacketDeparture id s) := by
  unfold Machine.execPacketDeparture
  split
  · exact .next hs
  · refine .ite (.next hs) ?_
    refine .ite (.next (.ite hs.unbuffer hs)) ?_
    refine .ite ?_ (.next hs)
    extract_lets -underBinder -merge -useContext +onlyGivenNames s1
    split
    · exact .next hs.stage.updPx.unbuffer.refresh
    · exact .next hs.stage.updPx

theorem execStallThresholdExpiry {i e : Nat} (hs : r.Keeps s) : r.Reaches (execStallThresholdExpiry i e s) := by
  unfold Machine.execStallThresholdExpiry
  extract_lets -underBinder -merge -useContext +onlyGivenNames s1 ks4 behind5
  split
  · exact .next hs.refreshStream
  · exact .ite (.next hs.refreshStream) (.next (hs.refreshStream.later (Nat.le_max_left ..)).bump.evtNode.refreshStream)

theorem unsend {k : Packet} (hs : r.Keeps s) : r.Keeps (s.unsend k) := by
  unfold State.unsend
  extract_lets -underBinder -merge -useContext +onlyGivenNames _ s1
  refine .ite hs.upd ?_
  extract_lets -underBinder -merge -useContext +onlyGivenNames t
  split
  · exact hs.upd.endCtx
  · exact hs.upd

theorem execBufferEccError {id : Nat} {double : Bool} (hs : r.Keeps s) : r.Reaches (execBufferEccError id double s) := by
  unfold Machine.execBufferEccError
  split
  · exact .next hs
  · exact .ite (.next hs.bump.evtNode) (.ite (.next ((hs.bump.evtNode.report.shaveOff.when fun h1 => h1.unsend).undelivDest.branch (fun h2 =>
      h2.cutOff) (fun h2 => h2.unbuffer))) (.next (((hs.bump.evtNode.report.shaveOff.when fun h1 => h1.unsend).when fun h3 =>
        h3.dmLose.undeliverable).branch (fun h4 => h4.cutOff) (fun h4 => h4.discard))))

/-! ### Turns -/

theorem execAssignTurns {k : Nat} (hs : r.Keeps s) : r.Reaches (execAssignTurns k s) := by
  unfold Machine.execAssignTurns
  exact .next (hs.omi fun _ _ h1 => .ite_fst h1.answers (.ite_fst h1.answers (.fst (h1.foldl fun _ _ h2 => h2.setTurn).checkHeld)))

theorem onTurn {x : OmiRun} {read : Bool} {f : Nat → Turn → State × Option OmiRsp} (hs : r.Keeps s) (hf : ∀ i t, r.Keeps (f i t).1) :
    r.Keeps (s.onTurn x read f).1 := by
  unfold State.onTurn
  exact .ite_fst hs (.ite_fst hs (hf _ _))

theorem execWriteTurn {k : Nat} (hs : r.Keeps s) : r.Reaches (execWriteTurn k s) := by
  unfold Machine.execWriteTurn
  exact .next (hs.omi fun _ _ h => h.onTurn fun _ _ => .ite_fst h.answers (.ite_fst h.answers (.fst h.setTurn)))

theorem execArmTurn {k : Nat} (hs : r.Keeps s) : r.Reaches (execArmTurn k s) := by
  unfold Machine.execArmTurn
  exact .next (hs.omi fun _ _ h => h.onTurn fun _ _ => .ite_fst h.answers (.ite_fst h (.ite_fst (.ite_fst h.answers (.fst h.setTurn))
    h.setTurn.bump.evtNode)))

theorem execDisarmTurn {k : Nat} (hs : r.Keeps s) : r.Reaches (execDisarmTurn k s) := by
  unfold Machine.execDisarmTurn
  exact .next (hs.omi fun _ _ h => h.onTurn fun _ _ => .fst h.setTurn)

theorem execReadTurn {k : Nat} (hs : r.Keeps s) : r.Reaches (execReadTurn k s) := by
  unfold Machine.execReadTurn
  exact .next (hs.omi fun _ _ h => h.onTurn fun _ _ => h)

theorem dropTurn {i t : Nat} (hs : r.Keeps s) : r.Keeps (s.dropTurn i t) :=
  hs.bump.evtNode.turnReport

theorem fetchWrite {i : Nat} {t : Turn} {due : Nat} (hs : r.Keeps s) : r.Keeps (s.fetchWrite i t due) := by
  unfold State.fetchWrite
  split
  · exact hs.dropTurn
  · refine .ite hs.dropTurn ?_
    extract_lets -underBinder -merge -useContext +onlyGivenNames h
    split
    · exact hs.hostRoute.dropTurn
    · exact hs.hostRoute.setTurn

theorem execTurnFetch {n : Nat} (hs : r.Keeps s) : r.Reaches (execTurnFetch n s) := by
  unfold Machine.execTurnFetch
  exact .ite (.next hs) (.next (hs.waitUntil.setTurn.when fun h => h.fetchWrite))

theorem sendTimed {i due : Nat} {w : IntTx} (hs : r.Keeps s) : r.Keeps (s.sendTimed i due w) :=
  hs.insideMeter.branch (fun h => h.raiseRec) (fun h => h.upd.raise.start)

theorem turnAct {i due : Nat} {t : Turn} (hs : r.Keeps s) : r.Keeps (s.turnAct i due t) := by
  unfold State.turnAct
  refine .ite hs.dropTurn ?_
  extract_lets -underBinder -merge -useContext +onlyGivenNames p1
  split
  · split
    · exact hs.sendTimed
    · exact hs
  · split
    · exact hs.sendTimed
    · exact hs
  · exact hs.dmStart
  · exact hs.driveOut
  · exact hs.driveOut
  · exact hs.driveOut
  · exact hs.driveOut.start
  · exact hs.flag
  · exact hs.flag
  · exact hs

theorem turnAdvance {i due : Nat} (hs : r.Keeps s) : r.Keeps (s.turnAdvance i due) :=
  hs.setTurn.when fun h => h.turnReport

theorem execTurnLaunch {n : Nat} (hs : r.Keeps s) : r.Reaches (execTurnLaunch n s) := by
  unfold Machine.execTurnLaunch
  dsimp only
  split
  · exact .next hs
  · refine .ite (.next hs) (.next ?_)
    exact (Keeps.when (hs.waitUntil.later (Nat.le_max_left ..)).bump.evtNode fun h => h.bump.evtNode.turnReport).turnAct.turnAdvance

theorem execTimedWriteDrop {id : Nat} (hs : r.Keeps s) : r.Reaches (execTimedWriteDrop id s) := by
  unfold Machine.execTimedWriteDrop
  split
  · exact .next hs
  · rename_i u e
    split
    · extract_lets -underBinder -merge -useContext +onlyGivenNames _ s1
      refine .next ?_
      split
      · exact (hs.expire e).upd.dropTurn
      · exact (hs.expire e).upd
    · exact .next (hs.expire e)

/-! ### Windows -/

theorem execWriteWindowEntry {k : Nat} (hs : r.Keeps s) : r.Reaches (execWriteWindowEntry k s) := by
  unfold Machine.execWriteWindowEntry
  exact .next (hs.omi fun _ _ h => .ite_fst h.answers (.ite_fst h.answers (.fst h.setWent)))

theorem execReadWindowEntry {k : Nat} (hs : r.Keeps s) : r.Reaches (execReadWindowEntry k s) := by
  unfold Machine.execReadWindowEntry
  exact .next (hs.omi fun _ _ h => .ite_fst h.answers (.ite_fst h.answers h))

theorem execCommitWindows {k : Nat} (hs : r.Keeps s) : r.Reaches (execCommitWindows k s) := by
  unfold Machine.execCommitWindows
  refine .next ?_
  refine hs.omi fun _ _ h => ?_
  extract_lets -underBinder -merge -useContext +onlyGivenNames part2
  refine .ite_fst h.answers ?_
  refine .ite_fst (.ite_fst h.answers (.fst h.acceptCommit)) ?_
  split
  · exact h
  · exact .fst h.awaitAll.fwAll.settle

theorem execCommitSwap {part : Nat} (hs : r.Keeps s) : r.Reaches (execCommitSwap part s) := by
  unfold Machine.execCommitSwap
  split
  · rename_i u c e1 e2
    exact .next (hs.expire e1).swap.flag.start
  · exact .next hs

theorem execShadowCopyDone {part : Nat} (hs : r.Keeps s) : r.Reaches (execShadowCopyDone part s) := by
  unfold Machine.execShadowCopyDone
  split
  · rename_i u c e1 e2
    extract_lets -underBinder -merge -useContext +onlyGivenNames _ s1 s2 s3 s4 s5
    have h1 : r.Keeps s1 := (hs.expire e1).upd.reload
    have h2 : r.Keeps s2 := h1.flag.flag.bump
    have h3 : r.Keeps s4 := by
      unfold s4
      split
      · exact h2.finishOpt.ackTo
      · exact h2.finishOpt
    have h4 : r.Keeps s5 := by
      unfold s5
      split
      · exact .ite h3 h3.upd.boundCommit
      · exact h3
    exact .next h4.settle
  · exact .next hs

theorem execSetPeerGrant {k : Nat} (hs : r.Keeps s) : r.Reaches (execSetPeerGrant k s) := by
  unfold Machine.execSetPeerGrant
  exact .next (hs.omi fun _ _ h => .ite_fst h.answers (.fst h.set.set))

/-! ### Tick -/

theorem portDurations {p : Nat} (hs : r.Keeps s) : r.Keeps (s.portDurations p) := by
  unfold State.portDurations
  exact ((Keeps.ite hs.evtPort hs).when fun h1 => h1.evtPort).when fun h2 => h2.evtPort

theorem fabDurations {p : Nat} (hs : r.Keeps s) : r.Keeps (s.fabDurations p) := by
  unfold State.fabDurations
  exact .ite hs ((Keeps.ite hs.evtFab hs).when fun h => h.evtFab)

theorem durations (hs : r.Keeps s) : r.Keeps s.durations :=
  .ite hs (((((hs.foldl fun _ _ h1 => h1.portDurations).foldl fun _ _ h2 => h2.fabDurations).when fun h3 => h3.evtNode).when fun h4 =>
    h4.evtNode).when fun h5 => h5.evtNode)

theorem watch (hs : r.Keeps s) : r.Keeps s.watch :=
  hs.joinTick.settle.pollWaits.lostNodes.drainCheck.wakeDue.idleWatch.resetNotices.set.takeHeld

theorem tick (hs : r.Keeps s) : r.Keeps s.tick :=
  ((hs.later (Nat.le_add_right ..)).durations).watch

end Keeps

/-! ### Every command -/

/-- Every command ends in a next state that keeps the registers' invariant, the queue and the order of time. -/
theorem exec_reaches (c : Instr) (s : State) : s.Reaches (exec c s) := by
  have hs := Keeps.refl s
  cases c with
  | registerWrite => exact hs.execRegisterWrite
  | narrowRegisterWrite => exact hs.execNarrowRegisterWrite
  | wideRegisterRead => exact hs.execWideRegisterRead
  | wideRegisterHighWrite => exact hs.execWideRegisterHighWrite
  | discoveryMessageReceive => exact hs.execDiscoveryMessageReceive
  | discoveryTimeout => exact hs.execDiscoveryTimeout
  | linkStateMessageReceive => exact hs.execLinkStateMessageReceive
  | returnCleanExpiry => exact hs.execReturnCleanExpiry
  | returnDrainComplete => exact hs.execReturnDrainComplete
  | returnDrainAbort => exact hs.execReturnDrainAbort
  | join => exact hs.execJoin
  | joinHoldRaise => exact hs.execJoinHoldRaise
  | leaveA => exact hs.execLeaveA
  | leaveB => exact hs.execLeaveB
  | leaveWaitExpiry => exact hs.execLeaveWaitExpiry
  | sleepPlaneBLeave => exact hs.execSleepPlaneBLeave
  | flitSlot => exact hs.execFlitSlot
  | auditDue => exact hs.execAuditDue
  | dataFlitReceive => exact hs.execDataFlitReceive
  | idleFlitReceive => exact hs.execIdleFlitReceive
  | msgFlitReceive => exact hs.execMsgFlitReceive
  | auditFlitReceive => exact hs.execAuditFlitReceive
  | replayFlitReceive => exact hs.execReplayFlitReceive
  | replayTimerExpiry => exact hs.execReplayTimerExpiry
  | ts1Receive => exact hs.execTs1Receive
  | ts2Receive => exact hs.execTs2Receive
  | rateGoReceive => exact hs.execRateGoReceive
  | eqFlitReceive => exact hs.execEqFlitReceive
  | eqAdaptEnd => exact hs.execEqAdaptEnd
  | eqMeasureEnd => exact hs.execEqMeasureEnd
  | equaliseTimeout => exact hs.execEqualiseTimeout
  | initReceive => exact hs.execInitReceive
  | initDoneReceive => exact hs.execInitDoneReceive
  | retrainReqReceive p h reason => exact hs.execRetrainReqReceive (reason := reason)
  | retrainAckReceive _ _ node => exact hs.execRetrainAckReceive (node := node)
  | quiesceDoneReceive => exact hs.execQuiesceDoneReceive
  | plannedRetrainProceed => exact hs.execPlannedRetrainProceed
  | retrainReqRepeat => exact hs.execRetrainReqRepeat
  | rtMoveExpiry => exact hs.execRtMoveExpiry
  | quiesceTimeout => exact hs.execQuiesceTimeout
  | retrainTimeout => exact hs.execRetrainTimeout
  | locklossExpiry => exact hs.execLocklossExpiry
  | flapHoldClear => exact hs.execFlapHoldClear
  | widthReq => exact hs.execWidthReq
  | mlRetrain => exact hs.execMlRetrain
  | forceDown => exact hs.execForceDown
  | mlEnable => exact hs.execMlEnable
  | pxPortEnable => exact hs.execPxPortEnable
  | reserveComplete => exact hs.execReserveComplete
  | tlpReceive => exact hs.execTlpReceive
  | configRequestReceive => exact hs.execConfigRequestReceive
  | vdspSecondaryBusWrite => exact hs.execVdspSecondaryBusWrite
  | virtualBarWrite => exact hs.execVirtualBarWrite
  | bridgeRangeWrite => exact hs.execBridgeRangeWrite
  | hostFlr => exact hs.execHostFlr
  | secondaryBusReset => exact hs.execSecondaryBusReset
  | linkDisable => exact hs.execLinkDisable
  | retrainLinkBit => exact hs.execRetrainLinkBit
  | powerControllerControl => exact hs.execPowerControllerControl
  | dpcTriggerStatusClear => exact hs.execDpcTriggerStatusClear
  | dpcSoftwareTrigger => exact hs.execDpcSoftwareTrigger
  | managementEndpointFlr => exact hs.execManagementEndpointFlr
  | memorySpaceEnable => exact hs.execMemorySpaceEnable
  | busMasterEnable => exact hs.execBusMasterEnable
  | pcieLinkUp => exact hs.execPcieLinkUp
  | pcieLinkDown => exact hs.execPcieLinkDown
  | hotResetReceive => exact hs.execHotResetReceive
  | pcieEgressAck => exact hs.execPcieEgressAck
  | completionReceive => exact hs.execCompletionReceive
  | pmeTurnOffReceive => exact hs.execPmeTurnOffReceive
  | pmeToAckTimeout => exact hs.execPmeToAckTimeout
  | l1IdleExpiry => exact hs.execL1IdleExpiry
  | l0pNarrow => exact hs.execL0pNarrow
  | l0pWiden => exact hs.execL0pWiden
  | marginCommand => exact hs.execMarginCommand
  | spdmRequest => exact hs.execSpdmRequest
  | pxBifWrite => exact hs.execPxBifWrite
  | pxPmapWrite => exact hs.execPxPmapWrite
  | pxDualWrite => exact hs.execPxDualWrite
  | chargeMove => exact hs.execChargeMove
  | refuseWaitExpiry => exact hs.execRefuseWaitExpiry
  | holdExpiry => exact hs.execHoldExpiry
  | egressSelect => exact hs.execEgressSelect
  | packetDeparture => exact hs.execPacketDeparture
  | stallThresholdExpiry => exact hs.execStallThresholdExpiry
  | bufferEccError => exact hs.execBufferEccError
  | internalAdmission => exact hs.execInternalAdmission
  | receiptReceive => exact hs.execReceiptReceive
  | gapReceive => exact hs.execGapReceive
  | undelivReceive => exact hs.execUndelivReceive
  | purgeReceive => exact hs.execPurgeReceive
  | purgeAckReceive => exact hs.execPurgeAckReceive
  | rewindReceive => exact hs.execRewindReceive
  | syncReqReceive => exact hs.execSyncReqReceive
  | syncRspReceive => exact hs.execSyncRspReceive
  | syncReqResend => exact hs.execSyncReqResend
  | receiptSend => exact hs.execReceiptSend
  | retransmitTimerExpiry => exact hs.execRetransmitTimerExpiry
  | heldTimeout => exact hs.execHeldTimeout
  | unreachableTimeout => exact hs.execUnreachableTimeout
  | cplAgePurge => exact hs.execCplAgePurge
  | vmaxCompute => exact hs.execVmaxCompute
  | powerFailWarning => exact hs.execPowerFailWarning
  | drainMaxExpiry => exact hs.execDrainMaxExpiry
  | persistComplete => exact hs.execPersistComplete
  | powerFailWarningEnd => exact hs.execPowerFailWarningEnd
  | persistRecovery => exact hs.execPersistRecovery
  | delayExchangeStart => exact hs.execDelayExchangeStart
  | delayRequestReceive _ _ _ _ state gm => exact hs.execDelayRequestReceive (state := state) (gm := gm)
  | delayResponseReceive _ _ _ _ _ _ _ gm => exact hs.execDelayResponseReceive (gm := gm)
  | delayExchangeAbandon => exact hs.execDelayExchangeAbandon
  | announceTimer => exact hs.execAnnounceTimer
  | timeAnnouncementReceive => exact hs.execTimeAnnouncementReceive
  | announceAbsent => exact hs.execAnnounceAbsent
  | gmCandidateSettle => exact hs.execGmCandidateSettle
  | ppsInEdge => exact hs.execPpsInEdge
  | ppsInLoss => exact hs.execPpsInLoss
  | setSpindle => exact hs.execSetSpindle
  | coordinatedStep => exact hs.execCoordinatedStep
  | ptmHostExchange => exact hs.execPtmHostExchange
  | ptmRequestReceive => exact hs.execPtmRequestReceive
  | holdoverTimeout => exact hs.execHoldoverTimeout
  | assignTurns => exact hs.execAssignTurns
  | writeTurn => exact hs.execWriteTurn
  | armTurn => exact hs.execArmTurn
  | disarmTurn => exact hs.execDisarmTurn
  | readTurn => exact hs.execReadTurn
  | assignTimePin => exact hs.execAssignTimePin
  | reserveGrains => exact hs.execReserveGrains
  | releaseGrains => exact hs.execReleaseGrains
  | turnFetch => exact hs.execTurnFetch
  | turnLaunch => exact hs.execTurnLaunch
  | timedWriteDrop => exact hs.execTimedWriteDrop
  | timeOutPulseFall => exact hs.execTimeOutPulseFall
  | timeInEdge => exact hs.execTimeInEdge
  | ppsOutRise => exact hs.execPpsOutRise
  | ppsOutFall => exact hs.execPpsOutFall
  | grainBoundary => exact hs.execGrainBoundary
  | reservationRecheck => exact hs.execReservationRecheck
  | grainReservationRecompute => exact hs.execGrainReservationRecompute
  | schedulerRefill => exact hs.execSchedulerRefill
  | packetRelease => exact hs.execPacketRelease
  | starvationTimerExpiry => exact hs.execStarvationTimerExpiry
  | assignChannel => exact hs.execAssignChannel
  | releaseChannel => exact hs.execReleaseChannel
  | dmTailWrite => exact hs.execDmTailWrite
  | dmStart => exact hs.execDmStart
  | dmReset => exact hs.execDmReset
  | dmResume => exact hs.execDmResume
  | dmPause => exact hs.execDmPause
  | dmEnable => exact hs.execDmEnable
  | descriptorFetchComplete => exact hs.execDescriptorFetchComplete
  | dmReadIssue => exact hs.execDmReadIssue
  | dmFillWriteForm => exact hs.execDmFillWriteForm
  | dmReadCompletion => exact hs.execDmReadCompletion
  | dmReadTimeout => exact hs.execDmReadTimeout
  | descriptorComplete => exact hs.execDescriptorComplete
  | channelResetComplete => exact hs.execChannelResetComplete
  | createPartition => exact hs.execCreatePartition
  | deletePartition => exact hs.execDeletePartition
  | resetPartition => exact hs.execResetPartition
  | partitionResetComplete => exact hs.execPartitionResetComplete
  | transferFabricManagement => exact hs.execTransferFabricManagement
  | setStandby => exact hs.execSetStandby
  | freezePartition => exact hs.execFreezePartition
  | thawPartition => exact hs.execThawPartition
  | readPartition => exact hs.execReadPartition
  | partitionRecordInstall => exact hs.execPartitionRecordInstall
  | fmTakeoverExpiry => exact hs.execFmTakeoverExpiry
  | completionTimeout => exact hs.execCompletionTimeout
  | tagQuarantineEnd => exact hs.execTagQuarantineEnd
  | generationWaitEnd => exact hs.execGenerationWaitEnd
  | assignFunction => exact hs.execAssignFunction
  | removeFunction => exact hs.execRemoveFunction
  | removalDrainPoint => exact hs.execRemovalDrainPoint
  | removalDrainTimeout => exact hs.execRemovalDrainTimeout
  | removalResetWaitEnd => exact hs.execRemovalResetWaitEnd
  | removalFunctionReady => exact hs.execRemovalFunctionReady
  | removalFunctionTimeout => exact hs.execRemovalFunctionTimeout
  | freezeFunction => exact hs.execFreezeFunction
  | thawFunction => exact hs.execThawFunction
  | setBusSpan => exact hs.execSetBusSpan
  | enableVfs => exact hs.execEnableVfs
  | enableVfsTimeout => exact hs.execEnableVfsTimeout
  | setManagedPort => exact hs.execSetManagedPort
  | readInstance => exact hs.execReadInstance
  | writeWindowEntry => exact hs.execWriteWindowEntry
  | readWindowEntry => exact hs.execReadWindowEntry
  | commitWindows => exact hs.execCommitWindows
  | commitSwap => exact hs.execCommitSwap
  | shadowCopyDone => exact hs.execShadowCopyDone
  | setPeerGrant => exact hs.execSetPeerGrant
  | lbIntake => exact hs.execLbIntake
  | lbCycleStart => exact hs.execLbCycleStart
  | lbPhaseTermination => exact hs.execLbPhaseTermination
  | lbRetryGapExpiry => exact hs.execLbRetryGapExpiry
  | lbPhaseTimeout => exact hs.execLbPhaseTimeout
  | prefetchLineExpiry => exact hs.execPrefetchLineExpiry
  | semaphoreForcedRelease => exact hs.execSemaphoreForcedRelease
  | bridgeReset => exact hs.execBridgeReset
  | lbEnable => exact hs.execLbEnable
  | lbResetRelease => exact hs.execLbResetRelease
  | elogClr => exact hs.execElogClr
  | lbPregWrite => exact hs.execLbPregWrite
  | quadPllLock => exact hs.execQuadPllLock
  | quadPllLockLoss => exact hs.execQuadPllLockLoss
  | laneLockLoss => exact hs.execLaneLockLoss
  | laneLockRegain => exact hs.execLaneLockRegain
  | fecWindowEnd => exact hs.execFecWindowEnd
  | clrUnfit => exact hs.execClrUnfit
  | laneTest => exact hs.execLaneTest
  | spCmdOn => exact hs.execSpCmdOn
  | spCmdOff => exact hs.execSpCmdOff
  | spCmdCycle => exact hs.execSpCmdCycle
  | enableSlot => exact hs.execEnableSlot
  | disableSlot => exact hs.execDisableSlot
  | cycleSlot => exact hs.execCycleSlot
  | gateCheckPass => exact hs.execGateCheckPass
  | gateCheckTimeout => exact hs.execGateCheckTimeout
  | gateGoodLoss => exact hs.execGateGoodLoss
  | perstReleaseTimer => exact hs.execPerstReleaseTimer
  | perstLeadExpiry => exact hs.execPerstLeadExpiry
  | railBelowOffLevel => exact hs.execRailBelowOffLevel
  | offMaxExpiry => exact hs.execOffMaxExpiry
  | shuntSample => exact hs.execShuntSample
  | fastComparatorTrip => exact hs.execFastComparatorTrip
  | retryIntervalExpiry => exact hs.execRetryIntervalExpiry
  | cleanExpiry => exact hs.execCleanExpiry
  | presenceDebounced => exact hs.execPresenceDebounced
  | emptyTimeout => exact hs.execEmptyTimeout
  | feedReturnExpiry => exact hs.execFeedReturnExpiry
  | bbmExpiry => exact hs.execBbmExpiry
  | railLostTimeout => exact hs.execRailLostTimeout
  | warnLeadExpiry => exact hs.execWarnLeadExpiry
  | cycleOffExpiry => exact hs.execCycleOffExpiry
  | faultReport => exact hs.execFaultReport
  | managementRestartEnd => exact hs.execManagementRestartEnd
  | nodeResetEnd => exact hs.execNodeResetEnd
  | nodeResetTimeout => exact hs.execNodeResetTimeout
  | portRecoverTimeout => exact hs.execPortRecoverTimeout
  | cycleHoldExpiry => exact hs.execCycleHoldExpiry
  | managedDpcRelease => exact hs.execManagedDpcRelease
  | releasePort => exact hs.execReleasePort
  | fcPortRel => exact hs.execFcPortRel
  | injectFault => exact hs.execInjectFault
  | fcInjectWrite => exact hs.execFcInjectWrite
  | fcStatusClear => exact hs.execFcStatusClear
  | mailboxGo => exact hs.execMailboxGo
  | commandBufferWrite => exact hs.execCommandBufferWrite
  | commandComplete => exact hs.execCommandComplete
  | deferredCommandComplete => exact hs.execDeferredCommandComplete
  | eventQueueHeadWrite => exact hs.execEventQueueHeadWrite
  | firmwareMessageReceive => exact hs.execFirmwareMessageReceive
  | forwardedCommandRetry => exact hs.execForwardedCommandRetry
  | sessionTimeout => exact hs.execSessionTimeout
  | smbusBlockWrite => exact hs.execSmbusBlockWrite
  | smbusSetReadPointer => exact hs.execSmbusSetReadPointer
  | smbusBlockRead => exact hs.execSmbusBlockRead
  | beginStage => exact hs.execBeginStage
  | writeStage => exact hs.execWriteStage
  | endStage => exact hs.execEndStage
  | activateImage => exact hs.execActivateImage
  | activationQuiesceEnd => exact hs.execActivationQuiesceEnd
  | activationCheckDone => exact hs.execActivationCheckDone
  | activationSwitchoverEnd => exact hs.execActivationSwitchoverEnd
  | commitImage => exact hs.execCommitImage
  | advanceSecurityVersion => exact hs.execAdvanceSecurityVersion
  | readFirmwareStatus => exact hs.execReadFirmwareStatus
  | readRegisters => exact hs.execReadRegisters
  | writeRegisters => exact hs.execWriteRegisters
  | getIdentity => exact hs.execGetIdentity
  | readCertificate => exact hs.execReadCertificate
  | installOwnerChain => exact hs.execInstallOwnerChain
  | writeTable => exact hs.execWriteTable
  | readTable => exact hs.execReadTable
  | setJournalQuota => exact hs.execSetJournalQuota
  | purgeDestination => exact hs.execPurgeDestination
  | readFlow => exact hs.execReadFlow
  | readCounters => exact hs.execReadCounters
  | readShavings => exact hs.execReadShavings
  | setPowerLevel => exact hs.execSetPowerLevel
  | setManagedAspm => exact hs.execSetManagedAspm
  | requestSleep => exact hs.execRequestSleep
  | joinFabric => exact hs.execJoinFabric
  | leavePlane => exact hs.execLeavePlane
  | retrainLink => exact hs.execRetrainLink
  | marginLane => exact hs.execMarginLane
  | clrEvt => exact hs.execClrEvt
  | clrFlt => exact hs.execClrFlt
  | fltCtrlWrite => exact hs.execFltCtrlWrite
  | shvSeedWrite => exact hs.execShvSeedWrite
  | bwWindowEnd => exact hs.execBwWindowEnd
  | bwCfgWrite => exact hs.execBwCfgWrite
  | plTargetWrite => exact hs.execPlTargetWrite
  | dvfsReadback => exact hs.execDvfsReadback
  | clockRampStep => exact hs.execClockRampStep
  | dvfsTimeout => exact hs.execDvfsTimeout
  | sleepPmeWaitEnd => exact hs.execSleepPmeWaitEnd
  | sleepDrainEnd => exact hs.execSleepDrainEnd
  | sleepCommit => exact hs.execSleepCommit
  | sl1IdleExpiry => exact hs.execSl1IdleExpiry
  | wakeEvent => exact hs.execWakeEvent
  | sl3HoldEnd => exact hs.execSl3HoldEnd
  | wakeTimerExpiry => exact hs.execWakeTimerExpiry
  | padholdRelease => exact hs.execPadholdRelease
  | coarseWindowEnd => exact hs.execCoarseWindowEnd
  | missingEdge => exact hs.execMissingEdge
  | fineWindowEnd => exact hs.execFineWindowEnd
  | pllReferenceSwitchEnd => exact hs.execPllReferenceSwitchEnd
  | pllLockLoss => exact hs.execPllLockLoss
  | avsVoltagePoll => exact hs.execAvsVoltagePoll
  | earlyBootSourceTimeout => exact hs.execEarlyBootSourceTimeout
  | fullPowerOnReset => exact hs.execFullPowerOnReset
  | mainPowerOnReset => exact hs.execMainPowerOnReset
  | feedSample => exact hs.execFeedSample
  | feedGoodExpiry => exact hs.execFeedGoodExpiry
  | feedPfTimeout => exact hs.execFeedPfTimeout
  | huvSample => exact hs.execHuvSample
  | pstChannelCheck => exact hs.execPstChannelCheck
  | pstWriteFailure => exact hs.execPstWriteFailure
  | strapLatch => exact hs.execStrapLatch
  | bootRomImageLoaded => exact hs.execBootRomImageLoaded
  | firmwareBringupResume => exact hs.execFirmwareBringupResume
  | uartRecoveryImage => exact hs.execUartRecoveryImage
  | bootJoinTimer => exact hs.execBootJoinTimer
  | selfFacingRelease => exact hs.execSelfFacingRelease
  | thermalSample => exact hs.execThermalSample
  | mainRailsValid => exact hs.execMainRailsValid
  | pllsLocked => exact hs.execPllsLocked
  | wakeFirmwareReady => exact hs.execWakeFirmwareReady
  | flowControlCreditReturn => exact hs.execFlowControlCreditReturn

/-- With nothing waiting a nanosecond passes. -/
theorem keeps_tick (s : State) : s.Keeps s.tick := (Keeps.refl s).tick

end Sys2Proof.Machine.State

namespace Sys2Proof.Machine

/-- Settles O51: each command's answer is a next state. -/
theorem noCommandStops : Obligations.NoCommandStops := by
  intro c s
  obtain ⟨t, ht, -⟩ := State.exec_reaches c s
  exact ⟨t, ht⟩

/-- Settles O52: no operation writes the queue, and none sets time back. -/
theorem commandsKeepQueueAndTime : Obligations.CommandsKeepQueueAndTime := by
  intro c s t h
  obtain ⟨t', ht, hk⟩ := State.exec_reaches c s
  obtain rfl := Host.Outcome.next.inj (ht.symm.trans h)
  exact ⟨hk.pending, hk.now_le⟩

/-- Settles O50: a field written is cut to its width and its key stays at its place, and every command and every tick writes registers only so. -/
theorem stepKeepsInvariant : Obligations.StepKeepsInvariant := by
  intro s t hs h
  unfold step at h
  split at h
  · next c rest _ =>
    obtain ⟨t', ht, hk⟩ := State.exec_reaches c { s with pending := rest }
    obtain rfl := Host.Outcome.next.inj (ht.symm.trans h)
    exact hk.inv hs
  · obtain rfl := Host.Outcome.next.inj h
    exact s.keeps_tick.inv hs

end Sys2Proof.Machine

/-! ## Registers: what a write reaches (R12, R15) -/

namespace Sys2Proof.Machine

/-- `t` is `s` but for the registers, and there only fields whose keys `K` names differ. -/
structure State.WritesOnly (K : Nat → Prop) (s t : State) : Prop where
  rest : t = { s with fields := t.fields }
  others : ∀ (f : Fld) (j : Nat), ¬ K (f.key j) → t.get f j = s.get f j

namespace State.WritesOnly

variable {K L : Nat → Prop} {s t u : State}

theorem refl (s : State) : s.WritesOnly K s := ⟨rfl, fun _ _ _ => rfl⟩

theorem trans (h : s.WritesOnly K t) (k : t.WritesOnly K u) : s.WritesOnly K u := by
  refine ⟨?_, fun f j hf => (k.others f j hf).trans (h.others f j hf)⟩
  have ht := h.rest
  rw [ht] at k
  exact k.rest

theorem mono (h : s.WritesOnly K t) (hKL : ∀ n, K n → L n) : s.WritesOnly L t :=
  ⟨h.rest, fun f j hf => h.others f j fun hK => hf (hKL _ hK)⟩

theorem set {f : Fld} {i : Nat} (v : Nat) (hf : K (f.key i)) : s.WritesOnly K (s.set f v i) := by
  refine ⟨by unfold State.set; rfl, fun g j hg => get_set_other s ?_⟩
  intro he
  rw [he] at hg
  exact hg hf

/-- A field set after other writes. -/
theorem andSet {f : Fld} {i v : Nat} (h : s.WritesOnly K t) (hf : K (f.key i)) : s.WritesOnly K (t.set f v i) := h.trans (set v hf)

theorem andWrite {f : Fld} {i v : Nat} (h : s.WritesOnly K t) (hf : K (f.key i)) : s.WritesOnly K (t.write f v i) := by
  unfold State.write
  dsimp only
  split
  case h_1 => exact h.andSet hf
  case h_2 => exact h.andSet hf
  case h_3 => exact h.andSet hf
  all_goals exact h

theorem foldl {α : Type} {f : State → α → State} {xs : List α} (h : s.WritesOnly K t)
    (hf : ∀ u, ∀ a ∈ xs, s.WritesOnly K u → s.WritesOnly K (f u a)) : s.WritesOnly K (xs.foldl f t) :=
  List.foldlRecOn xs f h fun u hu a ha => hf u a ha hu

theorem andUnsetReg {r : Reg} {i : Nat} (h : s.WritesOnly K t) (hf : ∀ g ∈ r.fields, K (g.key i)) : s.WritesOnly K (t.unsetReg r i) :=
  h.foldl fun _ g hg hu => hu.andSet (hf g hg)

end State.WritesOnly

/-! ### Plain registers -/

/-- What holds of every plain register's layout: it has one dword, is none of a lane's, and each of its RW fields is set by a plain write. -/
theorem plainRegs_layout : ∀ r ∈ plainRegs, r.dwords = 1 ∧ isLaneReg r = false ∧ ∀ f ∈ r.fields, f.acc = .rw → f.own = false := by
  decide

/-- The fields of a plain register lie at different places of it. -/
theorem plainRegs_lsb_ne :
    ∀ r ∈ plainRegs, r.ctorIdx < 512 ∧ ∀ f ∈ r.fields, f.reg = r ∧ f.lsb < 128 ∧ (r.fields.filter fun g => g.lsb == f.lsb) = [f] := by
  decide

/-- What a REGISTER_WRITE does to one field of a plain register. -/
def State.writeField (v i : Nat) (t : State) (f : Fld) : State := if !f.own then t.write f (v / 2 ^ f.lsb) i else t

/-- A write of a plain register writes its fields one by one, and nothing follows. -/
theorem State.writeFields_plain {r : Reg} (hr : r ∈ plainRegs) (s : State) (i v : Nat) :
    s.writeFields r i (fun f => some (v / 2 ^ f.lsb)) = r.fields.foldl (State.writeField v i) s := by
  have hstep : State.writeField v i = fun t f => if f.own = false then t.write f (v / 2 ^ f.lsb) i else t := by
    funext t f
    simp [writeField]
  simp only [plainRegs, List.mem_cons, List.not_mem_nil, or_false] at hr
  rcases hr with rfl | rfl | rfl | rfl | rfl | rfl | rfl | rfl | rfl | rfl <;>
    simp [writeFields, writePlain, afterWrite, ownLink, ownEngine, ownMgmt, plainOpen, hstep]

theorem exec_registerWrite_plain {r : Reg} (hr : r ∈ plainRegs) (s : State) (i v : Nat) :
    exec (.registerWrite r i 0 v) s = .next (r.fields.foldl (State.writeField (v % 2 ^ 32) i) s) := by
  obtain ⟨hone, hlane, -⟩ := plainRegs_layout r hr
  change Host.Outcome.next (s.writeDword r i 0 (v % 2 ^ 32)) = _
  simp only [State.writeDword, State.regIndex, hlane, Bool.false_eq_true, if_false, hone, if_true, State.writeFields_plain hr]

theorem State.writesOnly_writeField {K : Nat → Prop} {s t : State} {f : Fld} {v i : Nat} (h : s.WritesOnly K t) (hf : K (f.key i)) :
    s.WritesOnly K (t.writeField v i f) := by
  unfold writeField
  split
  · exact h.andWrite hf
  · exact h

/-- Writes of fields at other keys leave a field. -/
theorem State.get_foldl_writeField_other {f : Fld} {i v : Nat} {fs : List Fld} (s : State) (hf : ∀ g ∈ fs, g.key i ≠ f.key i) :
    (fs.foldl (State.writeField v i) s).get f i = s.get f i := by
  have h : s.WritesOnly (fun k => ∃ g ∈ fs, g.key i = k) (fs.foldl (State.writeField v i) s) :=
    (WritesOnly.refl s).foldl fun _ g hg hu => writesOnly_writeField hu ⟨g, hg, rfl⟩
  exact h.others f i fun ⟨g, hg, he⟩ => hf g hg he

theorem State.get_writeField_rw {f : Fld} (s : State) (v i : Nat) (hown : f.own = false) (hacc : f.acc = .rw) :
    (s.writeField v i f).get f i = legalise f.dom (s.get f i) (v / 2 ^ f.lsb % 2 ^ f.width) % 2 ^ f.width := by
  simp [writeField, hown, write, hacc]

/-- Of fields at different keys, each RW field takes the value its range allows. -/
theorem State.get_foldl_writeField {f : Fld} {i v : Nat} (hown : f.own = false) (hacc : f.acc = .rw) :
    ∀ (fs : List Fld) (s : State), f ∈ fs → (∀ g ∈ fs, g.key i = f.key i → g = f) → fs.Nodup →
      (fs.foldl (State.writeField v i) s).get f i = legalise f.dom (s.get f i) (v / 2 ^ f.lsb % 2 ^ f.width) % 2 ^ f.width := by
  intro fs
  induction fs with
  | nil => intro s hf; exact absurd hf List.not_mem_nil
  | cons g gs ih =>
    intro s hf hkey hnodup
    obtain ⟨hg, hgs⟩ := List.nodup_cons.1 hnodup
    rw [List.foldl_cons]
    by_cases he : g = f
    · subst he
      rw [get_foldl_writeField_other _ fun x hx hk => hg (hkey x (List.mem_cons_of_mem _ hx) hk ▸ hx)]
      exact get_writeField_rw s v i hown hacc
    · have hne : f.key i ≠ g.key i := fun hk => he (hkey g List.mem_cons_self hk.symm)
      rw [ih _ ((List.mem_cons.1 hf).resolve_left (Ne.symm he)) (fun x hx => hkey x (List.mem_cons_of_mem _ hx)) hgs]
      rw [(writesOnly_writeField (K := fun k => k = g.key i) (WritesOnly.refl s) rfl).others f i hne]

theorem plainRegs_nodup : ∀ r ∈ plainRegs, r.fields.Nodup := by
  decide

/-- Fields of a plain register with one key are one field. -/
theorem plainRegs_eq_of_key {r : Reg} (hr : r ∈ plainRegs) {f g : Fld} (hf : f ∈ r.fields) (hg : g ∈ r.fields) {i : Nat}
    (hk : g.key i = f.key i) : g = f := by
  obtain ⟨-, hlay⟩ := plainRegs_lsb_ne r hr
  obtain ⟨hfreg, -, honly⟩ := hlay f hf
  obtain ⟨hgreg, -, -⟩ := hlay g hg
  have hlsb : g.lsb = f.lsb := by
    simp only [Fld.key, hfreg, hgreg] at hk
    omega
  have hmem : g ∈ r.fields.filter fun x => x.lsb == f.lsb := List.mem_filter.2 ⟨hg, by simp [hlsb]⟩
  rw [honly] at hmem
  exact List.mem_singleton.1 hmem

/-! ### Wide registers -/

/-- After a row of puts at different keys, a key of the row reads as what was put there. -/
theorem Tab.get_foldl_put {key val : Nat → Nat} (hinj : Function.Injective key) (t : Tab Nat) (n d : Nat) (hd : d < n) :
    Tab.get 0 ((List.range n).foldl (fun t d => Tab.put 0 t (key d) (val d)) t) (key d) = val d := by
  induction n with
  | zero => omega
  | succ n ih =>
    rw [List.range_succ, List.foldl_append, List.foldl_cons, List.foldl_nil]
    by_cases h : d = n
    · rw [h, Tab.get_put_same]
    · rw [Tab.get_put_other _ _ _ _ (hinj.ne h), ih (by omega)]

theorem holdKey_injective (r : Reg) (i : Nat) : Function.Injective fun d => holdKey r i (d + 1) := by
  intro a b h
  simp only [holdKey] at h
  omega

/-- A read of the lowest dword captures the others (R15). -/
theorem State.copy_readDword {s : State} {r : Reg} (i d : Nat) (hlane : isLaneReg r = false) (hlow : 1 ≤ d) (hhigh : d < r.dwords) :
    Tab.get 0 (s.readDword r i 0).2.hold.copy (holdKey r i d) = dwordAt (s.regValue r i) d := by
  obtain ⟨e, rfl⟩ : ∃ e, d = e + 1 := ⟨d - 1, by omega⟩
  have hwide : r.dwords ≠ 1 := by omega
  simpa [readDword, regIndex, hlane, hwide] using
    Tab.get_foldl_put (key := fun d => holdKey r i (d + 1)) (val := fun d => dwordAt (s.regValue r i) (d + 1)) (holdKey_injective r i)
      s.hold.copy (r.dwords - 1) e (by omega)

/-- The state in which the high dword of SPN_TT_PART finds the staged low one taken away. -/
def State.unstaged (s : State) : State := { s with hold.staged := Tab.put none s.hold.staged (holdKey .SPN_TT_PART 0 0) none }

theorem exec_wideRegisterHighWrite_ttPart {s : State} {lo : Nat} (v : Nat) (hlo : Tab.get none s.hold.staged (holdKey .SPN_TT_PART 0 0) = some lo) :
    exec (.wideRegisterHighWrite .SPN_TT_PART 0 v) s = .next (s.unstaged.write SPN_TT_PART_MASK (lo + v % 2 ^ 32 * 2 ^ 32)) := by
  change Host.Outcome.next (s.writeDword .SPN_TT_PART 0 1 (v % 2 ^ 32)) = _
  simp [State.writeDword, State.regIndex, isLaneReg, Reg.dwords, List.range_succ, hlo, State.writeFields, State.writePlain, State.afterWrite,
    State.ownLink, State.ownEngine, State.ownMgmt, State.plainOpen, Reg.fields, SPN_TT_PART_MASK, State.unstaged]

/-- No value that fits is replaced where the whole width is allowed. -/
theorem legalise_any {w v : Nat} (old : Nat) (h : v < 2 ^ w) : legalise (.any w) old v = v := by
  have hmax : ¬ 2 ^ w - 1 < v := by omega
  simp [legalise, Dom.any, hmax]

/-- Settles O1: the fields of a plain register lie at keys of their own, so each takes the value its range allows; the copies of the higher
dwords do too. -/
theorem registerCommandsComplete : Obligations.RegisterCommandsComplete := by
  unfold Obligations.RegisterCommandsComplete
  refine ⟨?plain, ?narrow, fun _ => rfl, ?read, ?high⟩
  case plain =>
    intro s f i v hr hf hacc hv
    obtain ⟨-, -, hown⟩ := plainRegs_layout f.reg hr
    refine ⟨_, exec_registerWrite_plain hr s i v, ?_⟩
    rw [Nat.mod_eq_of_lt hv]
    exact State.get_foldl_writeField (hown f hf hacc) hacc _ s hf (fun g hg => plainRegs_eq_of_key hr hf hg) (plainRegs_nodup _ hr)
  case narrow =>
    intro s k hk
    change execNarrowRegisterWrite (some k) s = _
    simp [execNarrowRegisterWrite, hk, State.bump]
  case read =>
    intro s r i d hlane hlow hhigh
    exact ⟨_, rfl, State.copy_readDword i d hlane hlow hhigh⟩
  case high =>
    intro s lo v hstaged hlo hv
    refine ⟨_, exec_wideRegisterHighWrite_ttPart v hstaged, ?_, ?_⟩
    · have hsum : (lo + v % 2 ^ 32 * 2 ^ 32) % 2 ^ 64 = lo + v * 2 ^ 32 := by omega
      have hdom : legalise SPN_TT_PART_MASK.dom (s.unstaged.get SPN_TT_PART_MASK) ((lo + v % 2 ^ 32 * 2 ^ 32) % 2 ^ 64) = lo + v * 2 ^ 32 := by
        rw [hsum]
        exact legalise_any _ (by omega)
      change ((s.unstaged.set SPN_TT_PART_MASK (legalise SPN_TT_PART_MASK.dom _ ((lo + v % 2 ^ 32 * 2 ^ 32) % 2 ^ 64)))).get _ = _
      rw [State.get_set_same, hdom]
      exact Nat.mod_eq_of_lt (by change _ < 2 ^ 64; omega)
    · change Tab.get none s.unstaged.hold.staged _ = _
      simp [State.unstaged, Tab.get_put_same]

/-! ### Frames -/

section
variable {s t u : State}

theorem writesOnly_clrEvt (s : State) : s.WritesOnly (fun k => ∃ n < 1472, PMON_EVT_COUNT.key n = k)
    ((List.range 1472).foldl (fun s n => s.set PMON_EVT_COUNT 0 n) s) :=
  (State.WritesOnly.refl s).foldl fun _ n hn hu => hu.andSet ⟨n, List.mem_range.1 hn, rfl⟩

theorem writesOnly_clrFlt (s : State) : s.WritesOnly (fun k => ∃ n < 64, FLT_CNT_COUNT.key n = k)
    ((List.range 64).foldl (fun s n => s.set FLT_CNT_COUNT 0 n) s) :=
  (State.WritesOnly.refl s).foldl fun _ n hn hu => hu.andSet ⟨n, List.mem_range.1 hn, rfl⟩

/-- The end of a timer leaves every field. -/
theorem get_of_expire {x : TimerId} (h : s.expire x = some u) (f : Fld) (j : Nat) : u.get f j = s.get f j := by
  unfold State.expire at h
  split at h
  · obtain rfl := Option.some.inj h
    rfl
  · exact nomatch h

/-- The keys that ELOG_CLR writes: the two of LB_STATUS and those of the entries. -/
def elogKey (k : Nat) : Prop := LB_STATUS_ELOG_COUNT.key 0 = k ∨ LB_STATUS_ELOG_OVF.key 0 = k ∨
  ∃ r ∈ [Reg.LB_ELOG_ADDR, .LB_ELOG_INFO, .LB_ELOG_REQ, .LB_ELOG_TIME], ∃ g ∈ r.fields, ∃ n < 16, g.key n = k

theorem elogKey_of_reg {r : Reg} {n : Nat} (hr : r ∈ [Reg.LB_ELOG_ADDR, .LB_ELOG_INFO, .LB_ELOG_REQ, .LB_ELOG_TIME]) (hn : n < 16) :
    ∀ g ∈ r.fields, elogKey (g.key n) :=
  fun g hg => .inr (.inr ⟨r, hr, g, hg, n, hn, rfl⟩)

theorem writesOnly_elogClr (h : exec .elogClr s = .next t) : s.WritesOnly elogKey t := by
  change execElogClr s = _ at h
  obtain rfl := Host.Outcome.next.inj h
  refine State.WritesOnly.andSet (State.WritesOnly.andSet (State.WritesOnly.foldl (.refl s) fun u n hn hu => ?_) (.inl rfl)) (.inr (.inl rfl))
  have hn := List.mem_range.1 hn
  exact (((hu.andUnsetReg (elogKey_of_reg (by decide) hn)).andUnsetReg (elogKey_of_reg (by decide) hn)).andUnsetReg
    (elogKey_of_reg (by decide) hn)).andUnsetReg (elogKey_of_reg (by decide) hn)

theorem writesOnly_strapLatch {v : Nat} (hexp : s.expire .strap = some u) (h : exec (.strapLatch v) s = .next t) :
    u.WritesOnly (fun k => ∃ g ∈ Reg.MB_STRAP.fields, g.key 0 = k) t := by
  change execStrapLatch v s = _ at h
  simp only [execStrapLatch, hexp] at h
  obtain rfl := Host.Outcome.next.inj h
  have hmem : ∀ g ∈ [MB_STRAP_NODE_ID, MB_STRAP_FMGR_EN, MB_STRAP_SMB_ADDR, MB_STRAP_BOOT_MODE], g ∈ Reg.MB_STRAP.fields := by decide
  exact ((((State.WritesOnly.refl u).andSet ⟨_, hmem _ (by decide), rfl⟩).andSet ⟨_, hmem _ (by decide), rfl⟩).andSet
    ⟨_, hmem _ (by decide), rfl⟩).andSet ⟨_, hmem _ (by decide), rfl⟩

/-- PWR_THERM after a sample whose hottest sensor is `x`. -/
def State.thermRead (s : State) (x : Nat × Int) : State :=
  let v := min 255 (x.2 + 64).toNat
  ((s.set PWR_THERM_TJ v).set PWR_THERM_SENSOR x.1).set PWR_THERM_TJ_PEAK (max v (s.get PWR_THERM_TJ_PEAK))

theorem writesOnly_thermRead (s : State) (x : Nat × Int) :
    s.WritesOnly (fun k => ∃ g ∈ Reg.PWR_THERM.fields, g.key 0 = k) (s.thermRead x) := by
  have hmem : ∀ g ∈ [PWR_THERM_TJ, PWR_THERM_SENSOR, PWR_THERM_TJ_PEAK], g ∈ Reg.PWR_THERM.fields := by decide
  exact (((State.WritesOnly.refl s).andSet ⟨_, hmem _ (by decide), rfl⟩).andSet ⟨_, hmem _ (by decide), rfl⟩).andSet
    ⟨_, hmem _ (by decide), rfl⟩

theorem State.reportNode_rest (s : State) (unit cls cause : Nat) :
    s.reportNode unit cls cause = { s with reports := (s.reportNode unit cls cause).reports } := by
  unfold reportNode report
  rfl

/-- A sample writes PWR_THERM and may report. -/
theorem thermalSample_frame {xs : List Int} (h : exec (.thermalSample xs) s = .next t) :
    ∃ u rs, s.WritesOnly (fun k => ∃ g ∈ Reg.PWR_THERM.fields, g.key 0 = k) u ∧ t = { u with reports := rs } := by
  change execThermalSample xs s = _ at h
  unfold execThermalSample at h
  split at h
  · obtain rfl := Host.Outcome.next.inj h
    exact ⟨s, s.reports, .refl s, rfl⟩
  · split at h
    · obtain rfl := Host.Outcome.next.inj h
      exact ⟨s, s.reports, .refl s, rfl⟩
    · next x _ =>
      have hw := writesOnly_thermRead s x
      change (if 135 ≤ x.2 then .next ((s.thermRead x).reportNode 46 4 0x6008)
        else if ((s.thermRead x).get FC_POLICY_T_WARN : Int) < x.2 then .next ((s.thermRead x).reportNode 46 0 0x6007)
        else .next (s.thermRead x)) = Host.Outcome.next t at h
      generalize s.thermRead x = u at h hw
      refine ⟨u, t.reports, hw, ?_⟩
      split at h
      · obtain rfl := Host.Outcome.next.inj h
        exact State.reportNode_rest u _ _ _
      · split at h
        · obtain rfl := Host.Outcome.next.inj h
          exact State.reportNode_rest u _ _ _
        · obtain rfl := Host.Outcome.next.inj h
          rfl

end

/-- Settles O53: each of these commands is a row of writes at named keys. -/
theorem registerCommandFrames : Obligations.RegisterCommandFrames := by
  unfold Obligations.RegisterCommandFrames
  refine ⟨?plain, ?narrow, ?read, ?clrEvt, ?clrFlt, ?seed, ?unfit, ?elog, ?strap, ?thermal⟩
  case plain =>
    intro s t r i v hr h
    rw [exec_registerWrite_plain hr] at h
    obtain rfl := Host.Outcome.next.inj h
    have hw : s.WritesOnly (fun k => ∃ g ∈ r.fields, g.key i = k) (r.fields.foldl (State.writeField (v % 2 ^ 32) i) s) :=
      (State.WritesOnly.refl s).foldl fun _ g hg hu => State.writesOnly_writeField hu ⟨g, hg, rfl⟩
    exact ⟨⟨s.hold, hw.rest⟩, fun f j hf => hw.others f j fun ⟨g, hg, he⟩ => hf g hg he⟩
  case narrow =>
    intro s t k h
    change execNarrowRegisterWrite (some k) s = _ at h
    obtain rfl := Host.Outcome.next.inj h
    have hw : s.WritesOnly (fun n => n = MB_ACC_ERR_COUNT.key k) (if k < 16 then s.bump MB_ACC_ERR_COUNT k else s) := by
      split
      · exact .set _ rfl
      · exact .refl s
    exact ⟨hw.rest, fun f j hf => hw.others f j hf⟩
  case read =>
    intro s t r i h
    change Host.Outcome.next (s.readDword r i 0).2 = _ at h
    obtain rfl := Host.Outcome.next.inj h
    unfold State.readDword
    split
    · exact ⟨s.hold, rfl⟩
    · by_cases hone : r.dwords = 1
      · exact ⟨s.hold, by simp [hone]⟩
      · exact ⟨_, by simp [hone]; rfl⟩
  case clrEvt =>
    intro s t h
    obtain rfl := Host.Outcome.next.inj h
    have hw := writesOnly_clrEvt s
    exact ⟨hw.rest, fun f j hf => hw.others f j fun ⟨n, hn, he⟩ => hf n hn he⟩
  case clrFlt =>
    intro s t h
    obtain rfl := Host.Outcome.next.inj h
    have hw := writesOnly_clrFlt s
    exact ⟨hw.rest, fun f j hf => hw.others f j fun ⟨n, hn, he⟩ => hf n hn he⟩
  case seed =>
    intro s t v h
    change execShvSeedWrite v s = _ at h
    unfold execShvSeedWrite at h
    split at h
    · obtain rfl := Host.Outcome.next.inj h
      exact ⟨⟨s.pmon, rfl⟩, fun _ _ _ => rfl⟩
    · obtain rfl := Host.Outcome.next.inj h
      exact ⟨⟨_, rfl⟩, fun f j hf => State.get_set_other s hf⟩
  case unfit =>
    intro s t p l h
    have hw : s.WritesOnly (fun k => k = LN_LANE_STAT_UNFIT.key (laneKey p l) ∨ k = LN_LANE_STAT_CAUSE.key (laneKey p l) ∨
        k = LN_PORT_STAT_UNFIT.key p) t := by
      rw [← Host.Outcome.next.inj h]
      exact (((State.WritesOnly.refl s).andSet (.inl rfl)).andSet (.inr (.inl rfl))).andSet (.inr (.inr rfl))
    exact ⟨hw.rest, fun f j h1 h2 h3 => hw.others f j fun hk => hk.elim h1 fun hk => hk.elim h2 h3⟩
  case elog =>
    intro s t h
    have hw := writesOnly_elogClr h
    refine ⟨hw.rest, fun f j hcount hovf hentry => hw.others f j ?_⟩
    rintro (hk | hk | ⟨r, hr, g, hg, n, hn, hk⟩)
    · exact hcount hk
    · exact hovf hk
    · exact hentry r hr g hg n hn hk
  case strap =>
    intro s u t v hexp h
    have hw := writesOnly_strapLatch hexp h
    refine ⟨hw.rest, fun f j hf => ?_⟩
    exact (hw.others f j fun ⟨g, hg, he⟩ => hf g hg he).trans (get_of_expire hexp f j)
  case thermal =>
    intro s t xs h
    obtain ⟨u, rs, hw, rfl⟩ := thermalSample_frame h
    refine ⟨⟨rs, ?_⟩, fun f j hf => hw.others f j fun ⟨g, hg, he⟩ => hf g hg he⟩
    rw [hw.rest]

end Sys2Proof.Machine

/-! ## The ring: messages, route groups, joining and leaving (R21 to R42) -/

namespace Sys2Proof.Machine

/-- A message that waits in the inbox is taken from it. -/
theorem State.takeMsg_of_contains {s : State} {p : Nat} {m : MgMsg} (h : s.inbox.contains (.mg p m) = true) :
    s.takeMsg p m = some { s with inbox := s.inbox.erase (.mg p m) } := by
  exact if_pos h

/-- A port that carries messages queues one behind the others. -/
theorem State.msgs_sendMsg {s : State} {p : Nat} {m : MgMsg} (h : s.linkCarries p = true) :
    ((s.sendMsg p m).link p).msgs = (s.link p).msgs ++ [m] := by
  simp [sendMsg, h]

/-- Settles O2: the message is taken, this node's record appended, and the port opposite carries it; a time-out and a newer report by the
definitions. -/
theorem ringMessagesComplete : Obligations.RingMessagesComplete := by
  unfold Obligations.RingMessagesComplete
  refine ⟨?discovery, ?timeout, ?linkState⟩
  case discovery =>
    intro s p m hin horigin hturned hroom hcarries
    refine ⟨State.sendMsg { s with inbox := s.inbox.erase (.mg p (.disc m))
                                   ring.runsSeen := Tab.put 0 s.ring.runsSeen (Plane.code (portPlane p) * 16 + m.origin) m.run }
      (portOpp p) (.disc { m with recs := m.recs ++ [s.ownRec (portPlane p)] }), ?_, State.msgs_sendMsg hcarries⟩
    change execDiscoveryMessageReceive p m s = _
    rw [execDiscoveryMessageReceive, State.takeMsg_of_contains hin]
    have hforeign : ¬ (m.origin == s.nodeId && decide (1 ≤ m.run) && decide (m.run ≤ s.runOf (portPlane p))) = true := by simp [horigin]
    refine (if_neg hforeign).trans ((if_neg ?_).trans ((if_neg ?_).trans (if_pos hcarries)))
    · simp [hturned]
    · omega
  case timeout =>
    intro s u pl d hexp hd
    change execDiscoveryTimeout pl s = _
    simp only [execDiscoveryTimeout, hexp, hd]
  case linkState =>
    rintro s _ p m st hin hst hnew hrep rfl
    change ∃ back, execLinkStateMessageReceive p m s = _
    simp only [execLinkStateMessageReceive, State.takeMsg_of_contains hin, hst]
    have hgo : ¬ (!s.newer m || m.reporter == s.nodeId) = true := by simp [hnew, hrep]
    cases st <;> exact ⟨_, if_neg hgo⟩

/-- Settles O3: each timer's command takes the branch that its conditions name. -/
theorem routeGroupTimersComplete : Obligations.RouteGroupTimersComplete := by
  unfold Obligations.RouteGroupTimersComplete
  refine ⟨?clean, ?drained, ?abort⟩
  case clean =>
    intro s u part dst hexp hreach haway hen hup hnone hlast
    have haway' : ((u.grp (grpKey part dst)).plane == (u.homePath part dst).1 && (u.grp (grpKey part dst)).dir == (u.homePath part dst).2) = false := by
      rcases haway with h | h <;> simp [h]
    have hidle : (u.ring.groups.any fun y => y.2.draining) = false := by simpa using hnone
    refine ⟨({ u.setGrp (grpKey part dst) { u.grp (grpKey part dst) with draining := true } with ring.lastDrain := some u.now }.start
      (.drain (grpKey part dst)) u.rtxNs), ?_, ?_, ?_, ?_⟩
    · change execReturnCleanExpiry part dst s = _
      simp [execReturnCleanExpiry, hexp, hreach, haway', hen, hup, hidle, hlast]
    · simp
    · simp [State.grp, State.setGrp, Tab.get_put_same]
    · rfl
  case drained =>
    rintro s part dst _ _ rfl rfl hdrain hdone hup
    change execReturnDrainComplete part dst s = _
    simp [execReturnDrainComplete, hdrain, hdone, hup]
  case abort =>
    intro s u part dst hexp
    change ∃ t, execReturnDrainAbort part dst s = .next t ∧ _
    simp only [execReturnDrainAbort, hexp]
    refine ⟨_, rfl, rfl, ?_, by simp⟩
    simp [State.grp, State.setGrp, Tab.get_put_same]

/-- Settles O4: the pins and the timers of a join and a leave, command by command. -/
theorem joinAndLeaveComplete : Obligations.JoinAndLeaveComplete := by
  unfold Obligations.JoinAndLeaveComplete
  refine ⟨?join, ?raise, ?leaveA, ?leaveB, ?endB, ?endA, ?sleep⟩
  case join =>
    intro s hidle hallowed hlow
    refine ⟨s.startJoin, rfl, ?_⟩
    simp only [State.startJoin, hidle, Option.isSome_none, fHold, hallowed, hlow, Bool.false_eq_true, if_false, Bool.not_false, Bool.and_true, if_true]
    have hjoin : ((({ s with ring.join := some { plane := .a, step := .waitOther, thenB := s.holdAllowed .b && !s.on RING_STATUS_HOLD_B } }.flag
        RING_CTRL_JOIN true).set PWR_PADHOLD_RING 0).on RING_CTRL_JOIN) = true := by
      rw [State.on, State.get_set_reg _ (by decide), State.flag, State.get_set_same]
      rfl
    split
    · exact ⟨rfl, by rw [State.on, State.get_set_reg _ (by decide)]; exact hjoin⟩
    · exact ⟨rfl, hjoin⟩
  case raise =>
    intro s j hj hstep hallowed hquiet
    change execJoinHoldRaise j.plane s = _
    simp [execJoinHoldRaise, hj, hstep, hallowed, hquiet]
  case leaveA =>
    intro s hpin
    refine ⟨s.startLeave .a, rfl, ?_⟩
    simp [State.startLeave, fHold, hpin]
  case leaveB =>
    intro s hpin
    refine ⟨s.startLeave .b, rfl, ?_⟩
    simp [State.startLeave, fHold, hpin]
  case endB =>
    intro s u hexp
    change execLeaveWaitExpiry .b s = _
    simp [execLeaveWaitExpiry, hexp]
  case endA =>
    intro s u hexp hsleep
    change execLeaveWaitExpiry .a s = _
    simp [execLeaveWaitExpiry, hexp, hsleep]
  case sleep =>
    intro s u hexp
    change execSleepPlaneBLeave s = _
    simp [execSleepPlaneBLeave, hexp]

end Sys2Proof.Machine

/-! ## Training, equalisation and INIT (R70, R71, R325, R329 to R331) -/

namespace Sys2Proof.Machine

/-- A lane's training reads as what it was updated to. -/
theorem State.laneOf_updLane_same (s : State) (p k : Nat) (f : LaneTrain → LaneTrain) :
    laneOf ((s.updLane p k f).link p) k = f (laneOf (s.link p) k) := by
  rw [updLane, link_updLink_same]
  exact Tab.get_put_same _ _ _ _

/-- A preset is asked for: the lane tries it under the next request number. -/
theorem State.laneOf_askPreset (s : State) (p lane n : Nat) (final : Bool) :
    laneOf ((s.askPreset p lane n final).link p) lane =
      { laneOf (s.link p) lane with trying := some n, final := final, reqNo := ((laneOf (s.link p) lane).reqNo + 1) % 256 } := by
  rw [askPreset, link_updLink_same]
  exact laneOf_updLane_same s p lane _

/-- Operations that leave the registers leave them together. -/
theorem State.fields_foldl {α : Type} {f : State → α → State} (hf : ∀ t a, (f t a).fields = t.fields) (xs : List α) (s : State) :
    (xs.foldl f s).fields = s.fields :=
  List.foldlRecOn (motive := fun t : State => t.fields = s.fields) xs f rfl fun t ht a _ => (hf t a).trans ht

/-- Stopping a link's timers leaves the registers. -/
theorem State.get_stopLink (s : State) (p : Nat) (f : Fld) (i : Nat) : (s.stopLink p).get f i = s.get f i := by
  have hfields : (s.stopLink p).fields = s.fields := by
    unfold stopLink
    refine (fields_foldl ?_ _ _).trans ?_
    · intro t a
      simp
    · simp
  rw [get, get, hfields]

/-- Settles O6: each command takes the branch that the check and the state of the link name. -/
theorem linkTrainingCompletes : Obligations.LinkTrainingCompletes := by
  unfold Obligations.LinkTrainingCompletes
  refine ⟨?ts1, ?ts2, ?rateGo, ?preset, ?adapt, ?measure, ?timeout, ?init, ?initDone⟩
  case ts1 =>
    intro s u p lane n h hfab hlane hcheck hst
    change execTs1Receive p h lane n s = _
    have hin : ¬ 8 ≤ lane := Nat.not_le.2 hlane
    simp [execTs1Receive, hfab, hin, hcheck, hst]
  case ts2 =>
    intro s u p lane h x hfab hlane hcheck hst
    change execTs2Receive p h lane x s = _
    have hin : ¬ 8 ≤ lane := by omega
    have hrun (y : LaneTrain) : (if y.ts2 = some x then { y with ts2Run := y.ts2Run + 1 } else { y with ts2 := some x, ts2Run := 1 }) =
        { y with ts2 := some x, ts2Run := if y.ts2 = some x then y.ts2Run + 1 else 1 } := by
      by_cases hy : y.ts2 = some x
      · simp only [hy, if_true]
      · simp only [hy, if_false]
    have hlock : ¬ lsConfig = lsLock := by decide
    simp [execTs2Receive, hfab, hin, hcheck, hst, hlock, hrun]
  case rateGo =>
    intro s u p rate lanes left h hfab hcheck hst hpeer hfollow hrate hlow hhigh
    refine ⟨u.updLink p fun l => { l with nextLanes := lanes % 256, targetRate := rate, rateLeft := left }, ?_, ?_⟩
    · change execRateGoReceive p h rate lanes left s = _
      simp [execRateGoReceive, hfab, hcheck, hst, hpeer, hfollow, hrate, hlow, hhigh]
    · simp
  case preset =>
    intro s u p lane h e hfab hlane hcheck hst hop hpreset
    refine ⟨(u.setCoefs p lane (presetCoefs e.preset)).eqAnswer p lane
      { op := .applied, preset := e.preset, coef := presetCoefs e.preset, req := e.req }, ?_, ?_, ?_⟩
    · change execEqFlitReceive p h lane e s = _
      have hmax : e.preset ≤ 7 := by omega
      have hadmit : ¬ 6 ≤ e.preset := by omega
      have hin : ¬ 8 ≤ lane := Nat.not_le.2 hlane
      simp [execEqFlitReceive, hfab, hin, hcheck, hst, hop, hmax, hadmit]
    · simp [State.eqAnswer, State.setCoefs]
    · simp [State.eqAnswer, State.setCoefs]
  case adapt =>
    intro s u p lane hexp hst
    refine ⟨u.askPreset p lane 0 false, ?_, ?_, rfl⟩
    · change execEqAdaptEnd p lane s = _
      simp [execEqAdaptEnd, hexp, hst]
    · rw [State.laneOf_askPreset]
  case measure =>
    intro s u p lane fom n hexp htry hn hfinal
    have hnext : n < (if u.get ML_STATUS_RATE p = 0 then 5 else 7) := by
      split <;> omega
    refine ⟨(u.updLane p lane fun x => { x with foms := x.foms ++ [(n, fom % 256)] }).askPreset p lane (n + 1) false, ?_, ?_⟩
    · change execEqMeasureEnd p lane fom s = _
      simp only [execEqMeasureEnd, hexp, htry]
      exact if_pos hnext
    · simp [State.laneOf_askPreset, State.laneOf_updLane_same]
  case timeout =>
    intro s u p hexp hst hrate hfollow
    change execEqualiseTimeout p s = _
    have hfollow' : (u.stopLink p).on ML_STATUS_LEADER p = false := by rw [State.on, State.get_stopLink]; exact hfollow
    simp [execEqualiseTimeout, hexp, hst, State.get_stopLink, hrate, hfollow']
  case init =>
    intro s u p lanes h adv hfab hcheck hst
    have hinit : ¬ lsInit = lsRetrain := by decide
    change ∃ t, execInitReceive p h adv 1024 lanes s = .next t ∧ _
    simp [execInitReceive, hfab, hcheck, hst, hinit]
  case initDone =>
    intro s u p h hfab hcheck hst hgot hsent
    change execInitDoneReceive p h s = _
    simp [execInitDoneReceive, hfab, hcheck, hst, hgot, hsent]

end Sys2Proof.Machine

/-! ## Planned retrains, and what takes a fabric port down (R69, R73 to R81, R510) -/

namespace Sys2Proof.Machine

/-- Settles O7: each command takes the branch that the state of the link, the request and the timer name. -/
theorem retrainsComplete : Obligations.RetrainsComplete := by
  unfold Obligations.RetrainsComplete
  refine ⟨?req, ?ack, ?quiesceDone, ?proceed, ?repeat_, ?rtMove, ?quiesce, ?retrain, ?firmware⟩
  case req =>
    rintro s u _ p reason node wanted h hfab hpass hst hcr rfl hreq hactive
    change execRetrainReqReceive p h reason node wanted false s = _
    simp [execRetrainReqReceive, hfab, hpass, hcr, hreq, hactive]
  case ack =>
    rintro s u _ p node wanted h r hfab hpass hcr rfl hreq hforced hactive
    change execRetrainAckReceive p h node wanted s = _
    simp [execRetrainAckReceive, hfab, hpass, hcr, hreq, hforced, hactive]
  case quiesceDone =>
    intro s u p h hfab hpass hcr
    change execQuiesceDoneReceive p h s = _
    simp [execQuiesceDoneReceive, hfab, hpass, hcr]
  case proceed =>
    intro s p r hsched hactive hother
    change execPlannedRetrainProceed p s = _
    simp [execPlannedRetrainProceed, hsched, hactive, hother]
  case repeat_ =>
    intro s u p r hexp hreq hforced
    change ∃ t, execRetrainReqRepeat p s = .next t ∧ _
    simp [execRetrainReqRepeat, hexp, hreq, hforced]
  case rtMove =>
    intro s u p hexp hst
    change execRtMoveExpiry p s = _
    simp [execRtMoveExpiry, hexp, hst]
  case quiesce =>
    intro s u p hexp hst
    change execQuiesceTimeout p s = _
    simp [execQuiesceTimeout, hexp, hst]
  case retrain =>
    intro s u p hexp hst hfirst
    change ∃ t, execRetrainTimeout p s = .next t ∧ _
    have hgo : ¬ (¬ u.linkState p = lsRetrain ∧ ¬ u.linkState p = lsInit) := fun ⟨h, k⟩ => hst.elim h k
    simp [execRetrainTimeout, hexp, hgo, hfirst]
    exact State.get_set_same ..
  case firmware =>
    intro s p hfab
    change execMlRetrain p s = _
    simp [execMlRetrain, hfab]

/-- Settles O8: each command takes the branch that the state of the port and the written value name. -/
theorem linkControlCompletes : Obligations.LinkControlCompletes := by
  unfold Obligations.LinkControlCompletes
  refine ⟨?lockLoss, ?flapHold, ?width, ?down, ?release, ?enable, ?disable, ?selfFacing⟩
  case lockLoss =>
    rintro s u _ p hexp hheld hup rfl hfree hstored
    change execLocklossExpiry p s = _
    simp [execLocklossExpiry, hexp, hheld, hup, hfree, hstored]
  case flapHold =>
    intro s p hflap hheld
    change execFlapHoldClear p s = _
    simp [execFlapHoldClear, hflap, hheld]
  case width =>
    rintro s _ p v hfab rfl
    change execWidthReq p v s = _
    simp only [execWidthReq, hfab, Bool.not_true, Bool.false_eq_true, if_false, Bool.and_eq_true, beq_iff_eq, decide_eq_true_eq]
    exact (apply_ite Host.Outcome.next _ _ _).symm
  case down =>
    intro s p hfab
    change ∃ t, execForceDown p true s = .next t ∧ _
    simp [execForceDown, hfab, State.linkState]
  case release =>
    rintro s _ p hfab rfl hdown
    change execForceDown p false s = _
    simp [execForceDown, hfab, hdown]
  case enable =>
    intro s p hfab hoff
    change execMlEnable p true s = _
    simp [execMlEnable, hfab, hoff]
  case disable =>
    intro s p hfab hon
    change execMlEnable p false s = _
    simp [execMlEnable, hfab, hon]
  case selfFacing =>
    intro s u p hexp hheld hself
    change execSelfFacingRelease p s = _
    simp [execSelfFacingRelease, hexp, hheld, hself]

end Sys2Proof.Machine

/-! ## PCI Express links and Bus Master Enable (R84, R137, R278 to R300) -/

namespace Sys2Proof.Machine

/-- A PME_Turn_Off of a slot with a port-bound port waits for the answers. -/
theorem State.pmeTurnOff_waits {s : State} {k n : Nat} {b : Bind} (hn : n < 32) (hb : s.bind k n = some b) (hkind : b.kind = 2) :
    (s.pmeTurnOff k).runs (.pme k) = true ∧ (Tab.get none (s.pmeTurnOff k).pcie.pme k).isSome = true := by
  have hmem : n ∈ (List.range 32).filter fun n => (s.bind k n).any fun b => b.kind == 2 :=
    List.mem_filter.2 ⟨List.mem_range.2 hn, by simp [hb, hkind]⟩
  have hne : ((List.range 32).filter fun n => (s.bind k n).any fun b => b.kind == 2).isEmpty = false := by
    rw [List.isEmpty_eq_false_iff_exists_mem]
    exact ⟨n, hmem⟩
  unfold pmeTurnOff
  simp only [hne]
  exact ⟨State.runs_start_same .., by simp [Tab.get_put_same]⟩

/-- Settles O9: each command takes the branch that the port, the link and the timer name. -/
theorem pcieLinksComplete : Obligations.PcieLinksComplete := by
  unfold Obligations.PcieLinksComplete
  refine ⟨?on, ?off, fun _ _ => rfl, ?up, ?down, ?surprise, ?hotReset, ?ack, ?pme, ?pmeEnd⟩
  case on =>
    intro s p hp
    change execPxPortEnable p true s = _
    simp [execPxPortEnable, Nat.not_le.2 hp]
  case off =>
    intro s p hp
    change execPxPortEnable p false s = _
    simp [execPxPortEnable, Nat.not_le.2 hp]
  case up =>
    intro s p rate w flit partner hp htrain hdl hwait hfits hcap hflit hrate
    change execPcieLinkUp p rate w flit partner s = _
    cases flit
    · simp [execPcieLinkUp, hp, htrain, hdl, hwait, hfits, hcap, hrate]
    · simp [execPcieLinkUp, hp, htrain, hdl, hwait, hfits, hcap, hflit]
  case down =>
    intro s p hp hdl
    change execPcieLinkDown p false s = _
    simp [execPcieLinkDown, Nat.not_le.2 hp, hdl]
  case surprise =>
    intro s p hp hdl
    change execPcieLinkDown p true s = _
    simp [execPcieLinkDown, Nat.not_le.2 hp, hdl]
  case hotReset =>
    intro s p hrole hdl
    change execHotResetReceive p s = _
    simp [execHotResetReceive, hrole, hdl]
  case ack =>
    intro s id x hdue hnone
    change execPcieEgressAck id s = _
    simp [execPcieEgressAck, hdue, hnone]
  case pme =>
    rintro s p k hslot hrole hdl ⟨n, hn, b, hb, hkind⟩
    refine ⟨s.pmeTurnOff k, ?_, State.pmeTurnOff_waits hn hb hkind⟩
    change execPmeTurnOffReceive p s = _
    simp [execPmeTurnOffReceive, hslot, hrole, hdl]
  case pmeEnd =>
    intro s u k hexp
    change execPmeToAckTimeout k s = _
    simp [execPmeToAckTimeout, hexp]

/-- Channel 0 of the data mover runs for the partition in slot 0, whose host has set Bus Master Enable. -/
def channelRunning : State :=
  ((((State.reset.set PART_CTRL_VALID 1 0).set DM_ASSIGN_VALID 1 0).set DM_CTRL_ENABLE 1 0).set DM_STATUS_STATE 1 0).cfgSet 0 fnMgmt cfgCommand 2 true

/-- Bus Master Enable 0 pauses the channel (R291), and DM_STATUS.STATE says so. -/
theorem busMasterEnable_false_pauses : (channelRunning.epBme 0 false).get DM_STATUS_STATE 0 = 3 := by decide

/-- Refutes O11: when Bus Master Enable is cleared, not only the bit falls: the channels of the partition pause, and their DM_STATUS.STATE
follows. -/
theorem not_hostWritesComplete : ¬ Obligations.HostWritesComplete := by
  unfold Obligations.HostWritesComplete
  rintro ⟨-, -, -, -, -, hendpoint⟩
  obtain ⟨-, -, hclear, -⟩ := hendpoint channelRunning 0 (by decide)
  change execBusMasterEnable 0 false channelRunning = _ at hclear
  rw [execBusMasterEnable, if_pos (by decide)] at hclear
  have hstate := busMasterEnable_false_pauses
  rw [Host.Outcome.next.inj hclear] at hstate
  exact absurd hstate (by decide)

end Sys2Proof.Machine

/-! ## Link power, margining, SPDM and lane groups (R275 to R277, R286, R292, R293, R301) -/

namespace Sys2Proof.Machine

/-- What the node sends stands behind what it sent before. -/
@[simp] theorem State.out_emit (s : State) (e : Emit) : (s.emit e).out = s.out ++ [e] := rfl

/-- A port event leaves every field of another register. -/
theorem State.get_evtPort_reg {f : Fld} {p j i : Nat} (s : State) (h : f.reg.ctorIdx < 512 ∧ f.reg.ctorIdx ≠ PMON_EVT_COUNT.reg.ctorIdx) :
    (s.evtPort p j).get f i = s.get f i :=
  get_set_reg s ⟨⟨h.1, by decide⟩, h.2⟩

/-- The four dual ports are all given to the fabric. -/
def State.allFabric (s : State) : State := (List.range 4).foldl (fun s n => s.set PX_DUAL_FABRIC (setBit (s.get PX_DUAL_FABRIC) n true)) s

theorem State.portEnabled_set_fabric (s : State) (v p : Nat) : (s.set PX_DUAL_FABRIC v).portEnabled p = s.portEnabled p := by
  unfold portEnabled on
  rw [get_set_reg _ (by decide), get_set_reg _ (by decide)]

/-- Each bit set, whatever the four were before. -/
theorem State.get_allFabric (s : State) : s.allFabric.get PX_DUAL_FABRIC = 15 := by
  have hall : ∀ y < 16, ((((y ||| 1) ||| 2) ||| 4) ||| 8) = 15 := by decide
  have hset (t : State) (n : Nat) : (t.set PX_DUAL_FABRIC n).get PX_DUAL_FABRIC = n % 2 ^ 4 := get_set_same t PX_DUAL_FABRIC n 0
  simp only [allFabric, List.range_succ, List.range_zero, List.nil_append, List.cons_append, List.foldl_cons, List.foldl_nil, setBit, if_true, hset,
    Nat.or_mod_two_pow, Nat.mod_mod]
  exact hall _ (Nat.mod_lt _ (by decide))

/-- With all four given to the fabric neither plane is lost. -/
theorem exec_pxDualWrite_all {s : State} (hoff : ∀ n < 4, s.portEnabled (44 + n) = false) : exec (.pxDualWrite 15) s = .next s.allFabric.pllCheck := by
  have hfold : (List.range 4).foldl (init := s) (fun s n => if s.portEnabled (44 + n) then s
      else s.set PX_DUAL_FABRIC (setBit (s.get PX_DUAL_FABRIC) n (Nat.testBit 15 n))) = s.allFabric := by
    have hbit : ∀ n < 4, Nat.testBit 15 n = true := by decide
    have hport : s.portEnabled 44 = false ∧ s.portEnabled 45 = false ∧ s.portEnabled 46 = false ∧ s.portEnabled 47 = false :=
      ⟨hoff 0 (by decide), hoff 1 (by decide), hoff 2 (by decide), hoff 3 (by decide)⟩
    simp [State.allFabric, List.range_succ, State.portEnabled_set_fabric, hport, hbit]
  have hmode (p : Nat) (hlow : 44 ≤ p) (hhigh : p ≤ 47) : s.allFabric.fabricMode p = true := by
    have hbit : ∀ n ≤ 3, bit 15 n = true := by decide
    simp [State.fabricMode, hlow, hhigh, State.get_allFabric, hbit (p - 44) (by omega)]
  change execPxDualWrite 15 s = _
  rw [execPxDualWrite, hfold]
  simp [fabPort, hmode]

/-- Settles O12: each command takes the branch that the port or the lane group names; with all four ports given to the fabric no plane is lost. -/
theorem pciePowerAndLanesComplete : Obligations.PciePowerAndLanesComplete := by
  unfold Obligations.PciePowerAndLanesComplete
  refine ⟨?l1, ?narrow, ?widen, ?carry, ?answer, ?spdm, ?split, ?pmap, ?dual⟩
  case l1 =>
    intro s p hdl hen hlp hpm hidle
    change ∃ t, execL1IdleExpiry p s = .next t ∧ _
    simp [execL1IdleExpiry, hdl, hen, hlp, hpm, hidle, State.get_evtPort_reg _ (f := PX_PORT_STAT_PM) (by decide)]
    decide
  case narrow =>
    intro s p hdl hwide hflit hauto hlp hmin
    change ∃ t, execL0pNarrow p s = .next t ∧ _
    simp [execL0pNarrow, hdl, hwide, hflit, hauto, hlp, hmin]
  case widen =>
    intro s p hdl hl0p
    change ∃ t, execL0pWiden p s = .next t ∧ _
    simp [execL0pWiden, hdl, hl0p]
  case carry =>
    intro s p lane rcv cmd pay hp hdl hlane hrcv
    change execMarginCommand p lane rcv cmd pay s = _
    simp [execMarginCommand, hp, hdl, hlane, hrcv]
  case answer =>
    intro s p lane rcv cmd pay hp hdl hlane hrcv
    change ∃ t, execMarginCommand p lane rcv cmd pay s = .next t ∧ _
    simp [execMarginCommand, hp, hdl, hlane, hrcv, State.emit]
  case spdm =>
    intro s k hused hact
    change ∃ t, execSpdmRequest k 0x84 s = .next t ∧ _
    simp [execSpdmRequest, hused, hact, spdmRsp, Tab.get_put_same]
  case split =>
    rintro s _ g v hg hidle hv rfl hok hnum
    change execPxBifWrite g v s = _
    have hgroup : ¬ 9 ≤ g := by omega
    have hbit : v.testBit 6 = false := Nat.testBit_lt_two_pow hv
    simp [execPxBifWrite, hgroup, hidle, hbit, hok, hnum]
  case pmap =>
    rintro s _ g v hg hidle rfl hnum
    change execPxPmapWrite g v s = _
    have hgroup : ¬ 8 ≤ g := by omega
    simp only [execPxPmapWrite, hgroup, hidle, hnum]
    rfl
  case dual =>
    intro s hoff
    exact ⟨_, exec_pxDualWrite_all hoff, s.allFabric, rfl, s.get_allFabric⟩

end Sys2Proof.Machine

/-! ## The switch core (R138 to R153, R239) -/

namespace Sys2Proof.Machine

/-- Settles O13: each command takes the branch that the packet, the pool and the timer name. -/
theorem switchCoreCompletes : Obligations.SwitchCoreCompletes := by
  unfold Obligations.SwitchCoreCompletes
  refine ⟨?charge, ?refuse, ?hold, ?fabric, ?pcie, ?departFabric, ?departPcie, ?stall, ?single, ?double⟩
  case charge =>
    intro s i e p vc k hfind hcharge hentry hgone hcan hnext
    change execChargeMove i e vc s = _
    rw [execChargeMove, hfind]
    simp [hcharge, hentry, hgone, hcan, hnext]
  case refuse =>
    intro s u id k hexp hpkt harr hcharge hpass
    change execRefuseWaitExpiry id s = _
    simp only [execRefuseWaitExpiry, hexp, hpkt]
    simp [harr, ← hcharge, hpass]
  case hold =>
    intro s u p n q d hexp
    change execHoldExpiry p n q d s = _
    simp only [execHoldExpiry, hexp]
  case fabric =>
    intro s e he hmode hcarries
    change execEgressSelect e s = _
    simp [execEgressSelect, he, hmode, hcarries]
  case pcie =>
    intro s e he hmode hdl hidle
    change execEgressSelect e s = _
    simp [execEgressSelect, he, hmode, hdl, hidle]
  case departFabric =>
    intro s id k hpkt hstarted hcomplete hmode hgone
    change execPacketDeparture id s = _
    simp [execPacketDeparture, hpkt, hstarted, hcomplete, hmode, hgone]
  case departPcie =>
    rintro s _ id k q hpkt hstarted hcomplete hmode hsending rfl hq
    change execPacketDeparture id s = _
    simp [execPacketDeparture, hpkt, hstarted, hcomplete, hmode, hsending, hq]
  case stall =>
    rintro s _ i e t rfl hrules hmin
    change execStallThresholdExpiry i e s = _
    simp only [execStallThresholdExpiry, hmin]
    simp [hrules]
  case single =>
    intro s id k hpkt
    change execBufferEccError id false s = _
    simp [execBufferEccError, hpkt]
  case double =>
    rintro s _ id k hpkt hstarted _ hpass hsrc rfl harr
    change execBufferEccError id true s = _
    have hport : ¬ 48 ≤ k.src := by omega
    simp only [execBufferEccError, hpkt, hport, hstarted, Bool.not_true, Bool.false_eq_true, Bool.false_and, if_false]
    exact if_pos ((Bool.and_eq_true _ _).mpr ⟨harr, by simp [hpass]⟩)

end Sys2Proof.Machine

/-! ## The journal (R155 to R190) -/

namespace Sys2Proof.Machine

/-- Settles O14: each control record is taken and acted on item by item; an internal transaction that is none of the reserve, of a channel or of
a Turn is admitted and queued. -/
theorem journalRecordsComplete : Obligations.JournalRecordsComplete := by
  unfold Obligations.JournalRecordsComplete
  refine ⟨?admission, ?receipt, ?gap, ?undeliv, ?purge, ?purgeAck, ?rewind⟩
  case admission =>
    rintro s u _ x i e hpick hres hdm hturn hadmit hentry rfl
    change execInternalAdmission s = _
    simp [execInternalAdmission, hpick, hres, hdm, hturn, hadmit, hentry]
  case receipt =>
    intro s u n xs htake
    change execReceiptReceive n xs s = _
    simp only [execReceiptReceive, htake]
  case gap =>
    intro s u n xs htake
    change execGapReceive n xs s = _
    simp only [execGapReceive, htake]
  case undeliv =>
    intro s u n xs htake
    change execUndelivReceive n xs s = _
    simp only [execUndelivReceive, htake]
  case purge =>
    intro s u n xs hleaving htake
    change execPurgeReceive n xs s = _
    have hgo : ¬ (xs.any fun x => s.leavingUpTo (dedupKey n x.part x.vc) x.seqA) = true := by
      rw [List.any_eq_true]
      rintro ⟨x, hx, hl⟩
      exact absurd hl (by simp [hleaving x hx])
    rw [execPurgeReceive, if_neg hgo, htake]
  case purgeAck =>
    intro s u n a more htake
    change execPurgeAckReceive n (a :: more) s = _
    simp only [execPurgeAckReceive, htake]
  case rewind =>
    intro s u n htake
    change execRewindReceive n s = _
    simp only [execRewindReceive, htake]

/-- The destination stands in the flow of an entry. -/
theorem entryFlow_dst (e : Entry) (h : e.record.dstNode < 16) : entryFlow e / 8 % 16 = e.record.dstNode := by
  have hvc : e.record.vc.code < 8 := by cases e.record.vc <;> decide
  simp only [entryFlow, flowKey]
  omega

/-- Settles O16: each timer's command takes the branch of a timer that has run; the commands of group 0x08 run at this node, and where no entry
goes to the destination there is nothing to purge. -/
theorem journalTimersComplete : Obligations.JournalTimersComplete := by
  unfold Obligations.JournalTimersComplete
  refine ⟨?receipt, ?rtx, ?held, ?unreach, ?age, ?ageUnsent, ?quota, ?purge, ?read⟩
  case receipt =>
    intro s u n hexp
    change execReceiptSend n s = _
    simp only [execReceiptSend, hexp]
  case rtx =>
    intro s u q d hexp
    change execRetransmitTimerExpiry q d s = _
    simp only [execRetransmitTimerExpiry, hexp]
  case held =>
    intro s u q d hexp
    change execHeldTimeout q d s = _
    simp only [execHeldTimeout, hexp]
  case unreach =>
    intro s u q d hexp
    change execUnreachableTimeout q d s = _
    simp only [execUnreachableTimeout, hexp]
  case age =>
    intro s u id q e hexp hentry hseq
    change execCplAgePurge id s = _
    simp only [execCplAgePurge, hexp, hentry, hseq]
  case ageUnsent =>
    intro s u id e hexp hentry hseq
    change execCplAgePurge id s = _
    simp only [execCplAgePurge, hexp, hentry, hseq]
  case quota =>
    rintro s _ k r hrun rfl hdst hquota
    change execSetJournalQuota k s = _
    have hbad : ¬ (16 ≤ r.arg 2 1 ∨ 98304 < r.arg 4 4) := by omega
    simp [execSetJournalQuota, State.omi_here hrun, hbad]
  case purge =>
    rintro s _ k r hrun rfl hdst hpart hmask hnone hnodes
    change execPurgeDestination k s = _
    have hbad : ¬ 16 ≤ r.arg 1 1 := by omega
    have hnothing : ∀ e ∈ (s.begun r false).jnl.entries, ¬ entryFlow e / 8 % 16 = r.arg 1 1 := fun e he => by
      rw [entryFlow_dst e (hnodes e he)]
      exact hnone e he
    simp only [execPurgeDestination, State.omi_here hrun]
    simp [hbad, hpart, hmask, if_pos hnothing]
  case read =>
    rintro s _ k r _ d hrun rfl rfl hd hpart hvc hdir rfl
    change execReadFlow k s = _
    have hbad : ¬ 16 ≤ r.arg 1 1 ∧ ¬ 64 ≤ r.arg 2 1 ∧ ¬ 4 < r.arg 3 1 := by omega
    simp [execReadFlow, State.omi_here hrun, hbad, hdir]

end Sys2Proof.Machine

/-! ## Power fail, samples and recovery (R178 to R186, R484 to R493) -/

namespace Sys2Proof.Machine

/-- Settles O17: each command takes the branch that the phase, the timer and the channel name. -/
theorem powerFailCompletes : Obligations.PowerFailCompletes := by
  unfold Obligations.PowerFailCompletes
  refine ⟨fun _ => rfl, fun _ => rfl, ?drainMax, ?complete, fun _ => rfl, ?good, ?fail, ?write⟩
  case drainMax =>
    intro s u hexp hphase
    change execDrainMaxExpiry s = _
    simp [execDrainMaxExpiry, hexp, State.pfPhase, hphase]
  case complete =>
    rintro s _ hphase rfl
    change execPersistComplete s = _
    exact if_pos hphase
  case good =>
    intro s u b hexp
    change execFeedGoodExpiry b s = _
    simp only [execFeedGoodExpiry, hexp]
  case fail =>
    intro s u hexp
    change execFeedPfTimeout s = _
    simp only [execFeedPfTimeout, hexp]
  case write =>
    intro s n hn hfit
    change execPstWriteFailure n s = _
    have hchan : ¬ 1 < n := by omega
    simp [execPstWriteFailure, hchan, hfit]

/-- Settles O18: both feeds are read, a measurement below both limits raises no error, two channels of 8 GiB serve together, and where
no area is kept the node starts cold. -/
theorem samplesAndRecoveryComplete : Obligations.SamplesAndRecoveryComplete := by
  unfold Obligations.SamplesAndRecoveryComplete
  refine ⟨?feeds, ?huv, ?check, ?recovery⟩
  case feeds =>
    rintro s _ a b ha rfl hb
    change execFeedSample a b s = _
    simp [execFeedSample, ha, hb]
  case huv =>
    intro s v htop hv
    change execHuvSample v s = _
    have hlow : ¬ 1188000 ≤ v := by omega
    have hin : ¬ s.get PST_VLIM_V_TOP * 10 < senseMv v (s.get PST_HUV_CFG_DIV) / 10 := by omega
    simp [execHuvSample, hlow, hin]
  case check =>
    intro s hchecked hrec h0 h1
    change execPstChannelCheck (some 8) (some 8) s = _
    simp [execPstChannelCheck, hchecked, hrec, h0, h1, b2n]
  case recovery =>
    intro s hchecked hrec h0 h1
    have hknown : s.known = [] := by simp [State.known, h0, h1]
    change execPersistRecovery false s = _
    simp [execPersistRecovery, hchecked, hrec, hknown]

end Sys2Proof.Machine

/-! ## Link delay, announcements and what sets the Spindle (R195 to R206) -/

namespace Sys2Proof.Machine

/-- An event of the node leaves every field of another register. -/
theorem State.get_evtNode_reg {f : Fld} {g j i : Nat} (s : State) (h : f.reg.ctorIdx < 512 ∧ f.reg.ctorIdx ≠ PMON_EVT_COUNT.reg.ctorIdx) :
    (s.evtNode g j).get f i = s.get f i :=
  get_set_reg s ⟨⟨h.1, by decide⟩, h.2⟩

/-- The Spindle is read as before where time, its base and the slew limit stay. -/
theorem State.spindle_congr {s t : State} (hnow : t.now = s.now) (hat : t.spn.at_ = s.spn.at_) (hbase : t.spn.base = s.spn.base)
    (hrate : t.spn.rate = s.spn.rate) (hslew : t.spn.slew = s.spn.slew) (hmax : t.get SPN_HOLD_SLEW_MAX = s.get SPN_HOLD_SLEW_MAX) :
    t.spindle = s.spindle := by
  simp only [spindle, hnow, hat, hbase, hrate, hslew, hmax]

/-- The state in which an answered exchange of port `p` is over. -/
def State.exchOver (s : State) (p : Nat) : State := ({ s with spn.exch := Tab.put none s.spn.exch p none }.stop (.exch p)).evtNode 3 0

theorem State.stamp_exchOver (s : State) (p : Nat) : (s.exchOver p).stamp = s.stamp := by
  have hmax : (s.exchOver p).get SPN_HOLD_SLEW_MAX = s.get SPN_HOLD_SLEW_MAX := get_evtNode_reg _ (by decide)
  rw [stamp, stamp, spindle_congr (t := s.exchOver p) (s := s) rfl rfl rfl rfl rfl hmax]

/-- The state in which port `p` has the delays `ds`, whose mean stands in its register. -/
def State.delayed (s : State) (p : Nat) (ds : List Int) : State :=
  { s with spn.delays := Tab.put [] s.spn.delays p ds }.set SPN_PORT_DELAY (min 0xFFFF (ds.sum / (256 * ds.length)).toNat) p

theorem State.delays_delayed (s : State) (p : Nat) (ds : List Int) : Tab.get [] (s.delayed p ds).spn.delays p = ds := by
  change Tab.get [] (Tab.put [] s.spn.delays p ds) p = ds
  exact Tab.get_put_same ..

/-- An answer that does not come from the parent measures the delay alone. -/
theorem exec_delayResponseReceive_delayed {s u : State} {p id t3 t2 t1 st : Nat} {h : FlitHdr} {gm : Bool} (hfab : s.isFab p = true)
    (hpass : s.rxCheck p h false = (.pass, u)) (hexch : Tab.get none (u.ackProcess p h.ack).spn.exch p = some (id, t1))
    (hparent : (u.ackProcess p h.ack).spn.parent ≠ some p) :
    exec (.delayResponseReceive p h id t3 t2 t1 st gm) s = .next (((u.ackProcess p h.ack).exchOver p).delayed p
      ((((((u.ackProcess p h.ack).stamp : Int) - t1) - ((t3 : Int) - t2)) / 2 :: Tab.get [] (u.ackProcess p h.ack).spn.delays p).take 8)) := by
  change execDelayResponseReceive p h id t3 t2 t1 st gm s = _
  unfold execDelayResponseReceive
  rw [hpass]
  generalize hv : u.ackProcess p h.ack = v at hexch hparent
  have hown : ¬ (Tab.get none v.spn.exch p != some (id, t1)) = true := by simp [hexch]
  have hother : (v.spn.parent != some p) = true := by simpa using hparent
  rw [← State.stamp_exchOver v p]
  refine (if_neg (by simp [hfab])).trans ((if_neg (by simp)).trans ?_)
  subst hv
  exact (if_neg hown).trans (if_pos hother)

/-- Settles O19: each command takes the branch that the port's exchange, the announcement and the timer name; the Spindle is read as it stood
when the answer came. -/
theorem timeExchangesComplete : Obligations.TimeExchangesComplete := by
  unfold Obligations.TimeExchangesComplete
  refine ⟨?start, ?request, ?response, ?abandon, ?announce, ?announced, ?absent, ?settle⟩
  case start =>
    rintro s _ p hfab hactive hidle rfl
    change ∃ t, execDelayExchangeStart p s = .next t ∧ _
    simp only [execDelayExchangeStart, hfab, hactive, hidle]
    refine ⟨_, rfl, ?_, rfl, rfl, rfl⟩
    rw [State.link_updLink_same]
    rfl
  case request =>
    rintro s u _ p id t1 st h gm hfab hpass rfl
    change execDelayRequestReceive p h id t1 st gm s = _
    simp [execDelayRequestReceive, hfab, hpass]
  case response =>
    rintro s u _ p id t3 t2 t1 st h gm _ hfab hpass rfl hexch hparent rfl
    refine ⟨_, exec_delayResponseReceive_delayed hfab hpass hexch hparent, ?_, State.delays_delayed .., Tab.get_put_same none _ p none⟩
    rw [State.delayed, State.get_set_same]
    exact Nat.mod_eq_of_lt (by change _ < 2 ^ 16; omega)
  case abandon =>
    intro s u p hexp
    change ∃ t, execDelayExchangeAbandon p s = .next t ∧ _
    simp only [execDelayExchangeAbandon, hexp]
    refine ⟨_, rfl, ?_, Tab.get_put_same none _ p none⟩
    rw [State.get_evtNode_reg _ (by decide)]
    exact State.get_set_same ..
  case announce =>
    rintro s _ _ rfl rfl
    rfl
  case announced =>
    rintro s u _ p m htake rfl hparent
    change execTimeAnnouncementReceive p m s = _
    simp only [execTimeAnnouncementReceive, htake]
    exact if_pos (by simpa using hparent)
  case absent =>
    intro s u p hexp
    change execAnnounceAbsent p s = _
    simp only [execAnnounceAbsent, hexp]
  case settle =>
    intro s u c hexp hrival
    change execGmCandidateSettle s = _
    simp only [execGmCandidateSettle, hexp, hrival]

/-- Settles O20: each command takes the branch that the node's part in the time and the step named allow. -/
theorem timeSourcesComplete : Obligations.TimeSourcesComplete := by
  unfold Obligations.TimeSourcesComplete
  refine ⟨?pps, ?ppsLoss, ?set, ?step, ?host, ?ptm, ?holdover⟩
  case pps =>
    intro s hen hgm hcap
    change ∃ t, execPpsInEdge s = .next t ∧ _
    have hnot : (!((s.capture 8 true).set SPN_PPS_PPS_ERR
        (((max (-32767) (min 32767 (ppsError (s.capture 8 true).spindleNs))) % 65536).toNat)).isGm) = true := by
      have hsame : ((s.capture 8 true).set SPN_PPS_PPS_ERR
          (((max (-32767) (min 32767 (ppsError (s.capture 8 true).spindleNs))) % 65536).toNat)).isGm = (s.capture 8 true).isGm := by
        simp only [State.isGm, State.nodeId]
        rw [State.get_set_reg _ (by decide)]
        rfl
      rw [hsame, hcap]
      rfl
    simp only [execPpsInEdge, hen, Bool.not_true, Bool.false_eq_true, if_false]
    refine ⟨_, if_pos hnot, ?_⟩
    rw [State.get_set_same]
    exact Nat.mod_eq_of_lt (by change _ < 2 ^ 16; omega)
  case ppsLoss =>
    intro s u hexp hlock
    change execPpsInLoss s = _
    simp [execPpsInLoss, hexp, hlock]
  case set =>
    rintro s _ k r _ hrun rfl hmode hgm hvalid hstep rfl hd
    change execSetSpindle k s = _
    have hsmall : ¬ 65536000000 < ((r.arg 4 2 : Int) + (r.arg 6 8 : Int) * 65536 - (s.begun r false).spindle).natAbs := by omega
    simp only [execSetSpindle, State.omi_here hrun]
    simp [hmode, hgm, hvalid, hstep, hsmall]
  case step =>
    rintro s _ t d hstep rfl hgood
    change execCoordinatedStep s = _
    simp only [execCoordinatedStep, hstep]
    simp [hgood]
  case host =>
    rintro s _ time hen hgm hrole hdl rfl hd
    change execPtmHostExchange time s = _
    simp only [execPtmHostExchange, hen, hgm, hrole, hdl]
    simp only [Bool.not_true, bne_self_eq_false, Bool.or_self, Bool.false_eq_true, if_false]
    rw [if_neg (Nat.not_lt.2 hd)]
  case ptm =>
    intro s p hdl hrole
    change execPtmRequestReceive p s = _
    simp [execPtmRequestReceive, hdl, hrole]
  case holdover =>
    intro s u hexp hst
    change execHoldoverTimeout s = _
    simp [execHoldoverTimeout, hexp, hst]

end Sys2Proof.Machine

/-! ## Time pins and Turns (R207 to R217, R420) -/

namespace Sys2Proof.Machine

/-- PPS rises: the output is high, its fall is timed. -/
def State.ppsUp (s : State) : State :=
  ({ s with spn.ppsHigh := true }.start .ppsFall (s.get SPN_PPS_PPS_WIDTH * 1000000)).emit (.ppsOut true)

theorem State.ppsUp_facts (s : State) : s.ppsUp.spn.ppsHigh = true ∧ s.ppsUp.runs .ppsFall = true ∧ .ppsOut true ∈ s.ppsUp.out := by
  unfold ppsUp
  exact ⟨rfl, by simp, by simp⟩

/-- Settles O21: an unassigned pin is taken without more ado; the pulse, the edge and PPS by their commands. -/
theorem timePinsComplete : Obligations.TimePinsComplete := by
  unfold Obligations.TimePinsComplete
  refine ⟨?assign, ?pulse, ?edge, ?rise, ?fall⟩
  case assign =>
    rintro s _ k r hrun rfl hpin hn hpart hfree
    change execAssignTimePin k s = _
    have hin : ¬ 8 ≤ r.arg 3 1 := by omega
    have hkeep : r.arg 4 1 / 128 = 0 := by omega
    simp [execAssignTimePin, State.omi_here hrun, hpin, hin, hkeep, hfree, Nat.mod_eq_of_lt hpart]
  case pulse =>
    intro s u n hexp
    change ∃ t, execTimeOutPulseFall n s = .next t ∧ _
    simp only [execTimeOutPulseFall, hexp]
    refine ⟨_, rfl, rfl, ?_⟩
    simp only [State.on, State.driveOut, State.get_emit]
    change (((u.set SPN_PIN_OUT_LEVEL 0 n).get SPN_PIN_OUT_LEVEL n) != 0) = false
    rw [State.get_set_same]
    rfl
  case edge =>
    intro s n rising hn hmode hedge
    change execTimeInEdge n rising s = _
    simp [execTimeInEdge, hn, hmode, hedge]
  case rise =>
    intro s hen hgood hlow
    have hgo : ¬ (!s.on SPN_CTRL_PPS_OUT_EN || !s.timeGood || s.spn.ppsHigh) = true := by simp [hen, hgood, hlow]
    exact ⟨(s.until (ceilDiv s.spindleNs 1000000000 * 1000000000)).ppsUp, if_neg hgo, State.ppsUp_facts _⟩
  case fall =>
    intro s u hexp
    change ∃ t, execPpsOutFall s = .next t ∧ _
    simp only [execPpsOutFall, hexp]
    exact ⟨_, rfl, rfl, rfl, rfl⟩

/-- A command on a Turn entry that exists, by an issuer who may. -/
theorem State.onTurn_eq {s : State} {r : OmiRun} {read : Bool} (f : Nat → Turn → State × Option OmiRsp) (hi : r.arg 2 2 < 1024)
    (hmay : (r.priv == 1 || (r.priv == 2 && read) || (s.turn (r.arg 2 2)).owner.any fun p => r.mayOwn p) = true) :
    s.onTurn r read f = f (r.arg 2 2) (s.turn (r.arg 2 2)) := by
  have hin : ¬ 1023 < r.arg 2 2 := by omega
  simp [onTurn, hin, hmay]

/-- Settles O22: each command of group 0x06 runs on an entry that exists for an issuer who may; the engine takes the branch that the entry and
the Spindle name. -/
theorem turnsComplete : Obligations.TurnsComplete := by
  unfold Obligations.TurnsComplete
  refine ⟨?assign, ?write, ?arm, ?disarm, ?read, ?fetch, ?launch, ?drop⟩
  case assign =>
    rintro s _ k r _ hrun rfl hpart hzero hn hlast rfl hfree
    change execAssignTurns k s = _
    have hbit6 : (r.arg 2 1).testBit 6 = false := Nat.testBit_lt_two_pow hpart
    have hbit7 : (r.arg 2 1).testBit 7 = false := Nat.testBit_lt_two_pow (by omega)
    have hbad : ¬ (1023 < r.arg 4 2) ∧ ¬ r.arg 6 2 = 0 ∧ ¬ 1024 < r.arg 4 2 + r.arg 6 2 := by omega
    have hnone : (((List.range (r.arg 6 2)).map fun i => r.arg 4 2 + i).any fun i => ((s.begun r false).turn i).armed ||
        (((s.begun r false).turn i).owner.any fun p => p != r.arg 2 1)) = false := by
      rw [List.any_eq_false]
      intro i hi
      obtain ⟨harmed, howner⟩ := hfree i hi
      simp [harmed, howner]
    simp only [execAssignTurns, State.omi_here hrun, hbit6, hbit7, Nat.mod_eq_of_lt hpart, hnone]
    simp [hbad, hzero]
  case write =>
    rintro s _ k _ r _ _ hrun rfl rfl hi rfl howner hpriv harmed rfl hlegal
    change execWriteTurn k s = _
    have hmay : (r.priv == 1 || (r.priv == 2 && false) || ((s.begun r false).turn (r.arg 2 2)).owner.any fun p => r.mayOwn p) = true := by
      simp [howner, OmiRun.mayOwn, hpriv]
    simp [execWriteTurn, State.omi_here hrun, State.onTurn_eq _ hi hmay, harmed, hlegal]
  case arm =>
    rintro s _ k _ r _ hrun rfl rfl hi rfl hpriv hgood haction harmed hperiod hstart
    change execArmTurn k s = _
    have hmay : (r.priv == 1 || (r.priv == 2 && false) || ((s.begun r false).turn (r.arg 2 2)).owner.any fun p => r.mayOwn p) = true := by
      simp [hpriv]
    have hlate : ¬ ((s.begun r false).turn (r.arg 2 2)).start < (s.begun r false).spindleNs + 2000 := by omega
    simp [execArmTurn, State.omi_here hrun, State.onTurn_eq _ hi hmay, hgood, haction, harmed, hperiod, hlate]
  case disarm =>
    rintro s _ k _ r _ hrun rfl rfl hi rfl hpriv
    change execDisarmTurn k s = _
    have hmay : (r.priv == 1 || (r.priv == 2 && false) || ((s.begun r false).turn (r.arg 2 2)).owner.any fun p => r.mayOwn p) = true := by
      simp [hpriv]
    simp [execDisarmTurn, State.omi_here hrun, State.onTurn_eq _ hi hmay]
  case read =>
    rintro s _ k _ r hrun rfl rfl hi hpriv
    change execReadTurn k s = _
    have hmay : (r.priv == 1 || (r.priv == 2 && true) || ((s.begun r false).turn (r.arg 2 2)).owner.any fun p => r.mayOwn p) = true := by
      simp [hpriv]
    simp [execReadTurn, State.omi_here hrun, State.onTurn_eq _ hi hmay]
  case fetch =>
    rintro s u n _ rfl harmed hsusp hdue hgood hwrites hu
    rw [hu]
    change execTurnFetch n s = _
    simp [execTurnFetch, harmed, hsusp, hdue, hgood, hwrites]
  case launch =>
    rintro s _ n due _ rfl hdue hfirst rfl hslot
    change execTurnLaunch n s = _
    have hlate : decide ((s.until due).now < (s.until due).turnSlot (s.turn n)) = false := decide_eq_false (Nat.not_lt.2 hslot)
    simp only [execTurnLaunch, hdue, hfirst, hlate, Bool.not_true, Bool.false_eq_true, if_false]
  case drop =>
    intro s u id x y hexp hfind hturn
    change execTimedWriteDrop id s = _
    simp only [execTimedWriteDrop, hexp, hfind, hturn]

end Sys2Proof.Machine

/-! ## The scheduler and the data mover's engine (R231 to R271, R419) -/

namespace Sys2Proof.Machine

/-- A stream turns urgent: it is marked, counted and seen by the monitor. -/
def State.turnUrgent (s : State) (k : Nat) : State :=
  (({ s with now := s.now + (s.sch_ SCH_STARVE_LIMIT * 1000 + 1 - s.waited (s.ss k)) }.setSs k { s.ss k with urgent := true }).bump
    SCH_CNT_STARVE_COUNT).evtNode 1 7

theorem State.turnUrgent_facts (s : State) (k : Nat) : ((s.turnUrgent k).ss k).urgent = true ∧
    (s.turnUrgent k).get SCH_CNT_STARVE_COUNT = (s.get SCH_CNT_STARVE_COUNT + 1) % 2 ^ SCH_CNT_STARVE_COUNT.width := by
  refine ⟨?_, ?_⟩
  · change (Tab.get {} (Tab.put {} s.sch.streams k { s.ss k with urgent := true }) k).urgent = true
    rw [Tab.get_put_same]
  · rw [turnUrgent, get_evtNode_reg _ (by decide)]
    exact get_set_same ..

/-- Settles O24: each command takes the branch that the stream, the packet and the table name. -/
theorem schedulerCompletes : Obligations.SchedulerCompletes := by
  unfold Obligations.SchedulerCompletes
  refine ⟨?refill, ?release, ?starve, ?credit, ?quota, ?quanta, ?read⟩
  case refill =>
    intro s u hu
    rw [hu]
    rfl
  case release =>
    rintro s _ id n k hpkt hrel rfl
    change execPacketRelease id s = _
    simp only [execPacketRelease, hpkt, hrel]
  case starve =>
    rintro s _ i e hi he hen hq rfl hready hurgent
    refine ⟨(s.refreshStream i e).turnUrgent (pairKey i e), ?_, State.turnUrgent_facts _ _⟩
    change execStarvationTimerExpiry i e s = _
    have hgo : ¬ (112 ≤ i) ∧ ¬ (48 ≤ e) := by omega
    have hwaits : ¬ (((s.refreshStream i e).ss (pairKey i e)).ready.isNone || ((s.refreshStream i e).ss (pairKey i e)).urgent) = true := by
      simp [hurgent, Option.isSome_iff_ne_none.1 hready]
    exact (if_neg (by simp [hgo, hen, hq])).trans (if_neg hwaits)
  case credit =>
    intro s p h d hdl
    change execFlowControlCreditReturn p .np h d s = _
    simp [execFlowControlCreditReturn, hdl]
  case quota =>
    rintro s _ k r hrun rfl hbad hset hfit
    change execWriteTable k s = _
    have hin : ((tableArgs r).any fun x => 16384 < x.2) = false := by
      rw [List.any_eq_false]
      intro x hx
      simpa using hfit x hx
    simp only [execWriteTable, State.omi_here hrun, hbad, hset, if_true, hin]
    rfl
  case quanta =>
    rintro s _ k r hrun rfl hbad hset hfit
    change ∃ t, execWriteTable k s = .next t ∧ _
    have hin : ((tableArgs r).any fun x => 1023 < x.2) = false := by
      rw [List.any_eq_false]
      intro x hx
      simpa using hfit x hx
    have htwo : ¬ 2 = 1 := by decide
    simp only [execWriteTable, State.omi_here hrun, hbad, hset, htwo, if_false, hin]
    refine ⟨_, rfl, by simp, ?_⟩
    change ((State.set _ SCH_STATUS_PEND 1).get SCH_STATUS_PEND != 0) = true
    rw [State.get_set_same]
    rfl
  case read =>
    rintro s _ k r hrun rfl hbad
    change execReadTable k s = _
    simp only [execReadTable, State.omi_here hrun, hbad]
    rfl

/-- Settles O26: each command takes the branch that the tag, the completion and the channel name. -/
theorem dataMoverEngineCompletes : Obligations.DataMoverEngineCompletes := by
  unfold Obligations.DataMoverEngineCompletes
  refine ⟨?fetch, fun _ _ => rfl, fun _ _ => rfl, ?read, ?timeout, fun _ _ => rfl, ?reset⟩
  case fetch =>
    rintro s _ _ c _ t x _ htag hcpl _ hsc hclean rfl hstale rfl rfl rfl
    change execDescriptorFetchComplete c s = _
    simp only [execDescriptorFetchComplete, htag, hcpl, hstale, hsc, hclean]
    rfl
  case read =>
    rintro s _ tag x g htag hfind hcpl hwire rfl hstale hsc hclean hlast
    change execDmReadCompletion tag x s = _
    have hhigh : ¬ 1984 ≤ tag := by omega
    simp only [execDmReadCompletion, hfind]
    rw [if_neg (by simp [hcpl, hwire, hhigh]), if_neg (by simp [hstale]), if_neg (by simp [hsc, hclean]), if_pos hlast]
  case timeout =>
    intro s u tag g hexp hfind htag
    change execDmReadTimeout tag s = _
    have hhigh : ¬ 1984 ≤ tag := by omega
    simp only [execDmReadTimeout, hexp, hfind]
    exact if_neg hhigh
  case reset =>
    rintro s u _ c p cls hexp hnew rfl
    change execChannelResetComplete c s = _
    simp only [execChannelResetComplete, hexp, hnew]

end Sys2Proof.Machine

/-! ## Partitions (R82 to R87, R103, R105, R110, R111, R416) -/

namespace Sys2Proof.Machine

/-- Settles O27: each command runs at this node and takes the branch that the partition's state and the operands name. -/
theorem partitionLifeCompletes : Obligations.PartitionLifeCompletes := by
  unfold Obligations.PartitionLifeCompletes
  refine ⟨?create, ?delete, ?reset, ?resetEnd, ?install⟩
  case create =>
    rintro s _ _ _ k r _ _ hrun rfl hpart hhome hport hslot hnew hfree hunused rfl rfl rfl rfl
    change execCreatePartition k s = _
    have hin : ¬ 64 ≤ r.arg 0 1 ∧ ¬ 16 ≤ r.arg 1 1 ∧ ¬ 48 ≤ r.arg 2 1 ∧ ¬ 16 ≤ r.arg 3 1 := by omega
    simp [execCreatePartition, State.omi_here hrun, hin, hnew, hfree, hunused]
  case delete =>
    rintro s _ _ _ k j r _ hrun rfl hpart hslot hstate rfl hfm hstby rfl rfl
    change execDeletePartition k s = _
    have hin : ¬ 64 ≤ r.arg 0 1 := by omega
    simp [execDeletePartition, State.omi_here hrun, hin, hslot, hstate, hfm, hstby]
  case reset =>
    rintro s _ k j r hrun rfl hpart hown hslot hdel hfree
    change execResetPartition k s = _
    have hin : ¬ 64 ≤ r.arg 0 1 := by omega
    simp [execResetPartition, State.omi_here hrun, hin, hown, hslot, hdel, hfree]
  case resetEnd =>
    intro s u k hdone hu
    rw [hu]
    change execPartitionResetComplete k s = _
    exact if_neg (by simp [hdone])
  case install =>
    intro s u src f htake hkind hnew hslot
    change execPartitionRecordInstall src f s = _
    simp only [execPartitionRecordInstall, htake, hkind, hnew, hslot]
    simp

/-- Settles O28: each command runs at this node and takes the branch that the holder and the partition name. -/
theorem fabricManagementCompletes : Obligations.FabricManagementCompletes := by
  unfold Obligations.FabricManagementCompletes
  refine ⟨?transfer, ?standby, ?takeover⟩
  case transfer =>
    rintro s _ k r hrun rfl hpart hactive hhome
    change execTransferFabricManagement k s = _
    have hin : ¬ 64 ≤ r.arg 0 1 := by omega
    simp [execTransferFabricManagement, State.omi_here hrun, hin, hactive, hhome]
  case standby =>
    rintro s _ k r _ hrun rfl hpart hset hactive rfl
    change execSetStandby k s = _
    have hin : ¬ 64 ≤ r.arg 0 1 := by omega
    simp [execSetStandby, State.omi_here hrun, hin, hset, hactive]
  case takeover =>
    intro s u hexp
    change execFmTakeoverExpiry s = _
    simp only [execFmTakeoverExpiry, hexp]

/-- Settles O29: each command runs at this node; a partition that holds nothing answers with an empty list. -/
theorem partitionFreezeCompletes : Obligations.PartitionFreezeCompletes := by
  unfold Obligations.PartitionFreezeCompletes
  refine ⟨?freeze, ?thaw, ?read⟩
  case freeze =>
    rintro s _ k r _ hrun rfl hpart hstate rfl
    change execFreezePartition k s = _
    have hin : ¬ 64 ≤ r.arg 0 1 := by omega
    simp [execFreezePartition, State.omi_here hrun, hin, hstate]
  case thaw =>
    rintro s _ _ k r _ hrun rfl hpart hstate rfl rfl
    change execThawPartition k s = _
    have hin : ¬ 64 ≤ r.arg 0 1 := by omega
    simp [execThawPartition, State.omi_here hrun, hin, hstate]
  case read =>
    rintro s _ k j r hrun rfl hpart hown hslot hnone
    change execReadPartition k s = _
    have hin : ¬ 64 ≤ r.arg 0 1 := by omega
    have hempty : ((List.range 32).filterMap fun n => ((s.begun r false).bind j n).map fun b => (n, b)) = [] := by
      rw [List.filterMap_eq_nil_iff]
      intro n hn
      simp [hnone n (List.mem_range.1 hn)]
    simp [execReadPartition, State.omi_here hrun, hin, hown, hslot, hempty, le]

end Sys2Proof.Machine

/-! ## Instances, removals and windows (R91 to R126, R278, R417, R418) -/

namespace Sys2Proof.Machine

/-- Settles O30: each command runs at this node and takes the branch that the function, its owner and the operands name. -/
theorem instanceCommandsComplete : Obligations.InstanceCommandsComplete := by
  unfold Obligations.InstanceCommandsComplete
  refine ⟨?assign, ?remove, ?freeze, ?thaw, ?span, ?vfs, ?vfsEnd, ?managed, ?read⟩
  case assign =>
    rintro s _ k i _ _ _ r hrun rfl rfl howner rfl hlow hhigh hnode rfl hport hbound hspan htag hcpl hfree hdel hvdsp hheld hrole hfind
    change execAssignFunction k s = _
    have hin : ¬ 64 ≤ r.arg 0 1 ∧ ¬ r.arg 1 1 = 0 ∧ ¬ 32 ≤ r.arg 1 1 ∧ ¬ 16 ≤ r.arg 2 1 ∧ ¬ 48 ≤ r.arg 3 1 ∧ ¬ 64 ≤ r.arg 5 1 ∧ ¬ 3 ≤ r.arg 6 1 := by
      omega
    simp [execAssignFunction, State.omi_here hrun, hin, hbound, hcpl, hfree, hdel, hvdsp, hheld, hrole, hfind]
  case remove =>
    rintro s _ k r hrun rfl hnode hinst hplain howner hvdsp hidle hlive
    change execRemoveFunction k s = _
    have hin : ¬ 16 ≤ r.arg 0 1 ∧ ¬ 512 ≤ r.arg 2 2 := by omega
    simp [execRemoveFunction, State.omi_here hrun, hin, hplain, howner, hvdsp, hidle, hlive]
  case freeze =>
    rintro s _ k r hrun rfl hnode hinst hlive hplain
    change execFreezeFunction k s = _
    have hin : ¬ 16 ≤ r.arg 0 1 ∧ ¬ 512 ≤ r.arg 2 2 := by omega
    simp [execFreezeFunction, State.omi_here hrun, hin, hplain, hlive]
  case thaw =>
    rintro s _ k r hrun rfl hnode hinst hpriv hidle hlive
    change execThawFunction k s = _
    have hin : ¬ 16 ≤ r.arg 0 1 ∧ ¬ 512 ≤ r.arg 2 2 := by omega
    simp [execThawFunction, State.omi_here hrun, hin, hpriv, hidle, hlive]
  case span =>
    rintro s _ k _ r hrun rfl hnode rfl hinst hspan hlive hbind hview
    change execSetBusSpan k s = _
    have hin : ¬ 16 ≤ r.arg 0 1 ∧ ¬ 512 ≤ r.arg 2 2 ∧ ¬ 64 ≤ r.arg 1 1 := by omega
    simp [execSetBusSpan, State.omi_here hrun, hin, hlive, hbind, hview]
  case vfs =>
    rintro s _ k _ r hrun rfl hnode rfl hport hrole hjobs hsome hmax
    change ∃ t, execEnableVfs k s = .next t ∧ _
    have hin : ¬ 16 ≤ r.arg 0 1 ∧ ¬ 48 ≤ r.arg 1 1 ∧ ¬ r.arg 4 2 = 0 ∧ ¬ Config.devTotalVfs (r.arg 1 1 * 65536 + r.arg 2 2) < r.arg 4 2 := by
      omega
    have hidle : ¬ ∃ j ∈ (s.begun r false).part.vfJobs, j.port = r.arg 1 1 := fun ⟨j, hj, he⟩ => hjobs j hj he
    simp [execEnableVfs, State.omi_here hrun, hin, hrole, hidle]
  case vfsEnd =>
    intro s u p hexp
    change execEnableVfsTimeout p s = _
    simp only [execEnableVfsTimeout, hexp]
  case managed =>
    rintro s _ k _ r hrun rfl hnode rfl hport hset hunused
    change execSetManagedPort k s = _
    have hin : ¬ 16 ≤ r.arg 0 1 ∧ ¬ 48 ≤ r.arg 1 1 := by omega
    simp [execSetManagedPort, State.omi_here hrun, hin, hset, hunused]
  case read =>
    rintro s _ k r hrun rfl hnode hinst hpriv
    change execReadInstance k s = _
    have hin : ¬ 16 ≤ r.arg 0 1 ∧ ¬ 512 ≤ r.arg 2 2 := by omega
    simp [execReadInstance, State.omi_here hrun, hin, OmiRun.mayOwn, hpriv]

/-- No thaw waits, and none is taken away. -/
theorem State.thaws_nil {s : State} (h : s.part.thaws = []) : { s with part.thaws := [] } = s := by
  rw [← h]

/-- Settles O31: each step takes the branch that the removal, the thaws and the timer name. -/
theorem removalStepsComplete : Obligations.RemovalStepsComplete := by
  unfold Obligations.RemovalStepsComplete
  refine ⟨?drained, ?drainEnd, ?wait, ?ready, ?timeout, ?gen, ?ctx, ?tag⟩
  case drained =>
    intro s i r hrem hdrained
    change execRemovalDrainPoint i s = _
    simp [execRemovalDrainPoint, hrem, hdrained]
  case drainEnd =>
    intro s u i r hexp hrem hmarkers hqueued
    change execRemovalDrainTimeout i s = _
    simp [execRemovalDrainTimeout, hexp, hrem, hmarkers, hqueued]
  case wait =>
    intro s u i hexp
    change ∃ t, execRemovalResetWaitEnd i s = .next t ∧ _
    simp [execRemovalResetWaitEnd, hexp]
  case ready =>
    intro s u i hruns hbind hu hrem
    have hplain : ¬ ((u.removal i).any fun r => r.step == 6) = true := by simp [hrem]
    have hready : ¬ (!s.runs (.remFunc i) || (s.on PART_FN_A_BIND i && !s.dlActive (s.get PART_FN_A_PORT i))) = true := by simp [hruns, hbind]
    subst hu
    exact (if_neg hready).trans
      (congrArg (fun t : State => Host.Outcome.next (t.jobDone (jobReset (s.get PART_FN_A_OWNER i)) i).settle) (if_neg hplain))
  case timeout =>
    rintro s u _ i r hexp rfl hrem hstep
    change execRemovalFunctionTimeout i s = _
    simp [execRemovalFunctionTimeout, hexp, hrem, hstep]
  case gen =>
    intro s u i hexp hnone
    change execGenerationWaitEnd i s = _
    simp [execGenerationWaitEnd, hexp, hnone, State.thaws_nil hnone]
  case ctx =>
    intro s u n c hexp hfind
    change execCompletionTimeout n s = _
    simp only [execCompletionTimeout, hexp, hfind]
  case tag =>
    intro s u p n hexp hport
    change execTagQuarantineEnd p n s = _
    simp [execTagQuarantineEnd, hexp, hport]

/-- Settles O32: each command takes the branch that the partition's banks and the commit in work name. -/
theorem windowCommandsComplete : Obligations.WindowCommandsComplete := by
  unfold Obligations.WindowCommandsComplete
  refine ⟨?write, ?read, ?commit, ?swap, ?copied, ?grant⟩
  case write =>
    rintro s _ k r hrun rfl hpart hidx hlegal hidle
    change execWriteWindowEntry k s = _
    have hin : ¬ r.arg 1 1 < 128 := by omega
    simp [execWriteWindowEntry, State.omi_here hrun, hpart, hin, hlegal, hidle]
  case read =>
    rintro s _ k r hrun rfl hpart hbank hheld
    change execReadWindowEntry k s = _
    simp [execReadWindowEntry, State.omi_here hrun, hpart, hbank, hheld]
  case commit =>
    rintro s _ k r _ hrun rfl hpart hfabric hcheck rfl
    change execCommitWindows k s = _
    simp [execCommitWindows, State.omi_here hrun, hpart, hfabric, hcheck]
  case swap =>
    intro s u q c hexp hfind
    change execCommitSwap q s = _
    simp only [execCommitSwap, hexp, hfind]
  case copied =>
    rintro s u _ q c hexp hfind hcmd hack rfl hwaiting
    change execShadowCopyDone q s = _
    simp only [execShadowCopyDone, hexp, hfind, hcmd, hack, State.finishOpt, hwaiting, List.find?_nil]
  case grant =>
    rintro s _ k _ _ r hrun rfl hpart hop rfl rfl
    change execSetPeerGrant k s = _
    have hin : ¬ 64 ≤ r.arg 0 1 := by omega
    simp [execSetPeerGrant, State.omi_here hrun, hin, hop, grantOp]

end Sys2Proof.Machine

/-! ## The local bus bridge (R303 to R318) -/

namespace Sys2Proof.Machine

/-- A flag set stands. -/
theorem State.on_set_one {f : Fld} {i : Nat} (s : State) (h : 1 % 2 ^ f.width = 1) : (s.set f 1 i).on f i = true := by
  rw [on, get_set_same, h]
  rfl

theorem State.on_set_zero {f : Fld} {i : Nat} (s : State) : (s.set f 0 i).on f i = false := by
  rw [on, get_set_same, Nat.zero_mod]
  rfl

/-- The end of a cycle leaves the bus free. -/
theorem State.cyc_cycleEnds (s : State) (r : LbReq) : (s.cycleEnds r).lb.cyc = none := by
  unfold cycleEnds
  split <;> rfl

/-- Settles O33: each command takes the branch that the cycle, the request, the line and the timer name. -/
theorem localBusCompletes : Obligations.LocalBusCompletes := by
  unfold Obligations.LocalBusCompletes
  refine ⟨?intake, ?start, ?done, ?retry, ?gap, ?timeout, ?line, ?sem, fun _ => rfl, ?enable, ?disable, ?release, ?clear, ?preg⟩
  case intake =>
    intro s u k hu hfree hwrites hreads hpick
    subst hu
    change execLbIntake s = _
    have hroom : ¬ (16 ≤ ((s.refresh 48).lb.reqs.filter fun r => r.write).length || 4 ≤ ((s.refresh 48).lb.reqs.filter fun r => !r.write).length) = true := by
      simp only [Bool.or_eq_true, decide_eq_true_eq]
      omega
    have hany (i : Nat) : (((s.refresh 48).candidate i 48).bind fun k =>
        if (s.refresh 48).semHeld && (s.refresh 48).get LB_SEM_OWNER != k.record.srcPart then none else some k) = (s.refresh 48).candidate i 48 := by
      simp [hfree]
    refine (if_neg hroom).trans ?_
    simp only [hany, hpick]
  case start =>
    intro s r hcyc hen hres hnext hwrite
    change ∃ t, execLbCycleStart s = .next t ∧ _
    simp [execLbCycleStart, hcyc, hen, hres, hnext, hwrite, State.lbPhase]
  case done =>
    intro s c r v hcyc hreq
    refine ⟨?_, ?_⟩
    · change execLbPhaseTermination true false v s = _
      simp only [execLbPhaseTermination, hcyc, hreq]
      rfl
    · change execLbPhaseTermination true true v s = _
      simp only [execLbPhaseTermination, hcyc, hreq]
      rfl
  case retry =>
    rintro s _ c r v hcyc hreq hfirst rfl hmax
    change ∃ t, execLbPhaseTermination false true v s = .next t ∧ _
    simp only [execLbPhaseTermination, hcyc, hreq, hfirst, if_neg (Nat.not_lt.2 hmax), Bool.false_eq_true, if_false, if_true]
    exact ⟨_, rfl, State.runs_start_same .., State.cyc_cycleEnds _ r⟩
  case gap =>
    intro s u id hexp
    change execLbRetryGapExpiry id s = _
    simp only [execLbRetryGapExpiry, hexp]
  case timeout =>
    intro s u c r hexp hcyc hreq
    change execLbPhaseTimeout s = _
    simp only [execLbPhaseTimeout, hexp, hcyc, hreq]
  case line =>
    intro s u n l hexp hline
    change execPrefetchLineExpiry n s = _
    simp only [execPrefetchLineExpiry, hexp, hline]
  case sem =>
    rintro s u _ hexp rfl hint
    change execSemaphoreForcedRelease s = _
    simp only [execSemaphoreForcedRelease, hexp, hint, Bool.false_eq_true, if_false]
  case enable =>
    intro s hoff
    change ∃ t, execLbEnable true s = .next t ∧ _
    simp only [execLbEnable, hoff]
    refine ⟨_, rfl, ?_, State.on_set_one _ (by decide), State.runs_start_same ..⟩
    rw [State.on_start, State.on, State.get_set_reg _ (by decide)]
    exact State.on_set_one s (by decide)
  case disable =>
    intro s hon
    change execLbEnable false s = _
    simp [execLbEnable, hon]
  case release =>
    intro s u hexp
    change ∃ t, execLbResetRelease s = .next t ∧ _
    simp [execLbResetRelease, hexp, State.on_set_zero]
  case clear =>
    intro s
    refine ⟨_, rfl, ?_, State.on_set_zero _⟩
    rw [State.get_set_lsb _ (by decide), State.get_set_same, Nat.zero_mod]
  case preg =>
    intro s c n v hnone
    change execLbPregWrite c n v s = _
    simp [execLbPregWrite, State.dropLines, hnone]

end Sys2Proof.Machine

/-! ## The lane complex (R321 to R338) -/

namespace Sys2Proof.Machine

/-- A lane that regains symbol lock without having been seen to lose it. -/
theorem exec_laneLockRegain_plain {s : State} {p l : Nat} (hl : l < s.formedWidth p) (hunlocked : s.on LN_LANE_STAT_LOCK (laneKey p l) = false)
    (hnever : Tab.get none s.ln.lostAt (laneKey p l) = none) (hmode : (s.flag LN_LANE_STAT_LOCK true (laneKey p l)).fabricMode p = false) :
    exec (.laneLockRegain p l) s = .next { s.flag LN_LANE_STAT_LOCK true (laneKey p l) with
      ln.lostAt := Tab.put none s.ln.lostAt (laneKey p l) none
      ln.short := Tab.put [] s.ln.short (laneKey p l) (Tab.get [] s.ln.short (laneKey p l)) } := by
  change execLaneLockRegain p l s = _
  have hgo : ¬ (decide (s.formedWidth p ≤ l) || s.on LN_LANE_STAT_LOCK (laneKey p l)) = true := by
    simp only [hunlocked, Bool.or_false, decide_eq_true_eq]
    omega
  refine (if_neg hgo).trans ?_
  simp only [hnever, Option.any_none, Bool.false_and, Bool.false_eq_true, if_false]
  refine if_neg ?_
  rw [Bool.not_eq_true]
  exact hmode

/-- The coefficients of a lane under test: C0 alone. -/
def State.testCoefs (s : State) (k : Nat) : State :=
  (((s.set LN_LANE_EQ_C_M2 0 k).set LN_LANE_EQ_C_M1 0 k).set LN_LANE_EQ_C_0 48 k).set LN_LANE_EQ_C_P1 0 k

theorem exec_laneTest_start {s : State} {p l test : Nat} {loop : Bool} (hl : l < s.formedWidth p) (hport : s.portEnabled p = false)
    (hidle : s.on LN_LANE_CTRL_TEST (laneKey p l) = false) (htest : test = 1 ∨ test = 2 ∨ test = 3) :
    exec (.laneTest p l test loop 0) s =
      .next (((s.set LN_LANE_CTRL_TEST test (laneKey p l)).flag LN_LANE_CTRL_LOOP loop (laneKey p l)).testCoefs (laneKey p l)).pllCheck := by
  change execLaneTest p l test loop 0 s = _
  have hgo : ¬ (decide (s.formedWidth p ≤ l) || s.portEnabled p) = true := by
    simp only [hport, Bool.or_false, decide_eq_true_eq]
    omega
  have hnonzero : test % 2 ^ LN_LANE_CTRL_TEST.width ≠ 0 := by
    rcases htest with rfl | rfl | rfl <;> decide
  have hon : ((s.set LN_LANE_CTRL_TEST test (laneKey p l)).flag LN_LANE_CTRL_LOOP loop (laneKey p l)).on LN_LANE_CTRL_TEST (laneKey p l) = true := by
    rw [State.on, State.flag, State.get_set_lsb _ (by decide), State.get_set_same]
    simpa using hnonzero
  refine (if_neg hgo).trans ?_
  simp only [hidle, Bool.false_eq_true, if_false]
  simp only [hon, if_true]
  rfl

/-- Settles O34: each command takes the branch that the port's width, the lane's marks and the PLLs name. -/
theorem lanesComplete : Obligations.LanesComplete := by
  unfold Obligations.LanesComplete
  refine ⟨?lock, ?lockLoss, ?lost, ?regain, ?window, ?clear, ?test⟩
  case lock =>
    intro s q hq hnew
    change execQuadPllLock q s = _
    have hin : ¬ 42 ≤ q := by omega
    simp [execQuadPllLock, hin, hnew]
  case lockLoss =>
    rintro s _ q hlocked rfl
    change execQuadPllLockLoss q s = _
    simp only [execQuadPllLockLoss]
    exact if_neg (by simp [hlocked])
  case lost =>
    intro s p l hl
    change execLaneLockLoss p l s = _
    simp [execLaneLockLoss, hl]
  case regain =>
    intro s p l hl hunlocked _ hnever hmode
    refine ⟨_, exec_laneLockRegain_plain hl hunlocked hnever hmode, ?_⟩
    exact State.on_set_one s (by decide)
  case window =>
    intro s p l n hl hmode hactive hfew
    change ∃ t, execFecWindowEnd p l n s = .next t ∧ _
    have hin : ¬ s.formedWidth p ≤ l := by omega
    have hok : ¬ s.get LN_FIT_CORR_MAX < Tab.get 0 (s.link p).winCorr l := by omega
    simp [execFecWindowEnd, hin, hmode, hactive, hok, Tab.get_put_same]
  case clear =>
    intro s p l
    refine ⟨_, rfl, ?_, ?_⟩
    · rw [State.on, State.get_set_reg _ (by decide), State.get_set_lsb _ (by decide)]
      exact State.on_set_zero s
    · rw [State.get_set_reg _ (by decide), State.get_set_same, Nat.zero_mod]
  case test =>
    intro s p l test loop hl hport hidle htest
    refine ⟨_, exec_laneTest_start hl hport hidle htest, _, rfl, ?_, ?_, ?_⟩
    · have hfit : test % 2 ^ LN_LANE_CTRL_TEST.width = test := by
        rcases htest with rfl | rfl | rfl <;> decide
      simp only [State.testCoefs]
      rw [State.get_set_reg _ (by decide), State.get_set_reg _ (by decide), State.get_set_reg _ (by decide), State.get_set_reg _ (by decide),
        State.flag, State.get_set_lsb _ (by decide), State.get_set_same, hfit]
    · simp only [State.testCoefs]
      rw [State.get_set_lsb _ (by decide), State.get_set_same]
      decide
    · simp only [State.testCoefs, State.get_set_same, Nat.zero_mod]

end Sys2Proof.Machine

/-! ## Slot power (R344 to R359, R423) -/

namespace Sys2Proof.Machine

/-- The state of a channel is written to its register alone. -/
theorem State.get_setSpState_reg {f : Fld} {c st i : Nat} (s : State)
    (h : f.reg.ctorIdx < 512 ∧ f.reg.ctorIdx ≠ SP_STATUS_STATE.reg.ctorIdx) : (s.setSpState c st).get f i = s.get f i := by
  have hreg : (f.reg.ctorIdx < 512 ∧ SP_STATUS_STATE.reg.ctorIdx < 512) ∧ f.reg.ctorIdx ≠ SP_STATUS_STATE.reg.ctorIdx := ⟨⟨h.1, by decide⟩, h.2⟩
  rw [setSpState, flag, get_set_reg (f := SP_STATUS_RAIL_VALID) _ hreg, get_set_reg _ hreg]

theorem State.spState_setSpState (s : State) (c st : Nat) : (s.setSpState c st).spState c = st % 2 ^ SP_STATUS_STATE.width := by
  rw [spState, setSpState, flag, get_set_lsb _ (by decide), get_set_same]

/-- Settles O35: each command reaches a channel that exists and is fitted. -/
theorem slotPowerCommandsComplete : Obligations.SlotPowerCommandsComplete := by
  unfold Obligations.SlotPowerCommandsComplete
  refine ⟨?cmd, ?enable, ?disable, ?cycle⟩
  case cmd =>
    intro s c hc
    refine ⟨?_, ?_, ?_⟩
    · change execSpCmdOn c s = _
      rw [execSpCmdOn, if_pos hc]
    · change execSpCmdOff c s = _
      rw [execSpCmdOff, if_pos hc]
    · change execSpCmdCycle c s = _
      rw [execSpCmdCycle, if_pos hc]
  case enable =>
    rintro s _ k _ r hrun rfl rfl hc hfit
    change execEnableSlot k s = _
    have hin : ¬ 12 ≤ r.arg 1 1 := by omega
    simp [execEnableSlot, State.omi_here hrun, hin, hfit, State.slotAnswer]
  case disable =>
    rintro s _ k _ r hrun rfl rfl hc hfit
    change execDisableSlot k s = _
    have hin : ¬ 12 ≤ r.arg 1 1 := by omega
    simp [execDisableSlot, State.omi_here hrun, hin, hfit, State.slotAnswer]
  case cycle =>
    rintro s _ k _ r hrun rfl rfl hc hon hphase hidle
    change execCycleSlot k s = _
    have hin : ¬ 12 ≤ r.arg 1 1 := by omega
    have hgoes : ((s.begun r false).spCycle (r.arg 1 1)).1 = true := by
      simp [State.spCycle, hon, hphase, hidle]
    simp [execCycleSlot, State.omi_here hrun, hin, hgoes, State.slotAnswer]

/-- Settles O36: each event takes the branch that the state of the channel and the timer name. -/
theorem slotPowerEventsComplete : Obligations.SlotPowerEventsComplete := by
  unfold Obligations.SlotPowerEventsComplete
  refine ⟨?pass, ?gateEnd, ?gateLoss, ?perst, ?lead, ?below, ?offMax, ?shunt, fun _ _ => rfl, ?retry, ?clean, fun _ _ _ => rfl, ?empty, ?back, ?bbm,
    ?lost, ?warn, ?cycle⟩
  case pass =>
    intro s c hdriven hruns hramp
    change execGateCheckPass c s = _
    have hready : ¬ (!(s.spc c).driven || !s.runs (.spGate c)) = true := by simp [hdriven, hruns]
    have hclean : (((s.stop (.spGate c)).setSpState c spOn).start (.spPerst c) (s.spv SP_TIMERS_T_PERST c * 1000000)).get SP_RETRY_CLEAN c =
        s.get SP_RETRY_CLEAN c := by
      rw [State.get_start, State.get_setSpState_reg _ (by decide), State.get_stop]
    refine (if_neg hready).trans ((if_pos hramp).trans ?_)
    dsimp only
    rw [hclean]
  case gateEnd =>
    intro s u c hexp
    change execGateCheckTimeout c s = _
    simp only [execGateCheckTimeout, hexp]
  case gateLoss =>
    intro s c hon hfeed
    change execGateGoodLoss c s = _
    simp [execGateGoodLoss, hon, hfeed]
  case perst =>
    intro s u c hexp
    change execPerstReleaseTimer c s = _
    simp only [execPerstReleaseTimer, hexp]
  case lead =>
    intro s u c hexp
    change execPerstLeadExpiry c s = _
    simp only [execPerstLeadExpiry, hexp]
  case below =>
    intro s c hstop hdriven
    change execRailBelowOffLevel c s = _
    simp [execRailBelowOffLevel, hstop, hdriven]
  case offMax =>
    intro s u c hexp
    change execOffMaxExpiry c s = _
    simp only [execOffMaxExpiry, hexp]
  case shunt =>
    intro s c v hdriven hv
    have hdriven' : ((s.set SP_MEAS_ISENSE v c).spc c).driven = false := hdriven
    change ∃ t, execShuntSample c v s = .next t ∧ _
    simp [execShuntSample, hdriven']
  case retry =>
    intro s u c hexp hpresent
    change execRetryIntervalExpiry c s = _
    simp [execRetryIntervalExpiry, hexp, hpresent]
  case clean =>
    intro s u c hexp
    change execCleanExpiry c s = _
    simp only [execCleanExpiry, hexp]
  case empty =>
    intro s u c hexp hst
    change ∃ t, execEmptyTimeout c s = .next t ∧ _
    simp [execEmptyTimeout, hexp, hst]
    refine ⟨?_, State.runs_stop_same ..⟩
    rw [State.spState, State.get_set_lsb _ (by decide)]
    exact State.spState_setSpState ..
  case back =>
    intro s u c hexp hon hfeed
    change execFeedReturnExpiry c s = _
    simp [execFeedReturnExpiry, hexp, hon, hfeed]
  case bbm =>
    intro s u c hexp hst
    change execBbmExpiry c s = _
    simp [execBbmExpiry, hexp, hst]
  case lost =>
    rintro s _ c hon hA hB rfl
    change execRailLostTimeout c s = _
    simp [execRailLostTimeout, hon, hA, hB]
  case warn =>
    intro s u c hexp hpf
    change execWarnLeadExpiry c s = _
    simp [execWarnLeadExpiry, hexp, hpf]
  case cycle =>
    intro s u c hexp hst
    change execCycleOffExpiry c s = _
    simp [execCycleOffExpiry, hexp, hst]

end Sys2Proof.Machine

/-! ## The fault collector (R369 to R386) and mailboxes (R387 to R397) -/

namespace Sys2Proof.Machine

/-- Settles O37: each event takes the branch that the node's state, the rung or the timer names. -/
theorem faultsComplete : Obligations.FaultsComplete := by
  unfold Obligations.FaultsComplete
  refine ⟨fun _ _ => rfl, ?restart, ?resetTimeout, ?recover, ?cycle, ?dpc, ?release, ?rel, ?inject, fun _ _ => rfl, fun _ _ => ⟨rfl, rfl⟩⟩
  case restart =>
    intro s hnode
    change execManagementRestartEnd s = _
    simp [execManagementRestartEnd, hnode]
  case resetTimeout =>
    intro s u hexp hnode
    change execNodeResetTimeout s = _
    simp only [execNodeResetTimeout, hexp, if_pos hnode]
  case recover =>
    intro s u p hexp hdown hslot
    change execPortRecoverTimeout p s = _
    simp [execPortRecoverTimeout, hexp, hdown, hslot]
  case cycle =>
    intro s u p hexp hrung
    change execCycleHoldExpiry p s = _
    simp only [execCycleHoldExpiry, hexp, if_pos hrung]
  case dpc =>
    intro s u p hexp
    change execManagedDpcRelease p s = _
    simp only [execManagedDpcRelease, hexp]
  case release =>
    rintro s _ k r hrun rfl hnode hport hrung
    change execReleasePort k s = _
    have hin : ¬ (15 < r.arg 0 1 ∨ 47 < r.arg 1 1) := by omega
    simp [execReleasePort, State.omi_here hrun, hin, hrung]
  case rel =>
    intro s p hp hrung
    change execFcPortRel p s = _
    simp [execFcPortRel, Nat.not_le.2 hp, hrung]
  case inject =>
    rintro s _ k r hrun rfl hnode hvalue
    change execInjectFault k s = _
    have hin : ¬ (15 < r.arg 0 1 ∨ 4 ≤ r.arg 4 4 / 536870912) := by omega
    simp [execInjectFault, State.omi_here hrun, hin]

theorem State.mbox_updMbox_same (s : State) (k : Nat) (f : Mbox → Mbox) : (s.updMbox k f).mbox k = f (s.mbox k) :=
  Tab.get_put_same _ _ _ _

/-- Settles O38: each command reaches the mailbox, the queue or the pointer it names. -/
theorem mailboxesComplete : Obligations.MailboxesComplete := by
  unfold Obligations.MailboxesComplete
  refine ⟨fun _ _ => rfl, fun _ _ _ _ => rfl, ?ends, ?head, ?message, ?retry, ?session, ?write, ?pointer, ?read⟩
  case ends =>
    intro s k hk hup
    constructor
    · change execCommandComplete k s = _
      simp [execCommandComplete, hk, hup]
    · change execDeferredCommandComplete k s = _
      simp [execDeferredCommandComplete, hk, hup]
  case head =>
    intro s k v hk hvalid
    change execEventQueueHeadWrite k v s = _
    simp [execEventQueueHeadWrite, hk, hvalid]
  case message =>
    intro s u src q n e htake
    change execFirmwareMessageReceive src q (.event q n e) s = _
    simp [execFirmwareMessageReceive, htake]
  case retry =>
    intro s id n x w hfind hwork hnow
    change execForwardedCommandRetry id n s = _
    simp only [execForwardedCommandRetry, hfind, hwork, if_neg (Nat.not_le.2 hnow)]
  case session =>
    intro s u hexp
    change execSessionTimeout s = _
    simp only [execSessionTimeout, hexp]
  case write =>
    intro s off xs hoff hne hlen
    change execSmbusBlockWrite off xs true s = _
    have hin : ¬ 4096 ≤ off := by omega
    simp [execSmbusBlockWrite, hoff, hne, hin, Nat.not_lt.2 hlen]
  case pointer =>
    intro s off hoff
    change ∃ t, execSmbusSetReadPointer off true s = .next t ∧ _
    have hin : ¬ (!true || decide (4096 ≤ off)) = true := by simp [hoff]
    refine ⟨_, if_neg hin, ?_, rfl⟩
    rw [State.mbox_updMbox_same]
  case read =>
    intro s n hroom hn
    have hlow : (s.mbox 16).ptr < 2048 := by omega
    have hcount : min n (min 255 (2048 - (s.mbox 16).ptr)) = n := by omega
    have hwrap : ((s.mbox 16).ptr + n) % 4096 = (s.mbox 16).ptr + n := Nat.mod_eq_of_lt (by omega)
    change ∃ t, execSmbusBlockRead n s = .next t ∧ _
    simp only [execSmbusBlockRead, if_pos hlow, hcount, hwrap]
    refine ⟨_, rfl, ?_, rfl⟩
    rw [State.mbox_updMbox_same]

end Sys2Proof.Machine

/-! ## Images and identity (R398 to R408, R414) -/

namespace Sys2Proof.Machine

/-- Settles O40: each command and each phase takes the branch that the session, the activation or the slot names. -/
theorem imagesComplete : Obligations.ImagesComplete := by
  unfold Obligations.ImagesComplete
  refine ⟨?begin_, ?write, ?abandon, ?activate, ?quiesced, ?bad, ?good, ?switch, ?commit, ?fuse, ?status, ?identity, ?certificate, ?chain⟩
  case begin_ =>
    rintro s _ k r hrun rfl hnone htoken hslot hother
    change execBeginStage k s = _
    simp [execBeginStage, State.omi_here hrun, hnone, htoken, hother, Nat.not_lt.2 hslot]
  case write =>
    rintro s _ k r x hrun rfl hstaging hroom
    change execWriteStage k s = _
    simp only [execWriteStage, State.omi_here hrun, hstaging, if_neg (Nat.not_lt.2 hroom)]
  case abandon =>
    rintro s _ k r x hrun rfl hstaging habort
    change execEndStage k s = _
    simp only [execEndStage, State.omi_here hrun, hstaging, if_pos habort]
  case activate =>
    rintro s _ k r hrun rfl hclosed hslot hmay
    change execActivateImage k s = _
    simp [execActivateImage, State.omi_here hrun, hclosed, hmay, Nat.not_lt.2 hslot]
  case quiesced =>
    intro s a hact hphase hidle
    change execActivationQuiesceEnd s = _
    have hnone : (boxes.any fun k => s.boxWaits k) = false := List.any_eq_false.2 fun k hk => by simp [hidle k hk]
    simp [execActivationQuiesceEnd, hact, hphase, hnone]
  case bad =>
    intro s a hact hphase hbad
    change execActivationCheckDone s = _
    simp [execActivationCheckDone, hact, hphase, hbad]
  case good =>
    intro s a hact hphase hgood
    change execActivationCheckDone s = _
    simp [execActivationCheckDone, hact, hphase, hgood]
  case switch =>
    intro s a hact hphase hhash
    change execActivationSwitchoverEnd s = _
    simp [execActivationSwitchoverEnd, hact, hphase, hhash]
  case commit =>
    rintro s _ k r hrun rfl hclosed hslot hrunning
    change execCommitImage k s = _
    have hin : ¬ 1 < (s.begun r false).img.slot := hrunning ▸ Nat.not_lt.2 hslot
    simp only [execCommitImage, State.omi_here hrun, hclosed, hrunning, bne_self_eq_false, Bool.false_eq_true, if_false, if_neg hin]
  case fuse =>
    rintro s _ k r hrun rfl hcommitted
    change execAdvanceSecurityVersion k s = _
    simp [execAdvanceSecurityVersion, State.omi_here hrun, hcommitted]
  case status =>
    rintro s _ k r hrun rfl
    change ∃ t, execReadFirmwareStatus k s = .next t ∧ _
    simp only [execReadFirmwareStatus, State.omi_here hrun]
    exact ⟨_, rfl, _, rfl, rfl, rfl, rfl, rfl⟩
  case identity =>
    rintro s _ k r hrun rfl
    change execGetIdentity k s = _
    simp only [execGetIdentity, State.omi_here hrun]
  case certificate =>
    rintro s _ k r hrun rfl hslot hlen
    change execReadCertificate k s = _
    simp [execReadCertificate, State.omi_here hrun, hslot, Nat.not_lt.2 hlen]
  case chain =>
    rintro s _ k r hrun rfl hnone htoken hlen hroom hflags
    change execInstallOwnerChain k s = _
    simp [execInstallOwnerChain, State.omi_here hrun, hnone, htoken, Nat.not_lt.2 hlen, Nat.not_lt.2 hroom, hflags]

end Sys2Proof.Machine

/-! ## Group 0x0E (R426 to R428) and the performance monitor (R431 to R441) -/

namespace Sys2Proof.Machine

/-- Settles O41: each command takes the branch that the port, the plane or the lane names. -/
theorem fabricOmiCompletes : Obligations.FabricOmiCompletes := by
  unfold Obligations.FabricOmiCompletes
  refine ⟨?join, ?leave, ?retrain, ?margin, ?aspm⟩
  case join =>
    rintro s _ k r hrun rfl hnode hdual
    change execJoinFabric k s = _
    simp [execJoinFabric, State.omi_here hrun, hdual, Nat.not_lt.2 hnode]
  case leave =>
    rintro s _ k r hrun rfl hnode hplanes
    change execLeavePlane k s = _
    have hboth : bit 3 0 = true ∧ bit 3 1 = true := by decide
    simp [execLeavePlane, State.omi_here hrun, hplanes, Nat.not_lt.2 hnode, hboth]
  case retrain =>
    rintro s _ k _ r hrun rfl hnode rfl hport hfabric hactive
    change execRetrainLink k s = _
    simp [execRetrainLink, State.omi_here hrun, hfabric, hactive, Nat.not_lt.2 hnode, Nat.not_lt.2 hport]
  case margin =>
    rintro s _ k _ r hrun rfl hnode rfl hport hkind hsteps hdwell hlong hrest hable
    change execMarginLane k s = _
    have hsome : r.arg 5 1 ≠ 0 := by omega
    simp [execMarginLane, State.omi_here hrun, hkind, hsome, hrest, hable, Nat.not_lt.2 hnode, Nat.not_lt.2 hport, Nat.not_lt.2 hsteps,
      Nat.not_lt.2 hlong]
  case aspm =>
    rintro s _ k _ r hrun rfl hnode rfl hport hon hrole
    change execSetManagedAspm k s = _
    simp [execSetManagedAspm, State.omi_here hrun, hon, hrole, Nat.not_lt.2 hnode, Nat.not_lt.2 hport]

/-- Clearing the first `n` of a field leaves each of them 0. -/
theorem State.get_foldl_clear (f : Fld) {m n : Nat} (s : State) (hm : m < n) :
    ((List.range n).foldl (fun s i => s.set f 0 i) s).get f m = 0 := by
  induction n with
  | zero => exact absurd hm (Nat.not_lt_zero m)
  | succ n ih =>
    rw [List.range_succ, List.foldl_append, List.foldl_cons, List.foldl_nil]
    by_cases hlast : m = n
    · rw [hlast, get_set_same, Nat.zero_mod]
    · by_cases hkey : f.key m = f.key n
      · rw [get, set, hkey, Tab.get_put_same, Nat.zero_mod]
      · rw [get_set_other _ hkey, ih (by omega)]

/-- Settles O42: the counters read and cleared are those of the store, a seed draws anew, and a window ends where its length says. -/
theorem monitorCompletes : Obligations.MonitorCompletes := by
  unfold Obligations.MonitorCompletes
  refine ⟨?read, fun s => ⟨_, rfl, fun _ hn => State.get_foldl_clear _ s hn⟩, fun s => ⟨_, rfl, fun _ hn => State.get_foldl_clear _ s hn⟩, ?filter,
    ?seed, ?shavings, ?window, ?cfg⟩
  case read =>
    rintro s _ k r hrun rfl hone hmany hroom
    change execReadCounters k s = _
    have hsome : r.arg 4 2 ≠ 0 := by omega
    simp [execReadCounters, State.omi_here hrun, hsome, Nat.not_lt.2 hmany, Nat.not_lt.2 hroom]
  case filter =>
    intro s f v hf
    change ∃ t, execFltCtrlWrite f v s = .next t ∧ _
    exact ⟨_, if_neg (Nat.not_le.2 hf), State.get_set_same ..⟩
  case seed =>
    intro s v hsome hv
    change ∃ t, execShvSeedWrite v s = .next t ∧ _
    have hne : ¬ v % 2 ^ 32 = 0 := by omega
    refine ⟨_, if_neg hne, ?_, rfl⟩
    exact (State.get_set_same s PMON_SHV_SEED_SEED v 0).trans (Nat.mod_eq_of_lt hv)
  case shavings =>
    rintro s _ k _ r hrun rfl rfl hn hzero
    change ∃ t, execReadShavings k s = .next t ∧ _
    have hin : ¬ (31 < r.arg 2 1 ∨ r.arg 3 1 ≠ 0) := by omega
    simp only [execReadShavings, State.omi_here hrun]
    rw [if_neg (by simpa using hin)]
    refine ⟨_, rfl, ?_⟩
    change List.drop (List.take (r.arg 2 1) _).length _ = _
    rw [List.length_take, ← List.drop_eq_drop_min]
  case window =>
    intro s hon
    change execBwWindowEnd s = _
    simp [execBwWindowEnd, hon]
  case cfg =>
    intro s v hoff
    change execBwCfgWrite v s = _
    simp [execBwCfgWrite, hoff]

end Sys2Proof.Machine

/-! ## Sleep (R451 to R457), clocks (R462 to R475), reset and bring-up (R481 to R509) -/

namespace Sys2Proof.Machine

/-- Settles O44: each command takes the branch that the sleep's step or the timer names. -/
theorem sleepCompletes : Obligations.SleepCompletes := by
  unfold Obligations.SleepCompletes
  refine ⟨?request, ?pme, ?drain, ?commit, ?idle, fun _ _ => rfl, ?hold, ?timer, fun _ _ => rfl, ?ready⟩
  case request =>
    rintro s _ k r hrun rfl hone hthree hmay
    change execRequestSleep k s = _
    have hsome : r.arg 2 1 ≠ 0 := by omega
    simp only [execRequestSleep, State.omi_here hrun, hmay, Bool.not_true, Bool.false_eq_true, if_false, if_neg hsome, if_neg (Nat.not_lt.2 hthree)]
  case pme =>
    intro s x hsleep hstep hnone
    change execSleepPmeWaitEnd s = _
    simp [execSleepPmeWaitEnd, hsleep, hstep, hnone]
  case drain =>
    intro s x hsleep hstep hempty
    change execSleepDrainEnd s = _
    simp [execSleepDrainEnd, hsleep, hstep, hempty]
  case commit =>
    intro s x hsleep hstep hnone
    change execSleepCommit s = _
    simp [execSleepCommit, hsleep, hstep, hnone]
  case idle =>
    intro s u hexp hidle
    change execSl1IdleExpiry s = _
    simp only [execSl1IdleExpiry, hexp, if_pos hidle]
  case hold =>
    intro s u b hexp hpend hasleep
    change execSl3HoldEnd s = _
    simp only [execSl3HoldEnd, hexp, hpend, if_pos hasleep]
  case timer =>
    intro s u hexp
    change execWakeTimerExpiry s = _
    simp only [execWakeTimerExpiry, hexp]
  case ready =>
    intro s hwaking hfreq
    change execWakeFirmwareReady s = _
    simp [execWakeFirmwareReady, hwaking, hfreq]

/-- Settles O45: each judgement takes the branch that the input, the PLL and early boot name. -/
theorem clocksComplete : Obligations.ClocksComplete := by
  unfold Obligations.ClocksComplete
  refine ⟨?coarse, ?missing, ?fine, ?switch, ?loss, ?timeout, ?locked⟩
  case coarse =>
    intro s u x a b l _ hu hawake
    change execCoarseWindowEnd x a b l s = _
    simp only [execCoarseWindowEnd, ← hu, if_neg hawake]
  case missing =>
    intro s i hi hfitted hjudges hawake
    change execMissingEdge i s = _
    simp [execMissingEdge, hfitted, hjudges, hawake, Nat.not_lt.2 hi]
  case fine =>
    intro s a b hlive hlate hawake
    change execFineWindowEnd a b s = _
    simp [execFineWindowEnd, hlive, hlate, Nat.not_le.2 hawake]
  case switch =>
    intro s pll x hheld hnew
    change execPllReferenceSwitchEnd pll s = _
    simp only [execPllReferenceSwitchEnd, hheld, if_pos hnew]
  case loss =>
    intro s pll hpll hlocked
    change execPllLockLoss pll s = _
    simp [execPllLockLoss, hlocked, Nat.not_lt.2 hpll]
  case timeout =>
    intro s u hexp hearly hnone
    change execEarlyBootSourceTimeout s = _
    simp [execEarlyBootSourceTimeout, hexp, hearly, hnone]
  case locked =>
    intro s u i hawake hearly hmain hnode hchoice hu
    change execPllsLocked s = _
    simp only [execPllsLocked, if_neg hawake, hearly, hmain, hnode, hchoice, ← hu, Bool.not_true, decide_false, Bool.or_false, Bool.false_eq_true,
      if_false]

/-- Settles O46: each command takes the branch that the boot state, the record and the timers name. -/
theorem bringUpCompletes : Obligations.BringUpCompletes := by
  unfold Obligations.BringUpCompletes
  refine ⟨fun _ => rfl, ?main, ?strap, ?rails, ?image, ?noImage, ?invalid, ?resume, ?uart, ?join, ?both, ?reset⟩
  case main =>
    intro s hawake hmain
    change execMainPowerOnReset s = _
    simp [execMainPowerOnReset, hawake, hmain]
  case strap =>
    intro s u v hexp
    change ∃ t, execStrapLatch v s = .next t ∧ _
    simp only [execStrapLatch, hexp]
    refine ⟨_, rfl, ?_, State.get_set_same ..⟩
    rw [State.get_set_lsb _ (by decide), State.get_set_lsb _ (by decide), State.get_set_lsb _ (by decide), State.get_set_same]
    rfl
  case rails =>
    intro s hmain hstrap hawake hmode
    change ∃ t, execMainRailsValid s = .next t ∧ _
    simp only [execMainRailsValid, hmain, hstrap, hawake, hmode, Bool.or_self, decide_false, Bool.false_eq_true, if_false, if_true]
    exact ⟨_, rfl, rfl, rfl, State.runs_start_same .., rfl⟩
  case image =>
    intro s u xs hrom hnode hfreq hmode hboot hrun hrecord
    change execBootRomImageLoaded s = _
    simp [execBootRomImageLoaded, hrom, hnode, hfreq, hmode, hboot, hrun, hrecord]
  case noImage =>
    intro s hrom hnode hfreq hmode hboot
    change execBootRomImageLoaded s = _
    simp [execBootRomImageLoaded, hrom, hnode, hfreq, hmode, hboot]
  case invalid =>
    intro s hwaits hrecovered hnode hrecord
    change execFirmwareBringupResume s = _
    simp [execFirmwareBringupResume, hwaits, hrecovered, hnode, hrecord]
  case resume =>
    intro s u xs hwaits hrecovered hnode hrecord hu hsl3 hjoin
    change execFirmwareBringupResume s = _
    simp only [execFirmwareBringupResume, hwaits, hrecovered, hnode, hrecord, ← hu, hsl3, hjoin, Bool.not_true, decide_false, Bool.or_false,
      Bool.false_and, Bool.false_eq_true, if_false]
  case uart =>
    intro s image hrecovery hmain hstopped hok
    change execUartRecoveryImage image [] s = _
    simp [execUartRecoveryImage, hrecovery, hmain, hstopped, hok]
  case join =>
    intro s u hexp
    change execBootJoinTimer s = _
    simp only [execBootJoinTimer, hexp]
  case both =>
    intro s hnode hrunning hphase
    change execNodeResetEnd false false s = _
    simp [execNodeResetEnd, hnode, hrunning, hphase]
  case reset =>
    intro s u xs hnode hrunning hphase hu hrecord
    change execNodeResetEnd true true s = _
    simp [execNodeResetEnd, hnode, hrunning, hphase, ← hu, hrecord]

end Sys2Proof.Machine

/-! ## What is written as bytes or dwords is read back (R14, Table 04.1, Table 07.7) -/

namespace Sys2Proof.Machine

theorem leNat_le (n v : Nat) : leNat (le n v) = v % 256 ^ n := by
  induction n generalizing v with
  | zero => rw [Nat.pow_zero, Nat.mod_one]; rfl
  | succ n ih => rw [le, leNat, ih, Nat.mod_mod, Nat.pow_succ', Nat.mod_mul]

theorem unLe_eq_leNat (xs : List Nat) : unLe xs = leNat xs := by
  induction xs with
  | nil => rfl
  | cons b bs ih => rw [unLe, leNat, ih]

/-- A flag at bit `n` of a dword weighs `2 ^ n`. -/
theorem b2n_eq (b : Bool) (n : Nat) : b2n b n = b.toNat * 2 ^ n := by
  cases b <;> simp [b2n]

/-- A bit of a dword is the flag whose weight stands there. -/
theorem testBit_eq_of_div_mod {v n : Nat} {b : Bool} (h : v / 2 ^ n % 2 = b.toNat) : v.testBit n = b := by
  rw [Nat.testBit_eq_decide_div_mod_eq, h]
  cases b <;> rfl

/-- A page-aligned address is read back from its two dwords. -/
theorem pageAddress_split {a : Nat} (h : a < 2 ^ 64) (hpage : a % 4096 = 0) :
    a % 2 ^ 32 / 4096 % 2 ^ 20 * 4096 + a / 2 ^ 32 % 2 ^ 32 * 2 ^ 32 = a := by omega

theorem wentFrom_wentWords (e : WEnt) (hpart : e.tgtPart < 64) (hnode : e.tgtNode < 16) (hcs : e.tgtCs < 4) (hkind : e.kind < 16)
    (hsize : e.size < 64) (hinst : e.tgtInst < 512) (hbase : e.base < 2 ^ 64) (hbase0 : e.base % 4096 = 0) (hoff : e.offset < 2 ^ 64)
    (hoff0 : e.offset % 4096 = 0) : wentFrom (wentWords e) = e := by
  have hat := e.atOk.toNat_le
  have hprefetch := e.prefetch.toNat_le
  have hfromInst := e.fromInst.toNat_le
  have hfromHost := e.fromHost.toNat_le
  have hwr := e.wrEn.toNat_le
  have hrd := e.rdEn.toNat_le
  obtain ⟨tgtPart, tgtNode, tgtCs, kind, atOk, prefetch, fromInst, fromHost, wrEn, rdEn, size, tgtInst, base, offset⟩ := e
  simp only [wentFrom, wentWords, b2n_eq, List.getD_cons_zero, List.getD_cons_succ, WEnt.mk.injEq] at *
  exact ⟨by omega, by omega, by omega, by omega, testBit_eq_of_div_mod (by omega), testBit_eq_of_div_mod (by omega),
    testBit_eq_of_div_mod (by omega), testBit_eq_of_div_mod (by omega), testBit_eq_of_div_mod (by omega), testBit_eq_of_div_mod (by omega),
    by omega, by omega, pageAddress_split hbase hbase0, pageAddress_split hoff hoff0⟩

/-- The first dword of a Turn entry. -/
def Turn.word0 (t : Turn) : Nat := b2n t.armed 31 + b2n t.tt 30 + (t.owner.getD 0) * 2 ^ 24 + t.action * 2 ^ 20 + t.count

theorem turnFrom_turnBytes (old t : Turn) (haction : t.action < 16) (hcount : t.count < 2 ^ 16) (hstart : t.start < 2 ^ 64)
    (hperiod : t.period < 2 ^ 32) (harg : t.arg < 2 ^ 64) (hdata : t.data < 2 ^ 64) (howner : t.owner.getD 0 < 64) :
    turnFrom old (turnBytes t) =
      { old with tt := t.tt, action := t.action, count := t.count, start := t.start, period := t.period, arg := t.arg, data := t.data, n := 0 } := by
  have harmed := t.armed.toNat_le
  have htt := t.tt.toNat_le
  have hword : t.word0 = t.armed.toNat * 2 ^ 31 + t.tt.toNat * 2 ^ 30 + t.owner.getD 0 * 2 ^ 24 + t.action * 2 ^ 20 + t.count := by
    rw [Turn.word0, b2n_eq, b2n_eq]
  have h0 : leAt (turnBytes t) 0 4 = t.word0 := (leNat_le 4 t.word0).trans (Nat.mod_eq_of_lt (by omega))
  have h4 : leAt (turnBytes t) 4 8 = t.start := (leNat_le 8 t.start).trans (Nat.mod_eq_of_lt hstart)
  have h12 : leAt (turnBytes t) 12 4 = t.period := (leNat_le 4 t.period).trans (Nat.mod_eq_of_lt hperiod)
  have h16 : leAt (turnBytes t) 16 8 = t.arg := (leNat_le 8 t.arg).trans (Nat.mod_eq_of_lt harg)
  have h24 : leAt (turnBytes t) 24 8 = t.data := (leNat_le 8 t.data).trans (Nat.mod_eq_of_lt hdata)
  have hbit : t.word0.testBit 30 = t.tt := testBit_eq_of_div_mod (by omega)
  have hact : t.word0 / 2 ^ 20 % 16 = t.action := by omega
  have hcnt : t.word0 % 65536 = t.count := by omega
  simp only [turnFrom, h0, h4, h12, h16, h24, hbit, hact, hcnt]

/-- Settles O55: the bit fields of an entry stand side by side and none overlaps another. -/
theorem entriesReadBack : Obligations.EntriesReadBack := by
  unfold Obligations.EntriesReadBack
  refine ⟨fun n v => ⟨Laws.le_length n v, leNat_le n v, (unLe_eq_leNat _).trans (leNat_le n v)⟩, wentFrom_wentWords, ?turn⟩
  case turn =>
    intro old t haction hcount hstart hperiod harg hdata howner
    have hsome : t.owner.getD 0 < 64 := by
      cases hk : t.owner with
      | none => exact Nat.zero_lt_succ _
      | some k => exact howner k hk
    exact turnFrom_turnBytes old t haction hcount hstart hperiod harg hdata hsome

end Sys2Proof.Machine

/-! ## What crosses the links is read back: bit fields, headers and records (R46, R50, R168) -/

namespace Sys2Proof.Machine

theorem packBits_lt (fs : List (Nat × Nat)) : packBits fs < 2 ^ (fs.map Prod.fst).sum := by
  induction fs with
  | nil => exact Nat.one_pos
  | cons x fs ih =>
    rw [packBits, List.map_cons, List.sum_cons, Nat.pow_add]
    calc x.2 % 2 ^ x.1 + 2 ^ x.1 * packBits fs < 2 ^ x.1 + 2 ^ x.1 * packBits fs := Nat.add_lt_add_right (Nat.mod_lt _ (Nat.two_pow_pos _)) _
      _ = 2 ^ x.1 * (packBits fs + 1) := by rw [Nat.mul_add_one, Nat.add_comm]
      _ ≤ 2 ^ x.1 * 2 ^ (fs.map Prod.fst).sum := Nat.mul_le_mul_left _ ih

/-- The field that follows `fs` stands at the sum of their widths. -/
theorem bitsAt_field {w v l : Nat} (fs gs : List (Nat × Nat)) (hl : (fs.map Prod.fst).sum = l) (hv : v < 2 ^ w) :
    bitsAt (packBits (fs ++ (w, v) :: gs)) l w = v := by
  induction fs generalizing l with
  | nil => rw [← hl, ← Nat.mod_eq_of_lt hv]; exact (Laws.bitsAt_packBits_zero w _ gs).trans (by rw [Nat.mod_mod])
  | cons x fs ih => rw [← hl, List.cons_append, List.map_cons, List.sum_cons, Laws.bitsAt_packBits_add, ih rfl]

theorem testBit_eq_bitsAt (v n : Nat) : v.testBit n = (bitsAt v n 1 == 1) := by
  rw [Nat.testBit_eq_decide_div_mod_eq, bitsAt, Nat.pow_one]
  rfl

/-- The flag that follows `fs` stands at the sum of their widths. -/
theorem testBit_field {b : Bool} {l : Nat} (fs gs : List (Nat × Nat)) (hl : (fs.map Prod.fst).sum = l) :
    (packBits (fs ++ (1, b2n b 0) :: gs)).testBit l = b := by
  rw [testBit_eq_bitsAt, bitsAt_field fs gs hl (by cases b <;> decide)]
  cases b <;> rfl

/-- Bit fields of at most `n` bytes are read back whole from the bytes they are written to. -/
theorem leNat_le_packBits (n : Nat) (fs : List (Nat × Nat)) (h : (fs.map Prod.fst).sum ≤ 8 * n) : leNat (le n (packBits fs)) = packBits fs := by
  rw [leNat_le, Nat.mod_eq_of_lt]
  calc packBits fs < 2 ^ (fs.map Prod.fst).sum := packBits_lt fs
    _ ≤ 2 ^ (8 * n) := Nat.pow_le_pow_right (by decide) h
    _ = 256 ^ n := Nat.pow_mul 2 8 n

theorem vcOfCode_code (vc : VC) : vcOfCode vc.code = some vc := by cases vc <;> rfl

theorem vcCode_lt (vc : VC) : vc.code < 2 ^ 3 := by cases vc <;> decide

theorem flitType_lt (b : FlitBody) : flitType b < 7 := by cases b <;> simp [flitType]

/-- The fields of a flit header in the order of their bits (R46). -/
def flitHdrFields (first vc crCount cr ack type : Nat) : List (Nat × Nat) := [(6, first), (3, vc), (5, crCount), (3, cr), (12, ack), (3, type)]

/-- The code of CR_VC: 7 where the flit brings no credits. -/
def crCode (vc : Option VC) : Nat := match vc with | some vc => vc.code | none => 7

theorem crCode_spec (vc : Option VC) : crCode vc < 2 ^ 3 ∧ vcOfCode (crCode vc) = vc ∧ crCode vc ≠ 5 ∧ crCode vc ≠ 6 := by
  rcases vc with _ | vc
  · decide
  · cases vc <;> decide

theorem readFlitHdr_fields {first crCount ack type : Nat} (vc : VC) (cr : Option VC) (hfirst : first < 64) (hcount : crCount < 32)
    (hack : ack < 4096) (htype : type < 7) :
    readFlitHdr (le 4 (packBits (flitHdrFields first vc.code crCount (crCode cr) ack type))) = some ⟨type, ack, cr, crCount, vc, first⟩ := by
  obtain ⟨hcr, hcode, h5, h6⟩ := crCode_spec cr
  generalize hd : packBits (flitHdrFields first vc.code crCount (crCode cr) ack type) = d
  have hword : leAt (le 4 d) 0 4 = d := hd ▸ leNat_le_packBits 4 (flitHdrFields first vc.code crCount (crCode cr) ack type) (Nat.le_refl 32)
  have b0 : bitsAt d 0 6 = first := hd ▸ bitsAt_field [] _ rfl hfirst
  have b6 : bitsAt d 6 3 = vc.code := hd ▸ bitsAt_field [(6, _)] _ rfl (vcCode_lt vc)
  have b9 : bitsAt d 9 5 = crCount := hd ▸ bitsAt_field [(6, _), (3, _)] _ rfl hcount
  have b14 : bitsAt d 14 3 = crCode cr := hd ▸ bitsAt_field [(6, _), (3, _), (5, _)] _ rfl hcr
  have b17 : bitsAt d 17 12 = ack := hd ▸ bitsAt_field [(6, _), (3, _), (5, _), (3, _)] _ rfl hack
  have b29 : bitsAt d 29 3 = type := hd ▸ bitsAt_field [(6, _), (3, _), (5, _), (3, _), (12, _)] _ rfl (by omega)
  have hne : type ≠ 7 := by omega
  simp [readFlitHdr, hword, b0, b6, b9, b14, b17, b29, vcOfCode_code, hcode, hne, h5, h6]

/-- The position and the VC of the first record, which a flit of another type leaves 0. -/
def dataStart : FlitBody → Nat × VC
  | .data vc first _ => (first, vc)
  | _ => (0, .p)

theorem flitHdr_eq (f : Flit) :
    flitHdr f = le 4 (packBits (flitHdrFields (dataStart f.body).1 (dataStart f.body).2.code f.hdr.crCount (crCode f.hdr.crVc) f.hdr.ack (flitType f.body))) := by
  obtain ⟨⟨bad, seq, ack, crVc, crCount⟩, body⟩ := f
  cases body <;> cases crVc <;> rfl

theorem readFlitHdr_flitHdr (f : Flit) (hack : f.hdr.ack < 4096) (hcount : f.hdr.crCount < 32)
    (hdata : ∀ vc n ps, f.body = .data vc n ps → n < 64) :
    readFlitHdr (flitHdr f) = some ⟨flitType f.body, f.hdr.ack, f.hdr.crVc, f.hdr.crCount, (dataStart f.body).2, (dataStart f.body).1⟩ := by
  have hfirst : (dataStart f.body).1 < 64 := by
    cases hb : f.body with
    | data vc n ps => exact hdata vc n ps hb
    | _ => exact Nat.zero_lt_succ _
  rw [flitHdr_eq, readFlitHdr_fields _ _ hfirst hcount hack (flitType_lt _)]

theorem flitHdr_length (f : Flit) : (flitHdr f).length = 4 := Laws.le_length 4 _

theorem payload_length (xs : List Nat) (b : FlitBody) : (payload xs b).length = 236 := by
  cases b with
  | msg m => cases m <;> exact Laws.padTo_length 236 _
  | lctl m => cases m <;> exact Laws.padTo_length 236 _
  | _ => exact Laws.padTo_length 236 _

/-- The first and the second dword of a packet header in the order of their bits (R50). -/
def recordFields0 (r : Record) : List (Nat × Nat) := [(12, r.len), (4, kindCode r.body), (4, r.dstNode), (4, r.srcNode), (6, r.srcPart)]
def recordFields1 (r : Record) : List (Nat × Nat) :=
  [(3, r.vc.code), (1, b2n r.excess 0), (1, if r.plane = .b then 1 else 0), (3, 0), (4, r.hops), (6, r.dstPort), (6, 0), (8, r.gen)]

theorem b2n_decide (p : Prop) [Decidable p] : (if p then 1 else 0) = b2n (decide p) 0 := by
  by_cases h : p <;> simp [b2n, h]

theorem readRecordHdr_recordHdr (r : Record) (hpart : r.srcPart < 64) (hsrc : r.srcNode < 16) (hdst : r.dstNode < 16) (hlen : r.len < 4096)
    (hgen : r.gen < 256) (hport : r.dstPort < 64) (hhops : r.hops < 16) (hseq : r.seq < 2 ^ 32) (hts : r.admitTs < 2 ^ 32)
    (hinst : r.inst = none) (hcs : r.cs = 0) : readRecordHdr r.body (recordHdr r) = some r := by
  generalize hd0 : packBits (recordFields0 r) = d0
  generalize hd1 : packBits (recordFields1 r) = d1
  have hw0 : leAt (recordHdr r) 0 4 = d0 := hd0 ▸ leNat_le_packBits 4 (recordFields0 r) (show 30 ≤ 32 by decide)
  have hw1 : leAt (recordHdr r) 4 4 = d1 := hd1 ▸ leNat_le_packBits 4 (recordFields1 r) (Nat.le_refl 32)
  have hw2 : leAt (recordHdr r) 8 4 = r.seq := (leNat_le 4 r.seq).trans (Nat.mod_eq_of_lt hseq)
  have hw3 : leAt (recordHdr r) 12 4 = r.admitTs := (leNat_le 4 r.admitTs).trans (Nat.mod_eq_of_lt hts)
  have a0 : bitsAt d0 0 12 = r.len := hd0 ▸ bitsAt_field [] _ rfl hlen
  have a16 : bitsAt d0 16 4 = r.dstNode := hd0 ▸ bitsAt_field [(12, _), (4, _)] _ rfl hdst
  have a20 : bitsAt d0 20 4 = r.srcNode := hd0 ▸ bitsAt_field [(12, _), (4, _), (4, _)] _ rfl hsrc
  have a24 : bitsAt d0 24 6 = r.srcPart := hd0 ▸ bitsAt_field [(12, _), (4, _), (4, _), (4, _)] _ rfl hpart
  have b0 : bitsAt d1 0 3 = r.vc.code := hd1 ▸ bitsAt_field [] _ rfl (vcCode_lt r.vc)
  have b3 : d1.testBit 3 = r.excess := hd1 ▸ testBit_field [(3, _)] _ rfl
  have b4 : d1.testBit 4 = decide (r.plane = .b) := by
    rw [← hd1, recordFields1, b2n_decide]
    exact testBit_field [(3, _), (1, _)] _ rfl
  have b8 : bitsAt d1 8 4 = r.hops := hd1 ▸ bitsAt_field [(3, _), (1, _), (1, _), (3, _)] _ rfl hhops
  have b12 : bitsAt d1 12 6 = r.dstPort := hd1 ▸ bitsAt_field [(3, _), (1, _), (1, _), (3, _), (4, _)] _ rfl hport
  have b24 : bitsAt d1 24 8 = r.gen := hd1 ▸ bitsAt_field [(3, _), (1, _), (1, _), (3, _), (4, _), (6, _), (6, _)] _ rfl hgen
  simp only [readRecordHdr, hw0, hw1, hw2, hw3, a0, a16, a20, a24, b0, b3, b4, b8, b12, b24, vcOfCode_code, Option.map_some, decide_eq_true_eq]
  obtain ⟨srcPart, srcNode, dstNode, len, gen, dstPort, hops, plane, excess, vc, seq, admitTs, inst, cs, body⟩ := r
  cases plane <;> simp_all

end Sys2Proof.Machine

/-! ## Lists of entries are read back: journal control records (R168) -/

namespace Sys2Proof.Machine

/-- Entry `i` of entries of `c` bytes each stands at byte `c * i`. -/
theorem drop_flatMap {α : Type} {f : α → List Nat} {c : Nat} (hf : ∀ x, (f x).length = c) (xs : List α) (zs : List Nat) (i : Nat)
    (hi : i < xs.length) : ∃ ws, (xs.flatMap f ++ zs).drop (c * i) = f xs[i] ++ ws := by
  induction xs generalizing i with
  | nil => exact absurd hi (Nat.not_lt_zero i)
  | cons x xs ih =>
    rw [List.flatMap_cons, List.append_assoc]
    cases i with
    | zero => exact ⟨_, rfl⟩
    | succ i =>
      obtain ⟨ws, hws⟩ := ih i (Nat.lt_of_succ_lt_succ hi)
      refine ⟨ws, ?_⟩
      rw [Nat.mul_succ, Nat.add_comm, ← List.drop_drop, ← hf x, List.drop_left, hf x, hws]
      rfl

theorem flatMap_length {α : Type} {f : α → List Nat} {c : Nat} (hf : ∀ x, (f x).length = c) (xs : List α) :
    (xs.flatMap f).length = c * xs.length := by
  induction xs with
  | nil => rfl
  | cons x xs ih => rw [List.flatMap_cons, List.length_append, hf, ih, List.length_cons, Nat.mul_succ, Nat.add_comm]

/-- A list whose entries are read one by one is read whole. -/
theorem mapM_range_eq_some {α : Type} {g : Nat → Option α} {xs : List α} (h : ∀ i (hi : i < xs.length), g i = some xs[i]) :
    (List.range xs.length).mapM g = some xs := by
  induction xs using list_induction_append with
  | nil => rfl
  | append_singleton xs x ih =>
    have hinit : ∀ i (hi : i < xs.length), g i = some xs[i] := fun i hi => by
      rw [h i (by simp; omega), List.getElem_append_left hi]
    have hlast : g xs.length = some x := by
      rw [h xs.length (by simp), List.getElem_append_right (Nat.le_refl _)]
      simp
    rw [List.length_append, List.length_singleton, List.range_succ, List.mapM_append, ih hinit]
    simp [hlast]

/-- The first dword of an entry of a journal control record in the order of its bits (R168). -/
def itemFields (x : JItem) : List (Nat × Nat) := [(8, x.reason), (14, 0), (1, b2n x.dir 0), (3, x.vc.code), (6, x.part)]

theorem itemBytes_length (x : JItem) : (itemBytes x).length = 12 := by
  simp [itemBytes]

theorem readItem_itemBytes {x : JItem} (ws : List Nat) (h : x.part < 64 ∧ x.reason < 256 ∧ x.seqA < 2 ^ 32 ∧ x.seqB < 2 ^ 32) :
    readItem (itemBytes x ++ ws) = some x := by
  obtain ⟨hpart, hreason, ha, hb⟩ := h
  generalize hd : packBits (itemFields x) = d
  have hw0 : leAt (itemBytes x ++ ws) 0 4 = d := hd ▸ leNat_le_packBits 4 (itemFields x) (Nat.le_refl 32)
  have hw1 : leAt (itemBytes x ++ ws) 4 4 = x.seqA := (leNat_le 4 x.seqA).trans (Nat.mod_eq_of_lt ha)
  have hw2 : leAt (itemBytes x ++ ws) 8 4 = x.seqB := (leNat_le 4 x.seqB).trans (Nat.mod_eq_of_lt hb)
  have b0 : bitsAt d 0 8 = x.reason := hd ▸ bitsAt_field [] _ rfl hreason
  have b22 : d.testBit 22 = x.dir := hd ▸ testBit_field [(8, _), (14, _)] _ rfl
  have b23 : bitsAt d 23 3 = x.vc.code := hd ▸ bitsAt_field [(8, _), (14, _), (1, _)] _ rfl (vcCode_lt x.vc)
  have b26 : bitsAt d 26 6 = x.part := hd ▸ bitsAt_field [(8, _), (14, _), (1, _), (3, _)] _ rfl hpart
  simp only [readItem, hw0, hw1, hw2, b0, b22, b23, b26, vcOfCode_code, Option.map_some]

/-- The first dword of a journal control record in the order of its bits (R168). -/
def ctlFields (sub : Nat) (last : Bool) (n : Nat) : List (Nat × Nat) := [(1, b2n last 0), (15, 0), (8, n), (8, sub)]

theorem ctlBytes_eq (sub : Nat) (last : Bool) (xs : List JItem) :
    ctlBytes sub last xs = le 4 (packBits (ctlFields sub last xs.length)) ++ xs.flatMap itemBytes := rfl

theorem ctlBytes_length (sub : Nat) (last : Bool) (xs : List JItem) : (ctlBytes sub last xs).length = 4 + 12 * xs.length := by
  rw [ctlBytes_eq, List.length_append, Laws.le_length, flatMap_length itemBytes_length]

theorem readCtl_ctlBytes {sub : Nat} (last : Bool) {xs : List JItem} (hsub : sub < 256) (hlen : xs.length ≤ 91)
    (hxs : ∀ x ∈ xs, x.part < 64 ∧ x.reason < 256 ∧ x.seqA < 2 ^ 32 ∧ x.seqB < 2 ^ 32) :
    readCtl (ctlBytes sub last xs) = some (.ctl sub last xs) := by
  generalize hd : packBits (ctlFields sub last xs.length) = d
  have hw0 : leAt (ctlBytes sub last xs) 0 4 = d := hd ▸ leNat_le_packBits 4 (ctlFields sub last xs.length) (Nat.le_refl 32)
  have b0 : d.testBit 0 = last := hd ▸ testBit_field [] _ rfl
  have b16 : bitsAt d 16 8 = xs.length := hd ▸ bitsAt_field [(1, _), (15, _)] _ rfl (by omega)
  have b24 : bitsAt d 24 8 = sub := hd ▸ bitsAt_field [(1, _), (15, _), (8, _)] _ rfl hsub
  have hitems : (List.range xs.length).mapM (fun n => readItem ((ctlBytes sub last xs).drop (4 + 12 * n))) = some xs := by
    refine mapM_range_eq_some fun i hi => ?_
    obtain ⟨ws, hws⟩ := drop_flatMap itemBytes_length xs [] i hi
    rw [ctlBytes_eq, ← List.drop_drop, show (le 4 _ ++ xs.flatMap itemBytes).drop 4 = xs.flatMap itemBytes from rfl,
      ← List.append_nil (xs.flatMap itemBytes), hws, readItem_itemBytes ws (hxs _ (List.getElem_mem hi))]
  simp only [readCtl, hw0, b0, b16, b24, hitems, Option.map_some]

end Sys2Proof.Machine

/-! ## Management messages are read back (R65, R196) -/

namespace Sys2Proof.Machine

theorem leNat_lt (xs : List Nat) : leNat xs < 256 ^ xs.length := by
  induction xs with
  | nil => exact Nat.one_pos
  | cons b bs ih =>
    have hb : b % 256 < 256 := Nat.mod_lt _ (by decide)
    rw [leNat, List.length_cons, Nat.pow_succ]
    omega

theorem leAt_lt (xs : List Nat) (off n : Nat) : leAt xs off n < 256 ^ n :=
  Nat.lt_of_lt_of_le (leNat_lt _) (Nat.pow_le_pow_right (by decide) (List.length_take_le ..))

theorem leNat_singleton {v : Nat} (h : v < 256) : leNat [v] = v := Nat.mod_eq_of_lt h

theorem leNat_byte {v : Nat} (h : v < 256) : leNat [v % 256] = v := by
  rw [leNat_singleton (Nat.mod_lt _ (by decide)), Nat.mod_eq_of_lt h]

theorem leNat_le_of_lt (n v : Nat) (h : v < 256 ^ n) : leNat (le n v) = v := (leNat_le n v).trans (Nat.mod_eq_of_lt h)

theorem bitsAt_zero (v w : Nat) : bitsAt v 0 w = v % 2 ^ w := by rw [bitsAt, Nat.pow_zero, Nat.div_one]

theorem bitsAt_lt (v l w : Nat) : bitsAt v l w < 2 ^ w := Nat.mod_lt _ (Nat.two_pow_pos w)

/-- The flags and small fields of one byte are read back. -/
theorem leNat_packBits {fs : List (Nat × Nat)} (h : (fs.map Prod.fst).sum ≤ 8) : leNat [packBits fs] = packBits fs :=
  leNat_singleton (Nat.lt_of_lt_of_le (packBits_lt fs) (Nat.pow_le_pow_right (by decide) h))

theorem padTo_eq {n : Nat} {xs : List Nat} (h : xs.length ≤ n) : padTo n xs = xs ++ List.replicate (n - xs.length) 0 := by
  rw [padTo, List.take_append, List.take_of_length_le h, List.take_replicate, Nat.min_eq_left (Nat.sub_le _ _)]

theorem planeBit_eq (pl : Plane) : planeBit pl = b2n (decide (pl = .b)) 0 := by cases pl <;> rfl

theorem planeOfBit_decide (pl : Plane) : planeOfBit (decide (pl = .b)) = pl := by cases pl <;> rfl

theorem segOfCode_segCode (x : Option SegState) : segOfCode (segCode x) = x := by
  rcases x with _ | x
  · rfl
  · cases x <;> rfl

theorem segCode_lt (x : Option SegState) : segCode x < 256 := by
  rcases x with _ | x
  · decide
  · cases x <;> decide

/-- The whole numbers that `n` bits hold in two's complement. -/
def InTwos (n : Nat) (x : Int) : Prop := -2 ^ (n - 1) ≤ x ∧ x < 2 ^ (n - 1)

theorem cast_two_pow (n : Nat) : (((2 : Nat) ^ n : Nat) : Int) = 2 ^ n := by
  push_cast
  rfl

theorem int_two_pow_pos (n : Nat) : (0 : Int) < 2 ^ n := by
  have hcast := cast_two_pow n
  have hpos := Nat.two_pow_pos n
  omega

theorem int_two_pow_eq {n : Nat} (hn : 0 < n) : (2 : Int) ^ n = 2 * 2 ^ (n - 1) := by
  have hcast := cast_two_pow n
  have hcast' := cast_two_pow (n - 1)
  have hnat : 2 ^ n = 2 * 2 ^ (n - 1) := by rw [← Nat.pow_succ', Nat.succ_eq_add_one, Nat.sub_add_cancel hn]
  omega

theorem cast_toTwos (n : Nat) (x : Int) : (toTwos n x : Int) = x % 2 ^ n :=
  Int.toNat_of_nonneg (Int.emod_nonneg _ (Int.ne_of_gt (int_two_pow_pos n)))

theorem ofTwos_toTwos {n : Nat} {x : Int} (hn : 0 < n) (h : InTwos n x) : ofTwos n (toTwos n x) = x := by
  obtain ⟨hlow, hhigh⟩ := h
  have hpow := int_two_pow_eq hn
  have hcast := cast_two_pow (n - 1)
  have hmod := cast_toTwos n x
  rw [ofTwos]
  by_cases hx : 0 ≤ x
  · have hself : x % 2 ^ n = x := Int.emod_eq_of_lt hx (by omega)
    rw [if_pos (by omega), hmod, hself]
  · have hself : x % 2 ^ n = x + 2 ^ n := by
      rw [← Int.add_emod_right, Int.emod_eq_of_lt (by omega) (by omega)]
    rw [if_neg (by omega), hmod, hself, Int.add_sub_cancel]

theorem inTwos_ofTwos {n v : Nat} (hn : 0 < n) (hv : v < 2 ^ n) : InTwos n (ofTwos n v) := by
  have hpow := int_two_pow_eq hn
  have hcast := cast_two_pow (n - 1)
  have hcast' := cast_two_pow n
  rw [InTwos, ofTwos]
  split <;> omega

theorem toTwos_lt (n : Nat) (x : Int) : toTwos n x < 2 ^ n := by
  have hlt := Int.emod_lt_of_pos x (int_two_pow_pos n)
  have hcast := cast_two_pow n
  have hmod := cast_toTwos n x
  omega

/-- A record of a discovery message within the widths of its fields. -/
def RecFits (r : NodeRec) : Prop := r.node < 16 ∧ r.feature < 2 ^ 16 ∧ r.fitted < 2 ^ 16

theorem recFits_readNodeRec (xs : List Nat) : RecFits (readNodeRec xs) := ⟨bitsAt_lt _ 0 4, leAt_lt xs 2 2, leAt_lt xs 4 2⟩

theorem nodeRecBytes_length (r : NodeRec) : (nodeRecBytes r).length = 8 := by simp [nodeRecBytes]

theorem readNodeRec_nodeRecBytes {r : NodeRec} (ws : List Nat) (h : RecFits r) : readNodeRec (nodeRecBytes r ++ ws) = r := by
  obtain ⟨hnode, hfeature, hfitted⟩ := h
  have h0 : leAt (nodeRecBytes r ++ ws) 0 1 = packBits [(4, r.node), (3, 0), (1, 1)] := leNat_packBits (Nat.le_refl 8)
  have h1 : leAt (nodeRecBytes r ++ ws) 1 1 = packBits [(1, b2n r.eastBypass 0), (1, b2n r.otherUp 0), (1, b2n r.fmHome 0)] :=
    leNat_packBits (show 3 ≤ 8 by decide)
  have h2 : leAt (nodeRecBytes r ++ ws) 2 2 = r.feature := leNat_le_of_lt 2 r.feature hfeature
  have h4 : leAt (nodeRecBytes r ++ ws) 4 2 = r.fitted := leNat_le_of_lt 2 r.fitted hfitted
  have b0 : bitsAt (packBits [(4, r.node), (3, 0), (1, 1)]) 0 4 = r.node := bitsAt_field [] _ rfl hnode
  have f0 := testBit_field (b := r.eastBypass) [] [(1, b2n r.otherUp 0), (1, b2n r.fmHome 0)] rfl
  have f1 := testBit_field (b := r.otherUp) [(1, b2n r.eastBypass 0)] [(1, b2n r.fmHome 0)] rfl
  have f2 := testBit_field (b := r.fmHome) [(1, b2n r.eastBypass 0), (1, b2n r.otherUp 0)] [] rfl
  simp only [List.nil_append, List.cons_append, List.map_nil, List.map_cons, List.sum_nil, List.sum_cons, Nat.reduceAdd] at f0 f1 f2
  simp only [readNodeRec, h0, h1, h2, h4, b0, f0, f1, f2]

/-- A management message within the widths of its fields, as every message read is. -/
def MsgFits : MgMsg → Prop
  | .disc m => m.origin < 16 ∧ m.run < 2 ^ 32 ∧ m.recs.length ≤ 16 ∧ ∀ r ∈ m.recs, RecFits r
  | .linkState m => m.segment < 16 ∧ m.epoch < 2 ^ 32 ∧ m.reporter < 16
  | .announce m => m.gmId < 16 ∧ m.gmClass < 4 ∧ m.gmPrio < 256 ∧ m.gmEpoch < 2 ^ 32 ∧ m.hops < 256 ∧ m.state < 8 ∧ m.stepAt < 2 ^ 64 ∧
      InTwos 80 m.stepDelta
  | .other t => t < 256 ∧ t ≠ 0x21 ∧ t ≠ 0x22 ∧ t ≠ 0x31

theorem msgFits_readMsg (xs : List Nat) : MsgFits (readMsg xs) := by
  unfold readMsg
  dsimp only
  by_cases h21 : leAt xs 0 1 = 0x21
  · rw [if_pos h21]
    have hlen : (List.range (min 16 (leAt xs 3 1))).length ≤ 16 := by
      rw [List.length_range]
      exact Nat.min_le_left ..
    refine ⟨bitsAt_lt _ 0 4, leAt_lt xs 4 4, Nat.le_trans (Nat.le_of_eq (List.length_map _)) hlen, fun r hr => ?_⟩
    obtain ⟨n, _, rfl⟩ := List.mem_map.1 hr
    exact recFits_readNodeRec _
  rw [if_neg h21]
  by_cases h22 : leAt xs 0 1 = 0x22
  · rw [if_pos h22]
    exact ⟨bitsAt_lt _ 0 4, leAt_lt xs 4 4, bitsAt_lt _ 0 4⟩
  rw [if_neg h22]
  by_cases h31 : leAt xs 0 1 = 0x31
  · rw [if_pos h31]
    exact ⟨bitsAt_lt _ 0 4, bitsAt_lt _ 0 2, leAt_lt xs 4 1, leAt_lt xs 8 4, leAt_lt xs 5 1, bitsAt_lt _ 0 3, leAt_lt xs 12 8,
      inTwos_ofTwos (by decide) (leAt_lt xs 20 10)⟩
  rw [if_neg h31]
  exact ⟨leAt_lt xs 0 1, h21, h22, h31⟩

/-- The flags of a discovery message in the order of their bits. -/
def discFlags (m : DiscMsg) : List (Nat × Nat) := [(1, b2n (decide (m.plane = .b)) 0), (1, b2n (decide (m.launch = .west)) 0), (1, b2n m.turned 0)]

/-- The first eight bytes of a discovery message. -/
def discHdr (m : DiscMsg) : List Nat := [0x21, packBits (discFlags m), m.origin % 16, m.recs.length % 256] ++ le 4 m.run

theorem msgBytes_disc (m : DiscMsg) : msgBytes (.disc m) = padTo 236 (discHdr m ++ m.recs.flatMap nodeRecBytes) := by
  rw [msgBytes, planeBit_eq, b2n_decide]
  rfl

theorem readMsg_disc {m : DiscMsg} (h : MsgFits (.disc m)) : readMsg (msgBytes (.disc m)) = .disc m := by
  obtain ⟨horigin, hrun, hlen, hrecs⟩ := h
  have hbytes : (discHdr m ++ m.recs.flatMap nodeRecBytes).length ≤ 236 := by
    rw [List.length_append, flatMap_length nodeRecBytes_length]
    exact Nat.le_trans (Nat.add_le_add_left (Nat.mul_le_mul_left 8 hlen) 8) (by decide)
  have hread : (List.range (min 16 m.recs.length)).map (fun n => readNodeRec ((msgBytes (.disc m)).drop (8 + 8 * n))) = m.recs := by
    rw [Nat.min_eq_right hlen]
    refine List.ext_getElem (by simp) fun i _ hi => ?_
    obtain ⟨ws, hws⟩ := drop_flatMap nodeRecBytes_length m.recs
      (List.replicate (236 - (discHdr m ++ m.recs.flatMap nodeRecBytes).length) 0) i hi
    rw [List.getElem_map, List.getElem_range, msgBytes_disc, padTo_eq hbytes, List.append_assoc, ← List.drop_drop]
    change readNodeRec (List.drop (8 * i) (m.recs.flatMap nodeRecBytes ++ _)) = _
    rw [hws, readNodeRec_nodeRecBytes ws (hrecs _ (List.getElem_mem hi))]
  rw [msgBytes_disc] at *
  generalize hbs : padTo 236 (discHdr m ++ m.recs.flatMap nodeRecBytes) = bs at *
  have h0 : leAt bs 0 1 = 0x21 := hbs ▸ rfl
  have h1 : leAt bs 1 1 = packBits (discFlags m) := hbs ▸ leNat_packBits (show 3 ≤ 8 by decide)
  have h2 : leAt bs 2 1 = m.origin % 16 := hbs ▸ leNat_singleton (by omega)
  have h3 : leAt bs 3 1 = m.recs.length := hbs ▸ leNat_byte (by omega)
  have h4 : leAt bs 4 4 = m.run := hbs ▸ leNat_le_of_lt 4 m.run hrun
  have f0 : (packBits (discFlags m)).testBit 0 = decide (m.plane = .b) := testBit_field [] _ rfl
  have f1 : (packBits (discFlags m)).testBit 1 = decide (m.launch = .west) := testBit_field [(1, _)] _ rfl
  have f2 : (packBits (discFlags m)).testBit 2 = m.turned := testBit_field [(1, _), (1, _)] _ rfl
  have hlaunch : (if m.launch = .west then Dir.west else .east) = m.launch := by cases m.launch <;> rfl
  simp [readMsg, h0, h1, h2, h3, h4, f0, f1, f2, hread, planeOfBit_decide, hlaunch, bitsAt_zero, Nat.mod_eq_of_lt horigin]

theorem readMsg_linkState {m : LsMsg} (h : MsgFits (.linkState m)) : readMsg (msgBytes (.linkState m)) = .linkState m := by
  obtain ⟨hsegment, hepoch, hreporter⟩ := h
  have h0 : leAt (msgBytes (.linkState m)) 0 1 = 0x22 := rfl
  have h1 : leAt (msgBytes (.linkState m)) 1 1 = planeBit m.plane := leNat_singleton (by cases m.plane <;> decide)
  have h2 : leAt (msgBytes (.linkState m)) 2 1 = m.segment % 16 := leNat_singleton (by omega)
  have h3 : leAt (msgBytes (.linkState m)) 3 1 = segCode m.state := leNat_singleton (segCode_lt _)
  have h4 : leAt (msgBytes (.linkState m)) 4 4 = m.epoch := leNat_le_of_lt 4 m.epoch hepoch
  have h8 : leAt (msgBytes (.linkState m)) 8 1 = m.reporter % 16 := leNat_singleton (by omega)
  have hplane : planeOfBit ((planeBit m.plane).testBit 0) = m.plane := by cases m.plane <;> decide
  simp [-Nat.testBit_zero, readMsg, h0, h1, h2, h3, h4, h8, hplane, segOfCode_segCode, bitsAt_zero, Nat.mod_eq_of_lt hsegment, Nat.mod_eq_of_lt hreporter]

/-- The flags of an announcement in the order of their bits. -/
def annFlags (m : AnnMsg) : List (Nat × Nat) := [(3, m.state), (1, b2n m.traceable 0), (1, b2n m.stepAnnounced 0)]

theorem readMsg_announce {m : AnnMsg} (h : MsgFits (.announce m)) : readMsg (msgBytes (.announce m)) = .announce m := by
  obtain ⟨hid, hclass, hprio, hepoch, hhops, hstate, hat, hdelta⟩ := h
  have h0 : leAt (msgBytes (.announce m)) 0 1 = 0x31 := rfl
  have h1 : leAt (msgBytes (.announce m)) 1 1 = packBits (annFlags m) := leNat_packBits (show 5 ≤ 8 by decide)
  have h2 : leAt (msgBytes (.announce m)) 2 1 = m.gmId % 16 := leNat_singleton (by omega)
  have h3 : leAt (msgBytes (.announce m)) 3 1 = m.gmClass % 4 := leNat_singleton (by omega)
  have h4 : leAt (msgBytes (.announce m)) 4 1 = m.gmPrio := leNat_byte hprio
  have h5 : leAt (msgBytes (.announce m)) 5 1 = m.hops := leNat_byte hhops
  have h8 : leAt (msgBytes (.announce m)) 8 4 = m.gmEpoch := leNat_le_of_lt 4 m.gmEpoch hepoch
  have h12 : leAt (msgBytes (.announce m)) 12 8 = m.stepAt := leNat_le_of_lt 8 m.stepAt hat
  have h20 : leAt (msgBytes (.announce m)) 20 10 = toTwos 80 m.stepDelta := leNat_le_of_lt 10 _ (toTwos_lt 80 _)
  have f0 : bitsAt (packBits (annFlags m)) 0 3 = m.state := bitsAt_field [] _ rfl hstate
  have f3 : (packBits (annFlags m)).testBit 3 = m.traceable := testBit_field [(3, _)] _ rfl
  have f4 : (packBits (annFlags m)).testBit 4 = m.stepAnnounced := testBit_field [(3, _), (1, _)] _ rfl
  simp [readMsg, h0, h1, h2, h3, h4, h5, h8, h12, h20, f0, f3, f4, ofTwos_toTwos (by decide) hdelta, bitsAt_zero, Nat.mod_eq_of_lt hid,
    Nat.mod_eq_of_lt hclass]

theorem readMsg_msgBytes {m : MgMsg} (h : MsgFits m) : readMsg (msgBytes m) = m := by
  cases m with
  | disc m => exact readMsg_disc h
  | linkState m => exact readMsg_linkState h
  | announce m => exact readMsg_announce h
  | other t =>
    obtain ⟨ht, h21, h22, h31⟩ := h
    have h0 : leAt (msgBytes (.other t)) 0 1 = t := leNat_byte ht
    simp only [readMsg, h0, if_neg h21, if_neg h22, if_neg h31]

end Sys2Proof.Machine

/-! ## Link control, audits and delay flits are read back (R47, R70, R196, R200, R330) -/

namespace Sys2Proof.Machine

/-- An operation that a code of one byte names. -/
def OpFits (op : EqOp) : Prop := ∃ n < 256, eqOpOfCode n = op

theorem eqOpCode_eqOpOfCode (n : Nat) : eqOpCode (eqOpOfCode n) = n := by
  unfold eqOpOfCode
  split <;> rfl

/-- Five figures, one for each VC, below a bound. -/
def VcFits (b : Nat) (x : PerVc) : Prop := x.p < b ∧ x.np < b ∧ x.cpl < b ∧ x.tt < b ∧ x.mg < b

/-- A link control message within the widths of its fields, as every message read is. -/
def LctlFits : Lctl → Prop
  | .ts1 number train => number < 256 ∧ train < 2 ^ 32
  | .ts2 t => t.node < 16 ∧ t.lane < 256 ∧ t.usable < 256 ∧ t.rateCap < 256 ∧ t.feature < 2 ^ 16
  | .rateGo rate lanes left => rate < 256 ∧ lanes < 256 ∧ left < 2 ^ 16
  | .eq lane m => lane < 256 ∧ OpFits m.op ∧ m.preset < 256 ∧ m.fom < 256 ∧ m.req < 256 ∧ InTwos 8 m.coef.m2 ∧ InTwos 8 m.coef.m1 ∧
      InTwos 8 m.coef.c0 ∧ InTwos 8 m.coef.p1
  | .init adv depth lanes => VcFits (2 ^ 16) adv ∧ depth < 2 ^ 16 ∧ lanes < 256
  | .retrainReq reason node wanted _ => reason < 256 ∧ node < 256 ∧ wanted < 256
  | .retrainAck node wanted => node < 256 ∧ wanted < 256
  | .reserved code => code < 256 ∧ ∀ k ∈ [0x01, 0x02, 0x03, 0x04, 0x05, 0x06, 0x10, 0x11, 0x12], code ≠ k
  | .initDone | .quiesceDone => True

theorem lctlFits_readLctl (xs : List Nat) : LctlFits (readLctl xs) := by
  have hb (i : Nat) : leAt xs i 1 < 256 := leAt_lt xs i 1
  unfold readLctl
  dsimp only
  by_cases h1 : leAt xs 0 1 = 0x01
  · rw [if_pos h1]
    exact ⟨hb 1, leAt_lt xs 2 4⟩
  rw [if_neg h1]
  by_cases h2 : leAt xs 0 1 = 0x02
  · rw [if_pos h2]
    exact ⟨bitsAt_lt _ 0 4, hb 3, hb 4, hb 5, leAt_lt xs 6 2⟩
  rw [if_neg h2]
  by_cases h3 : leAt xs 0 1 = 0x03
  · rw [if_pos h3]
    exact ⟨hb 1, hb 2, leAt_lt xs 3 2⟩
  rw [if_neg h3]
  by_cases h4 : leAt xs 0 1 = 0x04
  · rw [if_pos h4]
    exact ⟨hb 1, ⟨_, hb 2, rfl⟩, hb 3, hb 8, hb 9, inTwos_ofTwos (by decide) (hb 4), inTwos_ofTwos (by decide) (hb 5),
      inTwos_ofTwos (by decide) (hb 6), inTwos_ofTwos (by decide) (hb 7)⟩
  rw [if_neg h4]
  by_cases h5 : leAt xs 0 1 = 0x05
  · rw [if_pos h5]
    exact ⟨⟨leAt_lt xs 2 2, leAt_lt xs 4 2, leAt_lt xs 6 2, leAt_lt xs 8 2, leAt_lt xs 10 2⟩, leAt_lt xs 12 2, hb 14⟩
  rw [if_neg h5]
  by_cases h6 : leAt xs 0 1 = 0x06
  · rw [if_pos h6]
    trivial
  rw [if_neg h6]
  by_cases h10 : leAt xs 0 1 = 0x10
  · rw [if_pos h10]
    exact ⟨hb 1, hb 2, hb 3⟩
  rw [if_neg h10]
  by_cases h11 : leAt xs 0 1 = 0x11
  · rw [if_pos h11]
    exact ⟨hb 1, hb 2⟩
  rw [if_neg h11]
  by_cases h12 : leAt xs 0 1 = 0x12
  · rw [if_pos h12]
    trivial
  rw [if_neg h12]
  exact ⟨hb 0, by simp [h1, h2, h3, h4, h5, h6, h10, h11, h12]⟩

theorem readLctl_ts2 {t : Ts2} (h : LctlFits (.ts2 t)) : readLctl (lctlBytes (.ts2 t)) = .ts2 t := by
  obtain ⟨hnode, hlane, husable, hrate, hfeature⟩ := h
  have hbytes : lctlBytes (.ts2 t) = padTo 236 ([0x02, t.node % 16, packBits [(1, b2n (decide (t.plane = .b)) 0), (1, b2n t.west 0)], t.lane % 256,
      t.usable % 256, t.rateCap % 256] ++ le 2 t.feature ++ [b2n t.eqValid 0]) := by
    rw [lctlBytes, planeBit_eq]
  generalize lctlBytes (.ts2 t) = bs at hbytes ⊢
  subst hbytes
  generalize hbs : padTo 236 _ = bs
  have h0 : leAt bs 0 1 = 0x02 := hbs ▸ rfl
  have h1 : leAt bs 1 1 = t.node % 16 := hbs ▸ leNat_singleton (by omega)
  have h2 : leAt bs 2 1 = packBits [(1, b2n (decide (t.plane = .b)) 0), (1, b2n t.west 0)] := hbs ▸ leNat_packBits (show 2 ≤ 8 by decide)
  have h3 : leAt bs 3 1 = t.lane := hbs ▸ leNat_byte hlane
  have h4 : leAt bs 4 1 = t.usable := hbs ▸ leNat_byte husable
  have h5 : leAt bs 5 1 = t.rateCap := hbs ▸ leNat_byte hrate
  have h6 : leAt bs 6 2 = t.feature := hbs ▸ leNat_le_of_lt 2 t.feature hfeature
  have h8 : leAt bs 8 1 = b2n t.eqValid 0 := hbs ▸ leNat_singleton (by cases t.eqValid <;> decide)
  have f0 : (packBits [(1, b2n (decide (t.plane = .b)) 0), (1, b2n t.west 0)]).testBit 0 = decide (t.plane = .b) := testBit_field [] _ rfl
  have f1 : (packBits [(1, b2n (decide (t.plane = .b)) 0), (1, b2n t.west 0)]).testBit 1 = t.west := testBit_field [(1, _)] _ rfl
  have hvalid : (b2n t.eqValid 0).testBit 0 = t.eqValid := by cases t.eqValid <;> decide
  simp [-Nat.testBit_zero, readLctl, h0, h1, h2, h3, h4, h5, h6, h8, f0, f1, hvalid, planeOfBit_decide, bitsAt_zero, Nat.mod_eq_of_lt hnode]

theorem readLctl_eq {lane : Nat} {m : EqMsg} (h : LctlFits (.eq lane m)) : readLctl (lctlBytes (.eq lane m)) = .eq lane m := by
  obtain ⟨hlane, ⟨code, hcode, hop⟩, hpreset, hfom, hreq, hm2, hm1, hc0, hp1⟩ := h
  generalize hbs : lctlBytes (.eq lane m) = bs
  have h0 : leAt bs 0 1 = 0x04 := hbs ▸ rfl
  have h1 : leAt bs 1 1 = lane := hbs ▸ leNat_byte hlane
  have hsent : eqOpCode m.op = code := hop ▸ eqOpCode_eqOpOfCode code
  have h2 : leAt bs 2 1 = code := hbs ▸ (leNat_byte (by omega)).trans hsent
  have h3 : leAt bs 3 1 = m.preset := hbs ▸ leNat_byte hpreset
  have h4 : leAt bs 4 1 = toTwos 8 m.coef.m2 := hbs ▸ leNat_singleton (toTwos_lt 8 _)
  have h5 : leAt bs 5 1 = toTwos 8 m.coef.m1 := hbs ▸ leNat_singleton (toTwos_lt 8 _)
  have h6 : leAt bs 6 1 = toTwos 8 m.coef.c0 := hbs ▸ leNat_singleton (toTwos_lt 8 _)
  have h7 : leAt bs 7 1 = toTwos 8 m.coef.p1 := hbs ▸ leNat_singleton (toTwos_lt 8 _)
  have h8 : leAt bs 8 1 = m.fom := hbs ▸ leNat_byte hfom
  have h9 : leAt bs 9 1 = m.req := hbs ▸ leNat_byte hreq
  simp [readLctl, h0, h1, h2, h3, h4, h5, h6, h7, h8, h9, hop, ofTwos_toTwos (by decide) hm2, ofTwos_toTwos (by decide) hm1,
    ofTwos_toTwos (by decide) hc0, ofTwos_toTwos (by decide) hp1]

theorem readLctl_init {adv : PerVc} {depth lanes : Nat} (h : LctlFits (.init adv depth lanes)) :
    readLctl (lctlBytes (.init adv depth lanes)) = .init adv depth lanes := by
  obtain ⟨⟨hp, hnp, hcpl, htt, hmg⟩, hdepth, hlanes⟩ := h
  generalize hbs : lctlBytes (.init adv depth lanes) = bs
  have h0 : leAt bs 0 1 = 0x05 := hbs ▸ rfl
  have h2 : leAt bs 2 2 = adv.p := hbs ▸ leNat_le_of_lt 2 adv.p hp
  have h4 : leAt bs 4 2 = adv.np := hbs ▸ leNat_le_of_lt 2 adv.np hnp
  have h6 : leAt bs 6 2 = adv.cpl := hbs ▸ leNat_le_of_lt 2 adv.cpl hcpl
  have h8 : leAt bs 8 2 = adv.tt := hbs ▸ leNat_le_of_lt 2 adv.tt htt
  have h10 : leAt bs 10 2 = adv.mg := hbs ▸ leNat_le_of_lt 2 adv.mg hmg
  have h12 : leAt bs 12 2 = depth := hbs ▸ leNat_le_of_lt 2 depth hdepth
  have h14 : leAt bs 14 1 = lanes := hbs ▸ leNat_byte hlanes
  simp [readLctl, vcFrom, h0, h2, h4, h6, h8, h10, h12, h14]

theorem readLctl_retrainReq {reason node wanted : Nat} {forced : Bool} (h : LctlFits (.retrainReq reason node wanted forced)) :
    readLctl (lctlBytes (.retrainReq reason node wanted forced)) = .retrainReq reason node wanted forced := by
  obtain ⟨hreason, hnode, hwanted⟩ := h
  generalize hbs : lctlBytes (.retrainReq reason node wanted forced) = bs
  have h0 : leAt bs 0 1 = 0x10 := hbs ▸ rfl
  have h1 : leAt bs 1 1 = reason := hbs ▸ leNat_byte hreason
  have h2 : leAt bs 2 1 = node := hbs ▸ leNat_byte hnode
  have h3 : leAt bs 3 1 = wanted := hbs ▸ leNat_byte hwanted
  have h4 : leAt bs 4 1 = b2n forced 0 := hbs ▸ leNat_singleton (by cases forced <;> decide)
  have hforced : (b2n forced 0).testBit 0 = forced := by cases forced <;> decide
  simp [-Nat.testBit_zero, readLctl, h0, h1, h2, h3, h4, hforced]

theorem readLctl_lctlBytes {m : Lctl} (h : LctlFits m) : readLctl (lctlBytes m) = m := by
  cases m with
  | ts1 number train =>
    obtain ⟨hnumber, htrain⟩ := h
    generalize hbs : lctlBytes (.ts1 number train) = bs
    have h0 : leAt bs 0 1 = 0x01 := hbs ▸ rfl
    have h1 : leAt bs 1 1 = number := hbs ▸ leNat_byte hnumber
    have h2 : leAt bs 2 4 = train := hbs ▸ leNat_le_of_lt 4 train htrain
    simp [readLctl, h0, h1, h2]
  | ts2 t => exact readLctl_ts2 h
  | rateGo rate lanes left =>
    obtain ⟨hrate, hlanes, hleft⟩ := h
    generalize hbs : lctlBytes (.rateGo rate lanes left) = bs
    have h0 : leAt bs 0 1 = 0x03 := hbs ▸ rfl
    have h1 : leAt bs 1 1 = rate := hbs ▸ leNat_byte hrate
    have h2 : leAt bs 2 1 = lanes := hbs ▸ leNat_byte hlanes
    have h3 : leAt bs 3 2 = left := hbs ▸ leNat_le_of_lt 2 left hleft
    simp [readLctl, h0, h1, h2, h3]
  | eq lane m => exact readLctl_eq h
  | init adv depth lanes => exact readLctl_init h
  | initDone => rfl
  | retrainReq reason node wanted forced => exact readLctl_retrainReq h
  | retrainAck node wanted =>
    obtain ⟨hnode, hwanted⟩ := h
    generalize hbs : lctlBytes (.retrainAck node wanted) = bs
    have h0 : leAt bs 0 1 = 0x11 := hbs ▸ rfl
    have h1 : leAt bs 1 1 = node := hbs ▸ leNat_byte hnode
    have h2 : leAt bs 2 1 = wanted := hbs ▸ leNat_byte hwanted
    simp [readLctl, h0, h1, h2]
  | quiesceDone => rfl
  | reserved code =>
    obtain ⟨hcode, hne⟩ := h
    have h0 : leAt (lctlBytes (.reserved code)) 0 1 = code := leNat_byte hcode
    simp at hne
    simp [readLctl, h0, hne]

/-- An audit within the widths of its fields. -/
def AuditFits (a : Audit) : Prop :=
  a.no < 2 ^ 32 ∧ VcFits (2 ^ 32) a.consumed ∧ VcFits (2 ^ 32) a.received ∧ VcFits (2 ^ 16) a.held ∧ VcFits (2 ^ 16) a.advEcho

theorem vcFits_vcFrom {b : Nat} {f : Nat → Nat} (h : ∀ v, f v < b) : VcFits b (vcFrom f) := ⟨h 0, h 1, h 2, h 3, h 4⟩

theorem auditFits_readAudit (xs : List Nat) : AuditFits (readAudit xs) :=
  ⟨leAt_lt xs 0 4, vcFits_vcFrom fun v => leAt_lt xs (8 + 12 * v) 4, vcFits_vcFrom fun v => leAt_lt xs (12 + 12 * v) 4,
    vcFits_vcFrom fun v => leAt_lt xs (16 + 12 * v) 2, vcFits_vcFrom fun v => leAt_lt xs (18 + 12 * v) 2⟩

/-- Five figures of `n` bytes each are read back from where they stand. -/
theorem vcFrom_eq {n : Nat} {x : PerVc} {bs : List Nat} {off : Nat → Nat} (h : VcFits (256 ^ n) x) (hp : leAt bs (off 0) n = leNat (le n x.p))
    (hnp : leAt bs (off 1) n = leNat (le n x.np)) (hcpl : leAt bs (off 2) n = leNat (le n x.cpl)) (htt : leAt bs (off 3) n = leNat (le n x.tt))
    (hmg : leAt bs (off 4) n = leNat (le n x.mg)) : (vcFrom fun v => leAt bs (off v) n) = x := by
  obtain ⟨lp, lnp, lcpl, ltt, lmg⟩ := h
  simp only [vcFrom, hp, hnp, hcpl, htt, hmg, leNat_le_of_lt n _ lp, leNat_le_of_lt n _ lnp, leNat_le_of_lt n _ lcpl, leNat_le_of_lt n _ ltt,
    leNat_le_of_lt n _ lmg]

theorem readAudit_auditBytes {a : Audit} (h : AuditFits a) : readAudit (auditBytes a) = a := by
  obtain ⟨hno, hconsumed, hreceived, hheld, hecho⟩ := h
  have h0 : leAt (auditBytes a) 0 4 = a.no := leNat_le_of_lt 4 a.no hno
  have h8 : (vcFrom fun v => leAt (auditBytes a) (8 + 12 * v) 4) = a.consumed := vcFrom_eq hconsumed rfl rfl rfl rfl rfl
  have h12 : (vcFrom fun v => leAt (auditBytes a) (12 + 12 * v) 4) = a.received := vcFrom_eq hreceived rfl rfl rfl rfl rfl
  have h16 : (vcFrom fun v => leAt (auditBytes a) (16 + 12 * v) 2) = a.held := vcFrom_eq hheld rfl rfl rfl rfl rfl
  have h18 : (vcFrom fun v => leAt (auditBytes a) (18 + 12 * v) 2) = a.advEcho := vcFrom_eq hecho rfl rfl rfl rfl rfl
  simp only [readAudit, h0, h8, h12, h16, h18]

/-- The second byte of a delay flit in the order of its bits (Table 07.2). -/
def delayFlags (state : Nat) (gm : Bool) : List (Nat × Nat) := [(3, state), (1, b2n gm 0)]

theorem readDelay_response {id tTx t2 t1 state : Nat} (gm : Bool) (hid : id < 2 ^ 16) (htx : tTx < 2 ^ 80) (h2 : t2 < 2 ^ 80) (h1 : t1 < 2 ^ 80)
    (hstate : state < 8) : readDelay (delayBytes true id tTx t2 t1 state gm) = some (.delay true id tTx t2 t1 state gm) := by
  generalize hbs : delayBytes true id tTx t2 t1 state gm = bs
  have b0 : leAt bs 0 1 = 2 := hbs ▸ rfl
  have b1 : leAt bs 1 1 = packBits (delayFlags state gm) := hbs ▸ leNat_packBits (show 4 ≤ 8 by decide)
  have b2 : leAt bs 2 2 = id := hbs ▸ leNat_le_of_lt 2 id hid
  have b4 : leAt bs 4 10 = tTx := hbs ▸ leNat_le_of_lt 10 tTx htx
  have b14 : leAt bs 14 10 = t2 := hbs ▸ leNat_le_of_lt 10 t2 h2
  have b24 : leAt bs 24 10 = t1 := hbs ▸ leNat_le_of_lt 10 t1 h1
  have f0 : bitsAt (packBits (delayFlags state gm)) 0 3 = state := bitsAt_field [] _ rfl hstate
  have f3 : (packBits (delayFlags state gm)).testBit 3 = gm := testBit_field [(3, _)] _ rfl
  simp [readDelay, b0, b1, b2, b4, b14, b24, f0, f3]

theorem readDelay_request {id tTx state : Nat} (t2 t1 : Nat) (gm : Bool) (hid : id < 2 ^ 16) (htx : tTx < 2 ^ 80) (hstate : state < 8) :
    readDelay (delayBytes false id tTx t2 t1 state gm) = some (.delay false id tTx 0 0 state gm) := by
  generalize hbs : delayBytes false id tTx t2 t1 state gm = bs
  have b0 : leAt bs 0 1 = 1 := hbs ▸ rfl
  have b1 : leAt bs 1 1 = packBits (delayFlags state gm) := hbs ▸ leNat_packBits (show 4 ≤ 8 by decide)
  have b2 : leAt bs 2 2 = id := hbs ▸ leNat_le_of_lt 2 id hid
  have b4 : leAt bs 4 10 = tTx := hbs ▸ leNat_le_of_lt 10 tTx htx
  have f0 : bitsAt (packBits (delayFlags state gm)) 0 3 = state := bitsAt_field [] _ rfl hstate
  have f3 : (packBits (delayFlags state gm)).testBit 3 = gm := testBit_field [(3, _)] _ rfl
  simp [readDelay, b0, b1, b2, b4, f0, f3]

/-- A delay flit that is read is read again from the bytes it is sent in. -/
theorem readDelay_payload {xs ys : List Nat} {b : FlitBody} (h : readDelay xs = some b) : flitType b = 6 ∧ readDelay (payload ys b) = some b := by
  unfold readDelay at h
  dsimp only at h
  by_cases h1 : leAt xs 0 1 = 1
  · rw [if_pos h1] at h
    obtain rfl := Option.some.inj h
    exact ⟨rfl, readDelay_request 0 0 _ (leAt_lt xs 2 2) (leAt_lt xs 4 10) (bitsAt_lt _ 0 3)⟩
  rw [if_neg h1] at h
  by_cases h2 : leAt xs 0 1 = 2
  · rw [if_pos h2] at h
    obtain rfl := Option.some.inj h
    exact ⟨rfl, readDelay_response _ (leAt_lt xs 2 2) (leAt_lt xs 4 10) (leAt_lt xs 14 10) (leAt_lt xs 24 10) (bitsAt_lt _ 0 3)⟩
  · rw [if_neg h2] at h
    cases h

/-- What is read of a flit that is not a DATA flit is read again from the bytes it is sent in. -/
theorem readBody_payload {n : Nat} {xs : List Nat} (ys : List Nat) {b : FlitBody} (h : readBody n xs = some b) :
    flitType b = n ∧ readBody n (payload ys b) = some b := by
  unfold readBody at h
  split at h
  case h_6 => exact readDelay_payload h
  case h_7 => cases h
  all_goals obtain rfl := Option.some.inj h
  case h_1 => exact ⟨rfl, rfl⟩
  case h_2 => exact ⟨rfl, congrArg (fun m => some (FlitBody.msg m)) (readMsg_msgBytes (msgFits_readMsg xs))⟩
  case h_3 => exact ⟨rfl, congrArg (fun a => some (FlitBody.audit a)) (readAudit_auditBytes (auditFits_readAudit xs))⟩
  case h_4 =>
    have hstart : bitsAt (leAt xs 0 2) 0 12 < 4096 := bitsAt_lt _ 0 12
    refine ⟨rfl, congrArg (fun n => some (FlitBody.replay n)) ?_⟩
    change bitsAt (leNat (le 2 (bitsAt (leAt xs 0 2) 0 12 % 4096))) 0 12 = _
    rw [leNat_le_of_lt 2 _ (by omega), bitsAt_zero, Nat.mod_eq_of_lt hstart]
    exact Nat.mod_eq_of_lt hstart
  case h_5 => exact ⟨rfl, congrArg (fun m => some (FlitBody.lctl m)) (readLctl_lctlBytes (lctlFits_readLctl xs))⟩

end Sys2Proof.Machine

/-! ## Lanes, banks and event frames (R48, R134, R324, R394) -/

namespace Sys2Proof.Machine

theorem laneBytes_getElem? {w i : Nat} {xs : List Nat} (hw : 0 < w) (hi : i < xs.length) : (laneBytes w (i % w) xs)[i / w]? = xs[i]? := by
  have hplace : w * (i / w) + i % w = i := Nat.div_add_mod i w
  have hmod : i % w < w := Nat.mod_lt i hw
  have hcount : i / w < (xs.length + w - 1 - i % w) / w := by
    rw [Nat.lt_iff_add_one_le, Nat.le_div_iff_mul_le hw, Nat.add_mul, Nat.mul_comm]
    omega
  rw [laneBytes, List.getElem?_map, List.getElem?_range hcount, Option.map_some, hplace, List.getD_eq_getElem?_getD, List.getElem?_eq_getElem hi,
    Option.getD_some]

/-- The bits added to the data do not depend on it: adding them twice gives the data back. -/
theorem scramble_scramble (x : Nat) (bs : List Bool) : scramble x (scramble x bs) = bs := by
  induction bs generalizing x with
  | nil => rfl
  | cons b bs ih =>
    rw [scramble, scramble, ih]
    cases b <;> cases (lfsrStep x).1 <;> rfl

/-- Cell `c + i` of twelve consecutive cells holds the banks from `4 * (c + i)` on. -/
theorem bankOf_once (c b : Nat) (hb : b < 48) :
    ∃ i j, i < 12 ∧ j < 4 ∧ bankOf (c + i) j = b ∧ ∀ m n, m < 12 → n < 4 → bankOf (c + m) n = b → m = i ∧ n = j := by
  refine ⟨(b / 4 + 12 - c % 12) % 12, b % 4, by omega, by omega, ?_, fun m n hm hn h => ?_⟩
  · rw [bankOf]
    omega
  · rw [bankOf] at h
    omega

theorem jEventBytes_length (e : JEvent) : (jEventBytes e).length = 32 := by simp [jEventBytes]

theorem capBytes_length (c : Capture) : (capBytes c).length = 32 := by simp [capBytes]

theorem evBytes_length {e : Ev} {xs : List Nat} (h : evBytes e = some xs) : 4 ≤ xs.length ∧ xs.length ≤ 56 := by
  unfold evBytes at h
  split at h
  all_goals simp only [Option.some.injEq, reduceCtorEq] at h
  all_goals
    subst h
    simp [jEventBytes_length, capBytes_length]

/-- The eight bytes before an event in its slot of the queue (R394). -/
def Frame.hdr (f : Frame) (n : Nat) : List Nat := le 2 f.seq ++ [n, b2n f.lostBefore 0, f.node % 16, 0, 0, 0]

theorem frameBytes_spec (f : Frame) {xs : List Nat} (h : evBytes f.ev = some xs) :
    ∃ ys, f.bytes = some ys ∧ ys.length = 64 ∧ leAt ys 2 1 = xs.length ∧ (ys.drop 8).take xs.length = xs := by
  obtain ⟨_, hlen⟩ := evBytes_length h
  have hbytes : f.bytes = some (padTo 64 (Frame.hdr f xs.length ++ xs)) := by
    rw [Frame.bytes, h]
    rfl
  have hroom : (Frame.hdr f xs.length ++ xs).length ≤ 64 := by
    rw [List.length_append]
    exact Nat.add_le_add_left hlen 8
  refine ⟨_, hbytes, Laws.padTo_length 64 _, ?_, ?_⟩
  · exact leNat_singleton (v := xs.length) (by omega)
  · rw [padTo_eq hroom, List.append_assoc]
    change List.take xs.length (xs ++ _) = xs
    rw [List.take_left]

/-- Settles O56: each layout is a row of fields of fixed widths, and what is read fits the widths it is written in. -/
theorem wireLayoutsReadBack : Obligations.WireLayoutsReadBack := by
  unfold Obligations.WireLayoutsReadBack
  refine ⟨?header, ?length, ?record, ?control, fun n xs ys b => readBody_payload ys, fun w i xs => laneBytes_getElem?, scramble_scramble, bankOf_once,
    ?frame⟩
  case header =>
    intro f hack hcount hdata
    rw [readFlitHdr_flitHdr f hack hcount hdata]
    cases f.body <;> rfl
  case length =>
    intro f xs
    rw [List.length_append, flitHdr_length, payload_length]
  case record =>
    intro r hpart hsrc hdst hlen hgen hport hhops hseq hts hinst hcs
    exact ⟨by simp [recordHdr], readRecordHdr_recordHdr r hpart hsrc hdst hlen hgen hport hhops hseq hts hinst hcs⟩
  case control =>
    intro sub last xs hsub hlen hxs
    exact ⟨ctlBytes_length sub last xs, readCtl_ctlBytes last hsub hlen hxs⟩
  case frame =>
    intro f xs h
    obtain ⟨hlow, hhigh⟩ := evBytes_length h
    exact ⟨hlow, hhigh, frameBytes_spec f h⟩

end Sys2Proof.Machine
